-- ==== Sys2Proof/Word.lean ====
section
/-! DEFINITION. The word types of the CG-4664 model. -/

namespace Sys2Proof

/-- One byte. -/
abbrev Byte := BitVec 8

/-- A 32-bit register or memory word (R59). -/
abbrev Word := BitVec 32

/-- A 72-bit accumulator: a 64-bit range plus 8 guard bits (R59). -/
abbrev Acc := BitVec 72

/-- A string of bytes, lowest address first (R490). -/
abbrev Bytes := List Byte

/-- A line of characters (R300). -/
abbrev Text := List Char

end Sys2Proof
end

