-- ==== Sys2Proof/Syntax.lean ====
section
/-! DEFINITION. The commands of the CG-4664: one constructor for each row of spec/opcode_table.json, and the types of their operands. -/

namespace Sys2Proof

/-! ### Operand types of the sentence machine (03, 04, 05) -/

/-- The eight units of a core; the constructor order is the unit code (R64) and the fault order (R91). -/
inductive FUnit where
  | l0 | l1 | m0 | m1 | a0 | a1 | c | b
  deriving DecidableEq, Repr

/-- The L units. -/
inductive LUnit where
  | l0 | l1
  deriving DecidableEq, Repr

/-- The M units. -/
inductive MUnit where
  | m0 | m1
  deriving DecidableEq, Repr

/-- The A units. -/
inductive AUnit where
  | a0 | a1
  deriving DecidableEq, Repr

/-- An immediate: the source-2 field alone, or with the 22 bits of an extension syllable (R66). -/
inductive Imm where
  | short (raw : BitVec 6)
  | ext (raw : BitVec 6) (hi : BitVec 22)
  deriving DecidableEq, Repr

/-- The second source: a register field, or an immediate. -/
inductive Src2 where
  | reg (r : BitVec 6)
  | imm (i : Imm)
  deriving DecidableEq, Repr

/-- The guard of a syllable: predicate number and inversion (R64, R72). -/
structure Guard where
  p : BitVec 3
  inv : Bool
  deriving DecidableEq, Repr

/-- The addressing modes of R98; BREV is named by the LDBR and STBR syllables. -/
inductive AMode where
  | off (i : Imm)
  | post (i : Imm)
  | pre (i : Imm)
  | idx (wm : BitVec 6)
  deriving DecidableEq, Repr

/-- The modes a dismissible load has (R103). -/
inductive DMode where
  | off (i : Imm)
  | idx (wm : BitVec 6)
  deriving DecidableEq, Repr

/-- The polynomials of R111. -/
inductive CrcPoly where
  | p8 | p16 | p32 | p32c
  deriving DecidableEq, Repr

/-- Size of one access: byte, halfword, word, pair (R97, R102). -/
inductive Size where
  | b | h | w | wp
  deriving DecidableEq, Repr

/-- Every syllable of the four unit kinds (R101, R106, R110, R113, R122). -/
inductive Op where
  -- L units
  | ldB | ldBu | ldH | ldHu | ldW | ldWp
  | ldbrH | ldbrW | ldbrWp
  | ldDB | ldDBu | ldDH | ldDHu | ldDW | ldDWp
  | stB | stH | stW | stWp
  | stbrH | stbrW | stbrWp
  | addx | addxr | movx | mfx
  -- A units
  | nop | movi | add | sub | adds | subs | andOp | orOp | xorOp | andn
  | shl | shr | sra | ror | min | max | minu | maxu | abs | neg
  | cmpeq | cmpne | cmplt | cmple | cmpltu | cmpleu | cmpgt | cmpge
  | pand | por | pandn | pnot
  -- C unit
  | crc (p : CrcPoly) (refl : Bool) (ww : BitVec 2)
  | par | parp | brev | brevb | bswap | clz | ctz | popc | extu | exts | ins
  | btst | btsti | bseti | bclri | tstp | clmull | clmulh
  -- B unit
  | br | brr | call | callr | ret | reti | loop | lpop | wait | fenceSl | publish
  | mfc | mtc | scall | claim | give | free
  -- M units
  | mul | mulh | mulhu | muli | mulq31 | mul2hq
  | mac | macu | msu | macs | mac2h | mac2hq | msu2h
  | clr | accw | accp | extr | extl | exth | extg
  | divs | divu | rems | remu | divps | divpu
  | faddS | fsubS | fmulS | fmaS | fmsS | fnmaS | fdivS | fsqrtS | fminS | fmaxS
  | fcmpeqS | fcmpltS | fcmpleS | fcmpunS
  | fcvtSW | fcvtSWu | fcvtWS | fcvtWuS | frintS | fabsS | fnegS | fcvtDS | fcvtSD
  | faddD | fsubD | fmulD | fmaD | fdivD | fsqrtD
  | fbar
  deriving DecidableEq, Repr

/-- The address field of an L syllable: mode and source 2 (R98). -/
inductive LMode where
  | off | post | pre | idx | brev
  deriving DecidableEq, Repr

/-- One decoded syllable. Fields are the raw 6-bit fields; `mode` matters to L syllables only. -/
structure Syl where
  unit : FUnit
  op : Op
  mode : LMode
  d : BitVec 6
  s1 : BitVec 6
  s2 : Src2
  guard : Guard
  deriving DecidableEq, Repr

/-- A register by its class (R59, R60); x 16 is ds. -/
inductive Reg where
  | w (r : BitVec 6)
  | x (r : BitVec 6)
  | p (r : BitVec 6)
  | acc (r : BitVec 6)
  | ctl (r : BitVec 6)
  deriving DecidableEq, Repr

/-- What a register field of a syllable names (R60, R96); `pairs` names w(2k) and w(2k + 1). -/
inductive FClass where
  | unused | wreg | pairs | xreg | preg | accu | ctrl
  deriving DecidableEq, Repr

/-- A memory error that arose in a word since it was last read (R162, R255): the space (0 shared SRAM, 1 local data,
2 instruction memory, 3 flash), the core of a local memory, the address, and whether it is uncorrectable. -/
structure Upset where
  space : Nat
  core : Fin 4
  addr : Nat
  bad : Bool
  deriving DecidableEq, Repr

/-! ### Operand types of the rest of the device -/

/-- The ordering codes (R1). -/
inductive Part where
  | ah | an
  deriving DecidableEq, Repr

/-- The pair islands. -/
inductive Pair where
  | a | b
  deriving DecidableEq, Repr

/-- The islands of R31. -/
inductive Island where
  | pairA | pairB | fabric | port | host | sentinel
  deriving DecidableEq, Repr

/-- The main rails whose fall puts the device in OFF (R477). -/
inductive Rail where
  | vddF | vddFl | vana | vioP
  deriving DecidableEq, Repr

/-- The gates of R35. -/
inductive GateId where
  | gaF | gfA | gbF | gfB | gfP | gpF | gfH | ghF | gfS | gsF
  deriving DecidableEq, Repr

/-- The wake sources of R49, in the bit order of ISL_WAKE; a sense edge carries its direction. -/
inductive WakeSrc where
  | rtc | sns0 (rising : Bool) | sns1 (rising : Bool) | can | svc | hst | tamper
  deriving DecidableEq, Repr

/-- What the world outside the steward decides during a start (R53): self-test verdicts per core (R200), retention
verification (R389), the patch check (step 4), and, per target (bit 0 patch, bit p person p), whether a copy of
step 8 fails in the flash and whether the self-check passes (R290, R291). -/
structure StartEnv where
  selftestFail : BitVec 4
  retentionBad : Bool
  patch : Option Word
  copyFail : BitVec 7
  checkPass : BitVec 7
  deriving DecidableEq, Repr

/-- What the comparator saw (R193): kind, register, unit code, part, lead and trail words, sentence address. -/
structure DivRec where
  kind : BitVec 4
  reg : Byte
  unit : BitVec 4
  part : BitVec 4
  pc : Word
  lead : Word
  trail : Word
  deriving DecidableEq, Repr

/-- An object the zeroing engines work on (R154). -/
inductive ZeroObj where
  | page (n : Fin 1024)
  | bank (core : Fin 4) (n : Fin 8)
  deriving DecidableEq, Repr

/-- What happens at a CIC source: a pulse, or a level becoming 1 or 0 (R212). -/
inductive SrcEdge where
  | pulse | rise | fall
  deriving DecidableEq, Repr

/-- A request to a mover: a request line, or a matrix output (R235). -/
inductive ReqSrc where
  | line (n : Fin 48)
  | output (n : Fin 16)
  deriving DecidableEq, Repr

/-- How a flash operation went (R251, R253). -/
inductive FlashEnd where
  | ok | verify
  deriving DecidableEq, Repr

/-- The Orune carriers (R298); a chain carrier is one origin node with one origin carrier (R322). -/
inductive Carrier where
  | svc | hst | win
  | chain (node : Nat) (origin : Nat)
  | core (p : Nat)
  deriving DecidableEq, Repr

/-- The line an order came in: carrier, tag, whether it carried a check suffix, whether it was addressed to a
node by number (its replies then begin with that number, R310). -/
structure Ln where
  car : Carrier
  tag : Option Nat
  sfx : Bool
  pos : Option Nat
  deriving DecidableEq, Repr

/-- What OPEN SESSION names (R313). -/
inductive SessArg where
  | person (p : Nat)
  | workshop
  | card (s : Nat)
  | blank
  deriving DecidableEq, Repr

/-- What a card in a slot answers to a session opening (R316): its certificate and its signature. -/
structure CardAnswer where
  cert : Bytes
  sig : Bytes
  deriving DecidableEq, Repr

/-- Where a MIGRATE, PROMOTE or DEMOTE is to go (R331). -/
inductive Place where
  | c0 | c2 | pairA | pairB
  deriving DecidableEq, Repr

/-- A survey channel named in an order, or ALL (R370, R380). -/
inductive ChanArg where
  | all
  | name (n : Text)
  deriving DecidableEq, Repr

/-- A mesh class (R398). -/
inductive MeshClass where
  | opened | shorted | mismatch
  deriving DecidableEq, Repr

/-- Why VSTBY counts as lost (R399). -/
inductive VstbyCause where
  | low | high | retention
  deriving DecidableEq, Repr

/-- A chain port: CHU is the up port, CHD the down port (18). -/
inductive Port where
  | chu | chd
  deriving DecidableEq, Repr

/-- How a frame on a chain segment ended (R426, R437). -/
inductive FrameEnd where
  | whole | abort | codeError | early
  deriving DecidableEq, Repr

/-- A chain frame as it stands on a segment (R429): header fields, payload bytes as sent, tag, ending. -/
structure Frame where
  type : BitVec 4
  dst : Byte
  src : Byte
  hops : Byte
  epoch : Byte
  segseq : BitVec 64
  payload : Bytes
  tag : Bytes
  ending : FrameEnd
  deriving DecidableEq, Repr

/-- One result of a reflectometer measurement (R374): class 0 LOAD, 1 OPEN, 2 SHORT, 3 ABSENT; length in mm;
reflection in thousandths; up to four discontinuities as (length, reflection). -/
structure Tdr where
  cls : Nat
  len : Nat
  rho : Int
  disc : List (Nat × Int)
  deriving DecidableEq, Repr

/-- A CAN frame (R451). -/
structure CanFrame where
  id : BitVec 29
  ide : Bool
  fdf : Bool
  brs : Bool
  rtr : Bool
  dlc : BitVec 4
  data : Bytes
  deriving DecidableEq, Repr

/-- How a CAN transmission attempt ended (R453). -/
inductive CanTxEnd where
  | success | lostArbitration | error
  deriving DecidableEq, Repr

/-- What put an end to a UART byte (R467): parity and framing verdicts. -/
structure UartByte where
  data : Byte
  parityErr : Bool
  framingErr : Bool
  deriving DecidableEq, Repr

/-- How a card transfer ended by itself (R455): all bytes exchanged, or parity given up after four attempts. -/
inductive CardEnd where
  | ok | parity
  deriving DecidableEq, Repr

/-- Who writes a register: a core's DEVICE store, the steward, or the host on the window (R62, R7, R340). -/
inductive RegWriter where
  | core (c : Fin 4)
  | steward
  | host
  deriving DecidableEq, Repr

/-- The commands of the device: spec/opcode_table.json, row by row. -/
inductive Instr where
  -- start, power, islands (02, 20)
  | mainRailsValid
  | porstRelease
  | porstAssert
  | start (last : Fin 11) (env : StartEnv)
  | watchdogExpiry
  | railFail (rail : Rail)
  | islandGlitch (isl : Island) (clock : Bool)
  | refFault
  | refCompare (hz : Nat) (unbroken : Bool)
  | clockCheckArm (present : Bool)
  | islandPowerOff (pr : Pair)
  | islandDrainTimeout (pr : Pair)
  | gateTransfer (g : GateId)
  | opChangeDone (pr : Pair)
  | railBelowPoint (pr : Pair) (mv : Nat)
  | napEntry
  | fabricRelock
  | standbyEntry
  | wakeEvent (w : WakeSrc)
  -- cores (03)
  | sentenceIssue (core : Fin 4) (up : List Upset)
  | interruptEntry (core : Fin 4)
  | resultLand (core : Fin 4)
  | sharedLoadData (core : Fin 4) (up : List Upset)
  | divideResult (core : Fin 4)
  | timesliceExpiry (core : Fin 4)
  -- L unit (04): a sentence of the one syllable
  | ldB (core : Fin 4) (u : LUnit) (m : AMode) (d s1 : BitVec 6) (g : Guard)
  | ldBu (core : Fin 4) (u : LUnit) (m : AMode) (d s1 : BitVec 6) (g : Guard)
  | ldH (core : Fin 4) (u : LUnit) (m : AMode) (d s1 : BitVec 6) (g : Guard)
  | ldHu (core : Fin 4) (u : LUnit) (m : AMode) (d s1 : BitVec 6) (g : Guard)
  | ldW (core : Fin 4) (u : LUnit) (m : AMode) (d s1 : BitVec 6) (g : Guard)
  | ldWp (core : Fin 4) (u : LUnit) (m : AMode) (d s1 : BitVec 6) (g : Guard)
  | ldbrH (core : Fin 4) (u : LUnit) (im : Imm) (d s1 : BitVec 6) (g : Guard)
  | ldbrW (core : Fin 4) (u : LUnit) (im : Imm) (d s1 : BitVec 6) (g : Guard)
  | ldbrWp (core : Fin 4) (u : LUnit) (im : Imm) (d s1 : BitVec 6) (g : Guard)
  | ldDB (core : Fin 4) (u : LUnit) (m : DMode) (d s1 : BitVec 6) (g : Guard)
  | ldDBu (core : Fin 4) (u : LUnit) (m : DMode) (d s1 : BitVec 6) (g : Guard)
  | ldDH (core : Fin 4) (u : LUnit) (m : DMode) (d s1 : BitVec 6) (g : Guard)
  | ldDHu (core : Fin 4) (u : LUnit) (m : DMode) (d s1 : BitVec 6) (g : Guard)
  | ldDW (core : Fin 4) (u : LUnit) (m : DMode) (d s1 : BitVec 6) (g : Guard)
  | ldDWp (core : Fin 4) (u : LUnit) (m : DMode) (d s1 : BitVec 6) (g : Guard)
  | stB (core : Fin 4) (u : LUnit) (m : AMode) (d s1 : BitVec 6) (g : Guard)
  | stH (core : Fin 4) (u : LUnit) (m : AMode) (d s1 : BitVec 6) (g : Guard)
  | stW (core : Fin 4) (u : LUnit) (m : AMode) (d s1 : BitVec 6) (g : Guard)
  | stWp (core : Fin 4) (u : LUnit) (m : AMode) (d s1 : BitVec 6) (g : Guard)
  | stbrH (core : Fin 4) (u : LUnit) (im : Imm) (d s1 : BitVec 6) (g : Guard)
  | stbrW (core : Fin 4) (u : LUnit) (im : Imm) (d s1 : BitVec 6) (g : Guard)
  | stbrWp (core : Fin 4) (u : LUnit) (im : Imm) (d s1 : BitVec 6) (g : Guard)
  | addx (core : Fin 4) (u : LUnit) (im : Imm) (d s1 : BitVec 6) (g : Guard)
  | addxr (core : Fin 4) (u : LUnit) (d s1 s2 : BitVec 6) (g : Guard)
  | movx (core : Fin 4) (u : LUnit) (d s1 : BitVec 6) (g : Guard)
  | mfx (core : Fin 4) (u : LUnit) (d s1 : BitVec 6) (g : Guard)
  -- A unit (04)
  | nop (core : Fin 4) (u : AUnit) (g : Guard)
  | movi (core : Fin 4) (u : AUnit) (d : BitVec 6) (im : Imm) (g : Guard)
  | add (core : Fin 4) (u : AUnit) (d s1 : BitVec 6) (s2 : Src2) (g : Guard)
  | sub (core : Fin 4) (u : AUnit) (d s1 : BitVec 6) (s2 : Src2) (g : Guard)
  | adds (core : Fin 4) (u : AUnit) (d s1 : BitVec 6) (s2 : Src2) (g : Guard)
  | subs (core : Fin 4) (u : AUnit) (d s1 s2 : BitVec 6) (g : Guard)
  | andOp (core : Fin 4) (u : AUnit) (d s1 : BitVec 6) (s2 : Src2) (g : Guard)
  | orOp (core : Fin 4) (u : AUnit) (d s1 : BitVec 6) (s2 : Src2) (g : Guard)
  | xorOp (core : Fin 4) (u : AUnit) (d s1 : BitVec 6) (s2 : Src2) (g : Guard)
  | andn (core : Fin 4) (u : AUnit) (d s1 s2 : BitVec 6) (g : Guard)
  | shl (core : Fin 4) (u : AUnit) (d s1 : BitVec 6) (s2 : Src2) (g : Guard)
  | shr (core : Fin 4) (u : AUnit) (d s1 : BitVec 6) (s2 : Src2) (g : Guard)
  | sra (core : Fin 4) (u : AUnit) (d s1 : BitVec 6) (s2 : Src2) (g : Guard)
  | ror (core : Fin 4) (u : AUnit) (d s1 : BitVec 6) (s2 : Src2) (g : Guard)
  | min (core : Fin 4) (u : AUnit) (d s1 : BitVec 6) (s2 : Src2) (g : Guard)
  | max (core : Fin 4) (u : AUnit) (d s1 : BitVec 6) (s2 : Src2) (g : Guard)
  | minu (core : Fin 4) (u : AUnit) (d s1 s2 : BitVec 6) (g : Guard)
  | maxu (core : Fin 4) (u : AUnit) (d s1 s2 : BitVec 6) (g : Guard)
  | abs (core : Fin 4) (u : AUnit) (d s1 : BitVec 6) (g : Guard)
  | neg (core : Fin 4) (u : AUnit) (d s1 : BitVec 6) (g : Guard)
  | cmpeq (core : Fin 4) (u : AUnit) (d s1 : BitVec 6) (s2 : Src2) (g : Guard)
  | cmpne (core : Fin 4) (u : AUnit) (d s1 : BitVec 6) (s2 : Src2) (g : Guard)
  | cmplt (core : Fin 4) (u : AUnit) (d s1 : BitVec 6) (s2 : Src2) (g : Guard)
  | cmple (core : Fin 4) (u : AUnit) (d s1 : BitVec 6) (s2 : Src2) (g : Guard)
  | cmpltu (core : Fin 4) (u : AUnit) (d s1 : BitVec 6) (s2 : Src2) (g : Guard)
  | cmpleu (core : Fin 4) (u : AUnit) (d s1 : BitVec 6) (s2 : Src2) (g : Guard)
  | cmpgt (core : Fin 4) (u : AUnit) (d s1 : BitVec 6) (s2 : Src2) (g : Guard)
  | cmpge (core : Fin 4) (u : AUnit) (d s1 : BitVec 6) (s2 : Src2) (g : Guard)
  | pand (core : Fin 4) (u : AUnit) (d s1 s2 : BitVec 6) (g : Guard)
  | por (core : Fin 4) (u : AUnit) (d s1 s2 : BitVec 6) (g : Guard)
  | pandn (core : Fin 4) (u : AUnit) (d s1 s2 : BitVec 6) (g : Guard)
  | pnot (core : Fin 4) (u : AUnit) (d s1 : BitVec 6) (g : Guard)
  -- C unit (04)
  | crcStep (core : Fin 4) (p : CrcPoly) (refl : Bool) (ww : BitVec 2) (d s1 s2 : BitVec 6) (g : Guard)
  | par (core : Fin 4) (d s1 : BitVec 6) (g : Guard)
  | parp (core : Fin 4) (d s1 : BitVec 6) (g : Guard)
  | brev (core : Fin 4) (d s1 : BitVec 6) (g : Guard)
  | brevb (core : Fin 4) (d s1 : BitVec 6) (g : Guard)
  | bswap (core : Fin 4) (d s1 : BitVec 6) (g : Guard)
  | clz (core : Fin 4) (d s1 : BitVec 6) (g : Guard)
  | ctz (core : Fin 4) (d s1 : BitVec 6) (g : Guard)
  | popc (core : Fin 4) (d s1 : BitVec 6) (g : Guard)
  | extu (core : Fin 4) (d s1 s2 : BitVec 6) (g : Guard)
  | exts (core : Fin 4) (d s1 s2 : BitVec 6) (g : Guard)
  | ins (core : Fin 4) (d s1 s2 : BitVec 6) (g : Guard)
  | btst (core : Fin 4) (d s1 s2 : BitVec 6) (g : Guard)
  | btsti (core : Fin 4) (d s1 : BitVec 6) (im : Imm) (g : Guard)
  | bseti (core : Fin 4) (d s1 : BitVec 6) (im : Imm) (g : Guard)
  | bclri (core : Fin 4) (d s1 : BitVec 6) (im : Imm) (g : Guard)
  | tstp (core : Fin 4) (d s1 : BitVec 6) (g : Guard)
  | clmull (core : Fin 4) (d s1 s2 : BitVec 6) (g : Guard)
  | clmulh (core : Fin 4) (d s1 s2 : BitVec 6) (g : Guard)
  -- B unit (04)
  | br (core : Fin 4) (im : Imm) (g : Guard)
  | brr (core : Fin 4) (s1 : BitVec 6) (g : Guard)
  | call (core : Fin 4) (im : Imm) (g : Guard)
  | callr (core : Fin 4) (s1 : BitVec 6) (g : Guard)
  | ret (core : Fin 4) (g : Guard)
  | reti (core : Fin 4) (g : Guard)
  | loop (core : Fin 4) (s1 : BitVec 6) (im : Imm) (g : Guard)
  | lpop (core : Fin 4) (g : Guard)
  | wait (core : Fin 4) (g : Guard)
  | fenceSl (core : Fin 4) (g : Guard)
  | publish (core : Fin 4) (s1 s2 : BitVec 6) (g : Guard)
  | mfc (core : Fin 4) (d s1 : BitVec 6) (g : Guard)
  | mtc (core : Fin 4) (d s1 : BitVec 6) (g : Guard)
  | claim (core : Fin 4) (d s1 : BitVec 6) (g : Guard)
  | give (core : Fin 4) (d s1 s2 : BitVec 6) (g : Guard)
  | free (core : Fin 4) (d s1 : BitVec 6) (g : Guard)
  -- M units (05)
  | mul (core : Fin 4) (u : MUnit) (d s1 s2 : BitVec 6) (g : Guard)
  | mulh (core : Fin 4) (u : MUnit) (d s1 s2 : BitVec 6) (g : Guard)
  | mulhu (core : Fin 4) (u : MUnit) (d s1 s2 : BitVec 6) (g : Guard)
  | muli (core : Fin 4) (u : MUnit) (d s1 : BitVec 6) (im : Imm) (g : Guard)
  | mulq31 (core : Fin 4) (u : MUnit) (d s1 s2 : BitVec 6) (g : Guard)
  | mul2hq (core : Fin 4) (u : MUnit) (d s1 s2 : BitVec 6) (g : Guard)
  | mac (core : Fin 4) (u : MUnit) (d s1 s2 : BitVec 6) (g : Guard)
  | macu (core : Fin 4) (u : MUnit) (d s1 s2 : BitVec 6) (g : Guard)
  | msu (core : Fin 4) (u : MUnit) (d s1 s2 : BitVec 6) (g : Guard)
  | macs (core : Fin 4) (u : MUnit) (d s1 s2 : BitVec 6) (g : Guard)
  | mac2h (core : Fin 4) (u : MUnit) (d s1 s2 : BitVec 6) (g : Guard)
  | mac2hq (core : Fin 4) (u : MUnit) (d s1 s2 : BitVec 6) (g : Guard)
  | msu2h (core : Fin 4) (u : MUnit) (d s1 s2 : BitVec 6) (g : Guard)
  | clr (core : Fin 4) (u : MUnit) (d : BitVec 6) (g : Guard)
  | accw (core : Fin 4) (u : MUnit) (d s1 : BitVec 6) (g : Guard)
  | accp (core : Fin 4) (u : MUnit) (d s1 : BitVec 6) (g : Guard)
  | extr (core : Fin 4) (u : MUnit) (d s1 sh : BitVec 6) (g : Guard)
  | extl (core : Fin 4) (u : MUnit) (d s1 : BitVec 6) (g : Guard)
  | exth (core : Fin 4) (u : MUnit) (d s1 : BitVec 6) (g : Guard)
  | extg (core : Fin 4) (u : MUnit) (d s1 : BitVec 6) (g : Guard)
  | divs (core : Fin 4) (u : MUnit) (d s1 s2 : BitVec 6) (g : Guard)
  | divu (core : Fin 4) (u : MUnit) (d s1 s2 : BitVec 6) (g : Guard)
  | rems (core : Fin 4) (u : MUnit) (d s1 s2 : BitVec 6) (g : Guard)
  | remu (core : Fin 4) (u : MUnit) (d s1 s2 : BitVec 6) (g : Guard)
  | divps (core : Fin 4) (u : MUnit) (d s1 s2 : BitVec 6) (g : Guard)
  | divpu (core : Fin 4) (u : MUnit) (d s1 s2 : BitVec 6) (g : Guard)
  | faddS (core : Fin 4) (u : MUnit) (d s1 s2 : BitVec 6) (g : Guard)
  | fsubS (core : Fin 4) (u : MUnit) (d s1 s2 : BitVec 6) (g : Guard)
  | fmulS (core : Fin 4) (u : MUnit) (d s1 s2 : BitVec 6) (g : Guard)
  | fmaS (core : Fin 4) (u : MUnit) (d s1 s2 : BitVec 6) (g : Guard)
  | fmsS (core : Fin 4) (u : MUnit) (d s1 s2 : BitVec 6) (g : Guard)
  | fnmaS (core : Fin 4) (u : MUnit) (d s1 s2 : BitVec 6) (g : Guard)
  | fdivS (core : Fin 4) (u : MUnit) (d s1 s2 : BitVec 6) (g : Guard)
  | fsqrtS (core : Fin 4) (u : MUnit) (d s1 : BitVec 6) (g : Guard)
  | fminS (core : Fin 4) (u : MUnit) (d s1 s2 : BitVec 6) (g : Guard)
  | fmaxS (core : Fin 4) (u : MUnit) (d s1 s2 : BitVec 6) (g : Guard)
  | fcmpeqS (core : Fin 4) (u : MUnit) (d s1 s2 : BitVec 6) (g : Guard)
  | fcmpltS (core : Fin 4) (u : MUnit) (d s1 s2 : BitVec 6) (g : Guard)
  | fcmpleS (core : Fin 4) (u : MUnit) (d s1 s2 : BitVec 6) (g : Guard)
  | fcmpunS (core : Fin 4) (u : MUnit) (d s1 s2 : BitVec 6) (g : Guard)
  | fcvtSW (core : Fin 4) (u : MUnit) (d s1 : BitVec 6) (g : Guard)
  | fcvtSWu (core : Fin 4) (u : MUnit) (d s1 : BitVec 6) (g : Guard)
  | fcvtWS (core : Fin 4) (u : MUnit) (d s1 : BitVec 6) (g : Guard)
  | fcvtWuS (core : Fin 4) (u : MUnit) (d s1 : BitVec 6) (g : Guard)
  | frintS (core : Fin 4) (u : MUnit) (d s1 : BitVec 6) (g : Guard)
  | fabsS (core : Fin 4) (u : MUnit) (d s1 : BitVec 6) (g : Guard)
  | fnegS (core : Fin 4) (u : MUnit) (d s1 : BitVec 6) (g : Guard)
  | fcvtDS (core : Fin 4) (u : MUnit) (d s1 : BitVec 6) (g : Guard)
  | fcvtSD (core : Fin 4) (u : MUnit) (d s1 : BitVec 6) (g : Guard)
  | faddD (core : Fin 4) (u : MUnit) (d s1 s2 : BitVec 6) (g : Guard)
  | fsubD (core : Fin 4) (u : MUnit) (d s1 s2 : BitVec 6) (g : Guard)
  | fmulD (core : Fin 4) (u : MUnit) (d s1 s2 : BitVec 6) (g : Guard)
  | fmaD (core : Fin 4) (u : MUnit) (d s1 s2 : BitVec 6) (g : Guard)
  | fdivD (core : Fin 4) (u : MUnit) (d s1 s2 : BitVec 6) (g : Guard)
  | fsqrtD (core : Fin 4) (u : MUnit) (d s1 : BitVec 6) (g : Guard)
  | fbar (core : Fin 4) (u : MUnit) (g : Guard)
  -- steward calls and memory events (02, 04, 06, 07)
  | stewardAnswer (core : Fin 4)
  | opRequest (core : Fin 4) (arg : Word)
  | standbyConsent (core : Fin 4) (arg : Word)
  | wakeCfg (core : Fin 4) (arg : Word)
  | zeroingDone (obj : ZeroObj)
  | storeBufferDue (core : Fin 4)
  | storeCommit (pr : Pair) (up : List Upset)
  | storeCustodyFault (core : Fin 4)
  -- witness pairs (08)
  | divergence (pr : Pair) (r : DivRec)
  | coreSelftestDone (core : Fin 4) (pass : Bool)
  | handover (p : Nat)
  | personDeferredStart (p : Nat)
  | witnessPromote (core : Fin 4) (arg : Word)
  | witnessDemote (core : Fin 4) (arg : Word)
  | witnessMigrate (core : Fin 4) (arg : Word)
  | witnessResume (core : Fin 4) (arg : Word)
  | fenceService (core : Fin 4) (arg : Word)
  | liftService (core : Fin 4) (arg : Word) (pass : Bool)
  -- CIC (09)
  | sourceEvent (n : Byte) (e : SrcEdge)
  | filterLevelChange (n : Byte) (level : Bool)
  | cicClaim (core : Fin 4)
  | cicComplete (core : Fin 4) (v : Word)
  | cicSet (core : Fin 4) (n : Byte)
  | cicClear (core : Fin 4) (n : Byte)
  | holdoffExpiry (n : Byte)
  -- movers (10)
  | movStart (core : Fin 4) (ch : Fin 16)
  | movStop (core : Fin 4) (ch : Fin 16)
  | movRequest (r : ReqSrc)
  | movBurstIssue (ch : Fin 16) (up : List Upset)
  | movBurstComplete (ch : Fin 16)
  -- flash and records (11)
  | flcKey (bank : Fin 4) (v : Word)
  | program (bank : Fin 4)
  | eraseSector (bank : Fin 4)
  | blankCheck (bank : Fin 4)
  | eraseBank (bank : Fin 4)
  | flashOpDone (bank : Fin 4) (e : FlashEnd)
  | recordAppend (core : Fin 4) (arg : Word)
  | recordRead (core : Fin 4) (arg : Word)
  | recordInfo (core : Fin 4) (arg : Word)
  -- bundles (12)
  | stageOpen (core : Fin 4) (arg : Word)
  | stageWrite (core : Fin 4) (arg : Word)
  | stageClose (core : Fin 4) (arg : Word)
  | activate (core : Fin 4) (arg : Word)
  | stageDiscard (core : Fin 4) (arg : Word)
  | selftestResult (core : Fin 4) (arg : Word)
  | selftestBudgetExpiry
  -- Orune lines and sessions (13, 19)
  | lineCharacter (car : Carrier) (ch : Byte)
  | lineReceived (car : Carrier) (text : Text)
  | lineTimeout (car : Carrier)
  | lineBreak (car : Carrier)
  | baudCr (car : Carrier) (div16 : Nat)
  | openSession (ln : Ln) (k : SessArg) (card : Option CardAnswer)
  | proveSession (ln : Ln) (proof : Bytes)
  | closeSession (ln : Ln)
  | sessionIdleTimeout (car : Carrier)
  | lockoutExpiry (car : Carrier)
  | readIdentity (ln : Ln)
  | readChain (ln : Ln)
  | readTime (ln : Ln)
  | setTime (ln : Ln) (sec : Int) (digits : List (Fin 10))
  | readLifecycle (ln : Ln)
  | holdLifecycle (ln : Ln) (reason : Text)
  | releaseLifecycle (ln : Ln)
  | commissionLifecycle (ln : Ln)
  | enrolLifecycle (ln : Ln)
  | retireLifecycle (ln : Ln)
  | confirmLifecycle (ln : Ln)
  | retireLapse
  | restartDevice (ln : Ln)
  | readPerson (ln : Ln) (p : Nat)
  | startPerson (ln : Ln) (p : Nat)
  | stopPerson (ln : Ln) (p : Nat)
  | restartPerson (ln : Ln) (p : Nat)
  | resumePerson (ln : Ln) (p : Nat)
  | promotePerson (ln : Ln) (p : Nat) (dest : Option Place)
  | demotePerson (ln : Ln) (p : Nat) (dest : Option Place)
  | migratePerson (ln : Ln) (p : Nat) (dest : Place)
  | readCore (ln : Ln) (c : Fin 4)
  | fenceCore (ln : Ln) (c : Fin 4)
  | liftCore (ln : Ln) (c : Fin 4) (pass : Bool)
  | readOppoint (ln : Ln) (pr : Pair)
  | setOppoint (ln : Ln) (pr : Pair) (point : Option (Fin 5))
  | readFeed (ln : Ln) (n : Fin 8)
  | setFeed (ln : Ln) (n : Fin 8) (on : Bool)
  | measureSurvey (ln : Ln) (ch : Text)
  | setBaseline (ln : Ln) (ch : ChanArg) (tol : Option Nat)
  | writeCharter (ln : Ln) (at_ : Nat) (data : Bytes)
  | installCharter (ln : Ln)
  | readCharter (ln : Ln)
  | openBundle (ln : Ln) (len : Nat)
  | writeBundle (ln : Ln) (at_ : Nat) (data : Bytes)
  | closeBundle (ln : Ln)
  | activateBundle (ln : Ln) (now restart : Bool)
  | discardBundle (ln : Ln)
  | readBundle (ln : Ln)
  | readRecord (ln : Ln)
  | readRecordSeq (ln : Ln) (seq : Nat) (fb3 : Bool)
  | readTamper (ln : Ln) (from_ : Nat)
  | readEvent (ln : Ln) (from_ : Option Nat)
  | personNounLine (ln : Ln) (p : Nat) (text : Text)
  | oruneSend (core : Fin 4) (arg : Word)
  | oruneTake (core : Fin 4) (arg : Word)
  | oruneReply (core : Fin 4) (arg : Word)
  | mailboxReplyTimeout (p : Nat) (ref : Nat)
  | decisionSlotEnd
  | remoteKeepTimer
  | remoteLineTimeout (car : Carrier) (tag : Option Nat)
  -- window and tree (15)
  | mirrorUpdate
  | mirrorSnapshot (slot : Fin 128)
  | freeze
  | unfreeze
  | freezeTimeout
  | stewardSlotPeriod (slot : Fin 8)
  | cellWrite (cell : Fin 128) (v : BitVec 16)
  | cellOrderTimeout (cell : Fin 128)
  | treeSignal (core : Fin 4) (arg : Word)
  | cellBind (core : Fin 4) (arg : Word)
  | cellTake (core : Fin 4) (arg : Word)
  | cellAnswer (core : Fin 4) (arg : Word)
  | lbTx (v : BitVec 16)
  | rxRelease
  | lbFlagClear (v : BitVec 16)
  | treeLeafClear (branch : Fin 16) (v : BitVec 16)
  | windowIoRise (mv : Nat)
  -- survey (16)
  | surveyAverage (avgs : List Nat)
  | feedOpen (n : Fin 8)
  | feedOver (n : Fin 8)
  | feedShort (n : Fin 8)
  | signatureDone (n : Fin 8) (samples : List Nat)
  | tdrMeasureStart
  | tdrAcquisition (k : Fin 10) (kept : Bool)
  | tdrMeasurementDone (k : Fin 10) (r : Tdr)
  | tdrMeasurementAbandon (k : Fin 10)
  | starvedTimeout (k : Fin 10)
  | canPartnerTimeout (k : Fin 2)
  | srvFifoRead (core : Fin 4) (g : Fin 8)
  -- sentinel (17)
  | rtcSecond
  | sntRtcSecLoad (core : Fin 4)
  | sntRtcFracLoad (core : Fin 4)
  | rcCheck (count : Nat)
  | x32Fault
  | tempSample (t : Int)
  | caseChange (n : Fin 4) (opened : Bool)
  | meshEvent (cls : MeshClass)
  | vstbyLoss (why : VstbyCause)
  | sentinelPowerUp
  | tamperCopy
  | rtcAlarm (core : Fin 4) (arg : Word)
  | scallSetTime (core : Fin 4) (arg : Word)
  | tamperRead (core : Fin 4) (arg : Word)
  -- seal (17): the engine serves person p's job
  | aesEcbEncrypt (p : Nat)
  | aesEcbDecrypt (p : Nat)
  | aesCbcEncrypt (p : Nat)
  | aesCbcDecrypt (p : Nat)
  | aesCtr (p : Nat)
  | aesGcmEncrypt (p : Nat)
  | aesGcmDecrypt (p : Nat)
  | aesCmac (p : Nat)
  | sha256 (p : Nat)
  | sha384 (p : Nat)
  | hmacSha256 (p : Nat)
  | hmacSha384 (p : Nat)
  | ecdsaSign (p : Nat)
  | ecdsaVerify (p : Nat)
  | ecdh (p : Nat)
  | keyPublic (p : Nat)
  | keyGenerate (p : Nat)
  | keyImport (p : Nat)
  | keyErase (p : Nat)
  | keyDerive (p : Nat)
  | random (p : Nat)
  | sealJobDone (p : Nat)
  | rngHealthFail
  | rngHealthRecover
  | debugUnlock (token : Bytes)
  -- chain (18)
  | helloTimer (pt : Port)
  | hello (pt : Port) (f : Frame)
  | cap (pt : Port) (f : Frame)
  | chainClaim (pt : Port) (f : Frame)
  | claimTimer
  | headElectionTimeout
  | topo (pt : Port) (f : Frame)
  | topoTimer
  | topoTimeout
  | join (pt : Port) (f : Frame)
  | assign (pt : Port) (f : Frame)
  | refuse (pt : Port) (f : Frame)
  | loss (pt : Port) (f : Frame)
  | oruneFrame (pt : Port) (f : Frame)
  | frameForward (pt : Port) (f : Frame) (free : Bool)
  | storedFrameSend (pt : Port)
  | gapTimer
  | gapReceived (pt : Port)
  | linkTimeout (pt : Port)
  | rekeyTimer
  | keyRetryTimer (pt : Port)
  -- CAN (19)
  | canModeWrite (core : Fin 4) (k : Fin 2) (v : Word)
  | canTxRequest (core : Fin 4) (k : Fin 2) (buf : Fin 64)
  | canCancel (core : Fin 4) (k : Fin 2) (buf : Fin 64)
  | canFrameReceived (k : Fin 2) (f : CanFrame)
  | canTxDone (k : Fin 2) (e : CanTxEnd)
  | canBusOff (k : Fin 2)
  | canBusoffRecovery (k : Fin 2)
  | canClockResume (k : Fin 2)
  -- card slots (19)
  | crdActivate (core : Fin 4) (sl : Fin 2)
  | crdDeactivate (core : Fin 4) (sl : Fin 2)
  | crdSend (core : Fin 4) (sl : Fin 2) (len : Byte)
  | crdCancel (core : Fin 4) (sl : Fin 2)
  | crdTx (core : Fin 4) (sl : Fin 2) (v : Byte)
  | crdRx (core : Fin 4) (sl : Fin 2)
  | cardByteRx (sl : Fin 2) (v : Byte)
  | cardTransferDone (sl : Fin 2) (e : CardEnd)
  | cardTimeout (sl : Fin 2)
  | noAtr (sl : Fin 2)
  | cardClassRetry (sl : Fin 2)
  | cardOvercurrent (sl : Fin 2)
  | cardInsert (sl : Fin 2)
  | cardRemove (sl : Fin 2)
  -- sense lines and FEED outputs (19)
  | senseEdge (n : Fin 8) (level : Bool) (cap : BitVec 31)
  | snsFifo (core : Fin 4) (n : Fin 8)
  | snsMarkSec (core : Fin 4)
  | feedOn (core : Fin 4) (n : Fin 8)
  | feedOff (core : Fin 4) (n : Fin 8)
  -- UARTs and SPI (19)
  | uartRxByte (n : Fin 4) (b : UartByte)
  | uartBreak (n : Fin 4)
  | uartTx (core : Fin 4) (n : Fin 4) (v : Byte)
  | uartRx (core : Fin 4) (n : Fin 4)
  | spiStart (core : Fin 4) (m : Fin 2) (count : BitVec 16)
  | spiStop (core : Fin 4) (m : Fin 2)
  | spiTx (core : Fin 4) (m : Fin 2) (v : Word)
  | spiRx (core : Fin 4) (m : Fin 2)
  | spiTransferDone (m : Fin 2)
  | spiStallTimeout (m : Fin 2)
  -- registers and later rows
  | registerWrite (w : RegWriter) (addr : Nat) (v : Word)
  | oneMsAverage (avgs : List Nat)
  | converterScan (vals : List Nat)
  | x32Return
  | meshRestored
  | windowIoFall
  | restartWindowExpiry (p : Nat)
  | cardSessionTimeout (sl : Fin 2)
  | canPresenceLapse (k : Fin 2)
  | canBusError (k : Fin 2) (tx : Bool)
  | uartByteSent (n : Fin 4)
  | spiFrameDone (m : Fin 2) (rx : Word)
  deriving DecidableEq, Repr

end Sys2Proof
end

