-- ==== Sys2Proof/Machine/Bits.lean ====
section
/-! DEFINITION. Helpers over tables, words, bytes, digits and text that every part of the model uses. -/

namespace Sys2Proof.Machine

/-! ### Tables of a fixed length -/

/-- Read a table; an index past its end reads the default. -/
def vget {α : Type} [Inhabited α] {n : Nat} (v : Vector α n) (i : Nat) : α := (v[i]?).getD default

/-- Write a table; an index past its end writes nothing. -/
def vset {α : Type} {n : Nat} (v : Vector α n) (i : Nat) (a : α) : Vector α n := v.setIfInBounds i a

/-- Change one entry of a table. -/
def vmod {α : Type} [Inhabited α] {n : Nat} (v : Vector α n) (i : Nat) (f : α → α) : Vector α n :=
  vset v i (f (vget v i))

/-! ### Words -/

/-- A word from a number, modulo 2^32. -/
def w32 (n : Nat) : Word := BitVec.ofNat 32 n

/-- Bit i of a number, as 0 or 1. -/
def bitN (b : Bool) : Nat := if b then 1 else 0

/-- Bits hi..lo of a word, as a number. -/
def bits (w : Word) (hi lo : Nat) : Nat := w.toNat / 2 ^ lo % 2 ^ (hi - lo + 1)

/-- Put the low bits of v into bits hi..lo of a word. -/
def putBits (w : Word) (hi lo v : Nat) : Word :=
  let m := (2 ^ (hi - lo + 1) - 1) * 2 ^ lo
  w32 (w.toNat - (w.toNat &&& m) + (v % 2 ^ (hi - lo + 1)) * 2 ^ lo)

/-- Set or clear bit i of a word. -/
def putBit (w : Word) (i : Nat) (b : Bool) : Word := putBits w i i (bitN b)

/-- A counter that stops at a ceiling. -/
def satInc (n lim : Nat) : Nat := if n < lim then n + 1 else lim

/-- Reverse the low b bits of v. -/
def revBits (b v : Nat) : Nat :=
  match b with
  | 0 => 0
  | k + 1 => (v % 2) * 2 ^ k + revBits k (v / 2)

/-! ### Byte strings -/

/-- n bytes of a number, lowest first. -/
def leBytes (n v : Nat) : Bytes :=
  match n with
  | 0 => []
  | k + 1 => BitVec.ofNat 8 v :: leBytes k (v / 256)

/-- The number some bytes spell, lowest first. -/
def leNat (bs : Bytes) : Nat :=
  match bs with
  | [] => 0
  | b :: r => b.toNat + 256 * leNat r

/-- n bytes of a number, highest first. -/
def beBytes (n v : Nat) : Bytes := (leBytes n v).reverse

/-- The number some bytes spell, highest first. -/
def beNat (bs : Bytes) : Nat := leNat bs.reverse

/-- A piece of a byte string: n bytes from position i. -/
def slice {α : Type} (l : List α) (i n : Nat) : List α := (l.drop i).take n

/-- Little-endian number in n bytes at position i. -/
def leAt (bs : Bytes) (i n : Nat) : Nat := leNat (slice bs i n)

/-- Bitwise exclusive or of two byte strings of one length. -/
def xorBytes (a b : Bytes) : Bytes := List.zipWith (· ^^^ ·) a b

/-- Bytes up to a length, zeros added behind. -/
def padTo (n : Nat) (bs : Bytes) : Bytes := bs.take n ++ List.replicate (n - bs.length) 0

/-- The bytes of a text, one byte a character. -/
def textBytes (t : Text) : Bytes := t.map fun c => BitVec.ofNat 8 c.toNat

/-- The text some bytes spell. -/
def bytesText (bs : Bytes) : Text := bs.map fun b => Char.ofNat b.toNat

/-! ### Digits and text -/

/-- A decimal digit. -/
def digit (n : Nat) : Char := Char.ofNat (48 + n % 10)

/-- Decimal digits of a number, with fuel. -/
def decAux (fuel n : Nat) (acc : Text) : Text :=
  match fuel with
  | 0 => acc
  | f + 1 => if n < 10 then digit n :: acc else decAux f (n / 10) (digit n :: acc)

/-- A number in decimal, no leading zeros. -/
def decText (n : Nat) : Text := decAux 80 n []

/-- A number in decimal in exactly k digits. -/
def decFixed (k n : Nat) : Text :=
  match k with
  | 0 => []
  | j + 1 => decFixed j (n / 10) ++ [digit n]

/-- A hexadecimal digit, upper case. -/
def hexDigit (n : Nat) : Char := if n % 16 < 10 then Char.ofNat (48 + n % 16) else Char.ofNat (55 + n % 16)

/-- A number in exactly k hexadecimal digits. -/
def hexFixed (k n : Nat) : Text :=
  match k with
  | 0 => []
  | j + 1 => hexFixed j (n / 16) ++ [hexDigit n]

/-- A number in hexadecimal, with fuel. -/
def hexAux (fuel n : Nat) (acc : Text) : Text :=
  match fuel with
  | 0 => acc
  | f + 1 => if n < 16 then hexDigit n :: acc else hexAux f (n / 16) (hexDigit n :: acc)

/-- The hexadecimal text of some bytes. -/
def hexBytes (bs : Bytes) : Text := bs.flatMap fun b => hexFixed 2 b.toNat

/-- The value of a decimal digit. -/
def digitVal (c : Char) : Option Nat := if '0' ≤ c ∧ c ≤ '9' then some (c.toNat - 48) else none

/-- The value of an upper-case hexadecimal digit. -/
def hexVal (c : Char) : Option Nat :=
  if '0' ≤ c ∧ c ≤ '9' then some (c.toNat - 48)
  else if 'A' ≤ c ∧ c ≤ 'F' then some (c.toNat - 55)
  else none

/-- Read digits of a base, all of them, onto an accumulator. -/
def readDigits (val : Char → Option Nat) (base acc : Nat) (t : Text) : Option Nat :=
  match t with
  | [] => some acc
  | c :: r =>
    match val c with
    | none => none
    | some d => readDigits val base (acc * base + d) r

/-- Read pairs of hexadecimal digits as bytes. -/
def readHex (t : Text) : Option Bytes :=
  match t with
  | [] => some []
  | [_] => none
  | a :: b :: r =>
    match hexVal a, hexVal b, readHex r with
    | some x, some y, some bs => some (BitVec.ofNat 8 (16 * x + y) :: bs)
    | _, _, _ => none

/-- The first index below n that satisfies a test. -/
def firstIdx (n : Nat) (f : Nat → Bool) : Option Nat := (List.range n).find? f

/-- Put a number into a rising list without repeats. -/
def insertNat (n : Nat) (l : List Nat) : List Nat :=
  match l with
  | [] => [n]
  | k :: r => if n < k then n :: k :: r else if n = k then k :: r else k :: insertNat n r

/-- Apply a function for each number below n, from 0 up. -/
def forNat {σ : Type} (n : Nat) (f : Nat → σ → σ) (s : σ) : σ := (List.range n).foldl (fun t i => f i t) s

/-- Apply a function for each entry of a list, in order. -/
def forAll {α σ : Type} (l : List α) (f : α → σ → σ) (s : σ) : σ := l.foldl (fun t a => f a t) s

/-- Keep the first occurrence of each entry. -/
def dedup {α : Type} [DecidableEq α] (l : List α) : List α :=
  l.foldl (fun acc a => if a ∈ acc then acc else acc ++ [a]) []

end Sys2Proof.Machine
end

