-- ==== Sys2Proof/Machine/Aes.lean ====
section
/-! DEFINITION. AES with its modes ECB, CBC, CTR, GCM and CMAC (R416), and the key wrapping of a session key. -/

namespace Sys2Proof.Machine

/-- Multiply by x in GF(2^8). -/
def xtime (a : Nat) : Nat := if a < 128 then 2 * a else (2 * a) % 256 ^^^ 0x1B

/-- Product in GF(2^8). -/
def gmul (k a b : Nat) : Nat :=
  match k with
  | 0 => 0
  | j + 1 => (if b % 2 = 1 then a else 0) ^^^ gmul j (xtime a) (b / 2)

/-- The inverse in GF(2^8), 0 for 0: the 254th power. -/
def ginv (a : Nat) : Nat :=
  let sq := fun x => gmul 8 x x
  let a2 := sq a; let a4 := sq a2; let a8 := sq a4; let a16 := sq a8; let a32 := sq a16; let a64 := sq a32
  let a128 := sq a64
  gmul 8 a128 (gmul 8 a64 (gmul 8 a32 (gmul 8 a16 (gmul 8 a8 (gmul 8 a4 a2)))))

/-- Rotate a byte left. -/
def rotB (x k : Nat) : Nat := (x * 2 ^ k) % 256 + x / 2 ^ (8 - k)

/-- The S-box and its inverse. -/
def sbox (a : Nat) : Nat :=
  let b := ginv a
  b ^^^ rotB b 1 ^^^ rotB b 2 ^^^ rotB b 3 ^^^ rotB b 4 ^^^ 0x63
def sboxTable : List Nat := (List.range 256).map sbox
def invSboxTable : List Nat := (List.range 256).map fun y => ((List.range 256).find? fun x => sbox x = y).getD 0

/-- Map bytes through a table. -/
def subBytes (t : List Nat) (bs : List Nat) : List Nat := bs.map fun b => t.getD b 0

/-- Key schedule: words as lists of four bytes, newest first. -/
def keyWords (nk k i rcon : Nat) (rev : List (List Nat)) : List (List Nat) :=
  match k with
  | 0 => rev
  | j + 1 =>
    let last := rev.headD []
    let old := rev.getD (nk - 1) []
    let t :=
      if i % nk = 0 then
        let r := subBytes sboxTable (last.drop 1 ++ last.take 1)
        (r.headD 0 ^^^ rcon) :: r.drop 1
      else if nk = 8 ∧ i % nk = 4 then subBytes sboxTable last
      else last
    keyWords nk j (i + 1) (if i % nk = 0 then xtime rcon else rcon) (List.zipWith (· ^^^ ·) old t :: rev)

/-- Groups of four. -/
def fours (k : Nat) (l : List Nat) : List (List Nat) :=
  match k with
  | 0 => []
  | j + 1 => l.take 4 :: fours j (l.drop 4)

/-- The round keys, 16 bytes each, first round first. -/
def roundKeys (key : Bytes) : List (List Nat) :=
  let nk := key.length / 4
  let ws := (keyWords nk (4 * (nk + 7) - nk) nk 1 (fours nk (key.map fun b => b.toNat)).reverse).reverse.flatten
  (List.range (nk + 7)).map fun r => slice ws (16 * r) 16

/-- Columns mixed with the coefficients of one row. -/
def mixCols (c : List Nat) (st : List Nat) : List Nat :=
  (List.range 16).map fun i =>
    (List.range 4).foldl (fun a j => a ^^^ gmul 8 (st.getD (i / 4 * 4 + j) 0) (c.getD ((j + 4 - i % 4) % 4) 0)) 0

/-- Rows shifted by d columns for row one. -/
def shiftRows (d : Nat) (st : List Nat) : List Nat :=
  (List.range 16).map fun i => st.getD (((i / 4 + i % 4 * d) % 4) * 4 + i % 4) 0

/-- Exclusive or of two states. -/
def xorSt (a b : List Nat) : List Nat := List.zipWith (· ^^^ ·) a b

/-- Encrypt one block. -/
def aesEnc (rk : List (List Nat)) (blk : Bytes) : Bytes :=
  let n := rk.length
  let st := xorSt (blk.map fun b => b.toNat) (rk.getD 0 [])
  let st := (List.range (n - 2)).foldl (fun t i =>
    xorSt (mixCols [2, 3, 1, 1] (shiftRows 1 (subBytes sboxTable t))) (rk.getD (i + 1) [])) st
  (xorSt (shiftRows 1 (subBytes sboxTable st)) (rk.getD (n - 1) [])).map (BitVec.ofNat 8)

/-- Decrypt one block. -/
def aesDec (rk : List (List Nat)) (blk : Bytes) : Bytes :=
  let n := rk.length
  let st := xorSt (blk.map fun b => b.toNat) (rk.getD (n - 1) [])
  let st := (List.range (n - 2)).foldl (fun t i =>
    mixCols [14, 11, 13, 9] (xorSt (subBytes invSboxTable (shiftRows 3 t)) (rk.getD (n - 2 - i) []))) st
  (xorSt (subBytes invSboxTable (shiftRows 3 st)) (rk.getD 0 [])).map (BitVec.ofNat 8)

/-- Blocks of 16 bytes. -/
def blocks16 (k : Nat) (bs : Bytes) : List Bytes :=
  match k with
  | 0 => []
  | j + 1 => bs.take 16 :: blocks16 j (bs.drop 16)
def aesBlocks (bs : Bytes) : List Bytes := blocks16 ((bs.length + 15) / 16) bs

/-- ECB. -/
def ecbEnc (key bs : Bytes) : Bytes := let rk := roundKeys key; (aesBlocks bs).flatMap (aesEnc rk)
def ecbDec (key bs : Bytes) : Bytes := let rk := roundKeys key; (aesBlocks bs).flatMap (aesDec rk)

/-- CBC. -/
def cbcEnc (key iv bs : Bytes) : Bytes :=
  let rk := roundKeys key
  ((aesBlocks bs).foldl (fun (q : Bytes × Bytes) b => let c := aesEnc rk (xorBytes b q.1); (c, q.2 ++ c)) (iv, [])).2
def cbcDec (key iv bs : Bytes) : Bytes :=
  let rk := roundKeys key
  ((aesBlocks bs).foldl (fun (q : Bytes × Bytes) b => (b, q.2 ++ xorBytes (aesDec rk b) q.1)) (iv, [])).2

/-- Counter mode from a block; the low `w` bits count. -/
def ctrMode (w : Nat) (rk : List (List Nat)) (ctr : Nat) (bs : Bytes) : Bytes :=
  (aesBlocks bs).zipIdx.flatMap fun q =>
    xorBytes q.1 (aesEnc rk (beBytes 16 (ctr / 2 ^ w * 2 ^ w + (ctr + q.2) % 2 ^ w)))

/-- CTR with a 128-bit increment. -/
def ctrEnc (key iv bs : Bytes) : Bytes := ctrMode 128 (roundKeys key) (beNat iv) bs

/-- Product in the field of GCM: bit 127 of a number is the coefficient of 1. -/
def ghMul (k x y : Nat) : Nat :=
  match k with
  | 0 => 0
  | j + 1 =>
    (if x / 2 ^ j % 2 = 1 then y else 0) ^^^ ghMul j x (if y % 2 = 1 then y / 2 ^^^ 0xE1 * 2 ^ 120 else y / 2)

/-- GHASH of blocks. -/
def ghash (h : Nat) (bs : List Bytes) : Nat := bs.foldl (fun y b => ghMul 128 (y ^^^ beNat (padTo 16 b)) h) 0

/-- The 16-byte GCM tag of a ciphertext, nonce of 12 bytes. -/
def gcmTag (rk : List (List Nat)) (nonce aad ct : Bytes) : Bytes :=
  let h := beNat (aesEnc rk (List.replicate 16 0))
  let s := ghash h (aesBlocks aad ++ aesBlocks ct ++ [beBytes 8 (8 * aad.length) ++ beBytes 8 (8 * ct.length)])
  xorBytes (beBytes 16 s) (aesEnc rk (nonce ++ [0, 0, 0, 1]))

/-- GCM: ciphertext and tag. -/
def gcmEnc (key nonce aad pt : Bytes) : Bytes × Bytes :=
  let rk := roundKeys key
  let ct := ctrMode 32 rk (beNat (nonce ++ [0, 0, 0, 2])) pt
  (ct, gcmTag rk nonce aad ct)

/-- GCM: the plaintext if the tag, 12 to 16 bytes, is right. -/
def gcmDec (key nonce aad ct tag : Bytes) : Option Bytes :=
  let rk := roundKeys key
  if (gcmTag rk nonce aad ct).take tag.length = tag then some (ctrMode 32 rk (beNat (nonce ++ [0, 0, 0, 2])) ct) else none

/-- Doubling in the field of CMAC. -/
def cmacDbl (x : Nat) : Nat := if x < 2 ^ 127 then 2 * x else (2 * x) % 2 ^ 128 ^^^ 0x87

/-- CMAC. -/
def cmac (key bs : Bytes) : Bytes :=
  let rk := roundKeys key
  let k1 := cmacDbl (beNat (aesEnc rk (List.replicate 16 0)))
  let bl := aesBlocks bs
  let last := bl.getLastD []
  let full := decide (last.length = 16)
  let m := if full then beNat last ^^^ k1 else beNat (padTo 16 (last ++ [0x80])) ^^^ cmacDbl k1
  let y := bl.dropLast.foldl (fun y b => aesEnc rk (xorBytes y b)) (List.replicate 16 0)
  aesEnc rk (xorBytes y (beBytes 16 m))

/-- AES key unwrap (RFC 3394): the key if the check value is right. -/
def keyUnwrap (kek wrapped : Bytes) : Option Bytes :=
  let rk := roundKeys kek
  let n := wrapped.length / 8 - 1
  let step := fun (st : Bytes × List Bytes) (t : Nat) =>
    let i := (t - 1) % n
    let b := aesDec rk (xorBytes st.1 (beBytes 8 t) ++ st.2.getD i [])
    (b.take 8, st.2.set i (b.drop 8))
  let r := (List.range (6 * n)).reverse.foldl (fun st t => step st (t + 1))
    (wrapped.take 8, (List.range n).map fun i => slice wrapped (8 * (i + 1)) 8)
  if r.1 = List.replicate 8 0xA6 then some r.2.flatten else none

end Sys2Proof.Machine
end

