-- ==== Sys2Proof/Machine/StCore.lean ====
section
/-! DEFINITION. The state of the four cores, of the memories and of custody (03 to 08). -/

namespace Sys2Proof.Machine

/-! ### A person's registers on a core (R59, R62) -/

/-- A w register: value and poison bit (R59). -/
structure WReg where
  v : Word := 0
  poison : Bool := false
  deriving DecidableEq, Repr, Inhabited

/-- One register write of a result (R67). -/
inductive Wr where
  | w (r : Nat) (v : Word) (poison : Bool)
  | x (r : Nat) (v : Word)
  | p (r : Nat) (b : Bool)
  | acc (r : Nat) (v : Acc)
  deriving DecidableEq, Repr, Inhabited

/-- A result in flight: the first sentence that sees it (R67). -/
structure InFl where
  due : Nat
  wr : Wr
  deriving DecidableEq, Repr, Inhabited

/-- What a pending transfer ends in: a target, or the restoring of a RETI (R83, R93). -/
inductive BrKind where
  | flow | reti
  deriving DecidableEq, Repr, Inhabited

/-- A taken flow syllable whose delay sentences are still to run (R83). -/
structure Branch where
  target : Word
  left : Nat
  kind : BrKind
  deriving DecidableEq, Repr, Inhabited

/-- An outstanding shared load (R73, R168, R171, R173, R177): `stamp` its place in program order, `hold` the stamp before
which every own store must have committed, `fwd` the buffered store that covers it, by its stamp, with the bytes it gives,
`gate` for a load that has left the core the stamps, of the two cores of its pair, below which what their gate carries was ahead
of it. -/
structure ShLoad where
  stamp : Nat
  dests : List Nat
  addr : Nat
  size : Nat
  signed : Bool
  dismiss : Bool
  device : Bool
  hold : Nat
  fwd : Option (Nat × Bytes)
  gate : Option (Nat × Nat) := none
  deriving DecidableEq, Repr, Inhabited

/-- The three custody operations (R120). -/
inductive CusKind where
  | claim | give | free
  deriving DecidableEq, Repr, Inhabited

/-- A custody operation sent to the controller and not yet answered (R148, R182): the operation, its address and recipient, the
register of its status, the address of the next sentence, and the stamp below which own stores must have committed. -/
structure CusRun where
  kind : CusKind
  addr : Nat
  recip : Nat
  dest : Nat
  next : Word
  hold : Nat
  deriving DecidableEq, Repr, Inhabited

/-- An outstanding steward call (R119): destination, service, argument, the stamp before which own stores must have
committed (R182), whether the steward has taken it up (an order in a decision slot, an append), and its result. -/
structure SCallRec where
  dest : Nat
  svc : Nat
  arg : Word
  hold : Nat
  taken : Bool := false
  result : Option Nat
  deriving DecidableEq, Repr, Inhabited

/-- The running divide (R128): what it writes and the last cycle before its result can be read. -/
structure DivRun where
  writes : List (Nat × Word)
  lands : Nat
  deriving DecidableEq, Repr, Inhabited

/-- The registers of one person on one core, with what is in flight. -/
structure Ctx where
  w : Vector WReg 64 := Vector.replicate 64 {}
  x : Vector Word 17 := Vector.replicate 17 0
  p : Vector Bool 8 := Vector.replicate 8 false
  acc : Vector Acc 8 := Vector.replicate 8 0
  ls : Vector Word 3 := Vector.replicate 3 0
  le : Vector Word 3 := Vector.replicate 3 0
  lc : Vector Word 3 := Vector.replicate 3 0
  ldepth : Nat := 0
  rs : Vector Word 16 := Vector.replicate 16 0
  rsp : Nat := 0
  rsdepth : Nat := 0
  pc : Word := 0
  br : Option Branch := none
  flags : Word := 0
  vec : Word := 0
  epc : Word := 0
  ecause : Word := 0
  einfo : Word := 0
  ebt : Word := 0
  estat : Bool := false
  ie : Bool := false
  deferAddr : Word := 0
  deferCause : Word := 0
  codeBase : Word := 0
  codeLimit : Word := 0
  spillBase : Word := 0
  spillCount : Nat := 0
  els : Vector Word 9 := Vector.replicate 9 0
  eldepth : Nat := 0
  mbase : Vector Word 8 := Vector.replicate 8 0
  mlen : Vector Word 8 := Vector.replicate 8 0
  cycles : Nat := 0
  sentences : Nat := 0
  shmiss : Nat := 0
  stalls : Nat := 0
  /-- A fault entry has had no RETI since (R94). -/
  faultOpen : Bool := false
  fpPending : Bool := false
  waiting : Bool := false
  /-- The number of the next sentence to issue. -/
  seq : Nat := 0
  infl : List InFl := []
  loads : List ShLoad := []
  calls : List SCallRec := []
  /-- The custody operation of the core's latest sentence, while the controller has not answered it (R148). -/
  cus : Option CusRun := none
  div : Option DivRun := none
  /-- Stores discarded at commit whose CUSTODY fault is still to be taken (R183). -/
  storeFaults : List Word := []
  deriving DecidableEq, Repr, Inhabited

/-! ### A core (R58, 07) -/

/-- What a store-buffer place holds: a granule's bytes, a DEVICE word, or a mirror slot on its way (R165, R166, R118). -/
inductive SbWhat where
  | gran (base : Nat) (cells : List Host.Cell)
  | dev (addr : Nat) (v : Word)
  | slot (n : Nat) (v : BitVec 64)
  deriving DecidableEq, Repr, Inhabited

/-- One store-buffer place: the person that stored, stamps of its first and last store, due (R167), closed to combining
because a load waits for it. -/
structure SbEntry where
  person : Nat := 0
  stamp : Nat
  last : Nat
  due : Bool
  closed : Bool
  what : SbWhat
  deriving DecidableEq, Repr, Inhabited

/-- One core. -/
structure Core where
  imem : List Host.Cell := []
  dmem : List Host.Cell := []
  cache : Vector (List Nat) 128 := Vector.replicate 128 []
  sb : List SbEntry := []
  cur : Nat := 0
  halted : Bool := false
  fenced : Bool := false
  byOrder : Bool := false
  selftestFail : Bool := false
  underTest : Bool := false
  switchDue : Bool := false
  stamp : Nat := 0
  fence : Nat := 0
  /-- The word the core's latest DEVICE load returned. -/
  lastDev : Word := 0
  /-- The candidate the CIC has delivered, per person; source 0 is none (R213). -/
  cand : Vector Nat 7 := Vector.replicate 7 0
  ctx : Vector Ctx 7 := Vector.replicate 7 {}
  deriving DecidableEq, Repr, Inhabited

/-! ### Gates and memories (02, 06, 07) -/

/-- A store or slot on its way from a pair to FABRIC. -/
structure StTxn where
  core : Nat
  person : Nat
  stamp : Nat
  what : SbWhat
  deriving DecidableEq, Repr, Inhabited

/-- Shared memories and the memory errors still unseen (R141, R162, R248). -/
structure Mem where
  sram : List Host.Cell := []
  flash : List Host.Cell := []
  /-- The places in flash of units programmed with sixteen bytes of 0xFF, which are not erased (R249). -/
  full : List Nat := []
  ecc : List Upset := []
  deriving DecidableEq, Repr, Inhabited

/-- The custody controller (06). -/
structure Cus where
  page : Vector (BitVec 4) 1024 := Vector.replicate 1024 0xF
  bank : Vector (Vector (BitVec 4) 8) 4 := Vector.replicate 4 (Vector.replicate 8 0xF)
  frame : Vector (BitVec 4) 272 := Vector.replicate 272 0
  pageZero : List Nat := []
  /-- The core whose custody operation is held because a zeroing queue is full (R154). -/
  held : Option Nat := none
  bankZero : Vector (List Nat) 4 := Vector.replicate 4 []
  doubleFree : Nat := 0
  foreignFree : Nat := 0
  foreignAccess : Nat := 0
  last : Word := 0
  lastAddr : Word := 0
  eccCorr : Nat := 0
  eccUncorr : Nat := 0
  eccAddr : Word := 0
  /-- The core a local address in eccAddr belongs to; none for a fabric address. -/
  eccCore : Option Nat := none
  deriving DecidableEq, Repr, Inhabited

end Sys2Proof.Machine
end

