-- ==== Sys2Proof/Machine/StDev.lean ====
section
/-! DEFINITION. The state of islands, gates, persons, charter, fuses, witness pairs and the window (01, 02, 08, 12, 15). -/

namespace Sys2Proof.Machine

/-! ### Power and islands (02) -/

/-- The power state of the device (R45), with the start as a state of its own; DOZE is read off the cores. -/
inductive Power where
  | off | standby | starting | run | nap
  deriving DecidableEq, Repr, Inhabited

/-- An island's state (ISL_STATE). -/
inductive IslState where
  | off | starting | run | doze | nap | fusedOff
  deriving DecidableEq, Repr, Inhabited

/-- The causes a start collects for ISL_RESET_CAUSE (02). -/
structure Causes where
  powerOn : Bool := false
  porst : Bool := false
  wake : Bool := false
  restart : Bool := false
  watchdog : Bool := false
  glitch : Bool := false
  glitchIsland : Nat := 0
  deriving DecidableEq, Repr, Inhabited

/-- Islands, clocks, operating points and power (02, 20). -/
structure Isl where
  power : Power := .starting
  /-- Start steps done so far (R53). -/
  step : Nat := 0
  causeReg : Word := 0
  next : Causes := { powerOn := true }
  startSeq : Nat := 0
  wake : Word := 0
  wakeLatch : Word := 0
  wakeCfg : BitVec 4 := 0
  pairSt : Vector IslState 2 := Vector.replicate 2 .starting
  fabric : IslState := .run
  port : IslState := .run
  host : IslState := .run
  /-- Powering off under R39: gates closed, open transactions still to complete. -/
  draining : Vector Bool 2 := Vector.replicate 2 false
  opCur : Vector Nat 2 := Vector.replicate 2 1
  opMax : Vector Nat 2 := Vector.replicate 2 1
  /-- Requests for operating points (R41): p is what person p has requested by steward call, 8 + w what party w has by Orune. -/
  opReq : Vector (Vector Nat 16) 2 := Vector.replicate 2 (Vector.replicate 16 7)
  opTarget : Vector (Option Nat) 2 := Vector.replicate 2 none
  opHalved : Vector Bool 2 := Vector.replicate 2 false
  /-- Rail averages over 1 ms, in mV (R40). -/
  railAvg : Vector Nat 2 := Vector.replicate 2 0
  fllLock : Nat := 0
  refOk : Bool := false
  refFault : Bool := false
  refArmed : Bool := false
  napDelay : Nat := 100
  fabricFast : Bool := true
  /-- A wake source of NAP has arisen (R45). -/
  napWake : Bool := false
  railsValid : Bool := true
  porstLow : Bool := false
  vioW : Bool := true
  /-- Window I/O supply in the 3.3 V class (20). -/
  vioW33 : Bool := true
  clean : Bool := false
  vstbyLostSeen : Bool := false
  arrival : Nat := 0
  rstoutLow : Bool := true
  deriving DecidableEq, Repr, Inhabited

/-! ### Gates (R35) -/

/-- What GF_H carries to the HOST latches (R35). -/
inductive HTxn where
  | slot (n : Nat) (v : BitVec 64) (seq : Nat)
  | leaf (b l : Nat) (details : List (Nat × Nat))
  | cell (n st code val : Nat)
  | line (t : Text)
  deriving DecidableEq, Repr, Inhabited

/-- What GH_F carries to FABRIC (R35). -/
inductive GTxn where
  | cellOrder (n v wseq : Nat)
  | chars (t : List Byte)
  | lost
  | leafClear (b v : Nat)
  deriving DecidableEq, Repr, Inhabited

/-- A candidate or withdrawal on its way to a core (R213): core, person, source (0 withdraws). -/
structure CandTxn where
  core : Nat
  person : Nat
  src : Nat
  deriving DecidableEq, Repr, Inhabited

/-- The gates whose crossings are commands of their own (R35). -/
structure Gates where
  pairF : Vector (List StTxn) 2 := Vector.replicate 2 []
  fPair : Vector (List CandTxn) 2 := Vector.replicate 2 []
  gfH : List HTxn := []
  ghF : List GTxn := []
  /-- What FABRIC has taken from GH_F in NAP, with its arrival number, until the steward leaves WAIT (R46). -/
  ghTaken : List (Nat × GTxn) := []
  /-- Transactions FABRIC has taken from a pair and not yet performed (R168). -/
  commitQ : Vector (List StTxn) 2 := Vector.replicate 2 []
  closed : Vector Bool 2 := Vector.replicate 2 false
  deriving DecidableEq, Repr, Inhabited

/-! ### Fuses (17 R401) -/

/-- The fuse array. -/
structure Fuses where
  part : Part := .ah
  counters : Vector Nat 32 := (Vector.replicate 32 0).set 0 1
  zeroize : Bool := false
  custKey : Option Bytes := none
  recPub : Option Bytes := none
  deriving DecidableEq, Repr, Inhabited

/-! ### Charter (01 R17) -/

/-- One person row. -/
structure Row where
  present : Nat := 0
  rank : Nat := 0
  placement : Nat := 0
  modes : Nat := 0
  rights : Nat := 0
  pageQuota : Nat := 0
  bankQuota : Nat := 0
  mirFirst : Nat := 0
  mirCount : Nat := 0
  moverMask : Nat := 0
  irqMap : Nat := 0
  cellMask : Nat := 0
  reserved : Nat := 0
  deriving DecidableEq, Repr, Inhabited

/-- A charter as read from its bytes. -/
structure Charter where
  flags : Nat := 0
  sv : Nat := 0
  deviceId : Bytes := []
  feedOwner : Vector Nat 8 := Vector.replicate 8 0
  feedSafe : Nat := 0
  ephKey : Bytes := []
  wrap : Bytes := []
  rows : Vector Row 7 := Vector.replicate 7 {}
  raw : Bytes := []
  deriving DecidableEq, Repr, Inhabited

/-! ### Persons (08 R196, R199, 15 R353) -/

/-- The run state of a person, in the coding of mirror slot 2 (R353). -/
inductive PRun where
  | absent | starting | running | stopped | dead | suspended | restarting | handover
  deriving DecidableEq, Repr, Inhabited

/-- One person. `wasWitness` and `lastCores` say how it last ran (R196); `deferred` marks one to be started again
when a core can take it (R197). -/
structure Person where
  run : PRun := .absent
  cores : Nat := 0
  lastCores : Nat := 0
  wasWitness : Bool := false
  deferred : Bool := false
  /-- Where a hand-over under way takes the person: cores (R205). -/
  moveTo : Nat := 0
  restarts : Nat := 0
  /-- An automatic restart is under way; it lasts until the person's first sentence (R196, R199). -/
  afresh : Bool := false
  /-- It is DEAD, and none of its parts has passed since (R292). -/
  failed : Bool := false
  divTotal : Nat := 0
  consent : Bool := false
  /-- Code window on each core: first byte and first byte after (R81). -/
  win : Vector (Nat × Nat) 4 := Vector.replicate 4 (0, 0)
  deriving DecidableEq, Repr, Inhabited

/-! ### Witness pairs (08) -/

/-- The WIT block's last divergence of a pair. -/
structure DivReg where
  info : Word := 0x00F00000
  pc : Word := 0
  lead : Word := 0
  trail : Word := 0
  deriving DecidableEq, Repr, Inhabited

/-- What waits for a core's self-test to end (R200): a restart after a divergence, or the lifting of a fence by order. -/
inductive TestWhy where
  | divergence | lift
  deriving DecidableEq, Repr, Inhabited

/-- Witness pairs (08). -/
structure Wit where
  suspect : Vector Bool 2 := Vector.replicate 2 false
  div : Vector DivReg 2 := Vector.replicate 2 {}
  why : Vector (Option TestWhy) 4 := Vector.replicate 4 none
  /-- A fence ordered, its persons still to be moved (R202). -/
  fencing : Vector Bool 4 := Vector.replicate 4 false
  /-- Restart pending once the self-tests of a pair end: the person. -/
  waiting : Vector Nat 2 := Vector.replicate 2 0
  deriving DecidableEq, Repr, Inhabited

/-! ### Window and tree (15) -/

/-- What a cell is bound to (R354, R356). -/
inductive CellBindTo where
  | none | person | feed (n : Nat) | run (p : Nat) | life | fence (c : Nat)
  deriving DecidableEq, Repr, Inhabited

/-- A control cell: the HOST latch (STATE, CODE, WSEQ, VALUE) and the steward's side (binding, order). -/
structure Cell where
  st : Nat := 0
  code : Nat := 0
  wseq : Nat := 0
  val : Nat := 0
  bind : CellBindTo := .none
  /-- The value written by the order under way, and whether its owner has taken it (R357). -/
  order : Option Nat := .none
  taken : Bool := false
  deriving DecidableEq, Repr, Inhabited

/-- The window (15). -/
structure Win where
  live : Vector (BitVec 64 × Nat) 128 := Vector.replicate 128 (0, 0)
  /-- The numbers FABRIC gives to slots it forwards (R346). -/
  seqs : Vector Nat 128 := Vector.replicate 128 0
  /-- The value last published in the steward's own slots (R353). -/
  pub : Vector (BitVec 64) 8 := Vector.replicate 8 0
  frozen : Option (Vector (BitVec 64 × Nat) 128) := .none
  stale : Bool := false
  shadow : Vector (BitVec 48) 128 := Vector.replicate 128 0
  snapSeq : Nat := 0
  snapSlot : Nat := 0
  state : Nat := 0
  cells : Vector Cell 128 := Vector.replicate 128 {}
  cellQ : List Nat := []
  branch : Vector (BitVec 16) 16 := Vector.replicate 16 0
  mask : Vector (BitVec 16) 16 := Vector.replicate 16 0
  details : Vector Nat 8 := Vector.replicate 8 0
  txFifo : List Byte := []
  txOverflow : Bool := false
  lineLost : Bool := false
  rx : Option Text := .none
  /-- Outgoing WIN lines not yet presented; the Bool marks a final reply (R361). -/
  rxQ : List (Bool × Text) := []
  deriving DecidableEq, Repr, Inhabited

/-! ### Core interrupt controller (09) -/

/-- One interrupt source (R212, R216, R219, R221, R222). -/
structure Src where
  priority : Nat := 0
  target : Nat := 0
  filtered : Bool := false
  fclk : Bool := false
  fcount : Nat := 1
  holdoff : Nat := 0
  bypass : Bool := false
  pend : Bool := false
  active : Option Nat := .none
  edges : Nat := 0
  raw : Bool := false
  level : Bool := false
  /-- The raw level has differed from the filtered one since that last changed (R212). -/
  moved : Bool := false
  /-- The priority it was claimed with, while it is active (R220). -/
  actPri : Nat := 0
  holding : Bool := false
  /-- Cores the source was delivered to under BYPASS (R222). -/
  passed : Nat := 0
  deriving DecidableEq, Repr, Inhabited

/-- The CIC: sources, thresholds and stray counts per person and core, the candidates sent to each core (R214). -/
structure Cic where
  src : Vector Src 256 := Vector.replicate 256 {}
  thresh : Vector (Vector Nat 4) 7 := Vector.replicate 7 (Vector.replicate 4 0)
  stray : Vector (Vector Nat 4) 7 := Vector.replicate 7 (Vector.replicate 4 0)
  sent : Vector (Vector Nat 7) 4 := Vector.replicate 4 (Vector.replicate 7 0)
  restored : Bool := false
  discarded : Bool := false
  deriving DecidableEq, Repr, Inhabited

/-- What the steward saves to the sentinel before STANDBY (R47, R201, R227). -/
structure Saved where
  src : Vector Src 256 := Vector.replicate 256 {}
  thresh : Vector (Vector Nat 4) 7 := Vector.replicate 7 (Vector.replicate 4 0)
  op : Vector Nat 2 := Vector.replicate 2 1
  pairing : Vector Nat 2 := Vector.replicate 2 0
  deriving DecidableEq, Repr, Inhabited

/-! ### Movers (10) -/

/-- The states of a channel (MOV_STATUS.STATE); HELD is shown while the owner is in a hand-over (R246). -/
inductive MovState where
  | idle | running | stopping | done | aborted | error
  deriving DecidableEq, Repr, Inhabited

/-- One side of a channel (R230). -/
structure Side where
  addr : Word := 0
  shape : Word := 0x00010003
  stride : Word := 0
  mode : Word := 4
  deriving DecidableEq, Repr, Inhabited

/-- A burst whose writes have not all committed (R233): its place in the pattern, and the bytes it writes. -/
structure Burst where
  dst : Nat
  data : Bytes
  /-- Bytes that have been written already, since the object they lie in is about to be zeroed (R153); the response is still to come. -/
  put : Option Nat := none
  /-- Its CORESEL names a bank that the owner lost in a hand-over (R246). -/
  lost : Bool := false
  deriving DecidableEq, Repr, Inhabited

/-- One mover channel (10). -/
structure Chan where
  cfg : Word := 0
  st : MovState := .idle
  cause : Nat := 0
  reqcnt : Nat := 0
  src : Side := {}
  dst : Side := {}
  /-- Bytes issued and committed in this pass, bytes still granted by the request being served. -/
  issued : Nat := 0
  done : Nat := 0
  grant : Nat := 0
  out : List Burst := []
  /-- Source data read ahead of its grant, by position, the oldest first (R237). -/
  ahead : List (Nat × Bytes) := []
  /-- Destination lines committed whole, the line of the latest commit, and its bytes committed (R241, MOV_PROGRESS). -/
  lines : Nat := 0
  line : Nat := 0
  lineBytes : Nat := 0
  /-- The steward waits for the last bursts, then resets the frame (R246). -/
  dying : Bool := false
  /-- A failure has been met: no further burst (R242). -/
  failing : Bool := false
  errSrc : Word := 0
  errDst : Word := 0
  evtDL : Word := 0
  evtErr : Word := 0
  deriving DecidableEq, Repr, Inhabited

/-! ### Event log (17 R407) -/

/-- One event-log entry. -/
structure Event where
  idx : Nat := 0
  sec : Word := 0
  frac : Nat := 0
  src : Nat := 0
  party : Nat := 0
  code : Text := []
  data : List Word := []
  deriving DecidableEq, Repr, Inhabited

/-! ### Sentinel (17) -/

/-- A tamper-log entry (R403). -/
structure TEntry where
  cause : Nat := 0
  detail : Nat := 0
  count : Nat := 0
  sec : Word := 0
  /-- Fraction as in the record header: bits 14:0 the fraction, bit 15 valid (R263). -/
  frac : Nat := 0
  start : Nat := 0
  seq : Nat := 0
  copied : Bool := false
  deriving DecidableEq, Repr, Inhabited

/-- Open holds by cause (R400). -/
structure Holds where
  vstby : Bool := false
  case_ : Bool := false
  mesh : Bool := false
  survey : Bool := false
  order : Bool := false
  deriving DecidableEq, Repr, Inhabited

/-- The sentinel's clock, monitors and tamper log (17). -/
structure Snt where
  /-- The RTC has been set since enrolment (R273). -/
  rtcSet : Bool := false
  rtcSec : Word := 0
  rtcFrac : Nat := 0
  rtcValid : Bool := false
  alarm : Word := 0
  fracShadow : Vector (Option Nat) 4 := Vector.replicate 4 none
  hold : Holds := {}
  tmpOpen : BitVec 4 := 0
  mesh : Nat := 0
  x32Fault : Bool := false
  rcFault : Bool := false
  temp : Int := 0
  tempRun : Nat := 0
  tempRunHigh : Bool := false
  tempOut : Bool := false
  vstbyMv : Nat := 0
  vstbyOk : Bool := true
  /-- DETAIL of a loss of VSTBY after which the sentinel has not powered up (R399). -/
  loss : Nat := 0
  /-- VSTBY was lost before the present start (slot 3 bit 6). -/
  vstbyLostStart : Bool := false
  tlog : Vector (Option TEntry) 64 := Vector.replicate 64 none
  tseq : Nat := 0
  tindex : Nat := 0
  overflowing : Bool := false
  /-- TAMPER leaves latched while the window is not live (R364). -/
  latched : List Nat := []
  saved : Option Saved := none
  /-- Fences kept in retention, and those of them made by order (R201). -/
  fences : Nat := 0
  fencesByOrder : Nat := 0
  deriving DecidableEq, Repr, Inhabited

end Sys2Proof.Machine
end

