-- ==== Sys2Proof/Machine/StPort.lean ====
section
/-! DEFINITION. The state of the port blocks and of the survey (16, 19). -/

namespace Sys2Proof.Machine

/-! ### CAN (19) -/

/-- One message buffer (R453): CTRL bits, ID, MASK, the word of IDE to DLC, data; `cancel` a CANCEL that waits for the
frame on the bus. -/
structure CanBuf where
  tx : Bool := false
  pending : Bool := false
  done : Bool := false
  lost : Bool := false
  oneshot : Bool := false
  cancel : Bool := false
  id : Word := 0
  mask : Word := 0
  fmt : Word := 0
  data : Vector Word 16 := Vector.replicate 16 0
  deriving DecidableEq, Repr, Inhabited

/-- One controller (R451, R452, R454): `onBus` the buffer whose frame is on the bus, `present` the partner value (R378). -/
structure Can where
  mode : Nat := 0
  autorec : Bool := false
  nbt : Word := 0
  dbt : Word := 0
  tdc : Word := 0
  tec : Nat := 0
  rxErr : Nat := 0
  busOff : Bool := false
  hold : Bool := false
  onBus : Option Nat := none
  present : Bool := false
  buf : Vector CanBuf 64 := Vector.replicate 64 {}
  deriving DecidableEq, Repr, Inhabited

/-! ### Card slots (R455 to R458) -/

/-- A running card transfer: bytes to send before it receives, or the answer-to-reset. -/
inductive CardXfer where
  | atr
  | send (n : Nat)
  | recv
  deriving DecidableEq, Repr, Inhabited

/-- A card session that waits for its card (R316): the line it answers, and, once the card's certificate has verified, the
certificate and the message M that the slot has sent to the card. -/
structure CardWait where
  ln : Ln
  asked : Option (Bytes × Bytes) := none
  deriving DecidableEq, Repr

/-- One card slot. -/
structure Slot where
  present : Bool := false
  st : Nat := 0
  status : Nat := 0
  classC : Bool := false
  cfg : Word := 0x01743F00
  timer : Word := 0
  sent : Nat := 0
  tx : List Byte := []
  rx : List Byte := []
  xfer : Option CardXfer := none
  atr : Bytes := []
  /-- Waiting 10 ms to activate at class B under AUTO (R456). -/
  retry : Bool := false
  /-- The steward holds the slot for a card session (R458). -/
  steward : Bool := false
  wait : Option CardWait := none
  deriving DecidableEq, Repr, Inhabited

/-! ### Sense lines (R459 to R462) -/

/-- One sense line. -/
structure Sense where
  cfg : Word := 0x001E4004
  fifo : List Word := []
  lost : Nat := 0
  count : Word := 0
  deriving DecidableEq, Repr, Inhabited

/-- The capture unit: CAP as last read, the mark, its shadows by core. -/
structure SenseUnit where
  cap : BitVec 31 := 0
  markSec : Word := 0
  markCap : BitVec 31 := 0
  shadow : Vector (Option (BitVec 31)) 4 := Vector.replicate 4 none
  line : Vector Sense 8 := Vector.replicate 8 {}
  deriving DecidableEq, Repr, Inhabited

/-! ### FEED outputs (R463 to R466) -/

/-- One output: current in 0.01 mA, RESULT and FAULT codes of OUT_STAT. -/
structure Feed where
  on : Bool := false
  latched : Bool := false
  fault : Nat := 0
  result : Nat := 0
  cur : Nat := 0
  deriving DecidableEq, Repr, Inhabited

/-! ### Serial ports (R467 to R469) -/

/-- One UART; FIFO entries are data with bit 8 parity and bit 9 framing error. -/
structure Uart where
  cfg : Word := 0
  div : Word := 0
  rx : List Word := []
  tx : List Byte := []
  brk : Bool := false
  ovr : Bool := false
  deriving DecidableEq, Repr, Inhabited

/-- One SPI master: `left` frames still to complete. -/
structure Spi where
  cfg : Word := 0
  stall : Nat := 0
  rx : List Word := []
  tx : List Word := []
  busy : Bool := false
  left : Nat := 0
  ended : Bool := false
  deriving DecidableEq, Repr, Inhabited

/-- The port blocks. -/
structure Ports where
  can : Vector Can 2 := Vector.replicate 2 {}
  card : Vector Slot 2 := Vector.replicate 2 {}
  sns : SenseUnit := {}
  feed : Vector Feed 8 := Vector.replicate 8 {}
  /-- The output whose signature burst runs, and the outputs it holds back (R373). -/
  burst : Option Nat := none
  heldOn : List Nat := []
  uart : Vector Uart 4 := Vector.replicate 4 {}
  spi : Vector Spi 2 := Vector.replicate 2 {}
  /-- Rates of SVC and HST as DIV × 16 (R469). -/
  svcDiv : Nat := 34722
  hstDiv : Nat := 34722
  deriving DecidableEq, Repr, Inhabited

/-! ### Survey (16) -/

/-- A channel's baseline (R380): value and window; a signature, or a cable profile, where the kind has one. -/
structure Baseline where
  value : Nat
  win : Nat
  sig : List Nat := []
  tdr : Option Tdr := none
  deriving DecidableEq, Repr, Inhabited

/-- One survey channel. `streak` counts consecutive measurements unlike its present verdict (R377). -/
structure SrvChan where
  value : Nat := 0
  status : Nat := 0
  base : Option Baseline := none
  dev : Bool := false
  cause : Nat := 0
  tamper : Bool := false
  devcount : Nat := 0
  streak : Nat := 0
  /-- Seconds of the latest tamper-log entry, and deviations since then that await the next one (R384). -/
  tampSec : Option Nat := none
  merged : Nat := 0
  deriving DecidableEq, Repr, Inhabited

/-- A cable's reflectometer: latest profile, acquisitions kept in the measurement under way. -/
structure TdrUnit where
  last : Option Tdr := none
  running : Bool := false
  kept : Nat := 0
  deriving DecidableEq, Repr, Inhabited

/-- A SET BASELINE whose cable measurements are still being made (R380): the channels, the tolerance, who ordered and where
the reply goes; the measurements so far, by channel. -/
structure BaseJob where
  chans : List Nat
  all : Bool
  tol : Option Nat
  src : Nat
  party : Nat
  dests : List Ln
  seen : List (Nat × Tdr)
  deriving DecidableEq, Repr, Inhabited

/-- The survey. -/
structure Srv where
  chan : Vector SrvChan 46 := Vector.replicate 46 {}
  tdr : Vector TdrUnit 10 := Vector.replicate 10 {}
  /-- Latest signature of each output since the start, and its distance (R373). -/
  sig : Vector (Option (List Nat)) 8 := Vector.replicate 8 none
  dist : Vector Nat 8 := Vector.replicate 8 0
  sigOut : Vector Bool 8 := Vector.replicate 8 false
  refBad : Bool := false
  jobs : List BaseJob := []
  /-- Identity of the verified neighbour on CHU and CHD: bytes 0 to 7 of its DEVICE_ID and the fuse-set code (R378). -/
  peer : Vector (Option (Bytes × Nat)) 2 := Vector.replicate 2 none
  peerBase : Vector (Option (Option (Bytes × Nat))) 2 := Vector.replicate 2 none
  decim : Nat := 0
  ovf : BitVec 8 := 0
  en : BitVec 8 := 0
  scans : Nat := 0
  fifo : Vector (List Word) 8 := Vector.replicate 8 []
  deriving DecidableEq, Repr, Inhabited

end Sys2Proof.Machine
end

