-- ==== Sys2Proof/Machine/StStore.lean ====
section
/-! DEFINITION. The state of the flash banks, of the record store and of the seal (11, 17). -/

namespace Sys2Proof.Machine

/-! ### Flash banks (R248 to R257) -/

/-- A command that a bank runs: addresses are within the bank. -/
inductive FlashOp where
  | program (a : Nat) (data : Bytes)
  | erase (sector : Nat)
  | blank (sector : Nat)
  | eraseAll
  deriving DecidableEq, Repr, Inhabited

/-- A step the steward has planned for a bank; `eraseIf` erases a sector that the blank check before it found not blank (R264). -/
inductive FlashStep where
  | op (o : FlashOp)
  | eraseIf (sector : Nat)
  /-- The steps before this one belong together: the steward goes on with what waits for them. -/
  | mark
  deriving DecidableEq, Repr, Inhabited

/-- One bank: its register frame and the command it runs. -/
structure Bank where
  keyed : Bool := false
  unlocked : Bool := false
  addr : Word := 0
  data : Vector Word 4 := Vector.replicate 4 0xFFFFFFFF
  err : Nat := 0
  blank : Bool := false
  failed : Bool := false
  busy : Option FlashOp := none
  /-- The command that runs belongs to a sequence of the steward. -/
  own : Bool := false
  lock : Vector Word 4 := Vector.replicate 4 0xFFFFFFFF
  /-- Steps of the steward's sequence still to run in this bank. -/
  plan : List FlashStep := []
  /-- The steward's command on FB0 or FB1 has failed once (E500 is for two failures, R308); its sequence has failed. -/
  again : Bool := false
  bad : Bool := false
  deriving DecidableEq, Repr, Inhabited

/-! ### Record store (R261 to R272) -/

/-- A record in the store: SEQ, physical sector, first unit, units. -/
structure RecPos where
  seq : Nat
  phys : Nat
  unit : Nat
  units : Nat
  deriving DecidableEq, Repr, Inhabited

/-- What an append is made for: a person's RECORD_APPEND (core, person, argument of the call), or the steward. -/
inductive RecFor where
  | call (core person : Nat) (arg : Word)
  | expire (phys : Nat)
  | recovery
  | companion
  | tamper (slots : List Nat)
  | none
  deriving DecidableEq, Repr, Inhabited

/-- A record that was due to the steward of itself, not to a caller nor to another append. -/
def RecFor.steward (w : RecFor) : Bool := match w with | .tamper _ => true | .none => true | _ => false

/-- A record due: kind, payload, for whom, attempts made (R270). -/
structure RecDue where
  kind : Nat
  payload : Bytes
  who : RecFor := .none
  tries : Nat := 0
  deriving DecidableEq, Repr, Inhabited

/-- How far the append at the head of the queue has come. -/
inductive AppStage where
  | opening | body | commit | ahead
  deriving DecidableEq, Repr, Inhabited

/-- The append under way: what, its position, its bytes. -/
structure AppRun where
  due : RecDue
  stage : AppStage
  pos : RecPos
  body : Bytes
  /-- A bank has reported a failed program of this append (R270). -/
  bad : Bool := false
  deriving DecidableEq, Repr, Inhabited

/-- The record store as the steward keeps it: the current sector (lap, l), whether it is open, the next unit, the newest SEQ
and the hash of the newest record, the records in the store oldest first. -/
structure Rec where
  /-- A sector has been opened since the device was made. -/
  any : Bool := false
  lap : Nat := 0
  l : Nat := 0
  isOpen : Bool := false
  unit : Nat := 1
  seq : Nat := 0
  hash : Bytes := []
  index : List RecPos := []
  recovered : Bool := false
  queue : List RecDue := []
  run : Option AppRun := none
  /-- The sector just opened still needs an EXPIRY record before the next one is erased (R264, R265). -/
  expireDue : Bool := false
  /-- The next append begins with a RECOVERY record for this position (R269, R270): the position, accepted or not. -/
  need : Option (RecPos × Bool) := none
  /-- Held records (R271), in retention, and how many were lost. -/
  held : List RecDue := []
  lostHeld : Nat := 0
  deriving DecidableEq, Repr, Inhabited

/-- The flash. -/
structure Flc where
  bank : Vector Bank 4 := Vector.replicate 4 {}
  deriving DecidableEq, Repr, Inhabited

/-! ### Seal (R411 to R420) -/

/-- Types of a key slot, in the coding of SEAL_SLOTk. -/
inductive KeyType where
  | empty | aes128 | aes256 | hmac | p256 | p384 | fixed
  deriving DecidableEq, Repr, Inhabited

/-- One key slot. -/
structure Key where
  ty : KeyType := .empty
  origin : Nat := 0
  key : Bytes := []
  deriving DecidableEq, Repr, Inhabited

/-- A job under way: its descriptor's address and words, the status it already has earned. -/
structure SealRun where
  desc : Nat
  words : List Word
  /-- Status and output length once the engine has served the job. -/
  res : Option (Nat × Nat) := none
  deriving DecidableEq, Repr, Inhabited

/-- A person's side of the seal. -/
structure SealP where
  slot : Vector Key 4 := Vector.replicate 4 {}
  job : Option SealRun := none
  done : Nat := 0
  refused : Bool := false
  last : Nat := 0
  deriving DecidableEq, Repr, Inhabited

/-- The seal. -/
structure SealSt where
  p : Vector SealP 7 := Vector.replicate 7 {}
  rngFail : Bool := false
  zeroized : Bool := false
  rnd : Nat := 0
  /-- Challenge of the debug port (R423), and whether debug is open. -/
  challenge : Bytes := []
  debugOpen : Bool := false
  deriving DecidableEq, Repr, Inhabited

end Sys2Proof.Machine
end

