-- ==== Sys2Proof/Machine/StSteward.lean ====
section
/-! DEFINITION. The state the steward keeps for bundles, Orune lines, sessions, mailboxes and decision slots (12, 13, 14). -/

namespace Sys2Proof.Machine

/-! ### Bundles (12) -/

/-- The staging states in the coding of mirror slot 6 (R282, R296). -/
inductive Staging where
  | empty | receiving | staged | pendingAll | pendingOne | activating | done
  deriving DecidableEq, Repr, Inhabited

/-- One entry of the staging directory (R280); targets by number. -/
inductive DirEnt where
  | open_ (len stager : Nat)
  | closed (hash : Bytes)
  | activate (all : Bool)
  | copyBegin (t : Nat)
  | copyEnd (t : Nat)
  | result (t code : Nat)
  | discard
  deriving DecidableEq, Repr, Inhabited

/-- A region header of FB0 (R290), with the interface words the steward needs of an image in force (R286). -/
structure Img where
  len : Nat := 0
  sv : Nat := 0
  display : Nat := 0
  hash : Bytes := []
  provides : List Nat := []
  requires : List Nat := []
  deriving DecidableEq, Repr, Inhabited

/-- A ONE copy under way outside a start (R290): its target, the steps its part of FB0 needs in all, whether the read-back is done and
the region header is being programmed. -/
structure Copying where
  target : Nat
  total : Nat
  header : Bool := false
  deriving DecidableEq, Repr, Inhabited

/-- Staging and activation. -/
structure Bun where
  st : Staging := .empty
  stager : Nat := 0
  total : Nat := 0
  written : Nat := 0
  id : Nat := 0
  result : Vector Nat 7 := Vector.replicate 7 0
  progress : Nat := 0
  /-- A pending ALL activation was ordered by a party; the failing check made the bundle never activable (R283). -/
  spoiled : Bool := false
  superseded : List Nat := []
  dir : List DirEnt := []
  /-- How many entries of the directory stand in FB1; the others are being programmed (R280). -/
  dirDone : Nat := 0
  copying : Option Copying := none
  /-- The person under self-check and its core (R291). -/
  check : Option (Nat × Nat) := none
  img : Vector (Option Img) 7 := Vector.replicate 7 none
  patch : Option Word := none
  /-- Persons that an ALL activation has made alive (R23), a bit for each. -/
  allAlive : Nat := 0
  /-- Targets with a new result since the start (UPDATE_TARGETS, R367). -/
  fresh : Nat := 0
  deriving DecidableEq, Repr, Inhabited

/-! ### Control objects and orders (R324 to R327, R338) -/

/-- A control object (R338). -/
inductive Obj where
  | lifecycle | run (p : Nat) | mode (p : Nat) | fence (c : Nat) | feed (n : Nat) | bundle | rtc | charter
  | baseline (ch : Nat)
  deriving DecidableEq, Repr, Inhabited

/-- What an order would do. -/
inductive Act where
  | hold | release | commission | enrol | retire | confirm
  | start (p : Nat) | stop (p : Nat) | restart (p : Nat) | resume (p : Nat)
  | promote (p pr : Nat) | demote (p c : Nat)
  | fence (c : Nat) | lift (c : Nat) (pass : Option Bool)
  | feed (n : Nat) (on : Bool)
  | discard | openB (len : Nat) | writeB (at_ : Nat) (data : Bytes) | closeB | activate (now rst : Bool)
  | setTime (sec frac : Nat)
  | installCharter (raw : Bytes)
  | baseline (chans : List Nat) (all : Bool) (tol : Option Nat)
  deriving DecidableEq, Repr, Inhabited

/-- Where an order's outcome goes: a line, a steward call (core, person, service, argument), a cell, OUT_STAT. -/
inductive ReplyTo where
  | line (ln : Ln)
  | call (core person svc : Nat) (arg : Word)
  | cell (n : Nat)
  | out (n : Nat)
  deriving DecidableEq, Repr, Inhabited

/-- What waits for steps of the steward on FB1 to end: an entry of the directory, the answer to orders of one effect (a WRITE at a
place, a replacement charter, another), the start that ACTIVATE with RESTART orders. -/
inductive FbDone where
  | entry
  | answer (dests : List ReplyTo) (t : Text)
  | write (at_ : Nat) (dests : List ReplyTo) (t : Text)
  | charter (dests : List ReplyTo) (t : Text)
  | restart
  deriving DecidableEq, Repr, Inhabited

/-- An order collected for a decision slot: arrival number, source and party as CONFLICT_BY, rank. -/
structure Order where
  arr : Nat
  src : Nat
  party : Nat
  rank : Nat
  act : Act
  objs : List Obj
  dest : ReplyTo
  deriving DecidableEq, Repr, Inhabited

/-- A pending retirement: party, carrier source, arrival of the order; cancelled by (source, party) (R28, R334). -/
structure Retire where
  party : Nat
  car : Carrier
  slot : Nat
  cancelled : Option (Nat × Nat) := none
  deriving DecidableEq, Repr

/-! ### Carriers and sessions (R298 to R318) -/

/-- An open session: party 1 to 6, 7 workshop, 8 blank; the card slot of a card session. -/
structure Sess where
  party : Nat
  card : Option Nat := none
  deriving DecidableEq, Repr, Inhabited

/-- An outstanding tag (R309): the tag, the node its line is for (0 this one), whether its line carried a suffix, and whether
it closes a session on another node. -/
structure OutTag where
  tag : Option Nat
  node : Nat
  sfx : Bool
  closes : Bool := false
  /-- The line is an INSTALL CHARTER: its answer discards the charter buffer (R332). -/
  installs : Bool := false
  deriving DecidableEq, Repr, Inhabited

/-- A carrier toward this node: session, challenge, failed proofs, outstanding tags with the node each is for, input under
way, transmitted text. -/
structure CarSt where
  car : Carrier
  sess : Option Sess := none
  chal : Option (SessArg × Bytes) := none
  /-- Seconds counted when the challenge was given (R314). -/
  chalAt : Nat := 0
  fails : Nat := 0
  locked : Bool := false
  tags : List OutTag := []
  chBuf : Bytes := []
  inp : Text := []
  long : Bool := false
  bad : Bool := false
  /-- A character of the line found no room in the window's FIFO (R360). -/
  lost : Bool := false
  afterCr : Bool := false
  /-- A break has come, and no CR since (R469). -/
  broken : Bool := false
  lastSfx : Bool := false
  out : Text := []
  /-- Nodes of the chain toward which a session stands that was opened from here (R317). -/
  remote : List Nat := []
  deriving DecidableEq, Repr

/-- Something of a line has arrived. -/
def CarSt.begun (q : CarSt) : Bool := !q.inp.isEmpty || q.long || q.bad || q.lost

/-- An entry of a mailbox (R319). -/
structure Mail where
  kind : Nat
  car : Nat
  sender : Nat
  ref : Nat
  text : Text
  deriving DecidableEq, Repr, Inhabited

/-- A mailbox (R320, R321): entries waiting, references of incoming orders still open, counts. -/
structure Mbox where
  mail : List Mail := []
  refs : List (Nat × Ln) := []
  nextRef : Nat := 1
  lost : Nat := 0
  svc : Nat := 0
  res : Nat := 0
  calls : Word := 0
  deriving DecidableEq, Repr, Inhabited

/-- Orune as a whole. -/
structure Oru where
  cars : List CarSt := []
  mbox : Vector Mbox 7 := Vector.replicate 7 {}
  slot : Word := 0
  orders : List Order := []
  /-- LIFT orders that wait for their self-test, promotions that wait for their hand-over: core or person, where to answer. -/
  awaitCore : List (Nat × ReplyTo) := []
  awaitMove : List (Nat × ReplyTo) := []
  /-- What waits for steps on FB1, in their order (R253, R281). -/
  flash : List FbDone := []
  /-- READ RECORD SEQ lines that wait for a bank: the SEQ, whether the FB3 copy is asked for (R272). -/
  awaitRead : List (Ln × Nat × Bool) := []
  deriving DecidableEq, Repr, Inhabited

end Sys2Proof.Machine
end

