-- ==== Sys2Proof/Machine/StChain.lean ====
section
/-! DEFINITION. The state of the chain: ports, segment keys, roles, members (18). -/

namespace Sys2Proof.Machine

/-- Port states in the coding of CHN_PORT. -/
inductive LinkSt where
  | down | hello | keying | up | fault
  deriving DecidableEq, Repr, Inhabited

/-- Roles in the coding of mirror slot 5. -/
inductive Role where
  | unnumbered | head | node | refused
  deriving DecidableEq, Repr, Inhabited

/-- One chain port (R426 to R437). `nonce` is that of the latest HELLO while an exchange runs, `eph` the private scalar of
the CAP sent in it; `sent` holds the frames put on the segment, oldest first, `gaps` counts the GAPs. -/
structure ChPort where
  st : LinkSt := .down
  cause : Nat := 0
  nonce : Bytes := []
  peerNonce : Bytes := []
  eph : Nat := 0
  capSent : Bool := false
  /-- DEVICE_ID and fuse-set code of the verified peer, and what else its capability word said. -/
  peer : Option (Bytes × Nat) := none
  peerEph : Bytes := []
  peerRole : Nat := 0
  epoch : Nat := 0
  keyDown : Bytes := []
  keyUp : Bytes := []
  prevDown : Bytes := []
  prevUp : Bytes := []
  /-- Last SEGSEQ accepted in this epoch and in the one before. -/
  rxLast : Option Nat := none
  prevLast : Option Nat := none
  tx : Nat := 0
  txAtKey : Nat := 0
  rxAtKey : Nat := 0
  tagFails : Nat := 0
  stored : List Frame := []
  sent : List Frame := []
  gaps : Nat := 0
  deriving DecidableEq, Repr, Inhabited

/-- A member of the chain: position; for the head, the side it is on and how far out; identity where it is known. -/
structure ChMem where
  pos : Nat
  dist : Nat := 0
  down : Bool := true
  id : Option (Bytes × Nat) := none
  deriving DecidableEq, Repr, Inhabited

/-- The chain as this node knows it: members in member order, the head first. -/
structure Chn where
  port : Vector ChPort 2 := Vector.replicate 2 {}
  role : Role := .unnumbered
  pos : Nat := 0
  /-- The best key seen; on a numbered node its head's. -/
  best : Option Bytes := none
  /-- This node's own CLAIM came back to it, and no link of it has failed since: the segments form a loop (R439). -/
  looped : Bool := false
  members : List ChMem := []
  topoSeq : Nat := 0
  ring : Bool := false
  rerouted : Bool := false
  brk : Nat := 0
  frames : Nat := 0
  lateAbort : Nat := 0
  drop : Nat := 0
  replay : Nat := 0
  keyFails : Nat := 0
  deriving DecidableEq, Repr, Inhabited

end Sys2Proof.Machine
end

