-- ==== Sys2Proof/Machine/State.lean ====
section
/-! DEFINITION. The state of the device, its state after reset, and the reasons a command can stop. -/

namespace Sys2Proof.Machine

/-- Reasons the model would stop with a fault. No command of this hardware has one: every fault of the spec is a next
state, so the type has no constructor. -/
inductive Fault where
  deriving DecidableEq, Repr

/-- Reasons the model refuses a command. -/
inductive Refusal where
  /-- Raised by an arm of exec that has no meaning yet; safe, since nothing is claimed of such a command. -/
  | notModelled (mnemonic : String)
  deriving DecidableEq, Repr

/-- The steward's own state (01, 08, 12, 13, 17). -/
structure Stw where
  charter : Option Charter := none
  persons : Vector Person 7 := Vector.replicate 7 {}
  elog : List Event := []
  elogNext : Nat := 0
  /-- The lifecycle state last shown in mirror slot 1 (R26). -/
  lifeShown : Nat := 1
  /-- A retire order waits for its confirmation (R28). -/
  retire : Option Retire := none
  /-- The charter slot of FB1 in force, and whether the other holds an accepted replacement (R19, R248). -/
  chSlot : Nat := 0
  chPending : Bool := false
  deriving DecidableEq, Repr, Inhabited

/-- The state of the device. -/
structure State where
  pending : List Instr := []
  free : Nat := 0
  secs : Nat := 0
  isl : Isl := {}
  gates : Gates := {}
  fuses : Fuses := {}
  stw : Stw := {}
  wit : Wit := {}
  cores : Vector Core 4 := Vector.replicate 4 {}
  mem : Mem := {}
  cus : Cus := {}
  win : Win := {}
  snt : Snt := {}
  cic : Cic := {}
  mov : Vector Chan 16 := Vector.replicate 16 {}
  /-- The channel that issued last, by PRIO (R234). -/
  movTurn : Vector Nat 4 := Vector.replicate 4 15
  port : Ports := {}
  srv : Srv := {}
  flc : Flc := {}
  store : Rec := {}
  seals : SealSt := {}
  bun : Bun := {}
  oru : Oru := {}
  chn : Chn := {}
  deriving DecidableEq, Repr, Inhabited

/-- The device at t0 of a start whose cause is POWER_ON, before start step 1. -/
def State.reset : State := {}

end Sys2Proof.Machine
end

