-- ==== Sys2Proof/Machine/Ops.lean ====
section
/-! DEFINITION. The operations every family shares: memories, regions and owners, memory errors, tree leaves, mirror slots, the event log, charter rows. -/

namespace Sys2Proof.Machine

/-! ### Byte memories in canonical form -/

/-- Read one byte; an unlisted address reads `d`. -/
def cellGet (d : Byte) (m : List Host.Cell) (a : Nat) : Byte :=
  match m with
  | [] => d
  | (k, v) :: r => if k = a then v else cellGet d r a

/-- Write one byte and keep the list rising, without entries equal to `d`. -/
def cellSet (d : Byte) (m : List Host.Cell) (a : Nat) (v : Byte) : List Host.Cell :=
  match m with
  | [] => if v = d then [] else [(a, v)]
  | (k, x) :: r =>
    if a < k then (if v = d then (k, x) :: r else (a, v) :: (k, x) :: r)
    else if a = k then (if v = d then r else (a, v) :: r)
    else (k, x) :: cellSet d r a v

/-- Every address lies above a bound and no entry equals `d`, the addresses rising. -/
def cellsAbove (d : Byte) (b : Nat) (m : List Host.Cell) : Bool :=
  match m with
  | [] => true
  | (k, v) :: r => decide (b ≤ k) && decide (v ≠ d) && cellsAbove d (k + 1) r

/-- The canonical form of a byte memory whose unlisted addresses read `d`. -/
def Memory.wf (d : Byte) (m : List Host.Cell) : Bool := cellsAbove d 0 m

/-- Write bytes at rising addresses. -/
def cellsPut (d : Byte) (m : List Host.Cell) (a : Nat) (bs : Bytes) : List Host.Cell :=
  match bs with
  | [] => m
  | b :: r => cellsPut d (cellSet d m a b) (a + 1) r

/-- Read n bytes. -/
def cellsRead (d : Byte) (m : List Host.Cell) (a n : Nat) : Bytes :=
  (List.range n).map fun i => cellGet d m (a + i)

/-- Forget every byte from a, n bytes long: they read `d` again. -/
def cellsClear (m : List Host.Cell) (a n : Nat) : List Host.Cell :=
  m.filter fun c => decide (c.1 < a) || decide (a + n ≤ c.1)

/-- Write the listed cells over a memory. -/
def cellsOver (d : Byte) (m : List Host.Cell) (cs : List Host.Cell) : List Host.Cell :=
  cs.foldl (fun t c => cellSet d t c.1 c.2) m

/-! ### Regions (R141) -/

/-- What an address of the fabric map names (R141). -/
inductive Region where
  | imem | dmem (bank : Nat) | page (n : Nat) | flash | calib | device (frame : Nat) | unmapped
  deriving DecidableEq, Repr

/-- The region of an address (R141). -/
def regionOf (a : Nat) : Region :=
  if a < 0x20000 then .imem
  else if 0x100000 ≤ a ∧ a < 0x140000 then .dmem ((a - 0x100000) / 0x8000)
  else if 0x10000000 ≤ a ∧ a < 0x10400000 then .page ((a - 0x10000000) / 0x1000)
  else if 0x20000000 ≤ a ∧ a < 0x20800000 then .flash
  else if 0x21000000 ≤ a ∧ a < 0x21000200 then .calib
  else if 0x30000000 ≤ a ∧ a < 0x30110000 then .device ((a - 0x30000000) / 0x1000)
  else .unmapped

/-- Start of a bank and of a page. -/
def bankBase (b : Nat) : Nat := 0x100000 + b * 0x8000
def pageBase (n : Nat) : Nat := 0x10000000 + n * 0x1000

/-! ### Updates of one core and one context -/

/-- A core of the state. -/
def State.core (s : State) (c : Nat) : Core := vget s.cores c

/-- Change one core. -/
def setCore (c : Nat) (f : Core → Core) (s : State) : State := { s with cores := vmod s.cores c f }

/-- A person's context on a core. -/
def State.ctx (s : State) (c p : Nat) : Ctx := vget (s.core c).ctx p

/-- Change a person's context on a core. -/
def setCtx (c p : Nat) (f : Ctx → Ctx) (s : State) : State :=
  setCore c (fun k => { k with ctx := vmod k.ctx p f }) s

/-- The pair of a core, and the other core of that pair. -/
def pairOf (c : Nat) : Nat := c / 2
def buddy (c : Nat) : Nat := if c % 2 = 0 then c + 1 else c - 1

/-- The number of a pair. -/
def pairNo (pr : Pair) : Nat := match pr with | .a => 0 | .b => 1

/-- A bit of a small mask. -/
def maskBit (m i : Nat) : Bool := m / 2 ^ i % 2 = 1

/-! ### Charter rows and persons -/

/-- The charter row of a person; an absent row without a charter. -/
def State.row (s : State) (p : Nat) : Row :=
  match s.stw.charter with
  | none => {}
  | some ch => vget ch.rows p

/-- The person is present in the charter in force. -/
def State.present (s : State) (p : Nat) : Bool := decide (1 ≤ p) && decide (p ≤ 6) && decide ((s.row p).present = 1)

/-- The steward's record of a person. -/
def State.person (s : State) (p : Nat) : Person := vget s.stw.persons p

/-- Change the steward's record of a person. -/
def setPerson (p : Nat) (f : Person → Person) (s : State) : State :=
  { s with stw := { s.stw with persons := vmod s.stw.persons p f } }

/-- A right of a person (R10). -/
def State.right (s : State) (p bit : Nat) : Bool := s.present p && maskBit (s.row p).rights bit

/-- The rank of a party: steward 0, persons by their row, a workshop session 2 (R14, R16). -/
def State.rank (s : State) (p : Nat) : Nat := if p = 0 then 0 else if p = 7 then 2 else (s.row p).rank

/-- The persons by rank, the highest first (R16). -/
def State.byRank (s : State) : List Nat :=
  ((List.range 7).filterMap fun r =>
    (List.range 7).find? fun p => s.present p && decide ((s.row p).rank = r)).filter fun p => decide (1 ≤ p)

/-- The modes of a person's row (R17). -/
def Row.witness (r : Row) : Bool := maskBit r.modes 0
def Row.constTime (r : Row) : Bool := maskBit r.modes 1
def Row.precise (r : Row) : Bool := maskBit r.modes 2
def Row.rsMode (r : Row) : Nat := r.modes / 8 % 4

/-- The person is running, and on a given core. -/
def State.running (s : State) (p : Nat) : Bool := decide ((s.person p).run = .running)
def State.placedOn (s : State) (p c : Nat) : Bool := s.running p && maskBit (s.person p).cores c

/-- The person under self-check (R291). -/
def State.checking (s : State) (p : Nat) : Bool := match s.bun.check with | some q => decide (q.1 = p) | none => false

/-- The persons placed on a core, by rank; a person under self-check has its core alone (R291). -/
def State.placed (s : State) (c : Nat) : List Nat :=
  s.byRank.filter fun p => s.placedOn p c &&
    match s.bun.check with | some q => decide (q.2 ≠ c) || decide (q.1 = p) | none => true

/-- A cores mask that is a whole pair: the person runs witnessed on it (R188). -/
def maskPair (m : Nat) : Option Nat := if m = 3 then some 0 else if m = 12 then some 1 else none

/-- The cores of a mask. -/
def maskCores (m : Nat) : List Nat := (List.range 4).filter fun c => maskBit m c

/-- The person runs witnessed (R188): its row's cores are one pair and it is run so. -/
def State.witnessOn (s : State) (p : Nat) : Option Nat :=
  if (s.person p).wasWitness then maskPair (s.person p).cores else none

/-- The witness person of a pair, 0 for none (WIT_PAIR): the one its lead runs, where several share it. -/
def State.pairPerson (s : State) (pr : Nat) : Nat :=
  (((s.core (2 * pr)).cur :: List.range 7).find? fun p => s.running p && decide (s.witnessOn p = some pr)).getD 0

/-! ### GF_H: leaves, details, steward slots (15) -/

/-- Send a transaction toward HOST (R35). -/
def toHost (t : HTxn) (s : State) : State :=
  { s with gates := { s.gates with gfH := s.gates.gfH ++ [t] } }

/-- Set a leaf, with the cause details that go with it (R364, R367); before step 7 of a start a TAMPER leaf is latched. -/
def setLeafD (b l : Nat) (ds : List (Nat × Nat)) (s : State) : State :=
  if s.isl.step < 7 then
    (if b = 0 ∧ !s.snt.latched.contains l then { s with snt := { s.snt with latched := s.snt.latched ++ [l] } } else s)
  else toHost (.leaf b l ds) s

/-- Set a leaf. -/
def setLeaf (b l : Nat) (s : State) : State := setLeafD b l [] s

/-- The number a slot's next PUBLISH gets: 0xFFFF is followed by 1 (R346). -/
def nextSeq (q : Nat) : Nat := if q = 0xFFFF then 1 else q + 1

/-- FABRIC forwards a slot and gives it its number (R346). -/
def publishSlot (n : Nat) (v : BitVec 64) (s : State) : State :=
  let q := nextSeq (vget s.win.seqs n)
  toHost (.slot n v q) { s with win := { s.win with seqs := vset s.win.seqs n q } }

/-! ### Event log (R407) -/

/-- Enter an event: source and party as CONFLICT_BY, a code, up to five data words. -/
def logEvent (src party : Nat) (code : String) (data : List Word) (s : State) : State :=
  let e : Event := { idx := s.stw.elogNext, sec := s.snt.rtcSec, frac := s.snt.rtcFrac, src := src, party := party,
                     code := code.toList, data := data.take 5 }
  { s with stw := { s.stw with elog := (s.stw.elog ++ [e]).drop (s.stw.elog.length + 1 - 1024),
                               elogNext := s.stw.elogNext + 1 } }

/-! ### Ownership (R143, R144) -/

/-- The owner code of a number. -/
def ownerCode (p : Nat) : BitVec 4 := BitVec.ofNat 4 p

/-- The owner of a page and of a bank. -/
def State.pageOwner (s : State) (n : Nat) : BitVec 4 := vget s.cus.page n
def State.bankOwner (s : State) (c b : Nat) : BitVec 4 := vget (vget s.cus.bank c) b

/-- The code window of a person on a core. -/
def State.inWindow (s : State) (c p a n : Nat) : Bool :=
  decide ((s.ctx c p).codeBase.toNat ≤ a) && decide (a + n ≤ (s.ctx c p).codeLimit.toNat)

/-- A person owns what an address names, for a read of n bytes (R143, R81). -/
def State.mayRead (s : State) (c p a n : Nat) : Bool :=
  match regionOf a with
  | .imem => s.inWindow c p a n
  | .dmem b => s.bankOwner c b == ownerCode p
  | .page k => s.pageOwner k == ownerCode p
  | .flash => false
  | .calib => true
  | .device f => vget s.cus.frame f == ownerCode p || vget s.cus.frame f == 0xE
  | .unmapped => false

/-- A person owns what an address names, for a write (R143: never a shared-read object). -/
def State.mayWrite (s : State) (c p a : Nat) : Bool :=
  match regionOf a with
  | .imem => false
  | .dmem b => s.bankOwner c b == ownerCode p
  | .page k => s.pageOwner k == ownerCode p
  | .flash => false
  | .calib => false
  | .device f => vget s.cus.frame f == ownerCode p
  | .unmapped => false

/-- An object that is being zeroed or waits for it (R155). -/
def State.zeroing (s : State) (c a : Nat) : Bool :=
  match regionOf a with
  | .dmem b => (vget s.cus.bankZero c).contains b
  | .page k => s.cus.pageZero.contains k
  | _ => false

/-- Pages and banks a person holds (R147). -/
def State.pagesHeld (s : State) (p : Nat) : Nat := (s.cus.page.toList.filter fun o => o == ownerCode p).length
def State.banksHeld (s : State) (p : Nat) : Nat :=
  ((List.range 4).map fun c => ((vget s.cus.bank c).toList.filter fun o => o == ownerCode p).length).sum

/-- Set owners. -/
def setPageOwner (n : Nat) (o : BitVec 4) (s : State) : State :=
  { s with cus := { s.cus with page := vset s.cus.page n o } }
def setBankOwner (c b : Nat) (o : BitVec 4) (s : State) : State :=
  { s with cus := { s.cus with bank := vmod s.cus.bank c fun v => vset v b o } }

/-- Queue an object for zeroing (R154). -/
def queuePage (n : Nat) (s : State) : State :=
  { s with cus := { s.cus with pageZero := if s.cus.pageZero.contains n then s.cus.pageZero else s.cus.pageZero ++ [n] } }
def queueBank (c b : Nat) (s : State) : State :=
  { s with cus := { s.cus with bankZero := vmod s.cus.bankZero c fun l => if l.contains b then l else l ++ [b] } }

/-- Drop the lines of a page from every shared-read cache (R148, R169). -/
def dropLine (line : Nat) (k : Core) : Core :=
  { k with cache := vmod k.cache (line % 128) fun l => l.filter fun x => decide (x ≠ line) }
def dropPage (n : Nat) (k : Core) : Core :=
  { k with cache := k.cache.map fun l => l.filter fun x => decide (x / 64 ≠ pageBase n / 4096) }
/-- The core's cache holds a line, and the set after a use of it: newest first, four ways (03). -/
def cacheHit (k : Core) (line : Nat) : Bool := (vget k.cache (line % 128)).contains line
def cacheUse (line : Nat) (k : Core) : Core :=
  { k with cache := vmod k.cache (line % 128) fun l => (line :: l.filter fun x => decide (x ≠ line)).take 4 }
def mapCores (f : Nat → Core → Core) (s : State) : State :=
  { s with cores := Vector.ofFn fun i : Fin 4 => f i.val (vget s.cores i.val) }

/-! ### A core and the register frames (R449) -/

/-- The core's current person owns a register frame, so its commands reach the block (R143, R449). -/
def ownsFrame (s : State) (c f : Nat) : Bool :=
  let p := (s.core c).cur
  decide (p ≠ 0) && s.running p && (vget s.cus.frame f == ownerCode p)

/-- The word a read gave goes to the core. -/
def toCore (c : Nat) (r : Word × State) : State := setCore c (fun k => { k with lastDev := r.1 }) r.2

/-! ### The order of GF_A and GF_B (R36) -/

/-- A candidate, or a withdrawal, reaches its core (R213); it ends a WAIT (R116), of a witness person on both cores (R191). -/
def candLands (t : CandTxn) (s : State) : State :=
  let s := setCore t.core (fun k => { k with cand := vset k.cand t.person t.src }) s
  let wake := fun (c : Nat) (u : State) =>
    if t.src ≠ 0 ∧ (u.ctx c t.person).waiting then setCtx c t.person (fun x => { x with waiting := false }) u else u
  let s := wake t.core s
  if (s.witnessOn t.person).isSome then wake (t.core + 1) s else s

/-- What waits on the gate toward a pair crosses before what is sent over it now (R36): deliveries of the CIC, which complete OFFLINE
toward an island that is closed or off (R38). -/
def gateFlush (pr : Nat) (s : State) : State :=
  let l := vget s.gates.fPair pr
  let s := { s with gates := { s.gates with fPair := vset s.gates.fPair pr [] } }
  if vget s.gates.closed pr = true ∨ vget s.isl.pairSt pr ≠ .run then
    forAll l (fun t u => { u with cic := { u.cic with sent := vmod u.cic.sent t.core fun v => vset v t.person 0 } }) s
  else forAll l candLands s

/-- Invalidations of some lines are sent to the cores, but the writer, whose cache may hold one: over their gates, in order (R36,
R169). -/
def gateLines (writer : Option Nat) (lines : List Nat) (s : State) : State :=
  forAll [0, 1] (fun pr t =>
    let holds := fun c => decide (writer ≠ some c) && lines.any fun l => cacheHit (t.core c) l
    if !(vget t.gates.fPair pr).isEmpty && (holds (2 * pr) || holds (2 * pr + 1)) then gateFlush pr t else t) s

/-! ### Violations (R150, R151, R156, R159) -/

/-- CUS_LAST: kind, core, person, with the address. -/
def noteViolation (kind core person addr : Nat) (s : State) : State :=
  { s with cus := { s.cus with last := w32 (kind * 32 + core * 8 + person), lastAddr := w32 addr } }

/-- A foreign access: counter, leaf, CUS_LAST (R156, R157, R159), event log. -/
def foreignAccess (kind core person addr : Nat) (s : State) : State :=
  let s := { s with cus := { s.cus with foreignAccess := satInc s.cus.foreignAccess 0xFFFF } }
  logEvent 5 person "FOREIGN_ACCESS" [w32 addr] (setLeaf 10 2 (noteViolation kind core person addr s))

/-- A foreign free or give (R150). -/
def foreignFree (kind core person addr : Nat) (s : State) : State :=
  let s := { s with cus := { s.cus with foreignFree := satInc s.cus.foreignFree 0xFFFF } }
  logEvent 5 person "FOREIGN_FREE" [w32 addr] (setLeaf 10 1 (noteViolation kind core person addr s))

/-- A double free (R151). -/
def doubleFree (core person addr : Nat) (s : State) : State :=
  let s := { s with cus := { s.cus with doubleFree := satInc s.cus.doubleFree 0xFFFF } }
  logEvent 5 person "DOUBLE_FREE" [w32 addr] (setLeaf 10 0 (noteViolation 7 core person addr s))

/-! ### Memory errors (R162, R163) -/

/-- Errors that arose in memory words, unseen until the word is read. -/
def addUpsets (up : List Upset) (s : State) : State := { s with mem := { s.mem with ecc := s.mem.ecc ++ up } }

/-- The bytes of an ECC word: 8 in shared SRAM, 4 in local memory, a unit of 16 in flash (R162, R248). -/
def eccSize (space : Nat) : Nat := if space = 0 then 8 else if space = 3 then 16 else 4

/-- The ECC word an address lies in. -/
def eccWord (space a : Nat) : Nat := a / eccSize space

/-- A space that all cores share. -/
def eccShared (space : Nat) : Bool := decide (space = 0) || decide (space = 3)

/-- An error stands in the word of an address. -/
def upsetHits (u : Upset) (space c a : Nat) : Bool :=
  decide (u.space = space) && (eccShared space || decide (u.core.val = c)) &&
    decide (eccWord space u.addr = eccWord space a)

/-- Reading n bytes meets an uncorrectable word. -/
def eccBad (space c a n : Nat) (s : State) : Bool :=
  s.mem.ecc.any fun u => u.bad && (List.range n).any fun i => upsetHits u space c (a + i)

/-- The words of n bytes in which errors of one kind stand, the lowest first. -/
def eccWords (bad : Bool) (space c a n : Nat) (s : State) : List Nat :=
  (s.mem.ecc.filter fun u => u.bad == bad && (List.range n).any fun i => upsetHits u space c (a + i)).foldl
    (fun l u => insertNat (eccWord space u.addr) l) []

/-- An uncorrectable word is found: it is counted, its address kept, its line dropped from every cache and the leaf set (R162). -/
def eccFound (space c w : Nat) (s : State) : State :=
  let a := w * eccSize space
  let s := { s with cus := { s.cus with eccUncorr := satInc s.cus.eccUncorr 0xFFFF, eccAddr := w32 a,
                                        eccCore := if space = 0 then none else some c } }
  setLeaf 10 3 (if space = 0 then mapCores (fun _ k => dropLine (a / 64) k) (gateLines none [a / 64] s) else s)

/-- What finding the errors in n bytes does, word by word (R162): single-bit errors are corrected, written back and counted;
uncorrectable words are found, the lowest first. -/
def eccRead (space c a n : Nat) (s : State) : State :=
  let bad := eccWords true space c a n s
  let soft := (eccWords false space c a n s).filter fun w => !bad.contains w
  let gone := fun (u : Upset) => !u.bad && soft.contains (eccWord space u.addr) && upsetHits u space c u.addr
  let s := { s with mem := { s.mem with ecc := s.mem.ecc.filter fun u => !gone u },
                    cus := { s.cus with eccCorr := Nat.min 0xFFFF (s.cus.eccCorr + soft.length) } }
  forAll bad (fun w t => eccFound space c w t) s

/-- A store of n bytes clears the errors of the words it covers whole (R163). -/
def eccOver (space c a n : Nat) (s : State) : State :=
  let w := eccSize space
  { s with mem := { s.mem with ecc := s.mem.ecc.filter fun u =>
      !(decide (u.space = space) && (eccShared space || decide (u.core.val = c)) &&
        decide (a ≤ u.addr / w * w) && decide (u.addr / w * w + w ≤ a + n)) } }

/-! ### Shared SRAM and local memory -/

/-- Bytes of shared SRAM. -/
def State.sramRead (s : State) (a n : Nat) : Bytes := cellsRead 0 s.mem.sram a n

/-- Write bytes into shared SRAM. -/
def sramWrite (a : Nat) (bs : Bytes) (s : State) : State :=
  { s with mem := { s.mem with sram := cellsPut 0 s.mem.sram a bs } }

/-- Bytes of a core's local memories. -/
def Core.localRead (k : Core) (a n : Nat) : Bytes :=
  if a < 0x20000 then cellsRead 0 k.imem a n else cellsRead 0 k.dmem a n

/-- Write bytes into a core's data memory. -/
def dmemWrite (c a : Nat) (bs : Bytes) (s : State) : State :=
  setCore c (fun k => { k with dmem := cellsPut 0 k.dmem a bs }) s

/-- A word of local memory. -/
def Core.word (k : Core) (a : Nat) : Word := w32 (leNat (k.localRead a 4))

/-- A mover channel is active: MOV_STATUS would show RUNNING, HELD or STOPPING (R247). -/
def Chan.active (q : Chan) : Bool := decide (q.st = .running) || decide (q.st = .stopping)

/-! ### Arrival numbers (R37) -/

/-- FABRIC takes a transaction and stamps it: the number of those before it since step 1; a 32-bit counter shows it. -/
def stampArrival (s : State) : State := { s with isl := { s.isl with arrival := s.isl.arrival + 1 } }

/-! ### NAP (R45, R46) -/

/-- A wake source of NAP arises: a CIC source, a host write, a character of an Orune line (R45). -/
def napStir (s : State) : State :=
  if s.isl.power = .nap then { s with isl := { s.isl with napWake := true } } else s

/-- FABRIC is back at 600 MHz and the steward has left WAIT (R46). -/
def napEnd (s : State) : State :=
  if s.isl.power = .nap then { s with isl := { s.isl with power := .run, fabricFast := true, napWake := false } } else s

/-! ### Free values -/

/-- Advance the counter the free values are drawn at. -/
def bumpFree (s : State) : State := { s with free := s.free + 1 }

end Sys2Proof.Machine
end

