-- ==== Sys2Proof/Machine/Memory.lean ====
section
/-! DEFINITION. Writes that commit in shared SRAM (R163, R168, R169), and accesses the steward and the seal make on a person's behalf (R158, R159). -/

namespace Sys2Proof.Machine

/-- The bytes of one ECC word commit: whole words clear an error, parts of a word that cannot be read are discarded (R163). -/
def commitWord (w : Nat) (cs : List Host.Cell) (s : State) : State :=
  let mine := cs.filter fun q => decide (q.1 / 8 = w)
  let whole := (List.range 8).all fun i => mine.any fun q => decide (q.1 = 8 * w + i)
  if !whole && eccBad 0 0 (8 * w) 8 s then eccRead 0 0 (8 * w) 8 s
  else
    let s := if whole then eccOver 0 0 (8 * w) 8 s else eccRead 0 0 (8 * w) 8 s
    { s with mem := { s.mem with sram := cellsOver 0 s.mem.sram mine } }

/-- Bytes commit in shared SRAM: every cache but the writer's drops the lines first (R169). -/
def commitCells (writer : Option Nat) (cs : List Host.Cell) (s : State) : State :=
  let lines := dedup (cs.map fun q => q.1 / 64)
  let s := mapCores (fun c k => if writer = some c then k else forAll lines dropLine k) (gateLines writer lines s)
  forAll (dedup (cs.map fun q => q.1 / 8)) (fun w t => commitWord w cs t) s

/-- A run of bytes as cells. -/
def asCells (a : Nat) (bs : Bytes) : List Host.Cell := bs.zipIdx.map fun q => (a + q.2, q.1)

/-- Write a run of bytes of shared SRAM for the seal, a mover or the steward. -/
def sramPut (a : Nat) (bs : Bytes) (s : State) : State := commitCells none (asCells a bs) s

/-- A partly written word of a run cannot be read, so that part is discarded. -/
def putMeetsBad (s : State) (a n : Nat) : Bool :=
  decide (n ≠ 0) && ((decide (a % 8 ≠ 0) && eccBad 0 0 a 1 s) || (decide ((a + n) % 8 ≠ 0) && eccBad 0 0 (a + n - 1) 1 s))

/-- Where a person's buffer lies. -/
inductive BufAns where
  | outside | foreign (a : Nat) | ok
  deriving DecidableEq, Repr

/-- The first byte of each page a run touches. -/
def pagesOf (a n : Nat) : List Nat :=
  if n = 0 then [a] else (List.range ((a % 4096 + n + 4095) / 4096)).map fun i => if i = 0 then a else (a / 4096 + i) * 4096

/-- Every page of a buffer is a shared SRAM page the person owns (R159). -/
def bufCheck (s : State) (p a n : Nat) : BufAns :=
  let ps := pagesOf a n
  let shared := fun x => match regionOf x with | .page _ => true | _ => false
  let mine := fun x => match regionOf x with | .page k => s.pageOwner k == ownerCode p | _ => false
  if !ps.all shared then .outside
  else match ps.find? fun x => !mine x with
    | some x => .foreign x
    | none => .ok

/-- Some page of a buffer is being zeroed: an access waits for it (R155). -/
def bufZeroing (s : State) (a n : Nat) : Bool :=
  (pagesOf a n).any fun x => match regionOf x with | .page k => s.cus.pageZero.contains k | _ => false

/-- What a read on a person's behalf gives: bytes, or a word that cannot be read. -/
def bufRead (a n : Nat) (s : State) : Option Bytes × State :=
  if eccBad 0 0 a n s then (none, eccRead 0 0 a n s) else (some (s.sramRead a n), eccRead 0 0 a n s)

end Sys2Proof.Machine
end

