-- ==== Sys2Proof/Machine/Custody.lean ====
section
/-! DEFINITION. The custody controller: CLAIM, GIVE and FREE (R148 to R151), zeroing (R152 to R155), reclamation (R160). -/

namespace Sys2Proof.Machine

/-- What a custody address names (R149 check 1). -/
inductive CusObj where
  | page (n : Nat)
  | bank (n : Nat)
  deriving DecidableEq, Repr

/-- The object an address names, if any. -/
def cusObj (addr : Nat) : Option CusObj :=
  match regionOf addr with
  | .page n => some (.page n)
  | .dmem b => some (.bank b)
  | _ => none

/-- The cores whose banks a bank operation acts on: both of the pair for a witness person (R148, R192). -/
def cusCores (s : State) (c p : Nat) : List Nat :=
  if (s.witnessOn p).isSome then [pairOf c * 2, pairOf c * 2 + 1] else [c]

/-- The owners of an object: one code, or one for each core. -/
def cusOwners (s : State) (cs : List Nat) (o : CusObj) : List (BitVec 4) :=
  match o with
  | .page n => [s.pageOwner n]
  | .bank b => cs.map fun c => s.bankOwner c b

/-- The quota has no room for what the operation adds (R149 check 7). -/
def overQuota (s : State) (p : Nat) (o : CusObj) (k : Nat) : Bool :=
  match o with
  | .page _ => decide ((s.row p).pageQuota < s.pagesHeld p + 1)
  | .bank _ => decide ((s.row p).bankQuota < s.banksHeld p + k)

/-- A recipient can take the object (R149 check 6). -/
def canReceive (s : State) (cs : List Nat) (o : CusObj) (q : Nat) : Bool :=
  decide (1 ≤ q) && decide (q ≤ 6) && s.present q && decide ((s.person q).run ≠ .dead) &&
  match o with
  | .page _ => true
  | .bank _ => cs.all fun c => maskBit (s.person q).cores c

/-- How the controller answers an operation (R149). -/
inductive CusAns where
  | fault | status (n : Nat) | done
  deriving DecidableEq, Repr

/-- The checks of R149 in their order; for a bank of a witness person the lowest row that applies to either bank. -/
def cusCheck (s : State) (k : CusKind) (c p addr q : Nat) : CusAns :=
  match cusObj addr with
  | none => .status 6
  | some o =>
    let cs := cusCores s c p
    let ow := cusOwners s cs o
    let me := ownerCode p
    if k = .free ∧ ow.any (fun x => x == 0xF) then .status 1
    else if k ≠ .claim ∧ ow.any (fun x => x != me) then .fault
    else if (k = .claim ∧ ow.any fun x => x == me) ∨ (k = .give ∧ q = p) then .status 2
    else if k = .claim ∧ ow.any (fun x => x != 0xF) then .status 3
    else if k = .give ∧ !canReceive s cs o q then .status 5
    else if k ≠ .free ∧ overQuota s (if k = .give then q else p) o cs.length then .status 4
    else .done

/-- A zeroing queue the operation needs is full (R154). -/
def cusQueueFull (s : State) (k : CusKind) (c p addr : Nat) : Bool :=
  match k, cusObj addr with
  | .claim, _ => false
  | _, none => false
  | _, some (.page _) => decide (16 ≤ s.cus.pageZero.length)
  | _, some (.bank _) => (cusCores s c p).any fun d => decide (8 ≤ (vget s.cus.bankZero d).length)

/-- Give an object its new owner on every core concerned; leaving an owner queues it for zeroing, and its lines leave the
caches (R148, R152). -/
def cusMove (o : CusObj) (cs : List Nat) (code : BitVec 4) (zero : Bool) (s : State) : State :=
  match o with
  | .page n =>
    let s := setPageOwner n code s
    let s := if zero then queuePage n s else s
    mapCores (fun _ k => dropPage n k) (gateLines none ((List.range 64).map fun i => pageBase n / 64 + i) s)
  | .bank b => forAll cs (fun c t => (if zero then queueBank c b else id) (setBankOwner c b code t)) s

/-- An operation that passed every check (R149 row 8). -/
def cusDo (k : CusKind) (c p addr q : Nat) (s : State) : State :=
  match cusObj addr with
  | none => s
  | some o =>
    let cs := cusCores s c p
    match k with
    | .claim => cusMove o cs (ownerCode p) false s
    | .give => cusMove o cs (ownerCode q) true s
    | .free => cusMove o cs 0xF true s

/-- What an answer does to the device, beside the status written to wd (R150, R151). -/
def cusEffect (a : CusAns) (k : CusKind) (c p addr q : Nat) (s : State) : State :=
  match a with
  | .fault => foreignFree (if k = .give then 3 else 2) c p addr s
  | .status 1 => doubleFree c p addr s
  | .status _ => s
  | .done => cusDo k c p addr q s

/-- The status written to wd (R149). -/
def cusStatus (a : CusAns) : Nat := match a with | .status n => n | _ => 0

/-! ### Zeroing (R152, R154) -/

/-- The page engine finishes its object: contents and errors are gone, a page being reclaimed becomes FREE. -/
def pageZeroed (n : Nat) (s : State) : State :=
  let s := { s with mem := { s.mem with sram := cellsClear s.mem.sram (pageBase n) 0x1000 },
                    cus := { s.cus with pageZero := s.cus.pageZero.filter fun x => decide (x ≠ n) } }
  let s := eccOver 0 0 (pageBase n) 0x1000 s
  if s.pageOwner n = 0 then setPageOwner n 0xF s else s

/-- A bank engine finishes its object. -/
def bankZeroed (c b : Nat) (s : State) : State :=
  let s := setCore c (fun k => { k with dmem := cellsClear k.dmem (bankBase b) 0x8000 }) s
  let s := { s with cus := { s.cus with bankZero := vmod s.cus.bankZero c fun l => l.filter fun x => decide (x ≠ b) } }
  let s := eccOver 1 c (bankBase b) 0x8000 s
  if s.bankOwner c b = 0 then setBankOwner c b 0xF s else s

/-! ### Reclamation (R160, R161) -/

/-- Every page and bank of a person gets owner 0 and is queued for zeroing (R160). -/
def reclaim (p : Nat) (s : State) : State :=
  let me := ownerCode p
  let s := forNat 1024 (fun n t => if t.pageOwner n = me then cusMove (.page n) [] 0 true t else t) s
  forNat 4 (fun c t => forNat 8 (fun b u => if u.bankOwner c b = me then cusMove (.bank b) [c] 0 true u else u) t) s

/-- Every bank of a core's person or free gets owner 0 and is queued, for an island that powers off (R161). -/
def reclaimCore (c : Nat) (s : State) : State :=
  forNat 8 (fun b t => if t.bankOwner c b = 0xF then t else cusMove (.bank b) [c] 0 true t) s

end Sys2Proof.Machine
end

