-- ==== Sys2Proof/Machine/Cic.lean ====
section
/-! DEFINITION. The core interrupt controller (R210 to R228): sensing, eligibility, candidates, claims, completions, its registers. -/

namespace Sys2Proof.Machine

/-- A source that exists (R210): reserved numbers are never pending, card sources never on AN (R4). -/
def srcExists (part : Part) (n : Nat) : Bool :=
  decide (1 ≤ n) && decide (n ≤ 255) && !(decide (92 ≤ n) && decide (n ≤ 96)) && !(decide (111 ≤ n) && decide (n ≤ 127)) &&
    !(decide (part = .an) && decide (49 ≤ n) && decide (n ≤ 56))

/-- The level sources (R210). -/
def srcLevel (n : Nat) : Bool :=
  (25 ≤ n && n ≤ 32) || (37 ≤ n && n ≤ 40) || (45 ≤ n && n ≤ 48) || n == 49 || n == 51 || n == 53 || n == 55 ||
    (57 ≤ n && n ≤ 64) || (79 ≤ n && n ≤ 90) || (97 ≤ n && n ≤ 110)

/-- A source, and a change to one. -/
def State.src (s : State) (n : Nat) : Src := vget s.cic.src n
def setSrc (n : Nat) (f : Src → Src) (s : State) : State := { s with cic := { s.cic with src := vmod s.cic.src n f } }

/-- The person that owns a source (R211); 0 the steward. -/
def State.srcOwner (s : State) (n : Nat) : Nat :=
  ((List.range 7).find? fun p => s.present p && (s.row p).irqMap / 2 ^ n % 2 == 1).getD 0

/-- The running priority of a person on a core (R220): of the priorities its active sources were claimed with, which a write to
CIC_CFG does not change. -/
def runPri (s : State) (c p : Nat) : Nat :=
  (List.range 256).foldl (fun m n =>
    if (s.src n).active = some c ∧ s.srcOwner n = p then Nat.max m (s.src n).actPri else m) 0

/-- The sources of a person active on a core (CIC_RUNPRI). -/
def activeCount (s : State) (c p : Nat) : Nat :=
  ((List.range 256).filter fun n => decide ((s.src n).active = some c) && decide (s.srcOwner n = p)).length

/-- The cores a person runs on; a witness pair counts as its lead (R224). -/
def runCores (s : State) (p : Nat) : List Nat :=
  if !s.running p then []
  else match s.witnessOn p with
    | some pr => [2 * pr]
    | none => (List.range 4).filter fun c => maskBit (s.person p).cores c

/-- TARGET names a core; either core of a witness pair counts for the pair (R224). -/
def targetNames (s : State) (p t c : Nat) : Bool :=
  maskBit t c || ((s.witnessOn p).isSome && maskBit t (c + 1))

/-- The cores a source goes to, with the retargeting of R225. -/
def srcCores (s : State) (n p : Nat) : List Nat :=
  let t := (s.src n).target
  let run := runCores s p
  if t = 0 then []
  else match run.filter fun c => targetNames s p t c with
    | [] => run.take 1
    | l => l

/-- A source of the person is delivered to the core under R225 (CIC_RUNPRI.RETARGET). -/
def retargeted (s : State) (c p : Nat) : Bool :=
  (List.range 256).any fun n => decide (s.srcOwner n = p) && decide ((s.src n).target ≠ 0) &&
    !((runCores s p).any fun d => targetNames s p (s.src n).target d) && (srcCores s n p).contains c

/-- HOLDOFF blocks a source on a core (R221, R222). -/
def holdBlocks (s : State) (n c : Nat) : Bool :=
  let q := s.src n
  q.holding && !maskBit q.passed c && !(q.bypass && (s.ctx c (s.core c).cur).waiting)

/-- A source would be eligible for a core but for HOLDOFF (R213 and the list before it). -/
def wanted (s : State) (n c : Nat) : Bool :=
  let q := s.src n
  let p := s.srcOwner n
  q.pend && q.active.isNone && decide (1 ≤ q.priority) && decide (p ≠ 0) && (srcCores s n p).contains c &&
    decide (vget (vget s.cic.thresh p) c < q.priority) && decide (runPri s c p < q.priority)

/-- A source is eligible for a core (R213 and the list before it). -/
def eligible (s : State) (n c : Nat) : Bool := wanted s n c && !holdBlocks s n c

/-- The candidate of a person on a core: highest priority, lowest number (R213); 0 none. -/
def candidate (s : State) (c p : Nat) : Nat :=
  (List.range 256).foldl (fun m n =>
    if s.srcOwner n = p ∧ eligible s n c ∧ (m = 0 ∨ (s.src m).priority < (s.src n).priority) then n else m) 0

/-- A core can take deliveries: its island is powered and it is not fenced (R38, R201, R214). -/
def deliverable (s : State) (c : Nat) : Bool :=
  let st := vget s.isl.pairSt (pairOf c)
  !(s.core c).fenced && decide (st ≠ .off) && decide (st ≠ .fusedOff)

/-- Send a candidate or withdrawal to a core (R214). -/
def sendCand (c p n : Nat) (s : State) : State :=
  let s := { s with cic := { s.cic with sent := vmod s.cic.sent c fun v => vset v p n },
                    gates := { s.gates with fPair := vmod s.gates.fPair (pairOf c) fun l => l ++ [{ core := c, person := p, src := n }] } }
  if (s.src n).holding then setSrc n (fun q => { q with passed := if maskBit q.passed c then q.passed else q.passed + 2 ^ c }) s else s

/-- A source that is withdrawn from a core for a reason other than HOLDOFF is no longer exempt from HOLDOFF there (R222). -/
def endPassed (s : State) : State :=
  forNat 256 (fun n t =>
    if (t.src n).passed = 0 then t
    else forNat 4 (fun c u =>
      if maskBit (u.src n).passed c && !wanted u n c then setSrc n (fun q => { q with passed := q.passed - 2 ^ c }) u else u) t) s

/-- Recompute the candidates and send what has changed (R213, R214): a core is sent the candidate of the person it runs. -/
def cicUpdate (s : State) : State :=
  forNat 4 (fun c t =>
    forAll [1, 2, 3, 4, 5, 6] (fun p u =>
      let now := if deliverable u c && u.placedOn p c && decide ((u.core c).cur = p) then candidate u c p else 0
      if vget (vget u.cic.sent c) p = now then u else sendCand c p now u) t) (endPassed s)

/-- The sources whose events cross GP_F or GS_F (R35): those of PORT, and the RTC alarm. -/
def srcCrosses (n : Nat) : Bool := (17 ≤ n && n ≤ 68) || (79 ≤ n && n ≤ 91)

/-- FABRIC stamps a source event that comes over a gate (R37). -/
def stampSource (n : Nat) (s : State) : State := if srcCrosses n then stampArrival s else s

/-- A pulse, or a rising edge of a level, at a source (R212, R219). -/
def srcEdge (n : Nat) (s : State) : State :=
  if !srcExists s.fuses.part n then s
  else cicUpdate (napStir <| setSrc n (fun q =>
    let again := q.pend || q.active.isSome
    { q with pend := true, edges := if again then satInc q.edges 255 else q.edges }) s)

/-- A pulse source pulses (R212). -/
def cicPulse (n : Nat) (s : State) : State := if srcLevel n then s else srcEdge n (stampSource n s)

/-- The level of a level source takes a value (R212): in EDGE mode a rise sets it pending; FILTERED waits for the filter. -/
def cicLevel (n : Nat) (b : Bool) (s : State) : State :=
  if !srcLevel n ∨ !srcExists s.fuses.part n then s
  else
    let q := s.src n
    let s := setSrc n (fun q => { q with raw := b, moved := q.moved || b != q.level }) (if q.raw = b then s else stampSource n s)
    if b && !q.raw && !q.filtered then srcEdge n s else s

/-- The filtered level changes, once the raw level has shown the new value; it may have changed back by then (R212). While not active
the pending bit of a FILTERED source equals it; a rise of it while pending or active counts (R219). -/
def filterChange (n : Nat) (b : Bool) (s : State) : State :=
  let q := s.src n
  if !srcLevel n ∨ !srcExists s.fuses.part n ∨ q.level = b ∨ !q.moved then s
  else cicUpdate (napStir <| setSrc n (fun q =>
    { q with level := b, moved := q.raw != b, pend := if q.filtered && q.active.isNone then b else q.pend,
             edges := if b && q.filtered && (q.pend || q.active.isSome) then satInc q.edges 255 else q.edges }) s)

/-- SOURCE_EVENT (R212). -/
def execSourceEvent (n : Byte) (e : SrcEdge) (s : State) : Host.Outcome State Fault Refusal :=
  .next (match e with
    | .pulse => cicPulse n.toNat s
    | .rise => cicLevel n.toNat true s
    | .fall => cicLevel n.toNat false s)

/-- FILTER_LEVEL_CHANGE (R212). -/
def execFilterLevelChange (n : Byte) (level : Bool) (s : State) : Host.Outcome State Fault Refusal :=
  .next (filterChange n.toNat level s)

/-- A claim by a core for a person: the word CIC_CLAIM returns, and its effect (R216). -/
def claim (c p : Nat) (s : State) : Word × State :=
  let n := candidate s c p
  if n = 0 then (0, s)
  else
    let q := s.src n
    (w32 (q.edges * 0x10000 + q.priority * 0x100 + n),
     cicUpdate (setSrc n (fun q =>
       { q with active := some c, actPri := q.priority, pend := false, edges := 0, holding := decide (q.holdoff ≠ 0), passed := 0 }) s))

/-- A stray completion: counted and logged (R218). -/
def stray (c p n : Nat) (s : State) : State :=
  let s := { s with cic := { s.cic with stray := vmod s.cic.stray p fun v => vmod v c fun k => satInc k 0xFFFF } }
  logEvent 5 p "STRAY_COMPLETION" [w32 n, w32 c] s

/-- A completion by a core for a person (R218, R219). -/
def complete (c p : Nat) (v : Word) (s : State) : State :=
  let n := v.toNat % 256
  if n = 0 then s
  else if s.srcOwner n ≠ p ∨ (s.src n).active ≠ some c then stray c p n s
  else cicUpdate (setSrc n (fun q =>
    { q with active := none, pend := if q.filtered then q.level else q.pend }) s)

/-- CIC_SETCLR: set a soft source, clear any own source (R223). -/
def setClear (p : Nat) (clear : Bool) (n : Nat) (s : State) : State :=
  if s.srcOwner n ≠ p ∨ n = 0 then s
  else if clear then
    cicUpdate (setSrc n (fun q => { q with pend := q.filtered && q.level && q.active.isNone, passed := 0 }) s)
  else if 128 ≤ n then srcEdge n s
  else s

/-- The register side of a core for its current person: the core claims, completes, sets. -/
def leadOf (s : State) (c p : Nat) : Nat := if (s.witnessOn p).isSome then pairOf c * 2 else c

/-- The trailer of a witness person: of the pair's accesses it sends none (R189). -/
def trails (s : State) (c : Nat) : Bool := (s.witnessOn (s.core c).cur).isSome && decide (c % 2 = 1)

/-- CIC_CLAIM (R216): the word goes to the core; a pair's lead claims, and the trailer receives the same word (R189, R191, R224). -/
def execCicClaim (core : Fin 4) (s : State) : Host.Outcome State Fault Refusal :=
  let c := core.val
  let p := (s.core c).cur
  .next (if s.isl.power = .nap ∨ trails s c then s
    else
      let r := claim c p s
      let put := setCore c (fun k => { k with lastDev := r.1 }) r.2
      if (s.witnessOn p).isSome then setCore (c + 1) (fun k => { k with lastDev := r.1 }) put else put)

/-- CIC_COMPLETE (R218). -/
def execCicComplete (core : Fin 4) (v : Word) (s : State) : Host.Outcome State Fault Refusal :=
  .next (if trails s core.val then s else complete core.val (s.core core.val).cur v s)

/-- CIC_SET (R223). -/
def execCicSet (core : Fin 4) (n : Byte) (s : State) : Host.Outcome State Fault Refusal :=
  .next (if trails s core.val then s else setClear (s.core core.val).cur false n.toNat s)

/-- CIC_CLEAR (R223). -/
def execCicClear (core : Fin 4) (n : Byte) (s : State) : Host.Outcome State Fault Refusal :=
  .next (if trails s core.val then s else setClear (s.core core.val).cur true n.toNat s)

/-- HOLDOFF_EXPIRY: the HOLDOFF of a source ends (R221). -/
def execHoldoffExpiry (n : Byte) (s : State) : Host.Outcome State Fault Refusal :=
  .next (cicUpdate (setSrc n.toNat (fun q => { q with holding := false, passed := 0 }) s))

/-- The reset configuration of a source. -/
def srcReset (q : Src) : Src :=
  { priority := 0, target := 0, filtered := false, fclk := false, fcount := 1, holdoff := 0, bypass := false,
    pend := false, active := none, edges := 0, raw := q.raw, level := q.level, moved := q.moved, actPri := 0, holding := false, passed := 0 }

/-- A person restarts or is DEAD: its sources, thresholds and stray counts return to reset (R226). -/
def cicReset (p : Nat) (s : State) : State :=
  let s := forNat 256 (fun n t => if n ≠ 0 ∧ t.srcOwner n = p then setSrc n srcReset t else t) s
  cicUpdate { s with cic := { s.cic with thresh := vset s.cic.thresh p (Vector.replicate 4 0),
                                         stray := vset s.cic.stray p (Vector.replicate 4 0) } }

/-- A hand-over moves what is active to the target core (R226). -/
def cicMove (p src dst : Nat) (s : State) : State :=
  cicUpdate (forNat 256 (fun n t =>
    if t.srcOwner n = p ∧ (t.src n).active = some src then setSrc n (fun q => { q with active := some dst }) t else t) s)

/-! ### The CIC block (09) -/

/-- TARGET bits of cores the part has (R2). -/
def coreMask (s : State) : Nat := if s.fuses.part = .an then 3 else 15

/-- CIC_CFG of a source as a word. -/
def cfgWord (s : State) (n : Nat) : Word :=
  let q := s.src n
  w32 (q.fcount * 0x10000 + bitN q.fclk * 0x1000 + bitN (srcLevel n) * 0x200 + bitN q.filtered * 0x100 +
    (q.target &&& coreMask s) * 16 + q.priority)

/-- A word of 32 source bits. -/
def srcBits (s : State) (p k : Nat) (f : Src → Bool) : Word :=
  w32 ((List.range 32).foldl (fun m i =>
    let n := 32 * k + i
    if n ≠ 0 ∧ s.srcOwner n = p ∧ f (s.src n) then m + 2 ^ i else m) 0)

/-- Read a register of frame p of the CIC block by core c. -/
def cicRead (c p off : Nat) (s : State) : Word × State :=
  if p = 0 then
    (if off = 0 then w32 (0xFF + 0x100 * bitN s.cic.restored + 0x200 * bitN s.cic.discarded) else 0, s)
  else
    let c := leadOf s c p
    if off = 0x000 then claim c p s
    else if off = 0x008 then (w32 (vget (vget s.cic.thresh p) c), s)
    else if off = 0x00C then
      (w32 (activeCount s c p * 0x10000 + bitN (retargeted s c p) * 0x100 + runPri s c p), s)
    else if 0x020 ≤ off ∧ off < 0x030 then (w32 (vget (vget s.cic.stray p) ((off - 0x20) / 4)), s)
    else if 0x040 ≤ off ∧ off < 0x060 then (srcBits s p ((off - 0x40) / 4) fun q => q.pend, s)
    else if 0x060 ≤ off ∧ off < 0x080 then (srcBits s p ((off - 0x60) / 4) fun q => q.active.isSome, s)
    else if 0x808 ≤ off ∧ off < 0x1000 then
      let n := (off - 0x800) / 8
      if s.srcOwner n ≠ p then (0, s)
      else if off % 8 = 0 then (cfgWord s n, s)
      else (w32 (bitN (s.src n).bypass * 0x20000 + (s.src n).holdoff), s)
    else (0, s)

/-- Write a register of frame p of the CIC block by core c. -/
def cicWrite (c p off : Nat) (v : Word) (s : State) : State :=
  if p = 0 then s
  else
    let c := leadOf s c p
    if off = 0x004 then complete c p v s
    else if off = 0x008 then
      cicUpdate { s with cic := { s.cic with thresh := vmod s.cic.thresh p fun t => vset t c (bits v 3 0) } }
    else if off = 0x010 then setClear p (v.getLsbD 31) (bits v 7 0) s
    else if 0x808 ≤ off ∧ off < 0x1000 then
      let n := (off - 0x800) / 8
      if s.srcOwner n ≠ p then s
      else if off % 8 = 0 then
        cicUpdate (setSrc n (fun q =>
          let fl := v.getLsbD 8 && srcLevel n
          { q with priority := bits v 3 0, target := bits v 7 4 &&& coreMask s, filtered := fl,
                   fclk := v.getLsbD 12, fcount := if bits v 25 16 = 0 then 1 else bits v 25 16,
                   pend := if fl && q.active.isNone then q.level else q.pend }) s)
      else cicUpdate (setSrc n (fun q => { q with bypass := v.getLsbD 17, holdoff := bits v 15 0 }) s)
    else s

end Sys2Proof.Machine
end

