-- ==== Sys2Proof/Config.lean ====
section
/-! DEFINITION. What the spec leaves to the single part: its secrets, its calibration row, and the free values. Nothing here has a body. -/

namespace Sys2Proof

/-- The values of fields that the spec leaves open, one for each reading of the counter State.free (assumption 9). -/
opaque Config.free : Nat → Nat

/-- The device root of the physically unclonable function, as a number below 2^256 (R408). -/
opaque Config.root : Nat

/-- The vendor signing key and the vendor enrolment key, 97 bytes each (R409). -/
opaque Config.vendorKey : Nat → Byte
opaque Config.enrolKey : Nat → Byte

/-- The coordinates and trims of the calibration row, which vendor test writes (R256). -/
opaque Config.calib : Nat → Byte

/-- The bytes of the random source and of the random values the steward makes (R419). -/
opaque Config.random : Nat → Byte

/-- The steward's ROM version shown in mirror slot 7 and in READ IDENTITY. -/
opaque Config.romVersion : Nat

/-- Which interface words that name the steward the ROM provides (R276, R286): the spec lists none. -/
opaque Config.romMeets : Nat → Bool

end Sys2Proof
end

