-- ==== Sys2Proof/Machine/Sha.lean ====
section
/-! DEFINITION. SHA-256, SHA-384, HMAC, HKDF and CRC-32 over byte strings (R256, R263, R408, R416, R417). -/

namespace Sys2Proof.Machine

/-! ### The constants: fractional parts of roots of the first primes -/

/-- The first 80 primes. -/
def primes : List Nat :=
  [2, 3, 5, 7, 11, 13, 17, 19, 23, 29, 31, 37, 41, 43, 47, 53, 59, 61, 67, 71, 73, 79, 83, 89, 97, 101, 103, 107, 109, 113,
   127, 131, 137, 139, 149, 151, 157, 163, 167, 173] ++
  [179, 181, 191, 193, 197, 199, 211, 223, 227, 229, 233, 239, 241, 251, 257, 263, 269, 271, 277, 281, 283, 293, 307, 311,
   313, 317, 331, 337, 347, 349, 353, 359, 367, 373, 379, 383, 389, 397, 401, 409]

/-- The largest k with k^e at most n, by bits from b - 1 down. -/
def rootBits (e n b acc : Nat) : Nat :=
  match b with
  | 0 => acc
  | j + 1 => if (acc + 2 ^ j) ^ e ≤ n then rootBits e n j (acc + 2 ^ j) else rootBits e n j acc

/-- The first w bits of the fractional part of the e-th root of q. -/
def fracRoot (e w q : Nat) : Nat := rootBits e (q * 2 ^ (e * w)) (w + 5) 0 % 2 ^ w

/-- Round constants of SHA-256 and of SHA-384. -/
def shaK32 : List Nat := (primes.take 64).map (fracRoot 3 32)
def shaK64 : List Nat := primes.map (fracRoot 3 64)

/-! ### The compression of both hashes, over words of w bits -/

/-- Rotate right by k. -/
def rotR (w x k : Nat) : Nat := x / 2 ^ k + x % 2 ^ k * 2 ^ (w - k)

/-- The sigma functions: three rotations, or two and a shift. -/
def sig3 (w a b c x : Nat) : Nat := rotR w x a ^^^ rotR w x b ^^^ rotR w x c
def sig2 (w a b c x : Nat) : Nat := rotR w x a ^^^ rotR w x b ^^^ (x / 2 ^ c)

/-- Words of w bits from bytes. -/
def shaWords (n : Nat) (bs : Bytes) (k : Nat) : List Nat :=
  match k with
  | 0 => []
  | j + 1 => beNat (bs.take n) :: shaWords n (bs.drop n) j

/-- Extend the schedule, newest word first. -/
def shaSched (w : Nat) (s0 s1 : Nat → Nat) (k : Nat) (rev : List Nat) : List Nat :=
  match k with
  | 0 => rev
  | j + 1 =>
    let t := (s1 (rev.getD 1 0) + rev.getD 6 0 + s0 (rev.getD 14 0) + rev.getD 15 0) % 2 ^ w
    shaSched w s0 s1 j (t :: rev)

/-- One round. -/
def shaRound (w : Nat) (b0 b1 : Nat → Nat) (v : List Nat) (kw : Nat) : List Nat :=
  match v with
  | [a, b, c, d, e, f, g, h] =>
    let m := 2 ^ w
    let ch := (e &&& f) ^^^ ((m - 1 - e) &&& g)
    let mj := (a &&& b) ^^^ (a &&& c) ^^^ (b &&& c)
    let t1 := h + b1 e + ch + kw
    [(t1 + b0 a + mj) % m, a, b, c, (d + t1) % m, e, f, g]
  | _ => v

/-- The parameters of a hash: word bits, rounds, constants, initial value. -/
structure Sha where
  w : Nat
  ks : List Nat
  iv : List Nat
  b0 : Nat → Nat
  b1 : Nat → Nat
  s0 : Nat → Nat
  s1 : Nat → Nat
  out : Nat

/-- SHA-256. -/
def sha256P : Sha :=
  { w := 32, ks := shaK32, iv := (primes.take 8).map (fracRoot 2 32), b0 := sig3 32 2 13 22, b1 := sig3 32 6 11 25,
    s0 := sig2 32 7 18 3, s1 := sig2 32 17 19 10, out := 32 }

/-- SHA-384: roots of the ninth to the sixteenth prime. -/
def sha384P : Sha :=
  { w := 64, ks := shaK64, iv := ((primes.drop 8).take 8).map (fracRoot 2 64), b0 := sig3 64 28 34 39,
    b1 := sig3 64 14 18 41, s0 := sig2 64 1 8 7, s1 := sig2 64 19 61 6, out := 48 }

/-- One block. -/
def shaBlock (h : Sha) (v : List Nat) (blk : Bytes) : List Nat :=
  let ws := (shaSched h.w h.s0 h.s1 (h.ks.length - 16) (shaWords (h.w / 8) blk 16).reverse).reverse
  let r := (List.zipWith (· + ·) h.ks ws).foldl (shaRound h.w h.b0 h.b1) v
  List.zipWith (fun a b => (a + b) % 2 ^ h.w) v r

/-- All blocks. -/
def shaBlocks (h : Sha) (k : Nat) (v : List Nat) (bs : Bytes) : List Nat :=
  match k with
  | 0 => v
  | j + 1 => shaBlocks h j (shaBlock h v (bs.take (2 * h.w))) (bs.drop (2 * h.w))

/-- The hash of a byte string. -/
def shaHash (h : Sha) (bs : Bytes) : Bytes :=
  let blk := 2 * h.w
  let lenBytes := h.w / 4
  let z := (blk - (bs.length + 1 + lenBytes) % blk) % blk
  let m := bs ++ (0x80 : Byte) :: List.replicate z 0 ++ beBytes lenBytes (8 * bs.length)
  ((shaBlocks h (m.length / blk) h.iv m).flatMap (beBytes (h.w / 8))).take h.out

def sha256 (bs : Bytes) : Bytes := shaHash sha256P bs
def sha384 (bs : Bytes) : Bytes := shaHash sha384P bs

/-! ### HMAC and HKDF -/

/-- HMAC. -/
def hmac (h : Sha) (key msg : Bytes) : Bytes :=
  let blk := 2 * h.w
  let k := padTo blk (if blk < key.length then shaHash h key else key)
  shaHash h (k.map (· ^^^ 0x5C) ++ shaHash h (k.map (· ^^^ 0x36) ++ msg))

/-- The expand step of HKDF: t the block before, i its number. -/
def hkdfBlocks (h : Sha) (prk info t : Bytes) (i n : Nat) : Bytes :=
  match n with
  | 0 => []
  | j + 1 =>
    let u := hmac h prk (t ++ info ++ [BitVec.ofNat 8 i])
    u ++ hkdfBlocks h prk info u (i + 1) j

/-- HKDF (RFC 5869): an empty salt is the hash's length of zeros. -/
def hkdf (h : Sha) (salt ikm info : Bytes) (n : Nat) : Bytes :=
  let prk := hmac h (if salt.isEmpty then List.replicate h.out 0 else salt) ikm
  (hkdfBlocks h prk info [] 1 ((n + h.out - 1) / h.out)).take n

/-! ### CRC-32 (R256) and CRC-16 of Orune lines (R304) -/

/-- One bit of a reflected CRC. -/
def crcRounds (poly k c : Nat) : Nat :=
  match k with
  | 0 => c
  | j + 1 => crcRounds poly j (if c % 2 = 1 then c / 2 ^^^ poly else c / 2)

/-- CRC-32: reflected 0x04C1_1DB7, initial ones, final inversion. -/
def crc32 (bs : Bytes) : Nat :=
  (bs.foldl (fun c b => crcRounds 0xEDB88320 8 (c ^^^ b.toNat)) 0xFFFFFFFF) ^^^ 0xFFFFFFFF

end Sys2Proof.Machine
end

