-- ==== Sys2Proof/Machine/Ec.lean ====
section
/-! DEFINITION. The curves P-256 and P-384: points, ECDSA, ECDH, nonces of RFC 6979 (R263, R408, R416, R417, R490). -/

namespace Sys2Proof.Machine

/-- Power modulo m, by the low k bits of e. -/
def powMod (m k b e : Nat) : Nat :=
  match k with
  | 0 => 1 % m
  | j + 1 => let r := powMod m j (b * b % m) (e / 2); if e % 2 = 1 then r * b % m else r

/-- A curve y^2 = x^3 - 3 x + b over the field of p, with base point and order; `len` the bytes of a coordinate. -/
structure Curve where
  p : Nat
  b : Nat
  g : Nat × Nat
  n : Nat
  len : Nat
  bitLen : Nat

/-- P-256. -/
def p256 : Curve :=
  { p := 2 ^ 256 - 2 ^ 224 + 2 ^ 192 + 2 ^ 96 - 1
    b := 0x5AC635D8AA3A93E7B3EBBD55769886BC651D06B0CC53B0F63BCE3C3E27D2604B
    g := (0x6B17D1F2E12C4247F8BCE6E563A440F277037D812DEB33A0F4A13945D898C296,
          0x4FE342E2FE1A7F9B8EE7EB4A7C0F9E162BCE33576B315ECECBB6406837BF51F5)
    n := 0xFFFFFFFF00000000FFFFFFFFFFFFFFFFBCE6FAADA7179E84F3B9CAC2FC632551
    len := 32, bitLen := 256 }

/-- P-384. -/
def p384 : Curve :=
  { p := 2 ^ 384 - 2 ^ 128 - 2 ^ 96 + 2 ^ 32 - 1
    b := 0xB3312FA7E23EE7E4988E056BE3F82D19181D9C6EFE8141120314088F5013875AC656398D8A2ED19D2A85C8EDD3EC2AEF
    g := (0xAA87CA22BE8B05378EB1C71EF320AD746E1D3B628BA79B9859F741E082542A385502F25DBF55296C3A545E3872760AB7,
          0x3617DE4A96262C6F5D9E98BF9292DC29F8F41DBD289A147CE9DA3113B5F0B8C00A60B1CE1D7E819D7A431D7C90EA0E5F)
    n := 0xFFFFFFFFFFFFFFFFFFFFFFFFFFFFFFFFFFFFFFFFFFFFFFFFC7634D81F4372DDF581A0DB248B0A77AECEC196ACCC52973
    len := 48, bitLen := 384 }

/-- A point; none is the point at infinity. -/
abbrev Pt := Option (Nat × Nat)

/-- The inverse modulo a prime. -/
def invMod (m k a : Nat) : Nat := powMod m k (a % m) (m - 2)

/-- The sum of two points. -/
def ptAdd (c : Curve) (a b : Pt) : Pt :=
  match a, b with
  | none, q => q
  | q, none => q
  | some (x1, y1), some (x2, y2) =>
    let go := fun l =>
      let x3 := (l * l + 2 * c.p - x1 - x2) % c.p
      some (x3, (l * (x1 + c.p - x3) + c.p - y1) % c.p)
    if x1 = x2 then
      if (y1 + y2) % c.p = 0 then none
      else go ((3 * x1 * x1 + c.p - 3) * invMod c.p c.bitLen (2 * y1) % c.p)
    else go ((y2 + c.p - y1) * invMod c.p c.bitLen (x2 + c.p - x1) % c.p)

/-- A multiple of a point, by the low k bits of a number. -/
def ptMul (c : Curve) (k n : Nat) (a : Pt) : Pt :=
  match k with
  | 0 => none
  | j + 1 =>
    let r := ptMul c j (n / 2) (ptAdd c a a)
    if n % 2 = 1 then ptAdd c r a else r

/-- The curve holds the point. -/
def onCurve (c : Curve) (q : Nat × Nat) : Bool :=
  decide (q.1 < c.p) && decide (q.2 < c.p) &&
    decide (q.2 * q.2 % c.p = (q.1 * q.1 * q.1 + (c.p - 3) * q.1 + c.b) % c.p)

/-- Uncompressed form of a point and back (R490). -/
def ptBytes (c : Curve) (q : Pt) : Bytes :=
  match q with
  | none => []
  | some (x, y) => 4 :: beBytes c.len x ++ beBytes c.len y
def ptRead (c : Curve) (bs : Bytes) : Option (Nat × Nat) :=
  let q := (beNat (slice bs 1 c.len), beNat (slice bs (1 + c.len) c.len))
  if bs.length = 1 + 2 * c.len ∧ bs.head? = some 4 ∧ onCurve c q = true then some q else none

/-- The public key of a scalar. -/
def pubOf (c : Curve) (d : Nat) : Pt := ptMul c c.bitLen d (some c.g)

/-- The x-coordinate of a shared point as bytes. -/
def ecdhX (c : Curve) (d : Nat) (q : Nat × Nat) : Option Bytes :=
  (ptMul c c.bitLen d (some q)).map fun r => beBytes c.len r.1

/-- The number a digest stands for: its first bitLen bits. -/
def digestNat (c : Curve) (h : Bytes) : Nat := beNat (h.take c.len)

/-- An ECDSA signature r then s with a given nonce. -/
def ecdsaWith (c : Curve) (d k : Nat) (h : Bytes) : Bytes :=
  match ptMul c c.bitLen k (some c.g) with
  | none => []
  | some (x, _) =>
    let r := x % c.n
    let sg := invMod c.n c.bitLen k * (digestNat c h + r * d) % c.n
    beBytes c.len r ++ beBytes c.len sg

/-- Verification of an ECDSA signature. -/
def ecdsaOk (c : Curve) (q : Nat × Nat) (h sg : Bytes) : Bool :=
  let r := beNat (sg.take c.len)
  let v := beNat (sg.drop c.len)
  if sg.length ≠ 2 * c.len ∨ r = 0 ∨ v = 0 ∨ c.n ≤ r ∨ c.n ≤ v then false
  else
    let w := invMod c.n c.bitLen v
    match ptAdd c (ptMul c c.bitLen (digestNat c h * w % c.n) (some c.g)) (ptMul c c.bitLen (r * w % c.n) (some q)) with
    | none => false
    | some (x, _) => decide (x % c.n = r)

/-- Candidates for the nonce of RFC 6979, with fuel. -/
def rfcNonce (h : Sha) (c : Curve) (fuel : Nat) (k v : Bytes) : Nat :=
  match fuel with
  | 0 => 1
  | f + 1 =>
    let v := hmac h k v
    let t := beNat (v.take c.len)
    if 1 ≤ t ∧ t < c.n then t
    else
      let k := hmac h k (v ++ [0])
      rfcNonce h c f k (hmac h k v)

/-- The nonce of RFC 6979 from the key and the digest. -/
def detNonce (h : Sha) (c : Curve) (d : Nat) (dig : Bytes) : Nat :=
  let x := beBytes c.len d ++ beBytes c.len (digestNat c dig % c.n)
  let v := List.replicate h.out (1 : Byte)
  let k := hmac h (List.replicate h.out 0) (v ++ 0 :: x)
  let v := hmac h k v
  let k := hmac h k (v ++ 1 :: x)
  rfcNonce h c 16 k (hmac h k v)

/-- A deterministic signature (R263). -/
def ecdsaDet (h : Sha) (c : Curve) (d : Nat) (dig : Bytes) : Bytes := ecdsaWith c d (detNonce h c d dig) dig

end Sys2Proof.Machine
end

