-- ==== Sys2Proof/Machine/Keys.lean ====
section
/-! DEFINITION. Derived keys, public keys and the DEVICE_ID (R408, R409), random bytes (R419). -/

namespace Sys2Proof.Machine

/-- A scalar from derived bytes (R408). -/
def scalarOf (c : Curve) (okm : Bytes) : Nat := beNat okm % (c.n - 1) + 1

/-- A key derived from the device root under a label. -/
def rootKey (label : String) (n : Nat) : Bytes :=
  hkdf sha384P [] (beBytes 32 (Config.root % 2 ^ 256)) (textBytes label.toList) n

/-- The device identity key and its public key. -/
def identityKey : Nat := scalarOf p384 (rootKey "ID-P384" 64)
def identityPub : Bytes := ptBytes p384 (pubOf p384 identityKey)

/-- The record-signing key and its public key. -/
def recordKey : Nat := scalarOf p256 (rootKey "REC-P256" 48)
def recordPub : Bytes := ptBytes p256 (pubOf p256 recordKey)

/-- The DEVICE_ID of the die (R408). -/
def deviceId : Bytes := sha256 identityPub

/-- The vendor's public keys (R409). -/
def vendorKey : Bytes := (List.range 97).map Config.vendorKey
def enrolKey : Bytes := (List.range 97).map Config.enrolKey

/-- A P-384 signature over a SHA-384 digest verifies under an uncompressed key. -/
def sigOk384 (key msg sg : Bytes) : Bool :=
  match ptRead p384 key with
  | none => false
  | some q => ecdsaOk p384 q (sha384 msg) sg

/-- A P-256 signature over a SHA-256 digest verifies under an uncompressed key. -/
def sigOk256 (key msg sg : Bytes) : Bool :=
  match ptRead p256 key with
  | none => false
  | some q => ecdsaOk p256 q (sha256 msg) sg

/-- The ECDH product of an ephemeral key with the identity key; none while ZEROIZE is blown (R408). -/
def identityZ (s : State) (eph : Bytes) : Option Bytes :=
  if s.fuses.zeroize then none
  else match ptRead p384 eph with
    | none => none
    | some q => ecdhX p384 identityKey q

/-- The transport key of an ephemeral key for an info string (R277, R413). -/
def transportKey (s : State) (eph : Bytes) (info : String) : Option Bytes :=
  (identityZ s eph).map fun z => hkdf sha384P deviceId z (textBytes info.toList) 32

/-- n bytes of the random source. -/
def randomBytes (n : Nat) (s : State) : Bytes × State :=
  ((List.range n).map fun i => Config.random (s.seals.rnd + i), { s with seals := { s.seals with rnd := s.seals.rnd + n } })

/-- A free value, and the counter advanced. -/
def freeNat (s : State) : Nat × State := (Config.free s.free, bumpFree s)

/-- n free bytes. -/
def freeBytes (n : Nat) (s : State) : Bytes × State :=
  ((List.range n).map fun i => BitVec.ofNat 8 (Config.free (s.free + i)), { s with free := s.free + n })

end Sys2Proof.Machine
end

