-- ==== Sys2Proof/Machine/Flash.lean ====
section
/-! DEFINITION. Flash banks (R248 to R257): contents, unlock, commands, the end of a command, power loss, the FLC block. -/

namespace Sys2Proof.Machine

/-! ### Contents -/

/-- The flash address of a place in a bank. -/
def fbAddr (b a : Nat) : Nat := 0x20000000 + 0x200000 * b + a

/-- Read bytes of a bank; an erased byte reads 0xFF (R249). -/
def State.flashRead (s : State) (b a n : Nat) : Bytes := cellsRead 0xFF s.mem.flash (fbAddr b a) n

/-- Give bytes of a bank what was programmed into them, or what they hold by chance (R257). -/
def flashPut (b a : Nat) (bs : Bytes) (s : State) : State :=
  { s with mem := { s.mem with flash := cellsPut 0xFF s.mem.flash (fbAddr b a) bs } }

/-- Program one unit, errors in it gone; one that gets sixteen bytes of 0xFF is programmed all the same (R249). -/
def flashUnit (b a : Nat) (d : Bytes) (s : State) : State :=
  let s := eccOver 3 0 (fbAddr b a) 16 (flashPut b a d s)
  if d.all fun x => x == 0xFF then { s with mem := { s.mem with full := s.mem.full ++ [fbAddr b a] } } else s

/-- Erase n bytes of a bank. -/
def flashErase (b a n : Nat) (s : State) : State :=
  let s := { s with mem := { s.mem with flash := cellsClear s.mem.flash (fbAddr b a) n } }
  let out := fun (x : Nat) => decide (x < fbAddr b a) || decide (fbAddr b a + n ≤ x)
  eccOver 3 0 (fbAddr b a) n { s with mem := { s.mem with full := s.mem.full.filter out } }

/-- Every unit of a range is erased (R249). -/
def flashBlank (s : State) (b a n : Nat) : Bool :=
  let out := fun (x : Nat) => decide (x < fbAddr b a) || decide (fbAddr b a + n ≤ x)
  (s.mem.flash.all fun c => out c.1) && s.mem.full.all out

/-- A range holds a unit that cannot be read (R255). -/
def flashBad (s : State) (b a n : Nat) : Bool := eccBad 3 0 (fbAddr b a) n s

/-- A read that meets such a unit sets FLASH.ECC (R366). -/
def flashSeen (b a n : Nat) (s : State) : State := if flashBad s b a n then setLeaf 3 3 s else s

/-- What the units of a range give where some cannot be read: those bytes are free. -/
def flashShown (b a n : Nat) (s : State) : Bytes × State :=
  if flashBad s b a n then
    let r := freeBytes n (flashSeen b a n s)
    ((s.flashRead b a n).zipIdx.map fun q => if eccBad 3 0 (fbAddr b (a + q.2)) 1 s then r.1.getD q.2 0 else q.1, r.2)
  else (s.flashRead b a n, s)

/-- The bytes of a sector. -/
def sectorBytes : Nat := 0x4000

/-! ### The calibration row (R256) -/

/-- The bytes of the row before its CRC: format 1, coordinates and trims of the part, reserved zeros. -/
def calibBody : Bytes :=
  (List.range 508).map fun i => if i = 0 then 1 else if i < 4 ∨ 200 ≤ i then 0 else Config.calib i

/-- A byte of the calibration row. -/
def calibByte (i : Nat) : Byte :=
  if i < 508 then (if i = 0 then 1 else if i < 4 ∨ 200 ≤ i then 0 else Config.calib i)
  else BitVec.ofNat 8 (crc32 calibBody / 256 ^ (i - 508))

/-! ### Banks -/

/-- A bank, and a change to one. -/
def State.bank (s : State) (b : Nat) : Bank := vget s.flc.bank b
def setBank (b : Nat) (f : Bank → Bank) (s : State) : State := { s with flc := { s.flc with bank := vmod s.flc.bank b f } }

/-- FLC_ADDR as an address within the bank. -/
def Bank.place (k : Bank) : Nat := bits k.addr 20 4 * 16
def Bank.sector (k : Bank) : Nat := bits k.addr 20 14

/-- The lock of a sector is set (R254). -/
def Bank.locked (k : Bank) (sec : Nat) : Bool := (vget k.lock (sec / 32)).getLsbD (sec % 32)

/-- Set or clear the lock of a sector. -/
def setLock (sec : Nat) (on : Bool) (k : Bank) : Bank := { k with lock := vmod k.lock (sec / 32) fun w => putBit w (sec % 32) on }

/-- The sector a command works on. -/
def FlashOp.sector (o : FlashOp) : Nat :=
  match o with | .program a _ => a / sectorBytes | .erase n => n | .blank n => n | .eraseAll => 0

/-- A write to FLC_KEY (R250). -/
def keyWrite (v : Word) (k : Bank) : Bank :=
  if !k.keyed ∧ !k.unlocked ∧ bits v 15 0 = 0x71C4 then { k with keyed := true }
  else if k.keyed ∧ bits v 15 0 = 0x8E3B then { k with keyed := false, unlocked := true }
  else { k with keyed := false, unlocked := false, err := 1 }

/-- The steps of a refused command. -/
def cmdErr (b e : Nat) (s : State) : State :=
  setBank b (fun k => { k with keyed := false, unlocked := false, err := e }) s

/-- A write to FLC_CMD (R250, R252). -/
def flashCmd (b code : Nat) (s : State) : State :=
  let k := s.bank b
  let run := fun o => setBank b (fun k => { k with keyed := false, unlocked := false, err := 0, busy := some o, own := false }) s
  if !k.unlocked then cmdErr b 8 s
  else if k.busy.isSome then cmdErr b 3 s
  else if code = 1 then
    if k.locked k.sector then cmdErr b 2 s
    else if !flashBlank s b k.place 16 then cmdErr b 4 s
    else run (.program k.place (k.data.toList.flatMap fun w => leBytes 4 w.toNat))
  else if code = 2 then (if k.locked k.sector then cmdErr b 2 s else run (.erase k.sector))
  else if code = 8 then (if k.locked k.sector then cmdErr b 2 s else run (.blank k.sector))
  else if code = 4 then
    if vget s.fuses.counters 0 ≠ 0 then cmdErr b 6 s
    else if (List.range 128).any k.locked then cmdErr b 2 s
    else run .eraseAll
  else cmdErr b 7 s

/-- The effect of a command that ends. -/
def flashEffect (b : Nat) (o : FlashOp) (s : State) : State :=
  match o with
  | .program a d => flashUnit b a d s
  | .erase n => flashErase b (n * sectorBytes) sectorBytes s
  | .blank n => setBank b (fun k => { k with blank := flashBlank s b (n * sectorBytes) sectorBytes }) s
  | .eraseAll => flashErase b 0 0x200000 s

/-- The place a command leaves with undefined content when it is cut or fails (R257). -/
def flashUndefined (b : Nat) (o : FlashOp) (s : State) : State :=
  let put := fun a n => let r := freeBytes n s; flashPut b a r.1 r.2
  match o with
  | .program a _ => put a 16
  | .erase n => put (n * sectorBytes) sectorBytes
  | .blank _ => s
  | .eraseAll => put 0 0x200000

/-- A bank's command ends (R251, R253): the effect, or a failed verify; CIC source 69 + b pulses. The steward sets the lock again that
it cleared for a command of its own (R254). -/
def bankEnd (b : Nat) (e : FlashEnd) (s : State) : State :=
  match (s.bank b).busy with
  | none => s
  | some o =>
    let s := match e with | .ok => flashEffect b o s | .verify => flashUndefined b o s
    let bad := decide (e = .verify)
    let lock := fun (k : Bank) => if k.own then setLock o.sector true k else k
    cicPulse (69 + b) (setBank b (fun k => lock { k with busy := none, failed := bad, err := if bad then 5 else k.err }) s)

/-- Power fails or a start interrupts the banks (R257); every lock is set again and no unlock survives (R254). -/
def flashCut (s : State) : State :=
  forNat 4 (fun b t =>
    let t := match (t.bank b).busy with | some o => flashUndefined b o t | none => t
    setBank b (fun _ => {}) t) s

/-- The bytes of a bank as they will be once the steward's sequence in it has run: what it reads in the order of its own commands. -/
def State.flashView (s : State) (b a n : Nat) : Bytes :=
  let k := s.bank b
  let run := match k.busy with | some o => if k.own then [FlashStep.op o] else [] | none => []
  let m := (run ++ k.plan).foldl (fun m st => match st with
    | .op (.program i d) => cellsPut 0xFF m (fbAddr b i) d
    | .op (.erase i) => cellsClear m (fbAddr b (i * sectorBytes)) sectorBytes
    | _ => m) s.mem.flash
  cellsRead 0xFF m (fbAddr b a) n

/-- FLC_KEY. -/
def execFlcKey (bank : Fin 4) (v : Word) (s : State) : Host.Outcome State Fault Refusal :=
  .next (setBank bank.val (keyWrite v) s)

/-- PROGRAM. -/
def execProgram (bank : Fin 4) (s : State) : Host.Outcome State Fault Refusal := .next (flashCmd bank.val 1 s)

/-- ERASE_SECTOR. -/
def execEraseSector (bank : Fin 4) (s : State) : Host.Outcome State Fault Refusal := .next (flashCmd bank.val 2 s)

/-- BLANK_CHECK. -/
def execBlankCheck (bank : Fin 4) (s : State) : Host.Outcome State Fault Refusal := .next (flashCmd bank.val 8 s)

/-- ERASE_BANK. -/
def execEraseBank (bank : Fin 4) (s : State) : Host.Outcome State Fault Refusal := .next (flashCmd bank.val 4 s)

/-! ### The FLC block (11) -/

/-- Read a register of frame f of the FLC block. -/
def flcRead (f off : Nat) (s : State) : Word :=
  if f = 0 then
    let mask := fun (g : Bank → Bool) => (List.range 4).foldl (fun m b => m + bitN (g (s.bank b)) * 2 ^ b) 0
    if off = 0 then w32 (mask (fun k => k.failed) * 0x10000 + mask fun k => k.busy.isSome)
    else if off = 4 then w32 s.store.lap
    else 0
  else if f ≤ 4 then
    let k := s.bank (f - 1)
    if off = 0x004 then k.addr
    else if 0x008 ≤ off ∧ off < 0x018 then vget k.data ((off - 8) / 4)
    else if off = 0x01C then
      w32 (k.err * 0x1000 + bitN k.blank * 0x100 + bitN k.unlocked * 2 + bitN k.busy.isSome)
    else if 0x020 ≤ off ∧ off < 0x030 then vget k.lock ((off - 0x20) / 4)
    else 0
  else 0

/-- Write a register of frame f of the FLC block (R250: a write that is no key and no command clears a key sequence under way). -/
def flcWrite (f off : Nat) (v : Word) (s : State) : State :=
  if f = 0 ∨ 4 < f then s
  else
    let b := f - 1
    if off = 0 then setBank b (keyWrite v) s
    else if off = 0x18 then flashCmd b (bits v 7 0) s
    else setBank b (fun k =>
      let k := { k with keyed := false }
      if off = 0x004 then { k with addr := v &&& 0x001FFFF0 }
      else if 0x008 ≤ off ∧ off < 0x018 then { k with data := vset k.data ((off - 8) / 4) v }
      else if 0x020 ≤ off ∧ off < 0x030 then { k with lock := vset k.lock ((off - 0x20) / 4) v }
      else k) s

end Sys2Proof.Machine
end

