-- ==== Sys2Proof/Machine/Mirror.lean ====
section
/-! DEFINITION. The steward's own mirror slots 0 to 7 (R353, R405), the lifecycle state (R22, R24, R26). -/

namespace Sys2Proof.Machine

/-- A one-way counter (R21). -/
def State.counter (s : State) (n : Nat) : Nat := vget s.fuses.counters n

/-- A hold is open (R400). -/
def Holds.any (h : Holds) : Bool := h.vstby || h.case_ || h.mesh || h.survey || h.order

/-- Person 1 runs; a hand-over is no stop (R206), a self-check is no running (R291). -/
def State.up1 (s : State) : Bool := (s.running 1 && !s.checking 1) || decide ((s.person 1).run = .handover)

/-- The conditions of IN_SERVICE (R24); from step 1 until step 10 of a start the device is OUT_OF_SERVICE (R55). -/
def State.inService (s : State) : Bool :=
  decide (s.counter 0 = 3) && decide (s.isl.step = 10) && s.up1 && s.snt.rtcValid && !s.snt.hold.any

/-- The lifecycle code of mirror slot 1 (R22, R353). -/
def State.life (s : State) : Nat :=
  match s.counter 0 with
  | 0 => 0
  | 1 => 1
  | 2 => 2
  | 3 => if s.inService then 3 else 4
  | _ => 5

/-- Slot 0: time. -/
def slotTime (s : State) : Nat :=
  s.snt.rtcSec.toNat * 2 ^ 32 + s.snt.rtcFrac * 2 ^ 17 + bitN s.snt.rtcValid * 2 ^ 16

/-- A retirement waits for its confirmation; one that an order has cancelled does not (R28). -/
def retirePending (s : State) : Bool := match s.stw.retire with | some r => r.cancelled.isNone | none => false

/-- Slot 1: device state. -/
def slotDevice (s : State) : Nat :=
  bits s.isl.causeReg 15 0 * 2 ^ 48 + s.isl.startSeq % 2 ^ 16 * 2 ^ 32 + s.counter 0 % 1024 * 2 ^ 16 +
    bitN (decide (s.isl.step < 10)) * 2 ^ 12 + bitN (retirePending s) * 2 ^ 11 + bitN (!s.up1) * 2 ^ 10 +
    bitN (!s.snt.rtcValid) * 2 ^ 9 + bitN s.snt.hold.any * 2 ^ 8 + s.life

/-- The state code of a person (R353). -/
def runCode (r : PRun) : Nat :=
  match r with
  | .absent => 0 | .starting => 1 | .running => 2 | .stopped => 3 | .dead => 4 | .suspended => 5 | .restarting => 6
  | .handover => 7

/-- The byte of a person in slot 2. -/
def personByte (s : State) (p : Nat) : Nat :=
  let q := s.person p
  (if q.run = .running then q.cores % 16 else 0) * 16 + bitN (s.running p && (s.witnessOn p).isSome) * 8 +
    (if s.checking p then 1 else runCode q.run)

/-- Slot 2: person states. -/
def slotPersons (s : State) : Nat :=
  (List.range 6).foldl (fun v i => v + personByte s (i + 1) * 2 ^ (8 * i)) 0

/-- Uncopied tamper-log entries (R405). -/
def uncopied (s : State) : Nat :=
  (s.snt.tlog.toList.filter fun e => match e with | some t => !t.copied | none => false).length

/-- Slot 3: sentinel (R405). -/
def slotSentinel (s : State) : Nat :=
  let last := (vget s.snt.tlog s.snt.tindex).getD {}
  last.seq % 2 ^ 16 * 2 ^ 48 + last.cause % 256 * 2 ^ 40 + uncopied s % 256 * 2 ^ 32 +
    ((s.snt.temp + 50).toNat % 256) * 2 ^ 24 + s.snt.vstbyMv / 20 % 256 * 2 ^ 16 + s.snt.tmpOpen.toNat * 2 ^ 12 +
    s.snt.mesh % 4 * 2 ^ 10 + bitN (s.snt.x32Fault || s.snt.rcFault) * 2 ^ 9 + bitN s.isl.refFault * 2 ^ 8 +
    bitN s.fuses.zeroize * 2 ^ 7 + bitN s.snt.vstbyLostStart * 2 ^ 6 + s.snt.tindex % 64

/-! ### Survey channels (R370, R379, R387) -/

/-- The kinds of channel, in the order of the SURVEY leaves. -/
inductive ChKind where
  | supply | feed | cable | partner
  deriving DecidableEq, Repr

/-- The kind of a channel number, if it is a channel (R370). -/
def chKind (n : Nat) : Option ChKind :=
  if n ≤ 13 then some .supply
  else if 16 ≤ n ∧ n ≤ 23 then some .feed
  else if 24 ≤ n ∧ n ≤ 33 then some .cable
  else if 40 ≤ n ∧ n ≤ 45 then some .partner
  else none

/-- The channels of the survey. -/
def allChans : List Nat := (List.range 46).filter fun n => (chKind n).isSome

/-- A channel, and a change to one. -/
def State.sch (s : State) (n : Nat) : SrvChan := vget s.srv.chan n
def setCh (n : Nat) (f : SrvChan → SrvChan) (s : State) : State :=
  { s with srv := { s.srv with chan := vmod s.srv.chan n f } }

/-- A channel has a baseline (R380); a peer channel's is an identity. -/
def based (s : State) (n : Nat) : Bool :=
  if n = 40 ∨ n = 41 then (vget s.srv.peerBase (n - 40)).isSome else (s.sch n).base.isSome

/-- A channel is marked for enrolment (R379). -/
def marked (s : State) (n : Nat) : Bool :=
  if n ≤ 9 then true
  else if n ≤ 13 then decide (50 < (s.sch n).value)
  else match chKind n with
    | some .feed => (vget s.port.feed (n - 16)).on && decide ((vget s.port.feed (n - 16)).fault ≠ 1)
    | some .cable => match (vget s.srv.tdr (n - 24)).last with | some r => decide (r.cls ≠ 3) | none => false
    | some .partner =>
      if n ≤ 41 then (vget s.srv.peer (n - 40)).isSome
      else if n ≤ 43 then (vget s.port.can (n - 42)).present
      else false
    | _ => false

/-- Some channel marked for enrolment has no baseline (R382). -/
def baselineMissing (s : State) : Bool := allChans.any fun n => marked s n && !based s n

/-- Slot 4 (R387). -/
def slotSurvey (s : State) : Nat :=
  let v := fun n => (s.sch n).value
  let devs := allChans.filter fun n => (s.sch n).dev
  let kind := fun k => bitN (devs.any fun n => decide (chKind n = some k))
  let sum := ((List.range 8).map fun n => v (16 + n)).sum
  v 0 % 65536 * 2 ^ 48 + v 1 / 4 % 256 * 2 ^ 40 + v 2 / 4 % 256 * 2 ^ 32 + v 9 / 50 % 256 * 2 ^ 24 +
    sum / 800 % 256 * 2 ^ 16 + bitN (allChans.any fun n => decide (chKind n = some .cable) && decide ((s.sch n).status = 3)) * 2 ^ 14 +
    bitN (baselineMissing s) * 2 ^ 13 + bitN (devs.any fun n => (s.sch n).tamper) * 2 ^ 12 +
    kind .partner * 2 ^ 11 + kind .cable * 2 ^ 10 + kind .feed * 2 ^ 9 + kind .supply * 2 ^ 8 + devs.length % 256

/-- Slot 6 (R296). -/
def slotBundle (s : State) : Nat :=
  let st := match s.bun.st with
    | .empty => 0 | .receiving => 1 | .staged => 2 | .pendingAll => 3 | .pendingOne => 4 | .activating => 5 | .done => 6
  s.bun.id % 65536 * 2 ^ 48 +
    ((List.range 7).map fun t => vget s.bun.result t % 16 * 2 ^ (16 + 4 * t)).sum + s.bun.progress % 256 * 2 ^ 8 + st

/-! ### The chain and the identity (R447, R353) -/

/-- The code of a role. -/
def roleCode (r : Role) : Nat := match r with | .unnumbered => 0 | .head => 1 | .node => 2 | .refused => 3

/-- A chain port: 0 CHU, 1 CHD. -/
def State.cport (s : State) (d : Nat) : ChPort := vget s.chn.port d

/-- The survey measures a segment over 30 m, or reads it ABSENT while the link is up (R425). -/
def segmentLong (s : State) : Bool :=
  [0, 1].any fun d => match (vget s.srv.tdr (8 + d)).last with
    | some r => decide (30000 < r.len) || (decide (r.cls = 3) && decide ((s.cport d).st = .up))
    | none => false

/-- Slot 5 (R447). -/
def slotChain (s : State) : Nat :=
  let c := s.chn
  c.members.length % 256 * 2 ^ 56 + c.pos % 256 * 2 ^ 48 + roleCode c.role * 2 ^ 46 + bitN c.ring * 2 ^ 45 +
    bitN c.rerouted * 2 ^ 44 + bitN (decide ((s.cport 0).st = .up)) * 2 ^ 43 + bitN (decide ((s.cport 1).st = .up)) * 2 ^ 42 +
    bitN (segmentLong s) * 2 ^ 41 + c.brk % 256 * 2 ^ 32 + c.topoSeq % 65536 * 2 ^ 16 + Nat.min 255 c.keyFails * 256 +
    Nat.min 255 c.lateAbort

/-- The fuse-set code (R6). -/
def fuseCode (s : State) : Nat := if s.fuses.part = .an then 0x4E else 0x48

/-- Slot 7 (R353). -/
def slotIdentity (s : State) : Nat := fuseCode s * 2 ^ 56 + s.chn.pos % 256 * 2 ^ 48 + leNat (deviceId.take 6)

/-- The value of a steward slot. -/
def slotValue (s : State) (n : Nat) : BitVec 64 :=
  BitVec.ofNat 64 (match n with
    | 0 => slotTime s
    | 1 => slotDevice s
    | 2 => slotPersons s
    | 3 => slotSentinel s
    | 4 => slotSurvey s
    | 5 => slotChain s
    | 6 => slotBundle s
    | 7 => slotIdentity s
    | _ => 0)

/-- Publish a steward slot whatever it held before. -/
def pubAlways (n : Nat) (s : State) : State :=
  let v := slotValue s n
  publishSlot n v { s with win := { s.win with pub := vset s.win.pub n v } }

/-- Publish a steward slot when a field of it has changed; the mirror lives from step 7 on (R353, R53). -/
def pubSlot (n : Nat) (s : State) : State :=
  if s.isl.step < 7 ∨ vget s.win.pub n = slotValue s n then s else pubAlways n s

end Sys2Proof.Machine
end

