-- ==== Sys2Proof/Machine/Records.lean ====
section
/-! DEFINITION. The record store (R261 to R272): layout, the append engine, expiry, recovery, reading, held records. -/

namespace Sys2Proof.Machine

/-- Change the steward's view of the store. -/
def setStore (f : Rec → Rec) (s : State) : State := { s with store := f s.store }

/-! ### Layout (R261 to R263) -/

/-- The physical sector of a logical sector, and the next logical sector (R261). -/
def recPhys (lap l : Nat) : Nat := (lap % 128 + l) % 128
def recNext (lap l : Nat) : Nat × Nat := if l < 111 then (lap, l + 1) else (lap + 1, 0)

/-- A sector header (R262). -/
def sectorHeader (lap l : Nat) : Bytes :=
  let h := leBytes 2 0x4853 ++ leBytes 2 1 ++ leBytes 4 lap ++ leBytes 1 l ++ leBytes 1 (lap % 128) ++ leBytes 2 0
  h ++ leBytes 4 (crc32 h)

/-- The address of a unit within a bank. -/
def unitAddr (phys u : Nat) : Nat := phys * sectorBytes + 16 * u

/-- Units a payload needs, and a record of it in all (R263). -/
def payloadUnits (n : Nat) : Nat := (n + 15) / 16
def recordUnits (n : Nat) : Nat := 7 + payloadUnits n

/-- The record header (R263). -/
def recordHeader (s : State) (kind seq : Nat) (pl : Bytes) : Bytes :=
  let n := payloadUnits pl.length
  let w1 := (s.witnessOn 1).isSome && s.running 1
  leBytes 2 0x5243 ++ leBytes 1 (7 + n) ++ leBytes 1 kind ++ leBytes 4 seq ++ leBytes 4 s.snt.rtcSec.toNat ++
    leBytes 2 (s.snt.rtcFrac % 2 ^ 15 + bitN s.snt.rtcValid * 2 ^ 15) ++
    leBytes 1 (bitN s.inService + 2 * bitN s.snt.hold.any + 4 * bitN w1) ++ leBytes 1 (16 * n - pl.length)

/-- Header through last signature unit (R263); the signature covers the header through the last payload unit. -/
def recordBody (s : State) (kind seq : Nat) (pl : Bytes) : Bytes :=
  let chain := if s.store.hash.isEmpty then List.replicate 16 0 else s.store.hash.take 16
  let m := recordHeader s kind seq pl ++ chain ++ padTo (16 * payloadUnits pl.length) pl
  m ++ ecdsaDet sha256P p256 recordKey (sha256 m)

/-- The commit unit (R263). -/
def commitUnit (seq : Nat) (body : Bytes) : Bytes := leBytes 4 seq ++ leBytes 4 (crc32 body) ++ List.replicate 8 0

/-- Payload of an EXPIRY record: first and last SEQ and the hash of the last (R265). -/
def expiryPayload (s : State) (gone : List RecPos) : Bytes :=
  match gone.getLast? with
  | none => []
  | some z =>
    let body := s.flashRead 2 (unitAddr z.phys z.unit) (16 * (z.units - 1))
    leBytes 4 ((gone.head?.getD z).seq) ++ leBytes 4 z.seq ++ sha256 body

/-- Payload of a RECOVERY record: position, decision, SEQ (R269); with 0xFFFF a count of lost held records (R271). -/
def recoveryPayload (p : RecPos) (accepted : Bool) : Bytes :=
  leBytes 2 p.phys ++ leBytes 2 p.unit ++ leBytes 4 (bitN accepted) ++ leBytes 4 p.seq
def lostPayload (n : Nat) : Bytes := leBytes 2 0xFFFF ++ leBytes 2 0 ++ leBytes 4 2 ++ leBytes 4 n

/-! ### Records due (R271) -/

/-- The device may append now: person 1 runs, for the records of every kind but its own (R271). -/
def mayAppend (s : State) : Bool := s.up1

/-- Hold a record in retention, at most 64; the one that finds no place makes the last a RECOVERY record that names the
count of lost ones (R271). -/
def holdRecord (d : RecDue) (r : Rec) : Rec :=
  if r.held.length < 64 then { r with held := r.held ++ [d] }
  else
    let lost := if r.lostHeld = 0 then 2 else r.lostHeld + 1
    { r with lostHeld := lost, held := r.held.take 63 ++ [{ kind := 2, payload := lostPayload lost }] }

/-! ### The append engine (R264 to R267, R270) -/

/-- The records of the store can no longer be written: RETIRED (R22). -/
def storeShut (s : State) : Bool := decide (4 ≤ s.counter 0)

/-- Sectors whose records the erase of the sector after (lap, l) removes (R265). -/
def goneSectors (lap l : Nat) : List Nat :=
  let n := recNext lap l
  if n.2 = 0 then [recPhys lap 0, recPhys n.1 n.2] else [recPhys n.1 n.2]
def goneRecords (r : Rec) : List RecPos := r.index.filter fun p => (goneSectors r.lap r.l).contains p.phys

/-- Give both banks a plan of steps. -/
def planBoth (p2 p3 : List FlashStep) (s : State) : State :=
  setBank 3 (fun k => { k with plan := p3 }) (setBank 2 (fun k => { k with plan := p2 }) s)
def planSame (p : List FlashStep) (s : State) : State := planBoth p p s

/-- The steward gives a bank a command of its own: unlock, address, data, the sector's lock cleared for it (R250, R254). -/
def giveOwn (b : Nat) (o : FlashOp) (a : Nat) (r : List FlashStep) (s : State) : State :=
  setBank b (fun k => setLock o.sector false { k with
    plan := r, busy := some o, own := true, keyed := false, unlocked := false, addr := w32 a, err := 0 }) s

/-- A PROGRAM of the steward meets a unit that is not erased: nothing is programmed, and its sequence fails (R249, R270). -/
def notBlank (b : Nat) (s : State) : State :=
  if b < 2 then setBank b (fun k => { k with plan := k.plan.dropWhile (fun st => decide (st ≠ .mark)), err := 4, again := false, bad := true }) s
  else
    setStore (fun q => { q with run := q.run.map fun u => { u with bad := true } }) (setBank b (fun k => { k with plan := [], err := 4 }) s)

/-- Give a bank its next planned step, if it is free (R253): the steward writes the unlock, the address and the data itself. -/
def bankKick (fuel b : Nat) (s : State) : State :=
  match fuel with
  | 0 => s
  | f + 1 =>
    let k := s.bank b
    if k.busy.isSome then s
    else match k.plan with
      | [] => s
      | .eraseIf n :: r =>
        if k.blank then bankKick f b (setBank b (fun k => { k with plan := r }) s)
        else giveOwn b (.erase n) (n * sectorBytes) r s
      | .op (.program a d) :: r =>
        if flashBlank s b a 16 then
          giveOwn b (.program a d) a r (setBank b (fun k => { k with data := Vector.ofFn fun i : Fin 4 => w32 (leAt d (4 * i.val) 4) }) s)
        else notBlank b s
      | .op o :: r => giveOwn b o (o.sector * sectorBytes) r s
      | .mark :: _ => s
def kickBoth (s : State) : State := bankKick 4 3 (bankKick 4 2 s)

/-- Both banks have run their plans. -/
def bothIdle (s : State) : Bool :=
  [2, 3].all fun b => (s.bank b).plan.isEmpty && !((s.bank b).busy.isSome && (s.bank b).own)

/-- The programs of the units of some bytes. -/
def unitPlan (phys u : Nat) (n : Nat) (bs : Bytes) : List FlashStep :=
  match n with
  | 0 => []
  | j + 1 => .op (.program (unitAddr phys u) (bs.take 16)) :: unitPlan phys (u + 1) j (bs.drop 16)

/-- Begin the body of a record at the current place. -/
def startBody (d : RecDue) (s : State) : State :=
  let r := s.store
  let phys := recPhys r.lap r.l
  let body := recordBody s d.kind (r.seq + 1) d.payload
  let n := recordUnits d.payload.length
  planSame (unitPlan phys r.unit (n - 1) body) (setStore (fun r =>
    { r with run := some { due := d, stage := .body, body := body,
                           pos := { seq := r.seq + 1, phys := phys, unit := r.unit, units := n } } }) s)

/-- Open the next logical sector for a record (R264): blank check, erase where it is not blank, header; the sector after it
is erased too unless records stand in it, which an EXPIRY record must name first. Where a position was abandoned before the records of
the sector that opens now were named, the EXPIRY record that names them follows in it (R265, R270, assumption 121). -/
def startOpening (d : RecDue) (s : State) : State :=
  let nx := if s.store.any then recNext s.store.lap s.store.l else (s.store.lap, s.store.l)
  let phys := recPhys nx.1 nx.2
  let here := if s.store.expireDue then goneRecords s.store else []
  let late : List RecDue := if here.isEmpty then [] else [{ kind := 3, payload := expiryPayload s here }]
  let r := { s.store with any := true, lap := nx.1, l := nx.2, isOpen := false, unit := 1, queue := late ++ s.store.queue,
                          index := s.store.index.filter fun p => !here.contains p }
  let due := !(goneRecords r).isEmpty
  let n2 := recNext nx.1 nx.2
  let plan : List FlashStep := [.op (.blank phys), .eraseIf phys, .op (.program (unitAddr phys 0) (sectorHeader nx.1 nx.2))] ++
    (if due then [] else [.op (.erase (recPhys n2.1 n2.2))])
  let u : AppRun :=
    { due := d, stage := .opening, body := [], pos := { seq := r.seq + 1, phys := phys, unit := 0, units := 0 } }
  planSame plan { s with store := { r with expireDue := due, run := some u } }

/-- Begin the append at the head of the queue. -/
def startAppend (d : RecDue) (s : State) : State :=
  if s.store.isOpen ∧ s.store.unit + recordUnits d.payload.length ≤ 1024 then startBody d s else startOpening d s

/-- An append may begin now: person 1's own, or, while it runs, any (R271). -/
def mayBegin (s : State) (d : RecDue) : Bool :=
  mayAppend s || (s.store.need.isNone && match d.who with | .call _ _ _ => true | _ => false)

/-- Take the next append, if none is under way; after a doubtful tail or a double failure a RECOVERY record goes first
(R269, R270). What may not begin waits for person 1 (R271); nothing begins in RETIRED (R22). -/
def recPump (s : State) : State :=
  if s.store.run.isSome || storeShut s then s
  else match s.store.queue with
    | [] => s
    | d :: rest =>
      if !mayBegin s d then s else
      match s.store.need with
      | some (p, acc) =>
        kickBoth (startAppend { kind := 2, payload := recoveryPayload p acc }
          (setStore (fun r => { r with need := none }) s))
      | none => kickBoth (startAppend d (setStore (fun r => { r with queue := rest }) s))

/-- A record due to the steward or a person: appended, or held while person 1 does not run (R271); none in RETIRED (R22). -/
def recordDue (d : RecDue) (s : State) : State :=
  if storeShut s then s
  else if mayAppend s || (match d.who with | .call _ _ _ => true | _ => false) then
    recPump (setStore (fun r => { r with queue := r.queue ++ [d] }) s)
  else setStore (holdRecord d) s

/-- A record of a kind with a payload. -/
def recordMake (kind : Nat) (payload : Bytes) (s : State) : State := recordDue { kind := kind, payload := payload } s

/-- What an append that has ended reports to the one it was made for; filled in by the layers above. -/
inductive RecDone where
  | acked (who : RecFor) (seq : Nat) (payload : Bytes)
  | failed (who : RecFor)
  deriving DecidableEq, Repr

/-- An append is acknowledged (R266): the record is in the store, and the EXPIRY record that its sector still needs goes
next (R265). -/
def recAck (u : AppRun) (s : State) : State :=
  let s := setStore (fun r =>
    { r with run := none, seq := u.pos.seq, hash := sha256 u.body, unit := u.pos.unit + u.pos.units,
             index := r.index ++ [u.pos], recovered := r.recovered || decide (u.due.who = .recovery) }) s
  if s.store.expireDue then
    let gone := goneRecords s.store
    let n := recNext s.store.lap s.store.l
    setStore (fun r => { r with
      expireDue := false,
      queue := { kind := 3, payload := expiryPayload s gone, who := .expire (recPhys n.1 n.2) } :: r.queue }) s
  else s

/-- An append fails (R270): once more behind a RECOVERY record in the next sector; the second time with E500. An EXPIRY record that is
made again stands in the very sector it was made for, which the opening has erased: the records it names are gone then (R265). -/
def recFail (u : AppRun) (s : State) : State × List RecDone :=
  let expiry := match u.due.who with | .expire _ => true | _ => false
  let due := if expiry then { u.due with who := .none } else u.due
  if u.due.tries = 0 then
    (setStore (fun r =>
      { r with run := none, isOpen := false,
               index := if expiry then r.index.filter fun p => !(goneSectors r.lap r.l).contains p.phys else r.index,
               queue := { kind := 2, payload := recoveryPayload u.pos false, who := .companion, tries := 1 } ::
                        { due with tries := 1 } :: r.queue }) s, [])
  else
    let s := setStore (fun r => { r with run := none, isOpen := false, need := some (u.pos, false) }) s
    let s := logEvent 7 0 "FLASH.FAIL" [w32 u.pos.phys, w32 u.pos.unit] (setLeaf 3 1 s)
    if u.due.who = .companion then
      match s.store.queue with
      | [] => (s, [])
      | d :: rest => (setStore (fun r => { r with queue := rest }) s, [.failed d.who])
    else (s, [.failed u.due.who])

/-- The append moves on once both banks are through with its stage. -/
def recAdvance (s : State) : State × List RecDone :=
  match s.store.run with
  | none => (recPump s, [])
  | some u =>
    if !bothIdle s then (kickBoth s, [])
    else if u.bad then
      let r := recFail u s
      (recPump r.1, r.2)
    else match u.stage with
      | .opening => (kickBoth (startBody u.due (setStore (fun r => { r with isOpen := true, unit := 1 }) s)), [])
      | .body =>
        let a := unitAddr u.pos.phys (u.pos.unit + u.pos.units - 1)
        (kickBoth (planSame [.op (.program a (commitUnit u.pos.seq u.body))]
          (setStore (fun r => { r with run := some { u with stage := .commit } }) s)), [])
      | .commit =>
        match u.due.who with
        | .expire phys =>
          let s := recAck u s
          (kickBoth (planSame [.op (.erase phys)] (setStore (fun r =>
            { r with index := r.index.filter fun p => !(goneSectors r.lap r.l).contains p.phys,
                     run := some { u with stage := .ahead } }) s)), [])
        | w => (recPump (recAck u s), [.acked w u.pos.seq u.due.payload])
      | .ahead => (recPump (setStore (fun r => { r with run := none }) s), [])

/-- A bank's command has ended: a failed program makes the append bad and ends the bank's plan (R270). -/
def recBankDone (b : Nat) (e : FlashEnd) (own : Bool) (s : State) : State :=
  if own ∧ e = .verify then
    setStore (fun r => { r with run := r.run.map fun u => { u with bad := true } }) (setBank b (fun k => { k with plan := [] }) s)
  else s

/-! ### Reading the store (R268, R272) -/

/-- The bytes of a record's units in a bank. -/
def recBytes (s : State) (b : Nat) (p : RecPos) : Bytes := s.flashRead b (unitAddr p.phys p.unit) (16 * p.units)

/-- Header through last payload unit, and the signature, of a record's bytes. -/
def recSigOk (s : State) (bs : Bytes) : Bool :=
  let n := bs.length
  match s.fuses.recPub with
  | none => false
  | some k => sigOk256 k (bs.take (n - 80)) (slice bs (n - 80) 64)

/-- The commit unit is valid. -/
def recCommitOk (bs : Bytes) : Bool :=
  let n := bs.length
  decide (leAt bs (n - 16) 4 = leAt bs 4 4) && decide (leAt bs (n - 12) 4 = crc32 (bs.take (n - 16)))

/-- A unit of a record cannot be read in a bank (R255). -/
def recBad (s : State) (b : Nat) (p : RecPos) : Bool := flashBad s b (unitAddr p.phys p.unit) (16 * p.units)

/-- How many units of a record can be read in a bank before one that cannot. -/
def recReadable (s : State) (b : Nat) (p : RecPos) : Nat :=
  ((List.range p.units).takeWhile fun i => !flashBad s b (unitAddr p.phys (p.unit + i)) 16).length

/-- A copy verifies: it can be read, commit CRC and signature (R268). -/
def recVerifies (s : State) (b : Nat) (p : RecPos) : Bool :=
  let bs := recBytes s b p
  !recBad s b p && recSigOk s bs && recCommitOk bs

/-- The record of a SEQ. -/
def recFind (s : State) (seq : Nat) : Option RecPos := s.store.index.find? fun p => decide (p.seq = seq)

/-- Copies differ, or one cannot be read whole (R272). -/
def recSplit (s : State) (p : RecPos) : Bool := decide (recBytes s 2 p ≠ recBytes s 3 p) || recBad s 2 p || recBad s 3 p

/-- A bank of the store is BUSY: a read is made again once its operation has ended (R255, R272). -/
def storeBusy (s : State) : Bool := [2, 3].any fun b => (s.bank b).busy.isSome

/-- A read that finds a SPLIT sets the leaf and enters the event (R272). -/
def recNoteRead (p : RecPos) (s : State) : State :=
  let seen := fun b t => flashSeen b (unitAddr p.phys p.unit) (16 * p.units) t
  let s := seen 3 (seen 2 s)
  if recSplit s p then logEvent 7 0 "RECORD.SPLIT" [w32 p.seq] (setLeaf 3 2 s) else s

/-! ### Recovery at a start (R269) -/

/-- The lap and position of a physical sector that is open: its header verifies in both banks. -/
def openSector (s : State) (phys : Nat) : Option (Nat × Nat) :=
  let h := s.flashRead 2 (unitAddr phys 0) 16
  let lap := leAt h 4 4
  let l := leAt h 8 1
  let read := !flashBad s 2 (unitAddr phys 0) 16 && !flashBad s 3 (unitAddr phys 0) 16
  if read ∧ h = sectorHeader lap l ∧ s.flashRead 3 (unitAddr phys 0) 16 = h ∧ l < 112 ∧ recPhys lap l = phys then some (lap, l)
  else none

/-- A record header unit that verifies: magic, a length in range, room in the sector. -/
def headerAt (s : State) (b phys u : Nat) : Option RecPos :=
  let h := s.flashRead b (unitAddr phys u) 16
  let n := leAt h 2 1
  if !flashBad s b (unitAddr phys u) 16 ∧ leAt h 0 2 = 0x5243 ∧ 7 ≤ n ∧ n ≤ 35 ∧ u + n ≤ 1024 then some { seq := leAt h 4 4, phys := phys, unit := u, units := n }
  else none

/-- Walk the records of a sector from a unit. -/
def walkSector (s : State) (phys fuel u : Nat) : List RecPos :=
  match fuel with
  | 0 => []
  | f + 1 =>
    match (headerAt s 2 phys u).or (headerAt s 3 phys u) with
    | none => []
    | some p => p :: walkSector s phys f (u + p.units)

/-- The open sectors in the order of their laps. -/
def openSectors (s : State) : List (Nat × Nat) :=
  ((List.range 128).filterMap (openSector s)).mergeSort fun a b => a.1 * 112 + a.2 ≤ b.1 * 112 + b.2

/-- A body that verifies in both banks. -/
def bodyBoth (s : State) (p : RecPos) : Bool :=
  [2, 3].all fun b => !recBad s b { p with units := p.units - 1 } && recSigOk s (recBytes s b p)
def commitBoth (s : State) (p : RecPos) : Bool := recCommitOk (recBytes s 2 p) && recCommitOk (recBytes s 3 p)

/-- The hash a later record's chain unit names. -/
def recHash (s : State) (p : RecPos) : Bytes := sha256 ((recBytes s 2 p).take (16 * (p.units - 1)))

/-- The records in the store (R268), from newest to oldest: bodies that verify, committed or named by the next one kept. -/
def keepRecords (s : State) (newest : List RecPos) : List RecPos :=
  newest.foldl (fun kept p =>
    let named := match kept.head? with
      | none => false
      | some q => decide (slice (recBytes s 2 q) 16 16 = (recHash s p).take 16)
    if bodyBoth s p && (commitBoth s p || named) then p :: kept else kept) []

/-- The first unit from u on that is erased in both banks (R264). -/
def firstErased (s : State) (phys u : Nat) : Nat :=
  u + ((firstIdx (1024 - u) fun i => [2, 3].all fun b => flashBlank s b (unitAddr phys (u + i)) 16).getD (1024 - u))

/-- The scan of step 9 (R269). At the last position of a lap, (lap, 0) has left the window once its records were expired with those of
the sector after it (R265). The records that the erase ahead must still name wait for their EXPIRY record. -/
def recoverStore (s : State) : State :=
  let r0 : Rec := { held := s.store.held, lostHeld := s.store.lostHeld }
  let secs := openSectors s
  match secs.getLast? with
  | none => { s with store := r0 }
  | some (lap, l) =>
    let walk := fun q : Nat × Nat => walkSector s (recPhys q.1 q.2) 147 1
    let out := decide (l = 111) && !secs.contains (lap, 1)
    let window := secs.filter fun q => decide (lap * 112 + l < q.1 * 112 + q.2 + 112) && !(out && decide (q = (lap, 0)))
    let recs := window.flatMap walk
    let here := walk (lap, l)
    let tail := recs.getLast?
    let kept := keepRecords s recs.reverse
    match tail with
    | none => { s with store := { r0 with any := true, lap := lap, l := l, isOpen := true, unit := firstErased s (recPhys lap l) 1 } }
    | some t =>
      let inHere := decide (here.getLast? = some t)
      let next := firstErased s (recPhys lap l) (if inHere then t.unit + t.units else 1)
      let acc := bodyBoth s t
      let sure := commitBoth s t
      let index := if acc && !sure then (if kept.getLast? = some t then kept else kept ++ [t]) else kept
      let newest := index.getLast?
      let st : Rec :=
        { r0 with any := true, lap := lap, l := l, isOpen := acc || !inHere, unit := next,
                  seq := (newest.map fun p => p.seq).getD 0,
                  hash := (newest.map fun p => recHash s p).getD [],
                  index := index, need := if sure then none else some (t, acc) }
      let st := { st with expireDue := !(goneRecords st).isEmpty }
      let s := { s with store := st }
      if sure then s else setLeaf 3 0 s

/-- Person 1 has started: what was held is appended, behind the RECOVERY record of a doubtful tail (R269, R271). -/
def recPerson1 (s : State) : State :=
  let rec1 : List RecDue := match s.store.need with
    | some (p, acc) => [{ kind := 2, payload := recoveryPayload p acc, who := .recovery }]
    | none => []
  recPump (setStore (fun r =>
    { r with queue := r.queue ++ rec1 ++ r.held, need := none, held := [], lostHeld := 0 }) s)

end Sys2Proof.Machine
end

