-- ==== Sys2Proof/Machine/Life.lean ====
section
/-! DEFINITION. Lifecycle changes, holds and the tamper log (R24 to R26, R400, R403 to R405). -/

namespace Sys2Proof.Machine

/-- Re-evaluate the lifecycle: a change is shown in slot 1, sets leaf STATE_CHANGED and makes a record (R24, R26); the record of
the enrolment holds the record-signing public key (R421). From step 7 of a start on, when the tree and slot 1 are live (R53), so
the passage of every start through OUT_OF_SERVICE (R24, R55) is a change of its own. -/
def lifeCheck (s : State) : State :=
  let s := pubSlot 1 s
  if s.stw.lifeShown = s.life ∨ s.isl.step < 7 then s
  else
    let old := s.stw.lifeShown
    let new := s.life
    recordMake 4 ([BitVec.ofNat 8 old, BitVec.ofNat 8 new] ++ (if new = 2 then s.fuses.recPub.getD [] else []))
      (logEvent 7 0 "LIFECYCLE.STATE_CHANGED" [w32 old, w32 new]
        (setLeaf 14 0 { s with stw := { s.stw with lifeShown := new } }))

/-- The RTC as the tamper log and the records write it (R263). -/
def rtcFracWord (s : State) : Nat := s.snt.rtcFrac % 2 ^ 15 + bitN s.snt.rtcValid * 2 ^ 15

/-- The slot a new tamper entry takes: an empty one, or that of the oldest copied entry (R404). -/
def tamperSlot (s : State) : Option Nat :=
  match firstIdx 64 fun i => (vget s.snt.tlog i).isNone with
  | some i => some i
  | none =>
    (List.range 64).foldl (fun best i =>
      match vget s.snt.tlog i with
      | some e =>
        if !e.copied then best
        else match best with
          | none => some i
          | some b => if e.seq < ((vget s.snt.tlog b).getD {}).seq then some i else some b
      | none => best) none

/-- Show a tamper entry: leaf LOG with TAMPER_INDEX, mirror slot 3 (R404, R405). -/
def tamperShown (i : Nat) (s : State) : State :=
  pubSlot 3 (setLeafD 0 6 [(4, 0x8000 + i)] { s with snt := { s.snt with tindex := i } })

/-- Make a tamper-log entry with a count (R403, R404). -/
def tamperN (cause detail count : Nat) (s : State) : State :=
  let e : TEntry := { cause := cause, detail := detail, count := count, sec := s.snt.rtcSec, frac := rtcFracWord s,
                      start := s.isl.startSeq, seq := s.snt.tseq + 1 }
  match tamperSlot s with
  | some i =>
    tamperShown i { s with snt := { s.snt with tlog := vset s.snt.tlog i (some e), tseq := s.snt.tseq + 1,
                                               overflowing := false } }
  | none =>
    let i := s.snt.tindex
    let old := (vget s.snt.tlog i).getD {}
    let o : TEntry := { old with cause := 0x0F, detail := cause, count := Nat.min 0xFFFF (old.count + count), sec := s.snt.rtcSec,
                                 frac := rtcFracWord s }
    let s := if s.snt.overflowing then s else setLeaf 0 7 s
    tamperShown i { s with snt := { s.snt with tlog := vset s.snt.tlog i (some o), overflowing := true } }

/-- Make a tamper-log entry; every event of tamper class is in the event log too (R407). -/
def tamper (cause detail : Nat) (s : State) : State :=
  logEvent 7 0 "TAMPER" [w32 cause, w32 detail] (tamperN cause detail 1 s)

/-- The bit of a hold cause (R400): 0 VSTBY, 1 CASE, 2 MESH, 3 SURVEY, 4 ORDER. -/
def Holds.set (h : Holds) (c : Nat) : Holds :=
  match c with
  | 0 => { h with vstby := true }
  | 1 => { h with case_ := true }
  | 2 => { h with mesh := true }
  | 3 => { h with survey := true }
  | _ => { h with order := true }

/-- The holds as SNT_HOLD shows them. -/
def Holds.code (h : Holds) : Nat :=
  bitN h.vstby + 2 * bitN h.case_ + 4 * bitN h.mesh + 8 * bitN h.survey + 16 * bitN h.order

/-- Open a hold for a cause, when counter 0 is 2 or more (R25, R400): leaf, record, lifecycle. -/
def openHold (c : Nat) (s : State) : State :=
  if s.counter 0 < 2 then s
  else
    let s := setLeaf 14 1 { s with snt := { s.snt with hold := s.snt.hold.set c } }
    lifeCheck (recordMake 7 [1, BitVec.ofNat 8 s.snt.hold.code] s)

/-- Release every open hold (R25, R334, R400): entry RELEASE, leaf, record. -/
def releaseHolds (party : Nat) (s : State) : State :=
  let s := tamper 0x0C party { s with snt := { s.snt with hold := {} } }
  lifeCheck (recordMake 7 [0, BitVec.ofNat 8 party] (setLeaf 14 2 s))

/-- Step a one-way counter up to a value (R402); a value never goes down. -/
def stepCounter (n v : Nat) (s : State) : State :=
  { s with fuses := { s.fuses with counters := vmod s.fuses.counters n fun c => Nat.max c (Nat.min v 1023) } }

end Sys2Proof.Machine
end

