-- ==== Sys2Proof/Machine/Power.lean ====
section
/-! DEFINITION. Power states, starts and their causes, the reference, operating points, the ISL block (02, 20). The steps of a start stand in Start. -/

namespace Sys2Proof.Machine

/-- Change the island state. -/
def setIsl (f : Isl → Isl) (s : State) : State := { s with isl := f s.isl }

/-! ### What a start keeps (R52, R388, R412) -/

/-- The state of the staging area that a directory says (R282); one whose results are not all in counts as under way. -/
def stageOf (d : List DirEnt) : Staging :=
  d.foldl (fun st e => match e with
    | .open_ _ _ => .receiving | .closed _ => .staged | .activate all => if all then .pendingAll else .pendingOne
    | .copyBegin _ => .activating | .copyEnd _ => .activating | .result _ _ => st | .discard => .empty) .empty

/-- The device with every island but the sentinel without power: what stands in retention, in the fuses and in the flash
is kept; flash commands under way are cut (R257). -/
def powerLost (pw : Power) (s : State) : State :=
  let s := flashCut s
  let old := s.isl
  { pending := s.pending, free := s.free, secs := s.secs, fuses := s.fuses, snt := s.snt,
    isl := { power := pw, causeReg := old.causeReg, next := old.next, startSeq := old.startSeq, wake := old.wake,
             wakeLatch := old.wakeLatch, wakeCfg := old.wakeCfg, clean := old.clean, railsValid := old.railsValid,
             porstLow := old.porstLow, vioW := old.vioW, vioW33 := old.vioW33,
             vstbyLostSeen := old.vstbyLostSeen, pairSt := Vector.replicate 2 .off, fabric := .off, port := .off, host := .off },
    mem := { flash := s.mem.flash, full := s.mem.full, ecc := s.mem.ecc.filter fun u => decide (u.space = 3) },
    stw := { chSlot := s.stw.chSlot, chPending := s.stw.chPending, lifeShown := s.stw.lifeShown,
             persons := s.stw.persons.map fun q => if q.run = .dead then { run := .dead, failed := q.failed } else {} },
    seals := { p := s.seals.p.map fun q => { slot := q.slot }, zeroized := s.seals.zeroized, rnd := s.seals.rnd,
               debugOpen := s.seals.debugOpen },
    store := s.store.queue.foldl (fun r d => if d.who.steward then holdRecord d r else r)
      { held := s.store.held, lostHeld := s.store.lostHeld },
    srv := { chan := s.srv.chan.map fun q => { base := q.base, tampSec := q.tampSec, merged := q.merged },
             peerBase := s.srv.peerBase },
    bun := { s.bun with check := none, progress := 0, fresh := 0, copying := none, dir := s.bun.dir.take s.bun.dirDone,
                        st := if s.bun.dirDone < s.bun.dir.length then stageOf (s.bun.dir.take s.bun.dirDone) else s.bun.st },
    oru := { cars := (s.oru.cars.filter fun q => decide (q.car = .svc) || decide (q.car = .hst)).map fun q =>
               { car := q.car, out := q.out } } }

/-- A start begins at t0 with a cause (R53, R57): causes of a start cut short stay. -/
def beginStart (f : Causes → Causes) (s : State) : State :=
  let s := powerLost .starting s
  setIsl (fun k => { k with
    next := f k.next, fabric := .run, port := .run, host := .run,
    pairSt := Vector.ofFn fun i : Fin 2 => if i.val = 1 ∧ s.fuses.part = .an then .fusedOff else .starting }) s

/-- The supplies and PORST_N allow a start (R474). -/
def mayStart (s : State) : Bool := s.isl.railsValid && !s.isl.porstLow && s.snt.vstbyOk

/-- A restart the steward orders (R51): the run ends cleanly. -/
def restartDevice (s : State) : State := beginStart (fun c => { c with restart := true }) (setIsl (fun k => { k with clean := true }) s)

/-- The device runs: started and neither in STANDBY nor OFF. -/
def awake (s : State) : Bool := decide (s.isl.power = .run) || decide (s.isl.power = .nap)

/-- The main rails are gone or PORST_N is low: the device rests in OFF. -/
def enterOff (s : State) : State := powerLost .off s

/-! ### Start events (R51, R57, R477) -/

/-- MAIN_RAILS_VALID (R474). -/
def execMainRailsValid (s : State) : Host.Outcome State Fault Refusal :=
  let s := setIsl (fun k => { k with railsValid := true }) s
  .next (if s.isl.power = .off ∧ mayStart s then beginStart (fun c => { c with powerOn := true }) s else s)

/-- PORST_RELEASE (R51). -/
def execPorstRelease (s : State) : Host.Outcome State Fault Refusal :=
  let was := s.isl.porstLow
  let s := setIsl (fun k => { k with porstLow := false }) s
  .next (if was ∧ s.isl.power = .off ∧ mayStart s then beginStart id s else s)

/-- PORST_ASSERT (R57): the run or the start ends; the next start shows PORST. -/
def execPorstAssert (s : State) : Host.Outcome State Fault Refusal :=
  .next (enterOff (setIsl (fun k => { k with porstLow := true, next := { k.next with porst := true } }) s))

/-- WATCHDOG_EXPIRY (R51). -/
def execWatchdogExpiry (s : State) : Host.Outcome State Fault Refusal :=
  .next (if awake s || decide (s.isl.power = .starting) then beginStart (fun c => { c with watchdog := true }) s else s)

/-- RAIL_FAIL (R477): the device enters OFF; the next start reports POWER_ON and UNCLEAN. -/
def execRailFail (rail : Rail) (s : State) : Host.Outcome State Fault Refusal :=
  .next (match rail with
    | .vddF | .vddFl | .vana | .vioP =>
      enterOff (setIsl (fun k => { k with railsValid := false, next := { k.next with powerOn := true } }) s))

/-! ### The reference (R32 to R34, R56, R484) -/

/-- Loops of the powered islands, as ISL_CLOCK.FLL_LOCK shows them: a pair island that is OFF has no oscillator (R31, R32). -/
def lockMask (s : State) : Nat :=
  let on := fun pr => decide (vget s.isl.pairSt pr ≠ .off) && decide (vget s.isl.pairSt pr ≠ .fusedOff)
  0x1C + bitN (on 0) + 2 * bitN (on 1)

/-- The reference is missing or off frequency (R33): the DCOs run free; CAN controllers in NORMAL are held (R452). -/
def refLost (s : State) : State :=
  if s.isl.refFault then s
  else
    let s := setIsl (fun k => { k with refFault := true, refOk := false, fllLock := 0 }) s
    let s := { s with port := { s.port with can := s.port.can.map fun q => if q.mode = 1 then { q with hold := true } else q } }
    pubSlot 3 (setLeaf 0 4 (tamper 6 0 s))

/-- The reference is present and in range: the loops lock (R33). -/
def refBack (s : State) : State :=
  let was := s.isl.refFault
  let s := setIsl (fun k => { k with refFault := false, refOk := true, fllLock := lockMask s }) s
  if was then pubSlot 3 (tamper 6 1 s) else s

/-- REF_FAULT (R33): the check is armed 20 ms after t0 (R56). -/
def execRefFault (s : State) : Host.Outcome State Fault Refusal := .next (if s.isl.refArmed then refLost s else s)

/-- REF_COMPARE (R484): more than 0.5 % off counts as missing. -/
def execRefCompare (hz : Nat) (unbroken : Bool) (s : State) : Host.Outcome State Fault Refusal :=
  .next (if hz < 24875000 ∨ 25125000 < hz then (if s.isl.refArmed then refLost s else s)
    else if unbroken then refBack s else s)

/-- CLOCK_CHECK_ARM (R56). -/
def execClockCheckArm (present : Bool) (s : State) : Host.Outcome State Fault Refusal :=
  let s := setIsl (fun k => { k with refArmed := true }) s
  .next (if present then (if s.isl.refFault then s else refBack s) else refLost s)

/-! ### Operating points (R40 to R43) -/

/-- The minimum rail of a point, in mV (R40). -/
def opMin (n : Nat) : Nat := if n ≤ 1 then 730 else if n = 2 then 760 else if n = 3 then 810 else 860

/-- The highest point a rail permits (R40). Below 730 mV the table permits none and ISL_OP has no code for that: the model takes OP0
(DESIGN CHOICE, log 105). -/
def opPermit (mv : Nat) : Nat := if 860 ≤ mv then 4 else if 810 ≤ mv then 3 else if 760 ≤ mv then 2 else if 730 ≤ mv then 1 else 0

/-- The requests that count on a pair: of the persons placed on it, and of the holders of PAIR by Orune (R41). A person's request
stays with the pair while the person is stopped, restarted or placed elsewhere, and counts again when it is placed there (DESIGN
CHOICE, log 106). -/
def opRequests (s : State) (pr : Nat) : List Nat :=
  let v := vget s.isl.opReq pr
  ((List.range 16).filter fun p =>
    decide (vget v p ≠ 7) && (decide (8 ≤ p) || s.placedOn p (2 * pr) || s.placedOn p (2 * pr + 1))).map fun p => vget v p

/-- The point a pair is to run at (R41); OP1 during a self-check (R291). -/
def opPick (s : State) (pr : Nat) : Nat :=
  let mx := vget s.isl.opMax pr
  if (match s.bun.check with | some q => decide (pairOf q.2 = pr) | none => false) then Nat.min 1 mx
  else match (opRequests s pr).filter fun q => decide (q ≤ mx) with
  | [] => Nat.min 3 mx
  | l => l.foldl Nat.max 0

/-- Set a pair on its way to its point (R42). -/
def opEval (pr : Nat) (s : State) : State :=
  let t := opPick s pr
  setIsl (fun k => { k with opTarget := vset k.opTarget pr (if t = vget k.opCur pr then none else some t) }) s

/-- OP_CHANGE_DONE (R42). A frequency that was halved (R43) stays so until a change of the point is done, whether the rail recovers
or not (DESIGN CHOICE, log 107). -/
def execOpChangeDone (pr : Pair) (s : State) : Host.Outcome State Fault Refusal :=
  let n := pairNo pr
  .next (match vget s.isl.opTarget n with
    | none => s
    | some t => setIsl (fun k => { k with opCur := vset k.opCur n t, opTarget := vset k.opTarget n none,
                                          opHalved := vset k.opHalved n false }) s)

/-- A rail's average is known: what it permits, and the point that follows (R40). -/
def railIs (pr mv : Nat) (s : State) : State :=
  opEval pr (setIsl (fun k => { k with railAvg := vset k.railAvg pr mv, opMax := vset k.opMax pr (opPermit mv) }) s)

/-- RAIL_BELOW_POINT (R43): the frequency halves, and the highest point still permitted is set. -/
def execRailBelowPoint (pr : Pair) (mv : Nat) (s : State) : Host.Outcome State Fault Refusal :=
  let n := pairNo pr
  .next (if mv < opMin (vget s.isl.opCur n) then
      setLeaf 11 2 (railIs n mv (setIsl (fun k => { k with opHalved := vset k.opHalved n true }) s))
    else s)

/-! ### DOZE, NAP, STANDBY (R45 to R50) -/

/-- A core stands in WAIT, or has no one to run. -/
def coreWaits (s : State) (c : Nat) : Bool :=
  let p := (s.core c).cur
  decide (p = 0) || (s.placed c).all fun q => (s.ctx c q).waiting

/-- A pair dozes: powered, both cores in WAIT, and neither bank engine busy (R45, R154). -/
def dozing (s : State) (pr : Nat) : Bool :=
  decide (vget s.isl.pairSt pr = .run) &&
    [2 * pr, 2 * pr + 1].all fun c => coreWaits s c && (vget s.cus.bankZero c).isEmpty

/-- The device dozes: every powered pair does (R45). -/
def deviceDoze (s : State) : Bool :=
  decide (s.isl.power = .run) && [0, 1].all fun pr => decide (vget s.isl.pairSt pr ≠ .run) || dozing s pr

/-- What keeps the device out of NAP (R45). -/
def napBusy (s : State) : Bool :=
  s.mov.toList.any (fun q => q.active) || (List.range 4).any (fun b => (s.bank b).busy.isSome) ||
    s.oru.cars.any (fun q => q.begun) || !s.cus.pageZero.isEmpty ||
    (List.range 4).any (fun c => !(vget s.cus.bankZero c).isEmpty) || s.seals.p.toList.any fun q => q.job.isSome

/-- NAP_ENTRY (R45, R46). -/
def execNapEntry (s : State) : Host.Outcome State Fault Refusal :=
  .next (if deviceDoze s && decide (s.isl.napDelay ≠ 0) && !napBusy s then
      setIsl (fun k => { k with power := .nap, fabricFast := false, napWake := false }) s
    else s)

/-- The conditions of STANDBY (R47, R345); a person in a hand-over has not stopped (R206), so its consent is asked too. -/
def mayStandby (s : State) : Bool :=
  decide (s.isl.power = .run) && decide (s.isl.step = 10) &&
    ([1, 2, 3, 4, 5, 6].all fun p =>
      (!s.running p && decide ((s.person p).run ≠ .handover)) || (s.person p).consent) &&
    s.win.cells.toList.all (fun q => decide (q.st ≠ 2)) && s.oru.cars.all (fun q => q.sess.isNone) && !(s.mov.toList.any fun q => q.active) &&
    (List.range 4).all (fun b => (s.bank b).busy.isNone) && decide (s.bun.st ≠ .pendingAll) &&
    decide (s.bun.st ≠ .pendingOne) && decide (s.bun.st ≠ .activating)

/-- What the steward saves in the sentinel (R47, R201, R227). -/
def savedNow (s : State) : Saved :=
  { src := s.cic.src, thresh := s.cic.thresh, op := s.isl.opCur,
    pairing := Vector.ofFn fun i : Fin 2 => s.pairPerson i.val }

/-- A wake event (R48, R49): in STANDBY it begins a start with cause WAKE; one that comes after it is latched as well, until step 2 of
that start hands the latch over. -/
def wakeBy (bit : Nat) (s : State) : State :=
  let waking := decide (s.isl.power = .starting) && decide (s.isl.step < 2) && s.isl.next.wake
  if s.isl.power ≠ .standby ∧ !waking then s
  else
    let s := setIsl (fun k => { k with wakeLatch := putBit k.wakeLatch bit true }) s
    if mayStart s ∧ !waking then beginStart (fun c => { c with wake := true }) s else s

/-- STANDBY_ENTRY (R47): retention is saved with the clean-shutdown mark, and the islands lose power. -/
def execStandbyEntry (s : State) : Host.Outcome State Fault Refusal :=
  .next (if mayStandby s then
      let s := setIsl (fun k => { k with clean := true, wakeLatch := 0 }) s
      powerLost .standby { s with snt := { s.snt with saved := some (savedNow s) } }
    else s)

/-- WAKE_EVENT (R49): a sense edge wakes as ISL_WAKE_CFG selects. -/
def execWakeEvent (w : WakeSrc) (s : State) : Host.Outcome State Fault Refusal :=
  let sel := fun lo (rising : Bool) => s.isl.wakeCfg.getLsbD (lo + if rising then 0 else 1)
  .next (match w with
    | .rtc => wakeBy 0 s
    | .sns0 r => if sel 0 r then wakeBy 1 s else s
    | .sns1 r => if sel 2 r then wakeBy 2 s else s
    | .can => wakeBy 3 s
    | .svc => wakeBy 4 s
    | .hst => wakeBy 5 s
    | .tamper => wakeBy 6 s)

/-! ### The window's supply (R476) -/

/-- WINDOW_IO_RISE (R476): the window answers above 1.55 V; the level class is taken at the rise. -/
def execWindowIoRise (mv : Nat) (s : State) : Host.Outcome State Fault Refusal :=
  .next (if mv ≤ 1550 then s else setIsl (fun k => { k with vioW := true, vioW33 := decide (2400 ≤ mv) }) s)

/-- WINDOW_IO_FALL (R476). -/
def execWindowIoFall (s : State) : Host.Outcome State Fault Refusal := .next (setIsl (fun k => { k with vioW := false }) s)

/-! ### The ISL block (02) -/

/-- An island code (ISL_STATE). -/
def islCode (st : IslState) : Nat :=
  match st with | .off => 0 | .starting => 1 | .run => 2 | .doze => 3 | .nap => 4 | .fusedOff => 15

/-- A pair's island code. -/
def pairCode (s : State) (pr : Nat) : Nat :=
  if s.isl.power = .nap ∧ vget s.isl.pairSt pr = .run then 4
  else if dozing s pr then 3 else islCode (vget s.isl.pairSt pr)

/-- The device code of ISL_STATE. -/
def deviceCode (s : State) : Nat :=
  match s.isl.power with
  | .nap => 4
  | .run => if deviceDoze s then 3 else 2
  | _ => 1

/-- The highest point requested on a pair, 7 none. -/
def opReqCode (s : State) (pr : Nat) : Nat := match opRequests s pr with | [] => 7 | l => l.foldl Nat.max 0

/-- Read a register of the ISL block. -/
def islRead (f off : Nat) (s : State) : Word :=
  if f ≠ 0 then 0
  else if off = 0x00 then s.isl.causeReg
  else if off = 0x04 then s.isl.wake
  else if off = 0x08 then w32 s.isl.wakeCfg.toNat
  else if off = 0x0C then
    w32 (deviceCode s * 0x1000000 + 0x200000 + islCode s.isl.host * 0x10000 + islCode s.isl.port * 0x1000 +
      islCode s.isl.fabric * 0x100 + pairCode s 1 * 16 + pairCode s 0)
  else if off = 0x10 then
    w32 (opReqCode s 1 * 0x1000000 + vget s.isl.opMax 1 * 0x100000 + vget s.isl.opCur 1 * 0x10000 +
      opReqCode s 0 * 0x100 + vget s.isl.opMax 0 * 16 + vget s.isl.opCur 0)
  else if off = 0x14 then w32 (s.isl.fllLock * 16 + bitN s.isl.refFault * 2 + bitN s.isl.refOk)
  else if off = 0x18 then w32 s.isl.napDelay
  else 0

end Sys2Proof.Machine
end

