-- ==== Sys2Proof/Machine/Persons.lean ====
section
/-! DEFINITION. What the steward does to a person as a whole: run states, stopping, the choice of the person a core runs (R94, R95, R160);
the trailer of a witness pair; the store buffer's way to the gate. -/

namespace Sys2Proof.Machine

/-- A person has something to run on a core: placed there and not in WAIT, or with a candidate where another runs there (R95, R116,
R213, R226). -/
def State.runnable (s : State) (c p : Nat) : Bool :=
  s.placedOn p c && (!(s.ctx c p).waiting || (decide ((s.core c).cur ≠ p) && decide (candidate s c p ≠ 0)))

/-- A person a core may take up of itself: on the trailer of a pair no witness person, which the lead takes up (R188). -/
def takesUp (s : State) (c p : Nat) : Bool := decide (c % 2 = 0) || (s.witnessOn p).isNone

/-- The next runnable person of a core after its current one, in rank order and round again (R95). -/
def nextRunnable (s : State) (c : Nat) : Option Nat :=
  let l := s.placed c
  let cur := (s.core c).cur
  let after := (l.dropWhile fun p => decide (p ≠ cur)).drop 1
  let round := after ++ l.takeWhile fun p => decide (p ≠ cur)
  round.find? fun p => decide (p ≠ cur) && takesUp s c p && s.runnable c p

/-- A RETI of a person on a core waits for its target (R93). -/
def inReti (s : State) (c p : Nat) : Bool := match (s.ctx c p).br with | some b => decide (b.kind = .reti) | none => false

/-- A person whose hand-over has begun runs on to the target of a RETI under way (R93, R205). -/
def leaving (s : State) (c p : Nat) : Bool :=
  decide ((s.person p).run = .handover) && maskBit (s.person p).cores c && inReti s c p

/-- The person a core takes up: on the trailer of a pair the lead's witness person, else the highest-ranked runnable one, or any
placed one (R95, R188). -/
def choosePerson (s : State) (c : Nat) : Nat :=
  let l := (s.placed c).filter fun p => takesUp s c p
  let lead := (s.core (2 * pairOf c)).cur
  if c % 2 = 1 ∧ s.placedOn lead c ∧ (s.witnessOn lead).isSome then lead
  else match l.find? fun p => s.runnable c p with
    | some p => p
    | none => (l.head?).getD 0

/-- A core whose current person has left takes up another (R95). -/
def pickPerson (c : Nat) (s : State) : State :=
  if (s.placed c).contains (s.core c).cur || leaving s c (s.core c).cur then s
  else setCore c (fun k => { k with cur := choosePerson s c, switchDue := false }) s

/-- Change a person's run state; its field of slot 2 changes with it (R353) and sets leaf STATEp (R366). -/
def setRun (p : Nat) (r : PRun) (s : State) : State :=
  let fresh := fun (q : Person) => q.afresh && (decide (r = .running) || decide (r = .restarting))
  let t := setPerson p (fun q => { q with run := r, afresh := fresh q }) s
  lifeCheck (pubSlot 2 (if personByte t p = personByte s p then t else setLeaf 5 (7 + p) t))

/-- A custody operation of a person on a core that is not answered goes with the person (R154). -/
def dropCus (c p : Nat) (s : State) : State :=
  let s := setCtx c p (fun x => { x with cus := none }) s
  if s.cus.held = some c ∧ (s.core c).cur = p then { s with cus := { s.cus with held := none } } else s

/-- A person leaves its cores, keeping pages and banks (R160); its request for a point counts no more (R41). -/
def leaveCores (p : Nat) (s : State) : State :=
  let test := s.checking p
  let m := (s.person p).cores
  let s := setPerson p (fun q => { q with cores := 0, lastCores := if q.cores = 0 ∨ test then q.lastCores else q.cores }) s
  opEval 1 (opEval 0 (cicUpdate (forNat 4 (fun c t => if maskBit m c then pickPerson c (dropCus c p t) else t) s)))

/-- Stop a person in a given run state. -/
def stopPerson (p : Nat) (r : PRun) (s : State) : State := leaveCores p (setRun p r s)

/-! ### The trailer (R188 to R192) -/

/-! ### The store buffer's way to the gate (R167, R174) -/

/-- Every buffered place becomes due. -/
def allDue (k : Core) : Core := { k with sb := k.sb.map fun e => { e with due := true } }

/-- An outstanding load that comes before a store in program order (R174). -/
def loadBefore (k : Core) (stamp : Nat) : Bool :=
  k.ctx.toList.any fun x => x.loads.any fun l => decide (l.stamp < stamp)

/-- The entry may leave: of a witness person only once the trailer's buffer holds it at its head, too (R190). -/
def matched (s : State) (c : Nat) (e : SbEntry) : Bool :=
  (s.witnessOn e.person).isNone || decide (c % 2 = 1) ||
    match (s.core (c + 1)).sb with
    | f :: _ => decide (f.stamp = e.stamp ∧ f.person = e.person ∧ f.what = e.what)
    | [] => false

/-- The entry leaves the trailer's buffer with the lead's (R190). -/
def dropTwin (c : Nat) (e : SbEntry) (s : State) : State :=
  if (s.witnessOn e.person).isSome ∧ c % 2 = 0 then setCore (c + 1) (fun k => { k with sb := k.sb.drop 1 }) s else s

/-- Hand due places to the gate while it accepts (R35, R167, R174, R190). -/
def handOver (fuel c : Nat) (s : State) : State :=
  match fuel with
  | 0 => s
  | n + 1 =>
    let k := s.core c
    match k.sb with
    | [] => s
    | e :: rest =>
      let pr := pairOf c
      if e.due && decide ((vget s.gates.pairF pr).length < 8) && !loadBefore k e.last && !vget s.gates.closed pr && matched s c e then
        let t : StTxn := { core := c, person := e.person, stamp := e.stamp, what := e.what }
        let s := dropTwin c e (setCore c (fun k => { k with sb := rest }) s)
        handOver n c { s with gates := { s.gates with pairF := vmod s.gates.pairF pr fun l => l ++ [t] } }
      else s

/-- Drain what is due of a core's buffer. -/
def drain (c : Nat) (s : State) : State := handOver (s.core c).sb.length c s

/-- A drain trigger: everything buffered becomes due and leaves as the gate accepts (R167). -/
def drainAll (c : Nat) (s : State) : State := drain c (setCore c allDue s)

/-! ### The trailer (R188 to R192) -/

/-- The trailer of a witness person does what the lead does (R188 to R192): registers and owned banks follow, and while the pair
runs the person its store buffer; what it matches of the lead's may leave (R190). -/
def mirrorTrail (c p : Nat) (s : State) : State :=
  if (s.witnessOn p).isSome && decide (c % 2 = 0) then
    let k := s.core c
    let owned := (List.range 8).filter fun b => s.bankOwner c b == ownerCode p
    let s := setCore (c + 1) (fun t =>
      { t with ctx := vset t.ctx p (vget k.ctx p), lastDev := if k.cur = p ∧ t.cur = p then k.lastDev else t.lastDev, sb := if k.cur = p ∧ t.cur = p then k.sb else t.sb,
               dmem := owned.foldl (fun m b =>
                 cellsOver 0 (cellsClear m (bankBase b) 0x8000)
                   (k.dmem.filter fun q => decide (bankBase b ≤ q.1) && decide (q.1 < bankBase b + 0x8000))) t.dmem }) s
    drain c s
  else s

end Sys2Proof.Machine
end

