-- ==== Sys2Proof/Machine/Movers.lean ====
section
/-! DEFINITION. Movers (R229 to R231, R235, R236, R241 to R247): configuration, requests, the event matrix, commands, registers. The bursts themselves stand in Bursts. -/

namespace Sys2Proof.Machine

/-- A channel, and a change to one. -/
def State.chan (s : State) (n : Nat) : Chan := vget s.mov n
def setChan (n : Nat) (f : Chan → Chan) (s : State) : State := { s with mov := vmod s.mov n f }

/-- The owner of a channel and of its output (R229). -/
def State.chanOwner (s : State) (n : Nat) : Nat :=
  ((List.range 7).find? fun p => s.present p && maskBit (s.row p).moverMask n).getD 0

/-- The fields of a side (MOV SHAPE and MODE). -/
def Side.lines (d : Side) : Nat := bits d.shape 31 16
def Side.len (d : Side) : Nat := bits d.shape 15 0 + 1
def Side.fixed (d : Side) : Bool := d.mode.getLsbD 8
def Side.coresel (d : Side) : Nat := bits d.mode 2 0

/-- The fields of MOV_CFG. -/
def Chan.reqsel (q : Chan) : Nat := bits q.cfg 22 16
def Chan.repeats (q : Chan) : Bool := q.cfg.getLsbD 13
def Chan.grantSel (q : Chan) : Nat := bits q.cfg 5 4
def Chan.burst (q : Chan) : Nat := 4 * 2 ^ bits q.cfg 2 0
def Chan.paced (q : Chan) : Bool := decide (q.reqsel ≠ 0)
def Chan.total (q : Chan) : Nat := q.dst.len * q.dst.lines

/-- The byte address of position b of the pattern (R230). -/
def sideAddr (d : Side) (b : Nat) : Nat :=
  if d.fixed then (d.addr + w32 (b % d.len % 4)).toNat
  else (d.addr + w32 (b / d.len) * d.stride + w32 (b % d.len)).toNat

/-- The kind of region an address lies in (R141). -/
def regionKind (a : Nat) : Nat :=
  match regionOf a with
  | .imem => 0 | .dmem _ => 1 | .page _ => 2 | .flash => 3 | .calib => 4 | .device _ => 5 | .unmapped => 6

/-- Where one fabric region ends and the next begins (R141), the top of the address space among them. -/
def regionEdges : List Nat :=
  [0x20000, 0x100000, 0x140000, 0x10000000, 0x10400000, 0x20000000, 0x20800000, 0x21000000, 0x21000200, 0x30000000, 0x30110000,
   0x100000000]

/-- The checks of R231 over one side. -/
def sideAligned (d : Side) : Bool :=
  decide (d.addr.toNat % 4 = 0) && decide (d.len % 4 = 0) && decide (d.stride.toNat % 4 = 0) && decide (1 ≤ d.lines)
def sideDevice (d : Side) : Bool :=
  decide (regionKind d.addr.toNat ≠ 5) || d.fixed || (decide (d.len = 4) && decide (d.stride = 4))
def sideRegion (d : Side) : Bool :=
  d.fixed || regionEdges.all fun e => decide (e ≤ d.addr.toNat) || decide (d.addr.toNat + d.len ≤ e)

/-- REQSEL, BURST, GRANT and CORESEL hold defined values (R231 check 3). -/
def selectsOk (q : Chan) : Bool :=
  (decide (q.reqsel ≤ 0x30) || (decide (0x40 ≤ q.reqsel) && decide (q.reqsel ≤ 0x4F))) &&
    decide (bits q.cfg 2 0 ≠ 7) && decide (q.grantSel ≠ 3) && decide (q.src.coresel ≤ 4) && decide (q.dst.coresel ≤ 4)

/-- The configuration of a channel passes every check of R231. -/
def shapeOk (q : Chan) : Bool :=
  sideAligned q.src && sideAligned q.dst && decide (q.src.len * q.src.lines = q.dst.len * q.dst.lines) &&
    selectsOk q && sideDevice q.src && sideDevice q.dst && sideRegion q.src && sideRegion q.dst

/-- The register frame of the peripheral behind a request line (R236, R449); lines 40 to 47 are reserved. -/
def lineFrame (n : Nat) : Option Nat :=
  if n < 8 then some (0xA0 + 1 + n)
  else if n < 16 then some (0x90 + 1 + (n - 8) / 2)
  else if n < 20 then some (0x90 + 5 + (n - 16) / 2)
  else if n < 24 then some (0x70 + 4 + 4 * ((n - 20) / 2))
  else if n < 28 then some (0x80 + 1 + (n - 24) / 2)
  else if n < 36 then some (0x50 + 1)
  else if n < 40 then some (0x60 + 1)
  else none

/-- REQSEL names a line the channel's owner may use, or no line (R236). -/
def requestOk (s : State) (q : Chan) (owner : Nat) : Bool :=
  if q.reqsel = 0 ∨ 0x40 ≤ q.reqsel then true
  else match lineFrame (q.reqsel - 1) with
    | none => false
    | some f => vget s.cus.frame f == ownerCode owner

/-! ### Requests and the event matrix (R235, R241, R243) -/

/-- The three event kinds of a channel (R241). -/
inductive MovEvt where
  | line | done | error
  deriving DecidableEq, Repr

/-- Output n selects an event of a channel (R243). -/
def outputSelects (q : Chan) (e : MovEvt) (ch : Nat) : Bool :=
  match e with
  | .done => q.evtDL.getLsbD ch
  | .line => q.evtDL.getLsbD (16 + ch)
  | .error => q.evtErr.getLsbD ch

/-- A request reaches a channel: counted; the 256th unserved one ends the transfer (R235). The Bool says it ended now. -/
def countRequest (q : Chan) : Chan × Bool :=
  if q.st ≠ .running ∨ !q.paced then (q, false)
  else if q.reqcnt < 255 then ({ q with reqcnt := q.reqcnt + 1 }, false)
  else if q.failing then (q, false)
  else if q.out.isEmpty then ({ q with failing := true, cause := 7, st := .error, ahead := [] }, true)
  else ({ q with failing := true, cause := 7, ahead := [] }, false)

/-- An event pulse of a channel through the matrix: outputs of the same owner that select it pulse their source and request
the channels that name them (R243). -/
def matrixEvent (fuel : Nat) (ch : Nat) (e : MovEvt) (s : State) : State :=
  match fuel with
  | 0 => s
  | f + 1 =>
    let ow := s.chanOwner ch
    forNat 16 (fun n t =>
      if t.chanOwner n = ow ∧ outputSelects (t.chan n) e ch then
        let t := if t.srcOwner (n + 1) = ow then cicPulse (n + 1) t else t
        forNat 16 (fun k u =>
          if u.chanOwner k = ow ∧ (u.chan k).reqsel = 0x40 + n then
            let r := countRequest (u.chan k)
            let u := setChan k (fun _ => r.1) u
            if r.2 then matrixEvent f k .error u else u
          else u) t
      else t) s

/-- A channel raises an event (R241). -/
def raiseEvent (ch : Nat) (e : MovEvt) (s : State) : State := matrixEvent 16 ch e s

/-- One request to every channel that names a selector value, of an owner if one is given (R235, R243). -/
def requestAll (sel : Nat) (owner : Option Nat) (s : State) : State :=
  forNat 16 (fun k u =>
    if decide ((u.chan k).reqsel = sel) && decide (owner.getD (u.chanOwner k) = u.chanOwner k) then
      let r := countRequest (u.chan k)
      let u := setChan k (fun _ => r.1) u
      if r.2 then raiseEvent k .error u else u
    else u) s

/-- A peripheral raises its request line (R235, R236), which comes over GP_F and is stamped (R37); card lines are never raised on AN. -/
def raiseLine (n : Nat) (s : State) : State :=
  if 40 ≤ n ∨ (24 ≤ n ∧ n < 28 ∧ s.fuses.part = .an) then s else requestAll (n + 1) none (stampArrival s)

/-- MOV_REQUEST (R235). -/
def execMovRequest (r : ReqSrc) (s : State) : Host.Outcome State Fault Refusal :=
  .next (match r with
    | .line n => raiseLine n.val s
    | .output n => requestAll (0x40 + n.val) (some (s.chanOwner n.val)) s)

/-! ### Commands (R244) -/

/-- A channel with nothing left outstanding ends a stop or a failure (R242, R244), or is reset where the steward waits (R246). -/
def settleChan (ch : Nat) (s : State) : State :=
  let q := s.chan ch
  if !q.out.isEmpty then s
  else if q.st = .stopping then setChan ch (fun q => if q.dying then {} else { q with st := .aborted }) s
  else if q.st = .running ∧ q.failing then raiseEvent ch .error (setChan ch (fun q => { q with st := .error }) s)
  else s

/-- START (R231, R236, R238, R244). -/
def movStart (ch : Nat) (s : State) : State :=
  let q := s.chan ch
  if q.active then s
  else
    let q : Chan := { q with reqcnt := 0, issued := 0, done := 0, grant := 0, out := [], failing := false, cause := 0, ahead := [],
                             lines := 0, line := 0, lineBytes := 0 }
    if !shapeOk q then raiseEvent ch .error (setChan ch (fun _ => { q with st := .error, cause := 5 }) s)
    else if !requestOk s q (s.chanOwner ch) then
      raiseEvent ch .error (setChan ch (fun _ => { q with st := .error, cause := 6 }) s)
    else
      let dev := decide (regionKind q.src.addr.toNat = 5)
      setChan ch (fun _ => { q with st := .running, cfg := if dev then putBit q.cfg 12 true else q.cfg }) s

/-- STOP (R244): no further burst, read-ahead discarded; ABORTED once none is outstanding. -/
def movStop (ch : Nat) (s : State) : State :=
  if (s.chan ch).st = .running then settleChan ch (setChan ch (fun q => { q with st := .stopping, ahead := [] }) s) else s

/-- A write to MOV_CMD: STOP wins over START (R244). -/
def movCmd (ch : Nat) (v : Word) (s : State) : State :=
  if v.getLsbD 1 then movStop ch s else if v.getLsbD 0 then movStart ch s else s

/-- A core commands a channel through its frame: its person must own it (R229, R246). -/
def ownsChan (s : State) (c ch : Nat) : Bool :=
  let p := (s.core c).cur
  decide (p ≠ 0) && s.running p && decide (s.chanOwner ch = p)

/-- MOV_START. -/
def execMovStart (core : Fin 4) (ch : Fin 16) (s : State) : Host.Outcome State Fault Refusal :=
  .next (if ownsChan s core.val ch.val then movCmd ch.val 1 s else s)

/-- MOV_STOP. -/
def execMovStop (core : Fin 4) (ch : Fin 16) (s : State) : Host.Outcome State Fault Refusal :=
  .next (if ownsChan s core.val ch.val then movCmd ch.val 2 s else s)

/-! ### Where a side lies, and writes into memory (R230, R240) -/

/-- The core a side in local memory names (R240); an owner that has left its cores keeps those it last ran on (R246). -/
def sideCore (s : State) (p : Nat) (d : Side) : Nat :=
  if d.coresel < 4 then d.coresel
  else
    let q := s.person p
    (maskCores (if q.cores = 0 then q.lastCores else q.cores)).headD 0

/-- The pair of an owner that runs witnessed, or did when it left its cores (R240, R246). -/
def sidePair (s : State) (p : Nat) : Option Nat :=
  let q := s.person p
  if q.wasWitness then maskPair (if q.cores = 0 then q.lastCores else q.cores) else none

/-- The cores a side acts on: both of its owner's witness pair, else the one it names (R240). -/
def sideCores (s : State) (p c : Nat) : List Nat :=
  match sidePair s p with
  | some pr => if pairOf c = pr then [2 * pr, 2 * pr + 1] else [c]
  | none => [c]

/-- An address lies in local memory. -/
def localAddr (a : Nat) : Bool := decide (regionKind a ≤ 1)

/-- The addresses of the words of a burst on a side. -/
def burstAddrs (d : Side) (b n : Nat) : List Nat := (List.range (n / 4)).map fun i => sideAddr d (b + 4 * i)

/-- The words of a little-endian byte string. -/
def wordsIn (bs : Bytes) : List Word := (List.range (bs.length / 4)).map fun i => w32 (leAt bs (4 * i) 4)

/-- Write one word into memory, into local memory over the gate of its pair, behind what waits there (R36). -/
def putWord (cs : List Nat) (a : Nat) (w : Word) (s : State) : State :=
  let bs := leBytes 4 w.toNat
  match regionOf a with
  | .page _ => sramPut a bs s
  | .dmem _ => forAll cs (fun c t => dmemWrite c a bs (eccOver 1 c a 4 t)) (gateFlush (pairOf (cs.headD 0)) s)
  | .imem =>
    forAll cs (fun c t => setCore c (fun k => { k with imem := cellsPut 0 k.imem a bs }) (eccOver 2 c a 4 t))
      (gateFlush (pairOf (cs.headD 0)) s)
  | _ => s

/-- Put a burst into memory: a run of shared SRAM at once, other words one by one. -/
def putMem (cs : List Nat) (da : List Nat) (data : Bytes) (s : State) : State :=
  let a := da.headD 0
  if regionKind a = 2 ∧ da = (List.range da.length).map (fun i => a + 4 * i) then sramPut a (data.take (4 * da.length)) s
  else forAll (da.zip (wordsIn data)) (fun q t => putWord cs q.1 q.2 t) s

/-- Bytes of n that a destination in shared SRAM takes before the access that meets an uncorrectable word it writes in part
(R163, R242); a FIXED side writes 4 bytes at a time. -/
def writeRoom (s : State) (fixed : Bool) (a n : Nat) : Nat :=
  let badAt := fun x => decide (regionKind x = 2) && eccBad 0 0 x 1 s
  if fixed then (if badAt a then 0 else n)
  else if a % 8 ≠ 0 ∧ badAt a then 0
  else if (a + n) % 8 ≠ 0 ∧ badAt (a + n - 1) then (a + n - 1) / 16 * 16 - a
  else n

/-- A side lies on an island that is off (R38, R240). -/
def sideOff (s : State) (c : Nat) (addrs : List Nat) : Bool :=
  addrs.any localAddr && decide (vget s.isl.pairSt (pairOf c) ≠ .run ∨ vget s.gates.closed (pairOf c) = true)

/-- Outstanding bursts of a channel that write to words which are picked out by core and address write them now: they were accepted
before the words are zeroed (R153) or the frame is reset (R246). -/
def putEarly (hit : Nat → Nat → Bool) (ch : Nat) (s : State) : State :=
  forNat (s.chan ch).out.length (fun i t =>
    let q := t.chan ch
    match q.out[i]? with
    | none => t
    | some b =>
      let da := burstAddrs q.dst b.dst b.data.length
      let a := da.headD 0
      let dc := sideCore t (t.chanOwner ch) q.dst
      let cs := sideCores t (t.chanOwner ch) dc
      if b.put.isSome || b.lost || decide (2 < regionKind a) || sideOff t dc da || !(da.any fun a => cs.any fun c => hit c a) then t
      else
        let n := writeRoom t q.dst.fixed a b.data.length
        setChan ch (fun z => { z with out := z.out.set i { b with put := some n } }) (putMem cs (da.take (n / 4)) (b.data.take n) t)) s

/-- Restart, DEAD or ONE activation of the owner: its channels stop and their frames return to reset (R246). The bursts that write to
memory are waited for; those to a register frame end with their commands, and the frame is reset then (assumption 119). -/
def movReset (p : Nat) (s : State) : State :=
  forNat 16 (fun n t =>
    if t.chanOwner n = p then
      let t := putEarly (fun _ _ => true) n t
      setChan n (fun q =>
        let left := q.out.filter fun b => decide (regionKind (sideAddr q.dst b.dst) = 5)
        if left.isEmpty then {} else { q with st := .stopping, out := left, ahead := [], dying := true }) t
    else t) s

/-- After a hand-over, outstanding bursts of a person whose fixed CORESEL names a bank it no longer owns are lost (R246). -/
def movLost (p : Nat) (s : State) : State :=
  forNat 16 (fun n t =>
    let q := t.chan n
    let cs := sideCores t p (sideCore t p q.dst)
    if t.chanOwner n = p ∧ q.dst.coresel < 4 then
      setChan n (fun q => { q with out := q.out.map fun b =>
        let da := burstAddrs q.dst b.dst b.data.length
        let gone := da.any fun a => localAddr a && cs.any fun c => !t.mayWrite c p a
        if b.put.isNone && gone then { b with lost := true } else b }) t
    else t) s

/-- Some channel is active (R45, R47). -/
def movBusy (s : State) : Bool := s.mov.toList.any fun q => q.active

/-! ### The MOV block (10) -/

/-- The channels of one owner as a mask. -/
def ownMask (s : State) (p : Nat) : Nat :=
  (List.range 16).foldl (fun m n => if s.chanOwner n = p then m + 2 ^ n else m) 0

/-- The channel has a burst that touches local memory, the next one or an outstanding one (R246). -/
def Chan.touchesLocal (q : Chan) : Bool :=
  (decide (q.issued < q.total) || q.repeats) && (localAddr (sideAddr q.src (q.issued % q.total)) || localAddr (sideAddr q.dst (q.issued % q.total))) ||
    q.out.any fun b => (burstAddrs q.dst b.dst b.data.length).any localAddr

/-- The state code MOV_STATUS shows. -/
def movStateCode (s : State) (n : Nat) : Nat :=
  let q := s.chan n
  match q.st with
  | .idle => 0
  | .running =>
    if (s.person (s.chanOwner n)).run = .handover && q.touchesLocal then 6 else 1
  | .stopping => 2
  | .done => 3
  | .aborted => 4
  | .error => 5

/-- Read a register of frame n of the MOV block. -/
def movRead (n off : Nat) (s : State) : Word :=
  let q := s.chan n
  if off = 0x000 then q.cfg
  else if off = 0x008 then
    w32 (q.reqcnt * 0x1000000 + q.out.length * 0x10000 + q.cause * 0x1000 + movStateCode s n)
  else if off = 0x010 then q.src.addr
  else if off = 0x014 then q.src.shape
  else if off = 0x018 then q.src.stride
  else if off = 0x01C then q.src.mode
  else if off = 0x020 then q.dst.addr
  else if off = 0x024 then q.dst.shape
  else if off = 0x028 then q.dst.stride
  else if off = 0x02C then q.dst.mode
  else if off = 0x030 then w32 (q.lines * 0x10000 + q.lineBytes)
  else if off = 0x034 then q.errSrc
  else if off = 0x038 then q.errDst
  else if off = 0x040 then q.evtDL
  else if off = 0x044 then
    w32 (q.evtErr.toNat + bitN (decide (s.srcOwner (n + 1) ≠ s.chanOwner n)) * 0x80000000)
  else 0

/-- Write a register of frame n of the MOV block (R244: configuration only while the channel is at rest). -/
def movWrite (n off : Nat) (v : Word) (s : State) : State :=
  if off = 0x004 then movCmd n v s
  else if off = 0x040 then
    let m := ownMask s (s.chanOwner n)
    if (s.chan n).active then s else setChan n (fun q => { q with evtDL := v &&& w32 (m * 0x10001) }) s
  else if off = 0x044 then
    if (s.chan n).active then s
    else setChan n (fun q => { q with evtErr := v &&& w32 (ownMask s (s.chanOwner n)) }) s
  else if (s.chan n).active then s
  else if off = 0x000 then setChan n (fun q => { q with cfg := v &&& 0x007F3337 }) s
  else if off = 0x010 then setChan n (fun q => { q with src := { q.src with addr := v } }) s
  else if off = 0x014 then setChan n (fun q => { q with src := { q.src with shape := v } }) s
  else if off = 0x018 then setChan n (fun q => { q with src := { q.src with stride := v } }) s
  else if off = 0x01C then setChan n (fun q => { q with src := { q.src with mode := v &&& 0x107 } }) s
  else if off = 0x020 then setChan n (fun q => { q with dst := { q.dst with addr := v } }) s
  else if off = 0x024 then setChan n (fun q => { q with dst := { q.dst with shape := v } }) s
  else if off = 0x028 then setChan n (fun q => { q with dst := { q.dst with stride := v } }) s
  else if off = 0x02C then setChan n (fun q => { q with dst := { q.dst with mode := v &&& 0x107 } }) s
  else s

end Sys2Proof.Machine
end

