-- ==== Sys2Proof/Machine/Sentinel.lean ====
section
/-! DEFINITION. The sentinel's clock, alarm, monitors, switches, mesh and loss of VSTBY (R390 to R404), the SNT block. -/

namespace Sys2Proof.Machine

/-- Change the sentinel's state. -/
def setSnt (f : Snt → Snt) (s : State) : State := { s with snt := f s.snt }

/-- The window's time leaf for an RTC that becomes invalid, with the lifecycle that follows (R24, R391). -/
def rtcInvalid (s : State) : State :=
  let was := s.snt.rtcValid
  let s := setSnt (fun q => { q with rtcValid := false }) s
  lifeCheck (if was then setLeaf 13 0 s else s)

/-! ### Seconds and the alarm (R390, R393, R461) -/

/-- A due alarm fires once (R393). -/
def alarmFire (s : State) : State :=
  if s.snt.alarm ≠ 0 ∧ s.snt.alarm.toNat ≤ s.snt.rtcSec.toNat then
    wakeBy 0 (cicPulse 91 (setLeaf 13 2 (setSnt (fun q => { q with alarm := 0 }) s)))
  else s

/-- The seconds increment while PORT runs: CAP and the seconds are latched together (R461). -/
def markLatch (s : State) : State :=
  if s.isl.port = .run then
    let r := freeNat s
    let cap := BitVec.ofNat 31 r.1
    { r.2 with port := { s.port with sns := { s.port.sns with cap := cap, markCap := cap, markSec := s.snt.rtcSec } } }
  else s

/-- RTC_SECOND (R390): no second passes while the sentinel has no power. -/
def execRtcSecond (s : State) : Host.Outcome State Fault Refusal :=
  .next (if !s.snt.vstbyOk then s
    else
      let s := { setSnt (fun q => { q with rtcSec := q.rtcSec + 1, rtcFrac := 0 }) s with secs := s.secs + 1 }
      alarmFire (markLatch s))

/-- Set the time (R333, R390): the record of KIND 0x05 names the old value, or invalid, and the new one. -/
def setTime (sec frac src party : Nat) (s : State) : State :=
  let old := leBytes 4 s.snt.rtcSec.toNat ++ leBytes 2 (rtcFracWord s)
  let s := setSnt (fun q => { q with rtcSec := w32 sec, rtcFrac := frac % 32768, rtcValid := true, rtcSet := true }) s
  let s := recordMake 5 (old ++ leBytes 4 sec ++ leBytes 2 (rtcFracWord s)) s
  lifeCheck (pubSlot 0 (setLeaf 13 1 (logEvent src party "SET_TIME" [w32 sec, w32 frac] s)))

/-- The lowest and highest second SET TIME accepts (R390). -/
def timeLow : Nat := 631152000
def timeHigh : Nat := 4291747199

/-! ### Monitors (R394, R396) -/

/-- What the sentinel finds while it has power (R388, R399). -/
def sentinelSees (t s : State) : State := if s.snt.vstbyOk then t else s

/-- RC_CHECK (R394): outside 8,000,000 ± 2 %. -/
def execRcCheck (count : Nat) (s : State) : Host.Outcome State Fault Refusal :=
  .next (sentinelSees (if count < 7840000 ∨ 8160000 < count then
      (if s.snt.rcFault then s
       else pubSlot 3 (setLeaf 0 4 (tamper 7 2 (setSnt (fun q => { q with rcFault := true }) s))))
    else pubSlot 3 (setSnt (fun q => { q with rcFault := false }) s)) s)

/-- X32_FAULT (R394). -/
def execX32Fault (s : State) : Host.Outcome State Fault Refusal :=
  .next (sentinelSees (if s.snt.x32Fault then s
    else rtcInvalid (pubSlot 3 (setLeaf 0 4 (tamper 7 1 (setSnt (fun q => { q with x32Fault := true }) s))))) s)

/-- X32_RETURN (R394): the RTC stays invalid. -/
def execX32Return (s : State) : Host.Outcome State Fault Refusal :=
  .next (sentinelSees (pubSlot 3 (setSnt (fun q => { q with x32Fault := false }) s)) s)

/-- A sample of the die temperature (R396). -/
def tempSample (t : Int) (s : State) : State :=
  let high := decide (130 < t)
  let out := high || decide (t < -45)
  let s := setSnt (fun q => { q with
    temp := t, tempRun := if !out then 0 else if q.tempRunHigh = high then satInc q.tempRun 3 else 1, tempRunHigh := high,
    tempOut := q.tempOut && !(decide (-40 ≤ t) && decide (t ≤ 125)) }) s
  if out && decide (3 ≤ s.snt.tempRun) && !s.snt.tempOut then
    pubSlot 3 (setLeaf 0 5 (tamper 8 (if high then 2 else 1) (setSnt (fun q => { q with tempOut := true }) s)))
  else pubSlot 3 s

/-- TEMP_SAMPLE, in °C (R396). -/
def execTempSample (t : Int) (s : State) : Host.Outcome State Fault Refusal := .next (sentinelSees (tempSample t s) s)

/-! ### Case and mesh (R397, R398) -/

/-- CASE_CHANGE (R397). -/
def execCaseChange (n : Fin 4) (opened : Bool) (s : State) : Host.Outcome State Fault Refusal :=
  .next (if !s.snt.vstbyOk ∨ s.snt.tmpOpen.getLsbD n.val = opened then s
    else
      let b := BitVec.ofNat 4 (2 ^ n.val)
      let s := setSnt (fun q => { q with tmpOpen := q.tmpOpen ^^^ b }) s
      let s := pubSlot 3 (setLeaf 0 0 (tamper (if opened then 1 else 2) n.val s))
      if opened then wakeBy 6 (openHold 1 s) else s)

/-- The code of a mesh class. -/
def meshCode (c : MeshClass) : Nat := match c with | .opened => 1 | .shorted => 2 | .mismatch => 3

/-- MESH_EVENT (R398): a new event begins with wrong bits after correct ones, or with a change of class. -/
def execMeshEvent (cls : MeshClass) (s : State) : Host.Outcome State Fault Refusal :=
  .next (if !s.snt.vstbyOk ∨ s.snt.mesh = meshCode cls then s
    else
      let s := setSnt (fun q => { q with mesh := meshCode cls }) s
      wakeBy 6 (openHold 2 (pubSlot 3 (setLeaf 0 1 (tamper 3 (meshCode cls) s)))))

/-- MESH_RESTORED (R398): no entry, and the hold stays. -/
def execMeshRestored (s : State) : Host.Outcome State Fault Refusal :=
  .next (sentinelSees (pubSlot 3 (setSnt (fun q => { q with mesh := 0 }) s)) s)

/-- The sources of the chain (R448). -/
def chainLevels (s : State) : State :=
  let out := fun d => decide ((s.cport d).st = .down) || decide ((s.cport d).st = .fault)
  let s := cicLevel 87 ([0, 1].any fun d => out d && (vget s.srv.peerBase d).isSome) s
  let s := cicLevel 88 (s.chn.rerouted && decide (s.chn.brk ≠ 0)) s
  let s := cicLevel 89 (decide (s.chn.role = .refused)) s
  cicLevel 90 ([0, 1].any fun d => decide ((s.cport d).st = .fault) && decide ((s.cport d).cause = 2)) s

/-! ### Loss of VSTBY (R399) -/

/-- Every key slot but a FIXED one is emptied. -/
def emptySlots (q : SealP) : SealP := { q with slot := q.slot.map fun k => if k.ty = .fixed then k else {} }

/-- VSTBY_LOSS: retention is empty; key slots but FIXED, baselines, held records and fences are gone (R271, R381, R412). -/
def vstbyLoss (detail : Nat) (s : State) : State :=
  let old := s.snt
  chainLevels { s with
    snt := { tmpOpen := old.tmpOpen, mesh := old.mesh, temp := old.temp, rtcSet := old.rtcSet, vstbyOk := false, loss := detail }
    isl := { s.isl with startSeq := 0, wakeCfg := 0, clean := false, wakeLatch := 0 }
    store := { s.store with held := [], lostHeld := 0 }
    srv := { s.srv with chan := s.srv.chan.map fun q => { q with base := none }, peerBase := Vector.replicate 2 none }
    seals := { s.seals with p := s.seals.p.map emptySlots } }

/-- VSTBY_LOSS. -/
def execVstbyLoss (why : VstbyCause) (s : State) : Host.Outcome State Fault Refusal :=
  .next (lifeCheck (vstbyLoss (match why with | .low => 0 | .high => 1 | .retention => 2) s))

/-- The sentinel powers up after a loss of VSTBY: invalid time, hold, entry 1 of a new sequence (R399). -/
def sentinelUp (s : State) : State :=
  let s := setIsl (fun k => { k with vstbyLostSeen := true }) (setSnt (fun q =>
    { q with vstbyOk := true, rtcSec := 0, rtcFrac := 0, rtcValid := false }) s)
  openHold 0 (rtcInvalid (tamper 4 s.snt.loss s))

/-- SENTINEL_POWER_UP (R399); a start that only VSTBY held back begins (R474). -/
def execSentinelPowerUp (s : State) : Host.Outcome State Fault Refusal :=
  .next (if s.snt.vstbyOk then s
    else
      let s := sentinelUp s
      if s.isl.power = .off ∧ mayStart s then beginStart id s else s)

/-! ### Copies of the tamper log (R404) -/

/-- The uncopied slots in SEQ order. -/
def uncopiedSlots (s : State) : List Nat :=
  ((List.range 64).filter fun i => match vget s.snt.tlog i with | some e => !e.copied | none => false).mergeSort
    fun a b => ((vget s.snt.tlog a).getD {}).seq ≤ ((vget s.snt.tlog b).getD {}).seq

/-- An entry's 16 bytes (R403). -/
def entryBytes (e : TEntry) : Bytes :=
  leBytes 1 e.cause ++ leBytes 1 e.detail ++ leBytes 2 e.count ++ leBytes 4 e.sec.toNat ++ leBytes 2 e.frac ++
    leBytes 2 e.start ++ leBytes 4 e.seq

/-- A copy is under way already. -/
def copying (s : State) : Bool :=
  let t := fun (d : RecDue) => match d.who with | .tamper _ => true | _ => false
  s.store.queue.any t || (match s.store.run with | some u => t u.due | none => false)

/-- TAMPER_COPY (R404): while person 1 runs, up to 28 uncopied entries go into a record of KIND 0x06. -/
def execTamperCopy (s : State) : Host.Outcome State Fault Refusal :=
  let l := (uncopiedSlots s).take 28
  .next (if !s.up1 || l.isEmpty || copying s then s
    else recordDue { kind := 6, payload := l.flatMap (fun i => entryBytes ((vget s.snt.tlog i).getD {})),
                     who := .tamper l } s)

/-- The record of a copy is acknowledged: its entries are marked, except one replaced by an OVERFLOW entry since (R404). -/
def markCopied (slots : List Nat) (payload : Bytes) (s : State) : State :=
  pubSlot 3 (forAll slots.zipIdx (fun q t =>
    let mark := fun (x : TEntry) => if entryBytes x = slice payload (16 * q.2) 16 then { x with copied := true } else x
    setSnt (fun n => { n with tlog := vmod n.tlog q.1 (Option.map mark) }) t) s)

/-! ### The SNT block (17) -/

/-- Read a register of the SNT block by a core (R392). -/
def sntRead (c f off : Nat) (s : State) : Word × State :=
  if f ≠ 0 then (0, s)
  else if off = 0x00 then
    (s.snt.rtcSec, setSnt (fun q => { q with fracShadow := vset q.fracShadow c (some q.rtcFrac) }) s)
  else if off = 0x04 then
    let fr := (vget s.snt.fracShadow c).getD s.snt.rtcFrac
    (w32 (bitN s.snt.rtcValid * 2 ^ 31 + fr * 2), setSnt (fun q => { q with fracShadow := vset q.fracShadow c none }) s)
  else if off = 0x08 then
    (w32 (bits s.snt.alarm 15 0 * 0x10000 + bitN s.fuses.zeroize * 0x100 + bitN s.snt.rcFault * 0x80 +
      bitN s.snt.x32Fault * 0x40 + s.snt.mesh % 4 * 16 + s.snt.tmpOpen.toNat), s)
  else if off = 0x0C then (w32 s.snt.hold.code, s)
  else if off = 0x10 then (w32 ((BitVec.ofInt 16 (10 * s.snt.temp)).toNat), s)
  else if off = 0x14 then
    (w32 (((vget s.snt.tlog s.snt.tindex).getD {}).seq % 0x10000 * 0x10000 + uncopied s * 0x100 + s.snt.tindex % 64), s)
  else if 0x100 ≤ off ∧ off < 0x180 then (w32 (s.counter ((off - 0x100) / 4)), s)
  else (0, s)

/-- A load of an SNT register by a core. -/
def sntLoad (c off : Nat) (s : State) : State :=
  let r := sntRead c 0 off s
  setCore c (fun k => { k with lastDev := r.1 }) r.2

/-- SNT_RTC_SEC_LOAD (R392). -/
def execSntRtcSecLoad (core : Fin 4) (s : State) : Host.Outcome State Fault Refusal := .next (sntLoad core.val 0 s)

/-- SNT_RTC_FRAC_LOAD (R392). -/
def execSntRtcFracLoad (core : Fin 4) (s : State) : Host.Outcome State Fault Refusal := .next (sntLoad core.val 4 s)

end Sys2Proof.Machine
end

