-- ==== Sys2Proof/Machine/Survey.lean ====
section
/-! DEFINITION. The survey (R368 to R387): channels, deviations, FEED outputs and their faults, cables, partners, baselines, streams, the SRV block. -/

namespace Sys2Proof.Machine

/-! ### Channel facts (R370) -/

/-- The name of a channel. -/
def chanName (n : Nat) : Text :=
  if n ≤ 9 then
    (["VBAT", "VDD_A", "VDD_B", "VDD_F", "VDD_FL", "VANA", "VIO_W", "VIO_P", "VSTBY", "VFEED"].getD n "").toList
  else if n ≤ 13 then "AIN".toList ++ decText (n - 10)
  else if n ≤ 23 then "FEED".toList ++ decText (n - 16)
  else if n ≤ 31 then "SNS".toList ++ decText (n - 24)
  else (["CHU", "CHD", "", "", "", "", "", "", "CHU_PEER", "CHD_PEER", "CAN0", "CAN1", "CARD0", "CARD1"].getD (n - 32) "").toList

/-- Upper case of a letter. -/
def upChar (c : Char) : Char := if 'a' ≤ c ∧ c ≤ 'z' then Char.ofNat (c.toNat - 32) else c

/-- The channel a name written in full names; card channels are none on AN (R370). -/
def chanOf (s : State) (t : Text) : Option Nat :=
  let u := t.map upChar
  (allChans.filter fun n => !(decide (44 ≤ n) && decide (s.fuses.part = .an))).find? fun n => decide (chanName n = u)

/-- Default windows and the limits of TOL (R370). -/
def defaultWin (n : Nat) : Nat :=
  if n = 0 then 3000
  else if n ≤ 3 then 25
  else if n ≤ 5 then 50
  else if n ≤ 7 then 100
  else if n = 8 then 150
  else if n = 9 then 300
  else if n ≤ 13 then 50
  else if n ≤ 23 then 15
  else 50
def tolOk (n tol : Nat) : Bool :=
  match chKind n with
  | some .supply => decide (5 ≤ tol) && decide (tol ≤ 20000)
  | some .feed => decide (2 ≤ tol) && decide (tol ≤ 100)
  | some .cable => decide (20 ≤ tol) && decide (tol ≤ 2000)
  | _ => false

/-- The leaf and the source of a kind (R366, R385). -/
def kindNo (k : ChKind) : Nat := match k with | .supply => 0 | .feed => 1 | .cable => 2 | .partner => 3

/-- A deviation of a channel with a cause is of tamper class (R370, R377). -/
def tamperClass (s : State) (n cause : Nat) : Bool :=
  match chKind n with
  | some .feed => decide (cause = 3) || decide (cause = 6) || decide (cause = 1) || decide (cause = 2)
  | some .cable => if n = 32 then !(s.sch 40).dev else if n = 33 then !(s.sch 41).dev else true
  | _ => false

/-! ### Deviations (R383 to R385) -/

/-- The levels of survey sources 79 to 84 (R385). -/
def surveyLevels (s : State) : State :=
  let dev := fun k => allChans.any fun n => (s.sch n).dev && decide (chKind n = some k)
  let s := cicLevel 82 (dev .partner) (cicLevel 81 (dev .cable) (cicLevel 80 (dev .feed) (cicLevel 79 (dev .supply) s)))
  let s := cicLevel 83 (allChans.any fun n => (s.sch n).dev && (s.sch n).tamper) s
  cicLevel 84 ((List.range 8).any fun g => decide (4 ≤ (vget s.srv.fifo g).length)) s

/-- The tamper-log entry of a deviation, at most one for a channel in 60 s (R384). -/
def deviationEntry (n : Nat) (s : State) : State :=
  let q := s.sch n
  match q.tampSec with
  | some t =>
    if s.secs < t + 60 then setCh n (fun q => { q with merged := q.merged + 1 }) s
    else tamperN 9 n (q.merged + 1) (setCh n (fun q => { q with tampSec := some s.secs, merged := 0 }) s)
  | none => tamperN 9 n (q.merged + 1) (setCh n (fun q => { q with tampSec := some s.secs, merged := 0 }) s)

/-- A deviation begins (R383). -/
def deviationBegin (n cause : Nat) (s : State) : State :=
  match chKind n with
  | none => s
  | some k =>
    let tc := tamperClass s n cause
    let s := setCh n (fun q => { q with dev := true, cause := cause, tamper := tc, devcount := satInc q.devcount 255, streak := 0 }) s
    let s := logEvent 7 0 "SURVEY.DEVIATION" [w32 n, w32 cause] (setLeafD 1 (kindNo k) [(7, n)] s)
    let s := if tc then openHold 3 (deviationEntry n (setLeaf 1 4 s)) else s
    pubSlot 4 (surveyLevels s)

/-- The class of a deviation under way follows its cause and, on CHU and CHD, the peer behind it (R370, R377): it shows in TAMPER,
source 83 and slot 4, while the entry and the hold belong to the beginning (R383, assumption 124). -/
def deviationClass (n : Nat) (s : State) : State :=
  let q := s.sch n
  let tc := tamperClass s n q.cause
  if !q.dev || q.tamper == tc then s else pubSlot 4 (surveyLevels (setCh n (fun q => { q with tamper := tc }) s))

/-- A deviation ends (R383). -/
def deviationEnd (n : Nat) (s : State) : State :=
  let s := setCh n (fun q => { q with dev := false, cause := 0, tamper := false, streak := 0 }) s
  pubSlot 4 (surveyLevels (logEvent 7 0 "SURVEY.DEVIATION_END" [w32 n] s))

/-- A verdict on a channel: a cause, or inside. A channel without a baseline never deviates. -/
def judge (n : Nat) (out : Option Nat) (s : State) : State :=
  if !based s n then (if (s.sch n).dev then deviationEnd n s else s)
  else match out, (s.sch n).dev with
    | some c, false => deviationBegin n c s
    | some c, true => if (s.sch n).cause = c then s else deviationClass n (setCh n (fun q => { q with cause := c }) s)
    | none, true => deviationEnd n s
    | none, false => s

/-! ### Supplies (R371) -/

/-- The verdict on a supply channel: outside beyond the window, inside again within 90 % of it (R371); an AIN channel that was present
at its baseline and is no longer (R379) is ABSENT. -/
def supplyVerdict (n : Nat) (q : SrvChan) : Option Nat :=
  match q.base with
  | none => none
  | some b =>
    let d := if q.value < b.value then b.value - q.value else q.value - b.value
    if (if q.dev then b.win * 9 < d * 10 else b.win < d) then some (if q.value < b.value then 1 else 2)
    else if 10 ≤ n ∧ q.value ≤ 50 ∧ 50 < b.value then some 15 else none

/-! ### FEED outputs (R372, R373, R463 to R466) -/

/-- An output, and a change to one. -/
def State.feed (s : State) (n : Nat) : Feed := vget s.port.feed n
def setFeed (n : Nat) (f : Feed → Feed) (s : State) : State := { s with port := { s.port with feed := vmod s.port.feed n f } }

/-- The verdict on a FEED channel: its faults, its signature, its level, its absence. -/
def feedVerdict (s : State) (n : Nat) : Option Nat :=
  let f := s.feed n
  let q := s.sch (16 + n)
  match q.base with
  | none => none
  | some b =>
    let d := if q.value < b.value then b.value - q.value else q.value - b.value
    if f.fault = 3 then some 4
    else if f.fault = 2 then some 5
    else if !f.on then some 15
    else if f.fault = 1 then some 3
    else if vget s.srv.sigOut n then some 6
    else if q.status = 1 ∧ b.value * b.win < d * 100 then some (if q.value < b.value then 1 else 2)
    else none

/-- Judge a FEED channel, and set its CIC source: 1 while the latch is set or OPEN holds (R465). -/
def feedJudge (n : Nat) (s : State) : State :=
  let f := s.feed n
  let s := cicLevel (25 + n) (f.latched || decide (f.fault = 1)) s
  if s.srv.refBad then s else judge (16 + n) (feedVerdict s n) s

/-- Switch an output on from its edge: the signature burst begins (R373). -/
def feedEdge (n : Nat) (s : State) : State :=
  let s := setFeed n (fun f => { f with on := true, fault := 0 }) s
  let s := { s with srv := { s.srv with sigOut := vset s.srv.sigOut n false } }
  feedJudge n { s with port := { s.port with burst := some n } }

/-- The signature burst ends: the next output held back is switched on (R373). -/
def burstEnd (s : State) : State :=
  let s := { s with port := { s.port with burst := none } }
  match s.port.heldOn with
  | [] => s
  | n :: r => feedEdge n { s with port := { s.port with heldOn := r } }

/-- Switch an output on, held back while a burst runs (R373, R463). -/
def feedTurnOn (n : Nat) (s : State) : State :=
  if (s.feed n).on ∨ s.port.heldOn.contains n then s
  else if s.port.burst.isSome then { s with port := { s.port with heldOn := s.port.heldOn ++ [n] } }
  else feedEdge n s

/-- Switch an output off; a burst on it ends. -/
def feedTurnOff (n : Nat) (s : State) : State :=
  let s := setFeed n (fun f => { f with on := false, fault := if f.fault = 1 then 0 else f.fault }) s
  let s := { s with port := { s.port with heldOn := s.port.heldOn.filter fun k => decide (k ≠ n) } }
  feedJudge n (if s.port.burst = some n then burstEnd s else s)

/-- An order to switch an output that has been accepted: OFF clears the fault latch (R465). -/
def feedOrder (n : Nat) (on : Bool) (s : State) : State :=
  if on then feedTurnOn n s
  else feedTurnOff n (setFeed n (fun f => { f with latched := false, fault := 0 }) s)

/-- Set an output to its safe direction (R450, R466). -/
def feedSafe (n : Nat) (s : State) : State :=
  let safe := match s.stw.charter with | some ch => maskBit ch.feedSafe n | none => false
  if safe && !(s.feed n).latched then feedTurnOn n s else feedTurnOff n s

/-- FEED_OPEN (R372): the output stays on (R465). -/
def execFeedOpen (n : Fin 8) (s : State) : Host.Outcome State Fault Refusal :=
  .next (if (s.feed n.val).on ∧ (s.feed n.val).fault = 0 then feedJudge n.val (setFeed n.val (fun f => { f with fault := 1 }) s) else s)

/-- A fault that switches an output off and latches (R465). -/
def feedTrip (n code : Nat) (s : State) : State :=
  if (s.feed n).on then feedTurnOff n (setFeed n (fun f => { f with latched := true, fault := code }) s) else s

/-- FEED_OVER (R465). -/
def execFeedOver (n : Fin 8) (s : State) : Host.Outcome State Fault Refusal := .next (feedTrip n.val 2 s)

/-- FEED_SHORT (R465, R373): a burst on the output ends with no distance. -/
def execFeedShort (n : Fin 8) (s : State) : Host.Outcome State Fault Refusal := .next (feedTrip n.val 3 s)

/-- The distance of a signature from the baseline, in whole percent (R373). -/
def sigDistance (sm b : List Nat) : Option Nat :=
  let num := (List.zipWith (fun x y => if x < y then y - x else x - y) sm b).sum
  let den := b.sum
  if den = 0 then none else some ((200 * num + den) / (2 * den))

/-- SIGNATURE_DONE (R373): 64 conversions; a baseline of no current states no distance, which is then free. -/
def execSignatureDone (n : Fin 8) (samples : List Nat) (s : State) : Host.Outcome State Fault Refusal :=
  .next (if s.port.burst ≠ some n.val ∨ samples.length ≠ 64 then s
    else
      let s := { s with srv := { s.srv with sig := vset s.srv.sig n.val (some samples) } }
      let s := match (s.sch (16 + n.val)).base with
        | none => s
        | some b =>
          let r := match sigDistance samples b.sig with
            | some d => (d, s)
            | none => freeNat s
          { r.2 with srv := { r.2.srv with dist := vset r.2.srv.dist n.val (Nat.min 255 r.1),
                                           sigOut := vset r.2.srv.sigOut n.val (decide (b.win < r.1)) } }
      burstEnd (feedJudge n.val s))

/-! ### Averages (R369) -/

/-- ONE_MS_AVERAGE (R40, R369, R372): 24 averages over 1 ms, as reported: mV, 0.01 mA. -/
def execOneMsAverage (avgs : List Nat) (s : State) : Host.Outcome State Fault Refusal :=
  .next (if avgs.length ≠ 24 then s
    else
      let v := fun i => avgs.getD i 0
      let s := railIs 0 (v 1) s
      let s := if s.fuses.part = .an then s else railIs 1 (v 2) s
      let s := pubSlot 3 (setSnt (fun q => { q with vstbyMv := v 8 }) s)
      forNat 8 (fun n t =>
        let c := v (10 + n)
        let t := setFeed n (fun f => { f with cur := c }) t
        if (t.feed n).fault = 1 ∧ 50 ≤ c then feedJudge n (setFeed n (fun f => { f with fault := 0 }) t) else t) s)

/-- The converter input behind a supply channel. -/
def chanInput (n : Nat) : Nat := if n ≤ 9 then n else n + 8

/-- SURVEY_AVERAGE (R369, R371, R372): 24 averages over 1 s; input 23 in thousandths of its trim. -/
def execSurveyAverage (avgs : List Nat) (s : State) : Host.Outcome State Fault Refusal :=
  .next (if avgs.length ≠ 24 then s
    else
      let v := fun i => avgs.getD i 0
      let bad := decide (v 23 < 990) || decide (1010 < v 23)
      let s := { s with srv := { s.srv with refBad := bad } }
      let st := if bad then 4 else 1
      let s := forNat 14 (fun n t => setCh n (fun q => { q with value := v (chanInput n), status := st }) t) s
      let s := forNat 8 (fun n t => setCh (16 + n) (fun q => { q with value := v (10 + n), status := st }) t) s
      let s := if bad then s
        else forNat 8 (fun n t => feedJudge n t) (forNat 14 (fun n t => judge n (supplyVerdict n (t.sch n)) t) s)
      pubSlot 4 s)

/-! ### Cables (R374 to R377) -/

/-- A profile as reported (R374, R375): the termination by its ρ, ABSENT beyond 30 m; reflections of 0.05 and more from 0.5 m on, those
under 100 mm apart as one, at most four. -/
def tdrMerge (l : List (Nat × Int)) : List (Nat × Int) :=
  l.foldl (fun acc d => match acc.getLast? with
    | some z => if d.1 < z.1 + 100 then acc else acc ++ [d]
    | none => [d]) []
def tdrNorm (r : Tdr) : Tdr :=
  let seen := fun (d : Nat × Int) => (decide (50 ≤ d.2) || decide (d.2 ≤ -50)) && decide (500 ≤ d.1) && decide (d.1 ≤ 30000)
  { r with disc := (tdrMerge ((r.disc.filter seen).mergeSort fun a b => decide (a.1 ≤ b.1))).take 4,
           cls := if r.cls = 3 ∨ 30000 < r.len then 3 else if 800 < r.rho then 1 else if r.rho < -800 then 2 else 0 }

/-- Two numbers lie within a window. -/
def near (a b w : Nat) : Bool := decide (a ≤ b + w) && decide (b ≤ a + w)

/-- Reflection coefficients differ by more than 0.05. -/
def rhoFar (a b : Int) : Bool := decide (50 < a - b) || decide (50 < b - a)

/-- The verdict on a profile (R377). -/
def cableVerdict (b : Baseline) (r : Tdr) : Option Nat :=
  match b.tdr with
  | none => none
  | some t =>
    if r.cls = 3 ∨ r.cls ≠ t.cls then some 7
    else if !near r.len t.len b.win then some 8
    else if r.disc.any fun d => !(t.disc.any fun e => near d.1 e.1 b.win) then some 9
    else if t.disc.any fun e => !(r.disc.any fun d => near d.1 e.1 b.win) then some 10
    else if (decide (t.cls = 0) && rhoFar r.rho t.rho) ||
        t.disc.any fun e => match r.disc.find? fun d => near d.1 e.1 b.win with | some d => rhoFar d.2 e.2 | none => false
      then some 11
    else none

/-- A cable's reflectometer, and a change to one. -/
def setTdr (k : Nat) (f : TdrUnit → TdrUnit) (s : State) : State := { s with srv := { s.srv with tdr := vmod s.srv.tdr k f } }

/-- TDR_MEASURE_START (R376): a measurement starts on each cable channel. -/
def execTdrMeasureStart (s : State) : Host.Outcome State Fault Refusal :=
  .next (forNat 10 (fun k t => if (vget t.srv.tdr k).running then t else setTdr k (fun u => { u with running := true, kept := 0 }) t) s)

/-- TDR_ACQUISITION (R376): a capture during it discards the acquisition. -/
def execTdrAcquisition (k : Fin 10) (kept : Bool) (s : State) : Host.Outcome State Fault Refusal :=
  .next (if (vget s.srv.tdr k.val).running ∧ kept then setTdr k.val (fun u => { u with kept := u.kept + 1 }) s else s)

/-- Two consecutive measurements decide (R377). -/
def cableJudge (k : Nat) (r : Tdr) (s : State) : State :=
  let n := 24 + k
  match (s.sch n).base with
  | none => s
  | some b =>
    let out := cableVerdict b r
    let q := s.sch n
    if out.isSome = q.dev then judge n out (setCh n (fun q => { q with streak := 0 }) s)
    else if 1 ≤ q.streak then judge n out s
    else setCh n (fun q => { q with streak := 1 }) s

/-- A measurement is complete: value, status, profile and verdict. -/
def tdrDone (k : Nat) (r : Tdr) (s : State) : State :=
  let r := tdrNorm r
  let s := setTdr k (fun u => { u with last := some r, running := false, kept := 0 }) s
  let s := setCh (24 + k) (fun q => { q with value := r.len, status := if r.cls = 3 then 2 else 1 }) s
  pubSlot 4 (cableJudge k r s)

/-- TDR_MEASUREMENT_ABANDON (R376). -/
def execTdrMeasurementAbandon (k : Fin 10) (s : State) : Host.Outcome State Fault Refusal :=
  .next (if (vget s.srv.tdr k.val).running then
      pubSlot 4 (setCh (24 + k.val) (fun q => { q with status := 3 }) (setTdr k.val (fun u => { u with running := false, kept := 0 }) s))
    else s)

/-- STARVED_TIMEOUT (R376): starved for 60 s. -/
def execStarvedTimeout (k : Fin 10) (s : State) : Host.Outcome State Fault Refusal :=
  .next (if (s.sch (24 + k.val)).status = 3 then judge (24 + k.val) (some 12) s else s)

/-! ### Partners (R378) -/

/-- A peer identity as a value: its low 32 bits (SRV_VALUEn). -/
def peerValue (q : Option (Bytes × Nat)) : Nat := match q with | none => 0 | some (b, _) => leNat (b.take 4)

/-- The neighbour on CHU (0) or CHD (1) is known, or lost: judged from the first verified word onward (R378). -/
def peerIs (d : Nat) (q : Option (Bytes × Nat)) (s : State) : State :=
  let s := { s with srv := { s.srv with peer := vset s.srv.peer d q } }
  let s := setCh (40 + d) (fun c => { c with value := peerValue q, status := 1 }) s
  let out := match vget s.srv.peerBase d with
    | some b => if b = q then none else some 13
    | none => none
  pubSlot 4 (deviationClass (32 + d) (judge (40 + d) out s))

/-- The partner value of a CAN controller changes (R378): inside again at once; outside only after 10 s. -/
def canPresent (k : Nat) (b : Bool) (s : State) : State :=
  let was := (vget s.port.can k).present
  let s := { s with port := { s.port with can := vmod s.port.can k fun c => { c with present := b } } }
  let s := setCh (42 + k) (fun c => { c with value := bitN b, status := 1 }) s
  let s := if was = b then s else setLeaf 8 (4 + k) s
  match (s.sch (42 + k)).base with
  | some x => if x.value = bitN b ∧ (s.sch (42 + k)).dev then judge (42 + k) none s else pubSlot 4 s
  | none => pubSlot 4 s

/-- CAN_PRESENCE_LAPSE (R378). -/
def execCanPresenceLapse (k : Fin 2) (s : State) : Host.Outcome State Fault Refusal :=
  .next (if (vget s.port.can k.val).busOff then s else canPresent k.val false s)

/-- CAN_PARTNER_TIMEOUT (R378): different from the baseline for 10 s. -/
def execCanPartnerTimeout (k : Fin 2) (s : State) : Host.Outcome State Fault Refusal :=
  let q := s.sch (42 + k.val)
  .next (match q.base with
    | some b => if b.value ≠ bitN (vget s.port.can k.val).present ∧ !(vget s.port.can k.val).busOff then judge (42 + k.val) (some 14) s else s
    | none => s)

/-! ### Baselines (R380, R381, R386) -/

/-- Why a channel's baseline cannot be recorded now (R380). -/
def baseRefusal (s : State) (n : Nat) : Option String :=
  if (s.sch n).status = 4 then some "FAULT"
  else match chKind n with
    | some .feed => if (vget s.srv.sig (n - 16)).isNone then some "NO_SIGNATURE" else none
    | some .cable => if (s.sch n).status = 3 then some "STARVED" else none
    | _ => none

/-- The middle of eight numbers: the fourth when sorted. -/
def middle (l : List Nat) : Nat := (l.mergeSort (· ≤ ·)).getD 3 0

/-- The median of eight measurements (R380); the discontinuities are those of the measurement of median length. -/
def tdrMedian (l : List Tdr) : Tdr :=
  let len := middle (l.map fun r => r.len)
  let rho : Int := (middle (l.map fun r => (r.rho + 1000).toNat) : Int) - 1000
  { cls := middle (l.map fun r => r.cls), len := len, rho := rho,
    disc := match l.find? fun r => decide (r.len = len) with | some r => r.disc | none => [] }

/-- Record the baseline of one channel. -/
def baseRecord (n : Nat) (tol : Option Nat) (meas : List Tdr) (s : State) : State :=
  let win := tol.getD (defaultWin n)
  let q := s.sch n
  match chKind n with
  | some .feed => setCh n (fun q => { q with base := some { value := q.value, win := win, sig := (vget s.srv.sig (n - 16)).getD [] } }) s
  | some .cable =>
    let t := tdrMedian meas
    setCh n (fun q => { q with base := some { value := t.len, win := win, tdr := some t } }) s
  | some .partner =>
    if n ≤ 41 then chainLevels { s with srv := { s.srv with peerBase := vset s.srv.peerBase (n - 40) (some (vget s.srv.peer (n - 40))) } }
    else setCh n (fun q => { q with base := some { value := q.value, win := 0 } }) s
  | _ => setCh n (fun _ => { q with base := some { value := q.value, win := win } }) s

/-- Every channel of a job is recorded: leaf, tamper log, event log with old and new baselines and the party (R381). -/
def baseDone (j : BaseJob) (s : State) : State :=
  let rec1 := fun (n : Nat) (t : State) =>
    let old := match (t.sch n).base with | some b => b.value | none => 0
    let t := baseRecord n j.tol ((j.seen.filter fun q => decide (q.1 = n)).map fun q => q.2) t
    logEvent j.src j.party "SET_BASELINE" [w32 n, w32 old, w32 (match (t.sch n).base with | some b => b.value | none => 0)] t
  let s := forAll j.chans rec1 s
  let s := tamperN 0x0A (if j.all then 0xFF else j.chans.headD 0) 1 (setLeaf 1 5 s)
  pubSlot 4 s

/-- The cables of a job have their eight measurements. -/
def jobReady (j : BaseJob) : Bool :=
  j.chans.all fun n => decide (chKind n ≠ some .cable) || decide (8 ≤ (j.seen.filter fun q => decide (q.1 = n)).length)

/-- A measurement joins the jobs that wait for its channel. -/
def jobAdd (n : Nat) (r : Tdr) (j : BaseJob) : BaseJob :=
  if j.chans.contains n ∧ (j.seen.filter fun q => decide (q.1 = n)).length < 8 then { j with seen := j.seen ++ [(n, tdrNorm r)] } else j

/-! ### Streams -/

/-- One scan's entries enter the FIFO of a group (SRV_FIFOg); the newest is dropped at a full FIFO. -/
def streamGroup (g : Nat) (vals : List Nat) (s : State) : State :=
  if !s.srv.en.getLsbD g then s
  else
    let was := (vget s.srv.fifo g).length
    let s := forNat 3 (fun i t =>
      let inp := 3 * g + i
      let e := w32 (0x80000000 + inp * 0x10000 + vals.getD inp 0 % 0x10000)
      if (vget t.srv.fifo g).length < 16 then { t with srv := { t.srv with fifo := vmod t.srv.fifo g fun l => l ++ [e] } }
      else { t with srv := { t.srv with ovf := t.srv.ovf ||| BitVec.ofNat 8 (2 ^ g) } }) s
    if was < 4 ∧ 4 ≤ (vget s.srv.fifo g).length then surveyLevels s else s

/-- The groups whose FIFO has reached its request level in a step. -/
def newRequests (old new : State) : List Nat :=
  (List.range 8).filter fun g => decide ((vget old.srv.fifo g).length < 4) && decide (4 ≤ (vget new.srv.fifo g).length)

/-- A converter scan (R369), without the request lines it raises: one entry each DECIM + 1 scans. -/
def scanStore (vals : List Nat) (s : State) : State :=
  if vals.length ≠ 24 then s
  else
    let due := decide (s.srv.decim ≤ s.srv.scans)
    let s := { s with srv := { s.srv with scans := if due then 0 else s.srv.scans + 1 } }
    if due then forNat 8 (fun g t => streamGroup g vals t) s else s

/-- Take an entry from a stream FIFO. -/
def fifoTake (g : Nat) (s : State) : Word × State :=
  match vget s.srv.fifo g with
  | [] => (0, s)
  | e :: r => (e, surveyLevels { s with srv := { s.srv with fifo := vset s.srv.fifo g r } })

/-- SRV_FIFO_READ: a read removes one entry. -/
def execSrvFifoRead (core : Fin 4) (g : Fin 8) (s : State) : Host.Outcome State Fault Refusal :=
  .next (if ownsFrame s core.val 0x51 then toCore core.val (fifoTake g.val s) else s)

/-! ### The SRV block (16) -/

/-- SRV_STATEn. -/
def srvState (s : State) (n : Nat) : Nat :=
  let q := s.sch n
  q.devcount * 0x1000000 + q.cause * 0x100 + bitN q.tamper * 0x80 + bitN q.dev * 0x40 + bitN (based s n) * 0x20 +
    bitN (marked s n) * 0x10 + q.status

/-- A word of SRV_TDRk. -/
def srvTdr (s : State) (k i : Nat) : Word :=
  match (vget s.srv.tdr k).last with
  | none => 0
  | some r =>
    if i = 0 then w32 (r.cls * 2 ^ 30 + (r.disc.length - 3) * 2 ^ 27 + r.len % 0x10000)
    else if i = 1 then BitVec.ofInt 32 r.rho
    else match r.disc[(i - 2) / 2]? with
      | none => 0
      | some d => if i % 2 = 0 then w32 d.1 else BitVec.ofInt 32 d.2

/-- Read a register of the SRV block. -/
def srvRead (f off : Nat) (s : State) : Word × State :=
  if f = 0 then
    (if 0x100 ≤ off ∧ off < 0x100 + 8 * 46 then
      let n := (off - 0x100) / 8
      if off % 8 = 0 then w32 (s.sch n).value else w32 (srvState s n)
    else if 0x400 ≤ off ∧ off < 0x400 + 8 * 46 then
      let n := (off - 0x400) / 8
      if n = 40 ∨ n = 41 then (if off % 8 = 0 then w32 (peerValue ((vget s.srv.peerBase (n - 40)).getD none)) else 0)
      else match (s.sch n).base with
        | none => 0
        | some b => if off % 8 = 0 then w32 b.value else w32 (b.win % 0x10000)
    else if 0x600 ≤ off ∧ off < 0x740 then srvTdr s ((off - 0x600) / 32) ((off - 0x600) % 32 / 4)
    else if 0x800 ≤ off ∧ off < 0x820 then
      let n := (off - 0x800) / 4
      w32 (vget s.srv.dist n * 0x100 + bitN (vget s.srv.sig n).isSome)
    else 0, s)
  else if f = 1 then
    if off = 0 then (w32 (s.srv.decim * 0x10000 + s.srv.ovf.toNat * 0x100 + s.srv.en.toNat), s)
    else if 0x10 ≤ off ∧ off < 0x30 then fifoTake ((off - 0x10) / 4) s
    else (0, s)
  else (0, s)

/-- Write a register of the SRV block. -/
def srvWrite (f off : Nat) (v : Word) (s : State) : State :=
  if f = 1 ∧ off = 0 then
    { s with srv := { s.srv with decim := bits v 31 16, en := BitVec.ofNat 8 (bits v 7 0),
                                 ovf := s.srv.ovf &&& ~~~(BitVec.ofNat 8 (bits v 15 8)) } }
  else s

end Sys2Proof.Machine
end

