-- ==== Sys2Proof/Machine/Ports.lean ====
section
/-! DEFINITION. Vehicle and card ports (R449 to R469): CAN controllers, card slots, sense lines, UARTs, SPI masters, and the registers of the CAN, CRD, SER, SNS and OUT blocks. Orders on FEED outputs stand in Orune. -/

namespace Sys2Proof.Machine

/-- PORT is powered, so its events are seen. -/
def portOn (s : State) : Bool := decide (s.isl.port = .run)

/-! ### CAN (R451 to R454) -/

/-- A controller, and changes to one and to a buffer. -/
def State.can (s : State) (k : Nat) : Can := vget s.port.can k
def setCan (k : Nat) (f : Can → Can) (s : State) : State := { s with port := { s.port with can := vmod s.port.can k f } }
def setBuf (k b : Nat) (f : CanBuf → CanBuf) (s : State) : State := setCan k (fun q => { q with buf := vmod q.buf b f }) s

/-- Fields of a buffer's format word. -/
def CanBuf.ide (b : CanBuf) : Bool := b.fmt.getLsbD 31
def CanBuf.rtr (b : CanBuf) : Bool := b.fmt.getLsbD 28

/-- The arbitration field as a number, the lower the stronger; an 11-bit identifier stands in bits 10:0 of ID. -/
def CanBuf.arb (b : CanBuf) : Nat :=
  if b.ide then bits b.id 28 18 * 2 ^ 21 + 2 ^ 20 + 2 ^ 19 + bits b.id 17 0 * 2 + bitN b.rtr
  else bits b.id 10 0 * 2 ^ 21 + bitN b.rtr * 2 ^ 20

/-- The pending TX buffer to send next (R453). -/
def canNext (q : Can) : Option Nat :=
  (List.range 64).foldl (fun best i =>
    let b := vget q.buf i
    if !(b.tx && b.pending) then best
    else match best with
      | none => some i
      | some j => if b.arb < (vget q.buf j).arb then some i else best) none

/-- The controller sends: NORMAL, neither held nor bus-off (R452, R454). -/
def Can.sends (q : Can) : Bool := decide (q.mode = 1) && !q.hold && !q.busOff

/-- A frame goes onto the bus when no own frame is there. -/
def canKick (k : Nat) (s : State) : State :=
  setCan k (fun q => if q.sends && q.onBus.isNone then { q with onBus := canNext q } else q) s

/-- The state CAN_STAT shows: 0 active, 1 passive, 2 bus-off. -/
def Can.state (q : Can) : Nat := if q.busOff then 2 else if 127 < q.tec ∨ 127 < q.rxErr then 1 else 0

/-- Events 4 to 7 of a controller (R454). -/
def canLevels (k : Nat) (s : State) : State :=
  let q := s.can k
  let src := fun i => 33 + 8 * k + i
  cicLevel (src 7) (q.buf.toList.any fun b => b.lost) (cicLevel (src 6) (decide (96 ≤ q.tec) || decide (96 ≤ q.rxErr))
    (cicLevel (src 5) (decide (q.state = 1)) (cicLevel (src 4) q.busOff s)))

/-- A change of the error counters: leaf PASSIVEk on entry to error-passive (R454). -/
def canErrors (k : Nat) (f : Can → Can) (s : State) : State :=
  let was := (s.can k).state
  let s := setCan k f s
  let s := if (s.can k).state = 1 ∧ was ≠ 1 then setLeaf 8 (2 + k) s else s
  canLevels k s

/-- The frame on the bus ends without success: sent again unless ONESHOT or a CANCEL says otherwise (R453). -/
def canUnsent (k : Nat) (s : State) : State :=
  match (s.can k).onBus with
  | none => s
  | some b =>
    let s := setBuf k b (fun q => if q.oneshot || q.cancel then { q with pending := false, cancel := false } else q) s
    setCan k (fun q => { q with onBus := none }) s

/-- Bus-off is entered (R454). -/
def canOff (k : Nat) (s : State) : State :=
  if (s.can k).busOff then s
  else setLeaf 8 k (canErrors k (fun q => { q with busOff := true, tec := 256 }) (canUnsent k s))

/-- Bus-off is left: ISO 11898-1 clears both counters. -/
def canOn (k : Nat) (s : State) : State :=
  if (s.can k).busOff then canKick k (canErrors k (fun q => { q with busOff := false, tec := 0, rxErr := 0 }) s) else s

/-- A write of CAN_MODE (R452, R454). -/
def canMode (k : Nat) (v : Word) (s : State) : State :=
  let m := bits v 1 0
  let s := if m = 0 then canUnsent k s else s
  let s := setCan k (fun q => { q with mode := m, autorec := v.getLsbD 4, hold := decide (m = 1) && !s.isl.refOk }) s
  if m = 1 ∧ !v.getLsbD 4 ∧ (s.can k).busOff then canOn k s else canKick k s

/-- A write of a buffer's CTRL (R453): TX and ONESHOT are stored, PENDING set queues the frame of a TX buffer, DONE and
LOST are cleared by 1, CANCEL stops a frame that has not started. -/
def canCtrl (k b : Nat) (v : Word) (s : State) : State :=
  let busy := decide ((s.can k).onBus = some b)
  let s := setBuf k b (fun q =>
    let q := { q with tx := v.getLsbD 0, oneshot := v.getLsbD 5, done := q.done && !v.getLsbD 2, lost := q.lost && !v.getLsbD 3 }
    let q := if v.getLsbD 1 && q.tx then { q with pending := true } else q
    if v.getLsbD 4 && q.pending then (if busy then { q with cancel := true } else { q with pending := false }) else q) s
  canKick k (canLevels k s)

/-- The CTRL word of a buffer as it reads. -/
def ctrlWord (b : CanBuf) : Word :=
  w32 (bitN b.oneshot * 32 + bitN b.lost * 8 + bitN b.done * 4 + bitN b.pending * 2 + bitN b.tx)

/-- CAN_MODE_WRITE. -/
def execCanModeWrite (core : Fin 4) (k : Fin 2) (v : Word) (s : State) : Host.Outcome State Fault Refusal :=
  .next (if ownsFrame s core.val (0x71 + k.val) then canMode k.val v s else s)

/-- The frame of a buffer's group. -/
def bufFrame (k b : Nat) : Nat := 0x74 + 4 * k + b / 16

/-- CAN_TX_REQUEST (R453): PENDING is set on a TX buffer. -/
def execCanTxRequest (core : Fin 4) (k : Fin 2) (buf : Fin 64) (s : State) : Host.Outcome State Fault Refusal :=
  let q := vget (s.can k.val).buf buf.val
  .next (if ownsFrame s core.val (bufFrame k.val buf.val) then
      canCtrl k.val buf.val (w32 (bitN q.tx + 2 + bitN q.oneshot * 32)) s
    else s)

/-- CAN_CANCEL (R453). -/
def execCanCancel (core : Fin 4) (k : Fin 2) (buf : Fin 64) (s : State) : Host.Outcome State Fault Refusal :=
  let q := vget (s.can k.val).buf buf.val
  .next (if ownsFrame s core.val (bufFrame k.val buf.val) then
      canCtrl k.val buf.val (w32 (bitN q.tx + 16 + bitN q.oneshot * 32)) s
    else s)

/-- A frame's bytes over a buffer's data words. -/
def dataOver (d : Vector Word 16) (bs : Bytes) : Vector Word 16 :=
  let old := d.toList.flatMap fun w => leBytes 4 w.toNat
  let new := bs ++ old.drop bs.length
  Vector.ofFn fun i : Fin 16 => w32 (leAt new (4 * i.val) 4)

/-- The format word of a frame. -/
def fmtOf (f : CanFrame) : Word :=
  w32 (bitN f.ide * 2 ^ 31 + bitN f.fdf * 2 ^ 30 + bitN f.brs * 2 ^ 29 + bitN f.rtr * 2 ^ 28 + f.dlc.toNat)

/-- A buffer's filter takes a frame (R453). -/
def CanBuf.takes (b : CanBuf) (f : CanFrame) : Bool :=
  !b.tx && (b.ide == f.ide) && decide ((BitVec.setWidth 32 f.id ^^^ b.id) &&& b.mask = 0)

/-- A received frame in one group: stored in the lowest empty matching buffer, or lost (R453). -/
def canStore (k g : Nat) (f : CanFrame) (s : State) : State :=
  let idx := (List.range 16).map fun i => 16 * g + i
  let hit := idx.filter fun i => (vget (s.can k).buf i).takes f
  match hit.find? fun i => !(vget (s.can k).buf i).done with
  | some i =>
    let s := setBuf k i (fun b => { b with id := BitVec.setWidth 32 f.id, fmt := fmtOf f, data := dataOver b.data f.data, done := true }) s
    raiseLine (20 + 2 * k) (cicPulse (33 + 8 * k + g) s)
  | none =>
    match hit with
    | [] => s
    | i :: _ => setBuf k i (fun b => { b with lost := true }) s

/-- A good reception lowers the receive error counter (ISO 11898-1): from above 127 to a value in 119 to 127. -/
def canRxGood (k : Nat) (s : State) : State :=
  let q := s.can k
  if q.mode ≠ 1 ∨ q.hold then s
  else if 127 < q.rxErr then
    let r := freeNat s
    canErrors k (fun q => { q with rxErr := 119 + r.1 % 9 }) r.2
  else canErrors k (fun q => { q with rxErr := q.rxErr - 1 }) s

/-- CAN_FRAME_RECEIVED (R453). -/
def execCanFrameReceived (k : Fin 2) (f : CanFrame) (s : State) : Host.Outcome State Fault Refusal :=
  let q := s.can k.val
  .next (if !portOn s ∨ q.mode = 0 ∨ q.busOff ∨ 64 < f.data.length then s
    else canLevels k.val (canRxGood k.val (forNat 4 (fun g t => canStore k.val g f t) s)))

/-- CAN_TX_DONE (R453, R378): a success means that another node acknowledged the frame. -/
def execCanTxDone (k : Fin 2) (e : CanTxEnd) (s : State) : Host.Outcome State Fault Refusal :=
  let k := k.val
  .next (match (s.can k).onBus with
    | none => s
    | some b =>
      match e with
      | .success =>
        let s := setBuf k b (fun q => { q with pending := false, cancel := false, done := true }) s
        let s := canErrors k (fun q => { q with onBus := none, tec := q.tec - 1 }) s
        canKick k (raiseLine (21 + 2 * k) (cicPulse (33 + 8 * k + b / 16) (canPresent k true s)))
      | .lostArbitration => canKick k (canUnsent k s)
      | .error => canKick k (canUnsent k s))

/-- CAN_BUS_ERROR (R454): a transmitter's error counts 8, a receiver's 1; above 255 the controller is bus-off. -/
def execCanBusError (k : Fin 2) (tx : Bool) (s : State) : Host.Outcome State Fault Refusal :=
  let q := s.can k.val
  .next (if !portOn s ∨ q.mode ≠ 1 ∨ q.hold ∨ q.busOff then s
    else if tx then
      (if 255 < q.tec + 8 then canOff k.val s else canErrors k.val (fun q => { q with tec := q.tec + 8 }) s)
    else canErrors k.val (fun q => { q with rxErr := Nat.min 255 (q.rxErr + 1) }) s)

/-- CAN_BUS_OFF (R454). -/
def execCanBusOff (k : Fin 2) (s : State) : Host.Outcome State Fault Refusal :=
  let q := s.can k.val
  .next (if !portOn s ∨ q.mode ≠ 1 ∨ q.hold then s else canOff k.val s)

/-- CAN_BUSOFF_RECOVERY (R454). -/
def execCanBusoffRecovery (k : Fin 2) (s : State) : Host.Outcome State Fault Refusal :=
  .next (if (s.can k.val).autorec then canOn k.val s else s)

/-- CAN_CLOCK_RESUME (R452). -/
def execCanClockResume (k : Fin 2) (s : State) : Host.Outcome State Fault Refusal :=
  .next (if s.isl.refOk ∧ (s.can k.val).hold then canKick k.val (setCan k.val (fun q => { q with hold := false }) s) else s)

/-- Read a register of the CAN block. -/
def canRead (f off : Nat) (s : State) : Word :=
  if f = 1 ∨ f = 2 then
    let q := s.can (f - 1)
    if off = 0 then w32 (bitN q.autorec * 16 + q.mode)
    else if off = 4 then q.nbt
    else if off = 8 then q.dbt
    else if off = 0xC then q.tdc
    else if off = 0x10 then
      w32 (Nat.min 255 q.tec * 0x1000000 + q.rxErr * 0x10000 + bitN q.hold * 0x100 + q.state)
    else 0
  else if 4 ≤ f ∧ f < 12 ∧ off < 0x500 then
    let b := vget (s.can ((f - 4) / 4)).buf ((f - 4) % 4 * 16 + off / 0x50)
    let o := off % 0x50
    if o = 0 then ctrlWord b
    else if o = 4 then b.id
    else if o = 8 then b.mask
    else if o = 0xC then b.fmt
    else vget b.data ((o - 0x10) / 4)
  else 0

/-- Write a register of the CAN block. -/
def canWrite (f off : Nat) (v : Word) (s : State) : State :=
  if f = 1 ∨ f = 2 then
    let k := f - 1
    if off = 0 then canMode k v s
    else if (s.can k).mode ≠ 0 then s
    else if off = 4 then setCan k (fun q => { q with nbt := v &&& 0xFFFF7F7F }) s
    else if off = 8 then setCan k (fun q => { q with dbt := v &&& 0xFFFF7F7F }) s
    else if off = 0xC then setCan k (fun q => { q with tdc := v &&& 0x0000807F }) s
    else s
  else if 4 ≤ f ∧ f < 12 ∧ off < 0x500 then
    let k := (f - 4) / 4
    let i := (f - 4) % 4 * 16 + off / 0x50
    let o := off % 0x50
    if o = 0 then canCtrl k i v s
    else setBuf k i (fun b =>
      if o = 4 then { b with id := v }
      else if o = 8 then { b with mask := v }
      else if o = 0xC then { b with fmt := v &&& 0xF000000F }
      else { b with data := vset b.data ((o - 0x10) / 4) v }) s
  else s

/-! ### Card slots (R455 to R458) -/

/-- A slot, and a change to one. -/
def State.slot (s : State) (n : Nat) : Slot := vget s.port.card n
def setSlot (n : Nat) (f : Slot → Slot) (s : State) : State := { s with port := { s.port with card := vmod s.port.card n f } }

/-- Card slots exist and PORT is powered (R4). -/
def cardsOn (s : State) : Bool := portOn s && decide (s.fuses.part = .ah)

/-- The slot is in use: from ACTIVATE until its deactivation (R458). -/
def Slot.inUse (q : Slot) : Bool := decide (q.st = 2) || decide (q.st = 3) || q.retry

/-- Levels of a slot: presence, and error while STATUS names one. -/
def cardLevels (n : Nat) (s : State) : State :=
  let q := s.slot n
  cicLevel (51 + 4 * n) (decide (q.status ≠ 0) && decide (q.status ≠ 6)) (cicLevel (49 + 4 * n) q.present s)

/-- The bytes sent in a transfer that is cut: some number up to what was asked, which no event names. -/
def cutSent (n : Nat) (s : State) : State :=
  match (s.slot n).xfer with
  | some (.send k) =>
    let r := freeNat s
    let m := r.1 % (k + 1)
    setSlot n (fun q => { q with sent := m, tx := q.tx.drop m }) r.2
  | _ => s

/-- A transfer ends with a status. -/
def cardEnd (n status : Nat) (s : State) : State :=
  cardLevels n (setSlot n (fun q => { q with xfer := none, status := status }) (cutSent n s))

/-- The activation sequence at a class (R456): the answer-to-reset is the transfer that follows. -/
def cardStart (n : Nat) (c : Bool) (s : State) : State :=
  cardLevels n (setSlot n (fun q => { q with
    st := 2, classC := c, status := 0, sent := 0, xfer := some .atr, atr := [], retry := false }) s)

/-- Deactivation in ISO order with a status (R457): source 52 pulses. -/
def cardOff (n status : Nat) (s : State) : State :=
  let s := cardEnd n status s
  cicPulse (52 + 4 * n) (setSlot n (fun q => { q with st := 4, retry := false }) s)

/-- ACTIVATE (R456, R458). -/
def cardActivate (n : Nat) (s : State) : State :=
  let q := s.slot n
  if q.steward then setSlot n (fun q => { q with status := 6 }) s
  else if !q.present || q.inUse then s
  else cardStart n (decide (bits q.cfg 1 0 ≠ 1)) s

/-- DEACTIVATE. -/
def cardDeactivate (n : Nat) (s : State) : State :=
  let q := s.slot n
  if q.steward || !q.inUse then s
  else if q.retry then setSlot n (fun q => { q with retry := false }) s
  else cardOff n q.status s

/-- SEND (R458): TXLEN bytes go out, then the slot receives; room in the TX FIFO raises its line (R236, assumption 120). -/
def cardSend (n len : Nat) (s : State) : State :=
  let q := s.slot n
  if q.steward || decide (q.st ≠ 3) || q.xfer.isSome then s
  else
    let s := cardLevels n (setSlot n (fun q => { q with xfer := some (if len = 0 then .recv else .send len), sent := 0, status := 0 }) s)
    if q.tx.length < 32 ∧ len ≠ 0 then raiseLine (25 + 2 * n) s else s

/-- CANCEL: the running transfer ends. -/
def cardCancel (n : Nat) (s : State) : State :=
  let q := s.slot n
  if q.steward || decide (q.st ≠ 3) || q.xfer.isNone then s else cardEnd n q.status s

/-- A byte into the TX FIFO of 32. -/
def cardTx (n : Nat) (v : Byte) (s : State) : State :=
  if (s.slot n).tx.length < 32 then setSlot n (fun q => { q with tx := q.tx ++ [v] }) s else s

/-- A byte from the RX FIFO. -/
def cardRx (n : Nat) (s : State) : Word × State :=
  match (s.slot n).rx with
  | [] => (0, s)
  | b :: r => (w32 (0x8000 + b.toNat), setSlot n (fun q => { q with rx := r }) s)

/-- A card command of a core. -/
def cardCmd (c n : Nat) (f : State → State) (s : State) : State :=
  if cardsOn s && ownsFrame s c (0x81 + n) then f s else s

/-- CRD_ACTIVATE. -/
def execCrdActivate (core : Fin 4) (sl : Fin 2) (s : State) : Host.Outcome State Fault Refusal :=
  .next (cardCmd core.val sl.val (cardActivate sl.val) s)

/-- CRD_DEACTIVATE. -/
def execCrdDeactivate (core : Fin 4) (sl : Fin 2) (s : State) : Host.Outcome State Fault Refusal :=
  .next (cardCmd core.val sl.val (cardDeactivate sl.val) s)

/-- CRD_SEND. -/
def execCrdSend (core : Fin 4) (sl : Fin 2) (len : Byte) (s : State) : Host.Outcome State Fault Refusal :=
  .next (cardCmd core.val sl.val (cardSend sl.val len.toNat) s)

/-- CRD_CANCEL. -/
def execCrdCancel (core : Fin 4) (sl : Fin 2) (s : State) : Host.Outcome State Fault Refusal :=
  .next (cardCmd core.val sl.val (cardCancel sl.val) s)

/-- CRD_TX. -/
def execCrdTx (core : Fin 4) (sl : Fin 2) (v : Byte) (s : State) : Host.Outcome State Fault Refusal :=
  .next (cardCmd core.val sl.val (cardTx sl.val v) s)

/-- CRD_RX. -/
def execCrdRx (core : Fin 4) (sl : Fin 2) (s : State) : Host.Outcome State Fault Refusal :=
  .next (cardCmd core.val sl.val (fun t => toCore core.val (cardRx sl.val t)) s)

/-- The bytes of a send have gone, each of which left room in the TX FIFO (R236, assumption 120): the slot receives. -/
def cardSent (n : Nat) (s : State) : State :=
  match (s.slot n).xfer with
  | some (.send k) =>
    forNat k (fun _ t => raiseLine (25 + 2 * n) t) (setSlot n (fun q => { q with sent := k, tx := q.tx.drop k, xfer := some .recv }) s)
  | _ => s

/-- A character of a transfer arrives (R455); at a full FIFO the transfer ends with OVERRUN. -/
def cardReceive (n : Nat) (v : Byte) (s : State) : State :=
  if !cardsOn s || (s.slot n).xfer.isNone then s
  else
    let s := cardSent n s
    let atr := decide ((s.slot n).xfer = some .atr)
    let s := if atr then setSlot n (fun q => { q with st := 3, atr := (q.atr ++ [v]).take 33 }) s else s
    if 32 ≤ (s.slot n).rx.length then cardEnd n 7 s
    else raiseLine (24 + 2 * n) (setSlot n (fun q => { q with rx := q.rx ++ [v] }) s)

/-- The slot receives the next answer of a card whose session the steward opens (R316). -/
def cardListen (n : Nat) (s : State) : State := setSlot n (fun q => { q with rx := [], xfer := some .recv }) s

/-- CARD_TRANSFER_DONE (R455): all bytes exchanged, or four attempts failed; a card that the steward activates is then asked for its
certificate (R316). -/
def execCardTransferDone (sl : Fin 2) (e : CardEnd) (s : State) : Host.Outcome State Fault Refusal :=
  let n := sl.val
  .next (if !cardsOn s || decide ((s.slot n).st ≠ 3) || (s.slot n).xfer.isNone then s
    else match e with
      | .ok =>
        if (s.slot n).wait.isSome then (if (s.slot n).xfer = some .atr then cardListen n s else s)
        else cicPulse (50 + 4 * n) (cardEnd n 0 (cardSent n s))
      | .parity => cardEnd n 2 s)

/-- CARD_TIMEOUT (R455). -/
def execCardTimeout (sl : Fin 2) (s : State) : Host.Outcome State Fault Refusal :=
  .next (if !cardsOn s || decide ((s.slot sl.val).st ≠ 3) || (s.slot sl.val).xfer.isNone then s else cardEnd sl.val 3 s)

/-- NO_ATR (R456): under AUTO at class C the slot will try class B. -/
def execNoAtr (sl : Fin 2) (s : State) : Host.Outcome State Fault Refusal :=
  let n := sl.val
  .next (if !cardsOn s || decide ((s.slot n).st ≠ 2) then s
    else
      let again := decide (bits (s.slot n).cfg 1 0 = 0) && (s.slot n).classC
      setSlot n (fun q => { q with retry := again }) (setLeaf 7 (4 + n) (cardOff n 1 s)))

/-- CARD_CLASS_RETRY (R456). -/
def execCardClassRetry (sl : Fin 2) (s : State) : Host.Outcome State Fault Refusal :=
  .next (if cardsOn s && (s.slot sl.val).retry && (s.slot sl.val).present then cardStart sl.val false s else s)

/-- CARD_OVERCURRENT (R455). -/
def execCardOvercurrent (sl : Fin 2) (s : State) : Host.Outcome State Fault Refusal :=
  let n := sl.val
  .next (if cardsOn s && (decide ((s.slot n).st = 2) || decide ((s.slot n).st = 3)) then setLeaf 7 (4 + n) (cardOff n 4 s) else s)

/-- CARD_INSERT (R457, R378): the device never activates a card of its own accord. -/
def execCardInsert (sl : Fin 2) (s : State) : Host.Outcome State Fault Refusal :=
  let n := sl.val
  .next (if !cardsOn s || (s.slot n).present then s
    else
      let s := cardLevels n (setSlot n (fun q => { q with present := true, st := 1, status := 0 }) s)
      setLeaf 7 (2 * n) (setCh (44 + n) (fun q => { q with value := 1, status := 1 }) s))

/-- A card becomes absent (R457): an active slot deactivates and its transfer ends with REMOVED. -/
def cardGone (n : Nat) (s : State) : State :=
  let active := decide ((s.slot n).st = 2) || decide ((s.slot n).st = 3)
  let s := setSlot n (fun q => { q with present := false }) s
  let s := setCh (44 + n) (fun q => { q with value := 0, status := 1 }) s
  let s := if active then cardOff n 5 s else setSlot n (fun q => { q with st := 0, retry := false }) s
  setLeaf 7 (2 * n + 1) (cardLevels n s)

/-- Read a register of the CRD block. -/
def crdRead (f off : Nat) (s : State) : Word × State :=
  if s.fuses.part = .an ∨ f = 0 ∨ 2 < f then (0, s)
  else
    let n := f - 1
    let q := s.slot n
    if off = 4 then (q.cfg, s)
    else if off = 8 then (q.timer, s)
    else if off = 0xC then (w32 (q.sent * 0x10000 + q.status * 0x100 + bitN q.classC * 16 + q.st), s)
    else if off = 0x14 then cardRx n s
    else (0, s)

/-- Write a register of the CRD block. -/
def crdWrite (f off : Nat) (v : Word) (s : State) : State :=
  if !cardsOn s ∨ f = 0 ∨ 2 < f then s
  else
    let n := f - 1
    if off = 0 then
      match bits v 2 0 with
      | 1 => cardActivate n s
      | 2 => cardDeactivate n s
      | 3 => cardSend n (bits v 15 8) s
      | 4 => cardCancel n s
      | _ => s
    else if off = 4 then setSlot n (fun q => { q with cfg := v &&& 0x0FFFFF13 }) s
    else if off = 8 then setSlot n (fun q => { q with timer := v }) s
    else if off = 0x10 then cardTx n (BitVec.ofNat 8 (bits v 7 0)) s
    else s

/-! ### Sense lines (R459 to R462) -/

/-- A sense line, and a change to one. -/
def State.sense (s : State) (n : Nat) : Sense := vget s.port.sns.line n
def setSense (n : Nat) (f : Sense → Sense) (s : State) : State :=
  { s with port := { s.port with sns := { s.port.sns with line := vmod s.port.sns.line n f } } }

/-- The request level of a line (SNS_CFG.LEVEL). -/
def Sense.level (q : Sense) : Nat := Nat.max 1 (Nat.min 64 (bits q.cfg 6 0))

/-- SENSE_EDGE (R460): an accepted edge. -/
def execSenseEdge (n : Fin 8) (level : Bool) (cap : BitVec 31) (s : State) : Host.Outcome State Fault Refusal :=
  let n := n.val
  let s0 := { s with port := { s.port with sns := { s.port.sns with cap := cap } } }
  let q := s.sense n
  .next (if !portOn s then s
    else if !(q.cfg.getLsbD (if level then 8 else 9)) then s0
    else
      let full := decide (64 ≤ q.fifo.length)
      let entry := w32 (cap.toNat * 2 + bitN level)
      let s := setSense n (fun q => { q with
        count := q.count + 1, fifo := if full then q.fifo else q.fifo ++ [entry],
        lost := if full then satInc q.lost 0xFFFF else q.lost }) s0
      let s := if full || q.cfg.getLsbD 10 then cicPulse (17 + n) s else s
      if q.fifo.length < q.level ∧ q.level ≤ (s.sense n).fifo.length then raiseLine n s else s)

/-- Take the oldest entry. -/
def senseTake (n : Nat) (s : State) : Word × State :=
  match (s.sense n).fifo with
  | [] => (0, s)
  | e :: r => (e, setSense n (fun q => { q with fifo := r }) s)

/-- SNS_FIFO. -/
def execSnsFifo (core : Fin 4) (n : Fin 8) (s : State) : Host.Outcome State Fault Refusal :=
  .next (if ownsFrame s core.val (0xA1 + n.val) then toCore core.val (senseTake n.val s) else s)

/-- Read a register of the SNS block by a core; live CAP is a free value. -/
def snsRead (c f off : Nat) (s : State) : Word × State :=
  let u := s.port.sns
  if f = 0 then
    if off = 0 then let r := freeNat s; (w32 (r.1 % 2 ^ 31), r.2)
    else if off = 4 then
      (u.markSec, { s with port := { s.port with sns := { u with shadow := vset u.shadow c (some u.markCap) } } })
    else if off = 8 then
      (w32 ((vget u.shadow c).getD u.markCap).toNat,
       { s with port := { s.port with sns := { u with shadow := vset u.shadow c none } } })
    else if 0x10 ≤ off ∧ off < 0x30 then ((s.sense ((off - 0x10) / 4)).count, s)
    else (0, s)
  else if f ≤ 8 then
    let n := f - 1
    let q := s.sense n
    if off = 0 then (q.cfg, s)
    else if off = 4 then senseTake n s
    else if off = 8 then (w32 (q.lost * 0x10000 + q.fifo.length), s)
    else if off = 0xC then (q.count, s)
    else (0, s)
  else (0, s)

/-- Write a register of the SNS block. -/
def snsWrite (f off : Nat) (v : Word) (s : State) : State :=
  if 1 ≤ f ∧ f ≤ 8 ∧ off = 0 then setSense (f - 1) (fun q => { q with cfg := v &&& 0xFF7FFF7F }) s else s

/-- SNS_MARK_SEC (R461). -/
def execSnsMarkSec (core : Fin 4) (s : State) : Host.Outcome State Fault Refusal := .next (toCore core.val (snsRead core.val 0 4 s))

/-! ### UARTs (R467) -/

/-- A UART, and a change to one. -/
def State.uart (s : State) (n : Nat) : Uart := vget s.port.uart n
def Uart.on (u : Uart) : Bool := u.cfg.getLsbD 31
def Uart.rxReady (u : Uart) : Bool := u.on && decide (bits u.cfg 14 8 ≤ u.rx.length)
def Uart.txReady (u : Uart) : Bool := u.on && decide (bits u.cfg 22 16 + u.tx.length ≤ 64)

/-- Change a UART: its sources follow, and a request line is raised as its level is reached (R236, R467). -/
def setUart (n : Nat) (f : Uart → Uart) (s : State) : State :=
  let old := s.uart n
  let s := { s with port := { s.port with uart := vmod s.port.uart n f } }
  let new := s.uart n
  let s := cicLevel (58 + 2 * n) new.txReady (cicLevel (57 + 2 * n) new.rxReady s)
  let s := if new.rxReady && !old.rxReady then raiseLine (8 + 2 * n) s else s
  if new.txReady && !old.txReady then raiseLine (9 + 2 * n) s else s

/-- UART_RX_BYTE. -/
def execUartRxByte (n : Fin 4) (b : UartByte) (s : State) : Host.Outcome State Fault Refusal :=
  let u := s.uart n.val
  .next (if !portOn s || !u.on then s
    else if 64 ≤ u.rx.length then setUart n.val (fun u => { u with ovr := true }) s
    else
      let d := if u.cfg.getLsbD 0 then b.data.toNat else b.data.toNat % 128
      setUart n.val (fun u => { u with rx := u.rx ++ [w32 (bitN b.framingErr * 0x200 + bitN b.parityErr * 0x100 + d)] }) s)

/-- UART_BREAK. -/
def execUartBreak (n : Fin 4) (s : State) : Host.Outcome State Fault Refusal :=
  .next (if portOn s && (s.uart n.val).on then setUart n.val (fun u => { u with brk := true }) s else s)

/-- A byte into the TX FIFO. -/
def uartPut (n : Nat) (v : Byte) (s : State) : State :=
  if (s.uart n).tx.length < 64 then setUart n (fun u => { u with tx := u.tx ++ [v] }) s else s

/-- A byte from the RX FIFO. -/
def uartTake (n : Nat) (s : State) : Word × State :=
  match (s.uart n).rx with
  | [] => (0, s)
  | e :: r => (e ||| 0x8000, setUart n (fun u => { u with rx := r }) s)

/-- UART_TX. -/
def execUartTx (core n : Fin 4) (v : Byte) (s : State) : Host.Outcome State Fault Refusal :=
  .next (if ownsFrame s core.val (0x91 + n.val) then uartPut n.val v s else s)

/-- UART_RX. -/
def execUartRx (core n : Fin 4) (s : State) : Host.Outcome State Fault Refusal :=
  .next (if ownsFrame s core.val (0x91 + n.val) then toCore core.val (uartTake n.val s) else s)

/-- UART_BYTE_SENT. -/
def execUartByteSent (n : Fin 4) (s : State) : Host.Outcome State Fault Refusal :=
  .next (if portOn s && (s.uart n.val).on then setUart n.val (fun u => { u with tx := u.tx.drop 1 }) s else s)

/-! ### SPI masters (R468) -/

/-- An SPI master, and a change to one. -/
def State.spi (s : State) (m : Nat) : Spi := vget s.port.spi m
def setSpi (m : Nat) (f : Spi → Spi) (s : State) : State := { s with port := { s.port with spi := vmod s.port.spi m f } }

/-- A frame of the configured width. -/
def Spi.frame (q : Spi) (v : Word) : Word := w32 (v.toNat % 2 ^ (bits q.cfg 12 8 + 1))

/-- SPI_CMD start and stop; room in the TX FIFO raises its line (R236, assumption 120). -/
def spiGo (m count : Nat) (s : State) : State :=
  if (s.spi m).busy then s
  else
    let s := setSpi m (fun q => { q with busy := true, left := count, ended := false }) s
    if (s.spi m).tx.length < 16 then raiseLine (17 + 2 * m) s else s
def spiHalt (m : Nat) (s : State) : State := setSpi m (fun q => { q with busy := false, left := 0 }) s

/-- A frame into the TX FIFO, and one from the RX FIFO, whose value is free when the FIFO is empty. -/
def spiPut (m : Nat) (v : Word) (s : State) : State :=
  if (s.spi m).tx.length < 16 then setSpi m (fun q => { q with tx := q.tx ++ [q.frame v] }) s else s
def spiTake (m : Nat) (s : State) : Word × State :=
  match (s.spi m).rx with
  | [] => let r := freeNat s; (w32 r.1, r.2)
  | e :: r => (e, setSpi m (fun q => { q with rx := r }) s)

/-- SPI_START. -/
def execSpiStart (core : Fin 4) (m : Fin 2) (count : BitVec 16) (s : State) : Host.Outcome State Fault Refusal :=
  .next (if ownsFrame s core.val (0x95 + m.val) then spiGo m.val (count.toNat + 1) s else s)

/-- SPI_STOP. -/
def execSpiStop (core : Fin 4) (m : Fin 2) (s : State) : Host.Outcome State Fault Refusal :=
  .next (if ownsFrame s core.val (0x95 + m.val) then spiHalt m.val s else s)

/-- SPI_TX. -/
def execSpiTx (core : Fin 4) (m : Fin 2) (v : Word) (s : State) : Host.Outcome State Fault Refusal :=
  .next (if ownsFrame s core.val (0x95 + m.val) then spiPut m.val v s else s)

/-- SPI_RX. -/
def execSpiRx (core : Fin 4) (m : Fin 2) (s : State) : Host.Outcome State Fault Refusal :=
  .next (if ownsFrame s core.val (0x95 + m.val) then toCore core.val (spiTake m.val s) else s)

/-- A master pauses: the TX FIFO is empty or the RX FIFO full. -/
def Spi.paused (q : Spi) : Bool := q.tx.isEmpty || decide (16 ≤ q.rx.length)

/-- SPI_FRAME_DONE: one frame goes out and one comes in. -/
def execSpiFrameDone (m : Fin 2) (rx : Word) (s : State) : Host.Outcome State Fault Refusal :=
  let q := s.spi m.val
  .next (if !portOn s || !q.busy || decide (q.left = 0) || q.paused then s
    else raiseLine (17 + 2 * m.val) (raiseLine (16 + 2 * m.val)
      (setSpi m.val (fun q => { q with tx := q.tx.drop 1, rx := q.rx ++ [q.frame rx], left := q.left - 1 }) s)))

/-- SPI_TRANSFER_DONE: the last frame is complete. -/
def execSpiTransferDone (m : Fin 2) (s : State) : Host.Outcome State Fault Refusal :=
  let q := s.spi m.val
  .next (if q.busy && decide (q.left = 0) then cicPulse (65 + 2 * m.val) (spiHalt m.val s) else s)

/-- SPI_STALL_TIMEOUT: STALL 0 means no limit. -/
def execSpiStallTimeout (m : Fin 2) (s : State) : Host.Outcome State Fault Refusal :=
  let q := s.spi m.val
  .next (if q.busy && decide (q.left ≠ 0) && q.paused && decide (q.stall ≠ 0) then
      cicPulse (66 + 2 * m.val) (setSpi m.val (fun q => { q with ended := true }) (spiHalt m.val s))
    else s)

/-- Read a register of the SER block. -/
def serRead (f off : Nat) (s : State) : Word × State :=
  if f = 0 then (if off = 0 then w32 s.port.svcDiv else if off = 4 then w32 s.port.hstDiv else 0, s)
  else if f ≤ 4 then
    let u := s.uart (f - 1)
    if off = 0 then (u.cfg, s)
    else if off = 4 then (u.div, s)
    else if off = 0xC then uartTake (f - 1) s
    else if off = 0x10 then
      (w32 (bitN u.brk * 2 ^ 31 + bitN u.ovr * 2 ^ 30 + (64 - u.tx.length) * 0x100 + u.rx.length), s)
    else (0, s)
  else if f ≤ 6 then
    let q := s.spi (f - 5)
    if off = 0 then (q.cfg, s)
    else if off = 0xC then spiTake (f - 5) s
    else if off = 0x10 then (w32 (q.stall * 0x10000 + bitN q.ended * 2 + bitN q.busy), s)
    else (0, s)
  else (0, s)

/-- Write a register of the SER block. -/
def serWrite (f off : Nat) (v : Word) (s : State) : State :=
  if 1 ≤ f ∧ f ≤ 4 then
    let n := f - 1
    if off = 0 then setUart n (fun u => { u with cfg := v &&& 0x807F7F0F }) s
    else if off = 4 then setUart n (fun u => { u with div := v &&& 0x000FFFFF }) s
    else if off = 8 then uartPut n (BitVec.ofNat 8 (bits v 7 0)) s
    else if off = 0x10 then setUart n (fun u => { u with brk := u.brk && !v.getLsbD 31, ovr := u.ovr && !v.getLsbD 30 }) s
    else s
  else if f = 5 ∨ f = 6 then
    let m := f - 5
    if off = 0 then setSpi m (fun q => { q with cfg := v &&& 0x0FFF9F03 }) s
    else if off = 4 then
      (if v.getLsbD 30 then spiHalt m s else if v.getLsbD 31 then spiGo m (bits v 15 0 + 1) s else s)
    else if off = 8 then spiPut m v s
    else if off = 0x14 then setSpi m (fun q => { q with stall := bits v 31 16 }) s
    else s
  else s

/-! ### The OUT block (R463 to R466) -/

/-- A mask over the outputs. -/
def outMask (s : State) (f : Feed → Bool) : Nat :=
  (List.range 8).foldl (fun m n => m + bitN (f (s.feed n)) * 2 ^ n) 0

/-- Read a register of the OUT block. -/
def outRead (f off : Nat) (s : State) : Word :=
  if f = 0 then
    if off = 0 then
      w32 ((match s.stw.charter with | some ch => ch.feedSafe % 256 | none => 0) * 0x10000 +
        outMask s (fun q => q.latched) * 0x100 + outMask s fun q => q.on)
    else 0
  else if f ≤ 8 ∧ off = 4 then
    let q := s.feed (f - 1)
    w32 (q.cur % 0x10000 * 0x10000 + q.result * 0x1000 + q.fault * 0x100 + bitN q.latched * 2 + bitN q.on)
  else 0

/-! ### An owner restarts (R450) -/

/-- The frame is a person's. -/
def frameOf (s : State) (p f : Nat) : Bool := vget s.cus.frame f == ownerCode p

/-- The CAN frames of a person: pending transmissions cancelled, buffer groups emptied, the rest reset. -/
def canReset (p k : Nat) (s : State) : State :=
  let s := forNat 4 (fun g t =>
    if frameOf t p (0x74 + 4 * k + g) then
      let t := forNat 16 (fun i u => setBuf k (16 * g + i) (fun _ => {}) u) t
      setCan k (fun q => { q with onBus := match q.onBus with | some b => if b / 16 = g then none else some b | none => none }) t
    else t) s
  let s := if frameOf s p (0x71 + k) then
      setCan k (fun q => { q with mode := 0, autorec := false, nbt := 0, dbt := 0, tdc := 0, tec := 0, rxErr := 0, busOff := false,
                                  hold := false, onBus := none }) s
    else s
  canLevels k s

/-- The card slot of a person: deactivated, FIFOs and registers reset. -/
def cardReset (p n : Nat) (s : State) : State :=
  if !frameOf s p (0x81 + n) then s
  else
    let s := if (s.slot n).steward then s else cardDeactivate n s
    cardLevels n (setSlot n (fun q =>
      if q.steward then { q with cfg := 0x01743F00, timer := 0 }
      else { present := q.present, st := q.st }) s)

/-- What the steward does to the port blocks of a person that restarts, is DEAD or is ONE-activated (R450). -/
def portReset (p : Nat) (s : State) : State :=
  let s := canReset p 1 (canReset p 0 s)
  let s := forNat 4 (fun n t => if frameOf t p (0x91 + n) then setUart n (fun _ => {}) t else t) s
  let s := forNat 2 (fun m t => if frameOf t p (0x95 + m) then setSpi m (fun _ => {}) t else t) s
  let s := cardReset p 1 (cardReset p 0 s)
  let s := forNat 8 (fun n t => if frameOf t p (0xA1 + n) then setSense n (fun q => { q with fifo := [] }) t else t) s
  forNat 8 (fun n t => if frameOf t p (0xB1 + n) then setFeed n (fun f => { f with result := 0 }) (feedSafe n t) else t) s

end Sys2Proof.Machine
end

