-- ==== Sys2Proof/Machine/ChainLow.lean ====
section
/-! DEFINITION. Chain ports (R426 to R438): frames sent and accepted, keys of a segment, routes. -/

namespace Sys2Proof.Machine

/-- Change the chain, and one of its ports (0 CHU, 1 CHD). -/
def setChn (f : Chn → Chn) (s : State) : State := { s with chn := f s.chn }
def setCport (d : Nat) (f : ChPort → ChPort) (s : State) : State :=
  setChn (fun c => { c with port := vmod c.port d f }) s

/-- The number of a port, and the other port. -/
def portNo (p : Port) : Nat := match p with | .chu => 0 | .chd => 1
def otherPort (d : Nat) : Nat := 1 - d

/-- What the chain shows has changed: mirror slots 5 and 7 and the sources (R353, R447, R448). -/
def chainShown (s : State) : State := pubSlot 7 (pubSlot 5 (chainLevels s))

/-! ### Frames (R429, R430) -/

/-- The header of a frame, as its 16 bytes. -/
def frameHeader (f : Frame) : Bytes :=
  leBytes 1 f.type.toNat ++ [f.dst, f.src, f.hops] ++ leBytes 2 f.payload.length ++ [f.epoch, 0] ++ leBytes 8 f.segseq.toNat

/-- The nonce of a keyed frame: 0 when the upper end sends (R430). -/
def frameNonce (byLower : Bool) (q : BitVec 64) : Bytes := [if byLower then 1 else 0, 0, 0, 0] ++ leBytes 8 q.toNat

/-- The keys a port sends and receives under: CHD is the upper end. -/
def ChPort.txKey (q : ChPort) (d : Nat) : Bytes := if d = 1 then q.keyDown else q.keyUp
def ChPort.rxKey (q : ChPort) (d : Nat) : Bytes := if d = 1 then q.keyUp else q.keyDown
def ChPort.rxPrev (q : ChPort) (d : Nat) : Bytes := if d = 1 then q.prevUp else q.prevDown

/-- The tag of an unkeyed frame. -/
def plainTag (f : Frame) : Bytes := (sha256 (frameHeader f ++ f.payload)).take 16

/-- Put a frame on a segment: it takes the next SEGSEQ (R429). -/
def putFrame (d : Nat) (f : Frame) (s : State) : State :=
  setCport d (fun q => { q with tx := q.tx + 1, sent := q.sent ++ [f] }) s
def nextSegseq (s : State) (d : Nat) : BitVec 64 := BitVec.ofNat 64 ((s.cport d).tx + 1)

/-- Send an unkeyed frame: HELLO or CAP. -/
def sendPlain (d : Nat) (ty : BitVec 4) (pl : Bytes) (s : State) : State :=
  let f : Frame := { type := ty, dst := 0, src := BitVec.ofNat 8 s.chn.pos, hops := 64, epoch := 0, segseq := nextSegseq s d,
                     payload := pl, tag := [], ending := .whole }
  putFrame d { f with tag := plainTag f } s

/-- A keyed frame for a segment, encrypted (R430); a frame that ends in ABORT has no tag (R437). -/
def sealFrame (s : State) (d : Nat) (f : Frame) : Frame :=
  let q := s.cport d
  let g := { f with epoch := BitVec.ofNat 8 q.epoch, segseq := nextSegseq s d }
  let e := gcmEnc (q.txKey d) (frameNonce (decide (d = 0)) g.segseq) (frameHeader g) f.payload
  { g with payload := e.1, tag := if f.ending = .abort then [] else e.2 }

/-- The closure segment of a closed ring carries only HELLO, CAP, GAP, LOSS and TOPO (R443). -/
def mayCross (s : State) (d : Nat) (ty : BitVec 4) : Bool :=
  let c := s.chn
  let last := (c.members.getLast?.map fun m => m.pos).getD 0
  let closure := c.ring && ((decide (c.role = .head) && decide (d = 0)) || (decide (c.role = .node) && decide (d = 1) && decide (last = c.pos)))
  !closure || decide (ty = 4) || decide (ty = 8)

/-- Send a keyed frame that starts at this node. -/
def sendKeyed (d : Nat) (ty : BitVec 4) (dst : Nat) (pl : Bytes) (s : State) : State :=
  if (s.cport d).st ≠ .up ∨ !mayCross s d ty then s
  else
    let f : Frame := { type := ty, dst := BitVec.ofNat 8 dst, src := BitVec.ofNat 8 s.chn.pos, hops := 64, epoch := 0, segseq := 0,
                       payload := pl, tag := [], ending := .whole }
    putFrame d (sealFrame s d f) s

/-- Send a frame out of a port with one hop less. -/
def relay (d : Nat) (f : Frame) (pl : Bytes) (s : State) : State :=
  if f.hops.toNat ≤ 1 ∨ (s.cport d).st ≠ .up ∨ !mayCross s d f.type then s
  else putFrame d (sealFrame s d { f with hops := f.hops - 1, payload := pl }) s

/-! ### Acceptance (R430, R431, R435, R437) -/

/-- Count something of the chain. -/
def countFrame (s : State) : State := setChn (fun c => { c with frames := satInc c.frames 0xFFFFFFFF }) s
def countReplay (s : State) : State := setChn (fun c => { c with replay := satInc c.replay 0xFFFFFFFF }) s
def countDrop (s : State) : State := setChn (fun c => { c with drop := satInc c.drop 0xFFFFFFFF }) s
def countAbort (s : State) : State := setChn (fun c => { c with lateAbort := satInc c.lateAbort 0xFFFFFFFF }) s

/-- The epoch after an epoch: 0 stands for unkeyed frames and is passed over (DESIGN CHOICE, log 126). -/
def nextEpoch (n : Nat) : Nat := n % 255 + 1

/-- The key a frame on a port is read with, and the last SEGSEQ accepted in its epoch. -/
def frameKey (s : State) (d : Nat) (f : Frame) : Option (Bytes × Option Nat) :=
  let q := s.cport d
  if q.st ≠ .up then none
  else if f.epoch.toNat = q.epoch then some (q.rxKey d, q.rxLast)
  else if f.epoch ≠ 0 ∧ nextEpoch f.epoch.toNat = q.epoch ∧ q.rxPrev d ≠ [] then some (q.rxPrev d, q.prevLast)
  else none

/-- What a keyed frame proves to be on arrival. -/
inductive FrameIs where
  | deaf | replayed | badTag | good (pl : Bytes)
  deriving DecidableEq, Repr

/-- Judge a keyed frame that arrived whole. -/
def frameIs (s : State) (d : Nat) (f : Frame) : FrameIs :=
  match frameKey s d f with
  | none => .deaf
  | some (k, last) =>
    if (match last with | some n => decide (f.segseq.toNat ≤ n) | none => false) then .replayed
    else if f.tag.length ≠ 16 then .badTag
    else match gcmDec k (frameNonce (decide (d = 1)) f.segseq) (frameHeader f) f.payload f.tag with
      | some pl => .good pl
      | none => .badTag

/-- An accepted keyed frame: its SEGSEQ is the last one; the first of a new epoch ends the time of the old keys. -/
def frameTaken (d : Nat) (f : Frame) (s : State) : State :=
  countFrame (setCport d (fun q =>
    if f.epoch.toNat = q.epoch then
      { q with rxLast := some f.segseq.toNat, tagFails := 0, prevDown := [], prevUp := [], prevLast := none }
    else { q with prevLast := some f.segseq.toNat, tagFails := 0 }) s)

/-! ### The segment's exchange (R432 to R435) -/

/-- This node cannot sign (R435): the port stays in FAULT. -/
def noIdentity (d : Nat) (s : State) : State :=
  chainShown (setCport d (fun q => { q with st := .fault, cause := 4 }) s)

/-- Send HELLO with a new nonce. -/
def sendHello (d : Nat) (s : State) : State :=
  if s.fuses.zeroize then noIdentity d s
  else
    let r := randomBytes 16 s
    sendPlain d 1 r.1 (setCport d (fun q => { q with nonce := r.1, capSent := false, peerEph := [] }) r.2)

/-- The lifecycle and display words a capability word carries. -/
def capWord (s : State) (d : Nat) (peerNonce ephPub : Bytes) : Bytes :=
  identityPub ++ leBytes 1 (fuseCode s) ++ leBytes 1 s.life ++ leBytes 1 d ++ leBytes 1 (roleCode s.chn.role) ++
    leBytes 1 s.chn.pos ++ leBytes 2 0 ++ leBytes 4 (Config.romVersion % 2 ^ 32) ++ leBytes 4 (s.bun.patch.getD 0).toNat ++
    peerNonce ++ ephPub ++ leBytes 3 0

/-- Send CAP in answer to a HELLO (R432); a port that shows ORIENT answers and stays as it is (R425). -/
def sendCap (d : Nat) (peerNonce : Bytes) (s : State) : State :=
  let r := randomBytes 32 s
  let eph := scalarOf p256 r.1
  let w := capWord s d peerNonce (ptBytes p256 (pubOf p256 eph))
  sendPlain d 2 (w ++ ecdsaDet sha384P p384 identityKey (sha384 w))
    (setCport d (fun q => { q with peerNonce := peerNonce, eph := eph, capSent := true,
                                   st := if q.st = .up ∨ q.cause = 1 then q.st else .keying,
                                   cause := if q.cause = 1 then 1 else 0 }) r.2)

/-- The exchange of a port ends in FAULT: what its neighbour was verified to be counts no more (R378). -/
def segFault (d cause : Nat) (s : State) : State :=
  let known := (s.cport d).peer.isSome
  let s := setCport d (fun q =>
    { q with st := .fault, cause := cause, nonce := [], capSent := false, peer := none, peerEph := [] }) s
  if known then peerIs d none s else s

/-- A failed key exchange (R433): FAULT with cause KEY, leaf CHAIN.KEY, event log. -/
def keyFault (d : Nat) (s : State) : State :=
  let s := segFault d 2 s
  let s := setChn (fun c => { c with keyFails := satInc c.keyFails 255 }) s
  chainShown (logEvent 6 0 "CHAIN.KEY" [w32 d] (setLeaf 2 6 s))

/-- The keys of a segment (R434): downward, upward. -/
def segmentKeys (q : ChPort) (d : Nat) : Option (Bytes × Bytes) :=
  let up := if d = 1 then q.nonce else q.peerNonce
  let low := if d = 1 then q.peerNonce else q.nonce
  match ptRead p256 q.peerEph with
  | none => none
  | some pt =>
    (ecdhX p256 q.eph pt).map fun z =>
      let k := hkdf sha256P (up ++ low) z (textBytes "CHAIN segment".toList) 64
      (k.take 32, k.drop 32)

/-- Take new keys into use: epoch 1, or one more than that of the keys they replace (R434, R435). -/
def keysIn (k : Bytes × Bytes) (q : ChPort) : ChPort :=
  let re := decide (q.st = .up)
  { q with
    st := .up, cause := 0, epoch := nextEpoch q.epoch,
    prevDown := if re then q.keyDown else [], prevUp := if re then q.keyUp else [], prevLast := if re then q.rxLast else none,
    keyDown := k.1, keyUp := k.2, rxLast := none, txAtKey := q.tx, rxAtKey := q.rxLast.getD 0, tagFails := 0,
    nonce := [], peerNonce := [], eph := 0, capSent := false, peerEph := [] }

/-- What a CAP says, checked (R433): the peer, its ephemeral key, its role and position; or the cause of the failure. -/
def capCheck (q : ChPort) (d : Nat) (pl : Bytes) : Option Nat :=
  let w := pl.take 196
  if pl.length ≠ 292 ∨ q.nonce = [] ∨ slice pl 112 16 ≠ q.nonce then some 2
  else if !sigOk384 (pl.take 97) w (pl.drop 196) then some 2
  else if leAt pl 99 1 = d then some 1
  else if leAt pl 99 1 ≠ otherPort d then some 2
  else none

/-! ### Routes (R438, R444) -/

/-- The members from the CHU end of the chain to its CHD end; while a break is rerouted the closure segment is in use. -/
def physical (c : Chn) : List Nat :=
  let up := (c.members.filter fun m => decide (m.pos ≠ 1) && !m.down).map fun m => m.pos
  let down := (c.members.filter fun m => decide (m.pos ≠ 1) && m.down).map fun m => m.pos
  let l := up.reverse ++ [1] ++ down
  if c.rerouted ∧ c.brk ≠ 0 then
    let a := l.takeWhile fun n => decide (n ≠ c.brk)
    (l.drop (a.length + 1)) ++ a ++ [c.brk]
  else l

/-- The port toward a position, if this node and that position are members. -/
def portToward (s : State) (n : Nat) : Option Nat :=
  let l := physical s.chn
  match l.findIdx? (fun m => decide (m = s.chn.pos)), l.findIdx? (fun m => decide (m = n)) with
  | some i, some j => if i < j then some 1 else if j < i then some 0 else none
  | _, _ => none

/-- The port a node keeps toward its head: the one that leads to position 1. -/
def headPort (s : State) : Option Nat := portToward s 1

/-- The segments between this node and a position, each as the unordered pair of the positions it joins. -/
def pathTo (c : Chn) (n : Nat) : List (Nat × Nat) :=
  let l := physical c
  match l.findIdx? (fun m => decide (m = c.pos)), l.findIdx? (fun m => decide (m = n)) with
  | some i, some j => ((l.zip (l.drop 1)).drop (Nat.min i j)).take (Nat.max i j - Nat.min i j)
  | _, _ => []

/-- Send an ORUNE frame (R445): kind, origin carrier, origin position, line text. -/
def sendOrune (dst kind carrier origin : Nat) (t : Text) (s : State) : State :=
  match portToward s dst with
  | none => s
  | some d => sendKeyed d 9 dst (leBytes 1 kind ++ leBytes 1 carrier ++ leBytes 1 origin ++ [0] ++ textBytes t) s

end Sys2Proof.Machine
end

