-- ==== Sys2Proof/Machine/Text.lean ====
section
/-! DEFINITION. The written forms of Orune (R300 to R306, R329, R390): fields, words, numbers, times, data, strings, the check suffix. -/

namespace Sys2Proof.Machine

/-- A 32-bit number as `0x` and two groups of four digits. -/
def hexWord (n : Nat) : Text := '0' :: 'x' :: hexFixed 4 (n / 65536) ++ '_' :: hexFixed 4 n

/-- An upper-case letter for a letter. -/
def upper (c : Char) : Char := if 'a' ≤ c ∧ c ≤ 'z' then Char.ofNat (c.toNat - 32) else c
def upperText (t : Text) : Text := t.map upper

/-- Text from a string. -/
def tx (s : String) : Text := s.toList

/-- Texts joined by a separator. -/
def joinText (sep : Text) (l : List Text) : Text :=
  match l with
  | [] => []
  | [a] => a
  | a :: r => a ++ sep ++ joinText sep r
def spaced (l : List Text) : Text := joinText [' '] l

/-- Bytes as groups of 8 hexadecimal digits joined by '-' (R302, R314). -/
def groupsAux (k : Nat) (bs : Bytes) : List Text :=
  match k with
  | 0 => []
  | j + 1 => if bs.isEmpty then [] else hexBytes (bs.take 4) :: groupsAux j (bs.drop 4)
def hexGroups (bs : Bytes) : Text := joinText ['-'] (groupsAux bs.length bs)

/-- A display version a.b.c.d from a word, a in bits 31:24 (R321, R331). -/
def dotted (n : Nat) : Text :=
  joinText ['.'] [decText (n / 2 ^ 24 % 256), decText (n / 2 ^ 16 % 256), decText (n / 2 ^ 8 % 256), decText (n % 256)]

/-- Four binary digits. -/
def bin4 (n : Nat) : Text := tx "0b" ++ (List.range 4).map fun i => if n / 2 ^ (3 - i) % 2 = 1 then '1' else '0'

/-! ### The check suffix (R306) -/

/-- One byte of the CRC-8 with polynomial 0x07. -/
def crc8Bits (k c : Nat) : Nat :=
  match k with
  | 0 => c
  | j + 1 => crc8Bits j (if 128 ≤ c then (2 * c) % 256 ^^^ 0x07 else 2 * c)
def crc8 (t : Text) : Nat := t.foldl (fun c ch => crc8Bits 8 (c ^^^ ch.toNat % 256)) 0

/-- A line with its suffix. -/
def withCheck (t : Text) : Text := t ++ ['*'] ++ hexFixed 2 (crc8 t)

/-- A line without the spaces behind its last field. -/
def trimEnd (t : Text) : Text := (t.reverse.dropWhile fun c => decide (c = ' ')).reverse

/-- The line before its suffix, and the two digits, when it carries one: `*` stands directly behind the last character of its last
field, never behind a space (R300). -/
def suffixOf (t : Text) : Option (Text × Nat) :=
  match (trimEnd t).reverse with
  | b :: a :: '*' :: r =>
    match r.head?, hexVal (upper a), hexVal (upper b) with
    | some l, some x, some y => if l = ' ' then none else some (r.reverse, 16 * x + y)
    | _, _, _ => none
  | _ => none

/-! ### Fields (R300, R302) -/

/-- Split a line at spaces outside strings: `q` in a string, `e` after a backslash in it. -/
def splitAux (q e : Bool) (cur : Text) (acc : List Text) (t : Text) : Option (List Text) :=
  let close := if cur.isEmpty then acc else cur.reverse :: acc
  match t with
  | [] => if q then none else some close.reverse
  | c :: r =>
    if q then
      if e then splitAux true false (c :: cur) acc r
      else if c = '\\' then splitAux true true (c :: cur) acc r
      else splitAux (decide (c ≠ '"')) false (c :: cur) acc r
    else if c = ' ' then splitAux false false [] close r
    else splitAux (decide (c = '"')) false (c :: cur) acc r
def splitFields (t : Text) : Option (List Text) := splitAux false false [] [] t

/-- Letters and digits of a word. -/
def isLetter (c : Char) : Bool := ('A' ≤ upper c && upper c ≤ 'Z')
def isDigit (c : Char) : Bool := ('0' ≤ c && c ≤ '9')
def isHexDigit (c : Char) : Bool := (hexVal (upper c)).isSome
def wordChar (c : Char) : Bool := isLetter c || isDigit c || c == '_'

/-- A word (R302). -/
def isWord (t : Text) : Bool := match t with | [] => false | c :: r => isLetter c && r.all wordChar

/-- Digits after a prefix, where '_' may separate them: the value. -/
def prefixed (val : Char → Option Nat) (base : Nat) (t : Text) : Option Nat :=
  let seps := (t.zip (t.drop 1)).any fun q => q.1 == '_' && q.2 == '_'
  if t.isEmpty ∨ t.head? = some '_' ∨ t.getLast? = some '_' ∨ seps then none
  else readDigits val base 0 (t.filter fun c => decide (c ≠ '_'))
def binVal (c : Char) : Option Nat := if c = '0' then some 0 else if c = '1' then some 1 else none

/-- A number without its sign (R302). -/
def unsignedOf (t : Text) : Option Nat :=
  match t with
  | '0' :: 'x' :: r => prefixed (fun c => hexVal (upper c)) 16 r
  | '0' :: 'X' :: r => prefixed (fun c => hexVal (upper c)) 16 r
  | '0' :: 'b' :: r => prefixed binVal 2 r
  | '0' :: 'B' :: r => prefixed binVal 2 r
  | [] => none
  | r => readDigits digitVal 10 0 r

/-- A number (R302). -/
def numberOf (t : Text) : Option Int :=
  match t with
  | '-' :: r => (unsignedOf r).map fun n => -(n : Int)
  | r => (unsignedOf r).map fun n => (n : Int)

/-- A decimal number: the address and the tag. -/
def decimalOf (t : Text) : Option Nat := if t.isEmpty then none else readDigits digitVal 10 0 t

/-- Data: groups of hexadecimal digits joined by '-', an even number in all (R302). -/
def dataOf (t : Text) : Option Bytes :=
  let seps := (t.zip (t.drop 1)).any fun q => q.1 == '-' && q.2 == '-'
  if t.isEmpty ∨ t.head? = some '-' ∨ t.getLast? = some '-' ∨ seps then none
  else readHex ((t.filter fun c => decide (c ≠ '-')).map upper)

/-- The inside of a string, its escapes taken away; the closing mark must end it. -/
def unquote (t : Text) : Option Text :=
  match t with
  | [] => none
  | '"' :: r => if r.isEmpty then some [] else none
  | '\\' :: c :: r => if c = '"' ∨ c = '\\' then (unquote r).map (c :: ·) else none
  | c :: r => if c = '\\' then none else (unquote r).map (c :: ·)
def stringOf (t : Text) : Option Text := match t with | '"' :: r => unquote r | _ => none

/-- A modifier: its name and the text of its value. -/
def modifierOf (t : Text) : Option (Text × Text) :=
  let name := t.takeWhile wordChar
  match t.drop name.length with
  | '=' :: v => if isWord name ∧ !v.isEmpty then some (name, v) else none
  | _ => none

/-! ### Times (R302, R390) -/

/-- Days before a date, counted from 0000-03-01. -/
def dayNumber (y m d : Nat) : Int :=
  let a : Int := if m ≤ 2 then (y : Int) - 1 else y
  let k := if m ≤ 2 then m + 9 else m - 3
  365 * a + a / 4 - a / 100 + a / 400 + ((153 * k + 2) / 5 : Nat) + d - 1

/-- Days from 0000-03-01 to 2000-01-01. -/
def epochDay : Int := 730425

def leapYear (y : Nat) : Bool := (y % 4 = 0 && y % 100 ≠ 0) || y % 400 = 0
def monthDays (y m : Nat) : Nat :=
  if m = 2 then (if leapYear y then 29 else 28) else if m = 4 ∨ m = 6 ∨ m = 9 ∨ m = 11 then 30 else 31

/-- A time's fields by its shape alone: year, month, day, hour, minute, second, fraction digits. -/
def timeShape (t : Text) : Option (List Nat × List (Fin 10)) :=
  let u := upperText t
  let num := fun i n => readDigits digitVal 10 0 (slice u i n)
  let at_ := fun i c => decide (u[i]? = some c)
  let frac := (u.drop 20).dropLast
  let digits := frac.filterMap fun c => (digitVal c).map fun n => Fin.ofNat 10 n
  let fracOk := if u.length = 20 then true
    else at_ 19 '.' && decide (1 ≤ frac.length) && decide (frac.length ≤ 5) && decide (digits.length = frac.length)
  if 20 ≤ u.length ∧ at_ 4 '-' ∧ at_ 7 '-' ∧ at_ 10 'T' ∧ at_ 13 ':' ∧ at_ 16 ':' ∧ u.getLast? = some 'Z' ∧ fracOk then
    match num 0 4, num 5 2, num 8 2, num 11 2, num 14 2, num 17 2 with
    | some y, some mo, some d, some h, some mi, some se => some ([y, mo, d, h, mi, se], if u.length = 20 then [] else digits)
    | _, _, _, _, _, _ => none
  else none

/-- A time: seconds from 2000-01-01T00:00:00Z and its fraction digits; a date or time of day that does not exist is none. -/
def timeOf (t : Text) : Option (Int × List (Fin 10)) :=
  match timeShape t with
  | some ([y, mo, d, h, mi, se], fr) =>
    if 1 ≤ mo ∧ mo ≤ 12 ∧ 1 ≤ d ∧ d ≤ monthDays y mo ∧ h < 24 ∧ mi < 60 ∧ se < 60 then
      some ((dayNumber y mo d - epochDay) * 86400 + (h * 3600 + mi * 60 + se : Nat), fr)
    else none
  | _ => none

/-- Fraction digits as 1/32,768 s steps, the nearest, halves up; 32,768 carries (R390). -/
def fracSteps (ds : List (Fin 10)) : Nat :=
  let n := ds.foldl (fun a d => a * 10 + d.val) 0
  let e := 10 ^ ds.length
  (2 * n * 32768 + e) / (2 * e)

/-- The year and the day in it, from days since 2000-01-01. -/
def yearOf (fuel y d : Nat) : Nat × Nat :=
  match fuel with
  | 0 => (y, d)
  | f + 1 => let n := if leapYear y then 366 else 365; if d < n then (y, d) else yearOf f (y + 1) (d - n)
def monthOf (fuel y m d : Nat) : Nat × Nat :=
  match fuel with
  | 0 => (m, d)
  | f + 1 => if d < monthDays y m then (m, d) else monthOf f y (m + 1) (d - monthDays y m)

/-- A time as the device writes it, with five fraction digits (R390). -/
def timeText (sec frac : Nat) : Text :=
  let yd := yearOf 140 2000 (sec / 86400)
  let md := monthOf 12 yd.1 1 yd.2
  let r := sec % 86400
  decFixed 4 yd.1 ++ ['-'] ++ decFixed 2 md.1 ++ ['-'] ++ decFixed 2 (md.2 + 1) ++ ['T'] ++ decFixed 2 (r / 3600) ++ [':'] ++
    decFixed 2 (r / 60 % 60) ++ [':'] ++ decFixed 2 (r % 60) ++ ['.'] ++ decFixed 5 (frac * 100000 / 32768) ++ ['Z']

/-! ### Check 3 (R312): the form of each field -/

/-- A value in one of the lexical forms. -/
def valueForm (t : Text) : Bool :=
  isWord t || (numberOf t).isSome || (dataOf t).isSome || (timeShape t).isSome || (stringOf t).isSome
def fieldForm (t : Text) : Bool :=
  match modifierOf t with
  | some q => valueForm q.2
  | none => valueForm t

/-- A `Pn.` noun: the person and the word. -/
def personNoun (t : Text) : Option (Nat × Text) :=
  match t with
  | p :: n :: '.' :: w =>
    match digitVal n with
    | some k => if upper p = 'P' ∧ 1 ≤ k ∧ k ≤ 6 ∧ isWord w then some (k, w) else none
    | none => none
  | _ => none

/-- A line cut into its fields. -/
structure Fields where
  addr : Option Nat
  tag : Option Nat
  verb : Text
  noun : Text
  args : List Text
  deriving DecidableEq, Repr

/-- What check 3 finds: the fields, or how far the address and the tag could be read. -/
inductive FieldAns where
  | bad (addr tag : Option Nat)
  | ok (f : Fields)
  deriving DecidableEq, Repr

/-- Check 3: field forms, the tag present where it is required. -/
def readFields (needTag : Bool) (t : Text) : FieldAns :=
  match splitFields t with
  | none => .bad none none
  | some toks =>
    let addr := match toks with | ('@' :: n) :: _ => some (decimalOf n) | _ => none
    match addr with
    | some none => .bad none none
    | a =>
      let a := a.join
      if (match a with | some n => decide (64 < n) | none => false) then .bad none none
      else
        let rest := if a.isSome then toks.drop 1 else toks
        let tag := match rest with | w :: _ => decimalOf w | [] => none
        if (match tag with | some n => decide (255 < n) | none => needTag) then .bad a none
        else match (if tag.isSome then rest.drop 1 else rest) with
          | v :: n :: args =>
            if isWord v && (isWord n || (personNoun n).isSome) && args.all fieldForm then
              .ok { addr := a, tag := tag, verb := v, noun := n, args := args }
            else .bad a tag
          | _ => .bad a tag

/-! ### Words (R303, R329) -/

/-- The words of each class. -/
def verbWords : List Text :=
  ["ACTIVATE", "CLOSE", "COMMISSION", "CONFIRM", "DEMOTE", "DISCARD", "ENROL", "FENCE", "HOLD", "INSTALL", "LIFT", "MEASURE",
   "MIGRATE", "OPEN", "PROMOTE", "PROVE", "READ", "RELEASE", "RESTART", "RESUME", "RETIRE", "SET", "START", "STOP",
   "WRITE"].map tx
def nounWords : List Text :=
  ["BASELINE", "BUNDLE", "CHAIN", "CHARTER", "CORE", "DEVICE", "EVENT", "FEED", "IDENTITY", "LIFECYCLE", "OPPOINT", "PERSON",
   "RECORD", "SESSION", "SURVEY", "TAMPER", "TIME"].map tx
def modWords : List Text :=
  ["AT", "CH", "COPY", "FROM", "LEN", "NOW", "REASON", "RESTART", "SEQ", "TO", "TOL", "VALUE"].map tx
def keyWords_ : List Text :=
  ["A", "ALL", "B", "BLANK", "C0", "C2", "CARD", "FB2", "FB3", "NONE", "OFF", "ON", "PAIR_A", "PAIR_B", "W"].map tx

/-- What a word turns out to be within its class. -/
inductive WordAns where
  | is (w : Text)
  | unknown (w : Text)
  | ambiguous (ws : List Text)
  deriving DecidableEq, Repr

/-- Resolve a word (R303): a complete word matches itself, a prefix of three or more must be unique. -/
def resolve (cls : List Text) (t : Text) : WordAns :=
  let u := upperText t
  if cls.contains u then .is u
  else if u.length < 3 then .unknown u
  else match cls.filter fun w => u.isPrefixOf w with
    | [] => .unknown u
    | [w] => .is w
    | ws => .ambiguous ws

end Sys2Proof.Machine
end

