-- ==== Sys2Proof/Machine/Window.lean ====
section
/-! DEFINITION. The host window (R340 to R367): what HOST latches hold and answer, what reaches them on GF_H, what the host writes. -/

namespace Sys2Proof.Machine

/-- Change the window. -/
def setWin (f : Win → Win) (s : State) : State := { s with win := f s.win }
def setCell (n : Nat) (f : Cell → Cell) (s : State) : State := setWin (fun w => { w with cells := vmod w.cells n f }) s
def State.cell (s : State) (n : Nat) : Cell := vget s.win.cells n

/-- The window answers FREEZE and its identification (steps 3 to 6), and answers everything (from step 7) (R344, R476). -/
def winAnswers (s : State) : Bool := decide (1 ≤ s.win.state) && s.isl.vioW
def winLive (s : State) : Bool := decide (s.win.state = 3) && s.isl.vioW

/-- A host write to a window that answers wakes the device from NAP (R45). -/
def hostStir (s : State) : State := if winAnswers s then napStir s else s

/-! ### What arrives on GF_H (R346, R351, R363, R364, R367) -/

/-- A slot and its number enter the latches in one step (R346). -/
def slotArrives (n : Nat) (v : BitVec 64) (q : Nat) (s : State) : State :=
  setWin (fun w => { w with live := vset w.live n (v, q), stale := w.stale || w.frozen.isSome }) s

/-- A leaf is set with its details, and TREE_LAST (R363, R367); CARD leaves are never set on AN (R366). -/
def leafArrives (b l : Nat) (ds : List (Nat × Nat)) (s : State) : State :=
  if b = 7 ∧ s.fuses.part = .an then s
  else setWin (fun w =>
    let count := (vget w.details 1 + 1) % 256
    let det := forAll ds (fun d v => vset v d.1 d.2) (vset w.details 1 (b * 4096 + l * 256 + count))
    { w with branch := vmod w.branch b fun m => m ||| BitVec.ofNat 16 (2 ^ l), details := det }) s

/-- A cell takes what the steward reports of it (R354). -/
def cellArrives (n st code val : Nat) (s : State) : State :=
  setCell n (fun c => { c with st := st, code := code, val := val }) s

/-- A transaction of GF_H reaches the latches. -/
def hostArrives (t : HTxn) (s : State) : State :=
  match t with
  | .slot n v q => slotArrives n v q s
  | .leaf b l ds => leafArrives b l ds s
  | .cell n st code val => cellArrives n st code val s
  | .line t => setWin (fun w => { w with rx := some t }) s

/-- Whether a transaction is a slot, and whether it is a line. -/
def HTxn.isSlot (t : HTxn) : Bool := match t with | .slot _ _ _ => true | _ => false
def HTxn.isLine (t : HTxn) : Bool := match t with | .line _ => true | _ => false

/-- The head of GF_H crosses. -/
def gfHCross (s : State) : State :=
  match s.gates.gfH with
  | [] => s
  | t :: r => hostArrives t { s with gates := { s.gates with gfH := r } }

/-- MIRROR_UPDATE (R346): GF_H delivers up to and with its first slot. -/
def execMirrorUpdate (s : State) : Host.Outcome State Fault Refusal :=
  .next (match s.gates.gfH.findIdx? HTxn.isSlot with
    | none => s
    | some i => forNat (i + 1) (fun _ t => gfHCross t) s)

/-! ### Mirror reads (R348, R351) -/

/-- The image reads use: the frozen one while FREEZE lasts. -/
def Win.image (w : Win) : Vector (BitVec 64 × Nat) 128 := w.frozen.getD w.live

/-- MIRROR_SNAPSHOT (R348). -/
def execMirrorSnapshot (slot : Fin 128) (s : State) : Host.Outcome State Fault Refusal :=
  let e := vget s.win.image slot.val
  .next (if winLive s then
      setWin (fun w => { w with shadow := vset w.shadow slot.val (BitVec.ofNat 48 (e.1.toNat / 65536)),
                                snapSeq := e.2, snapSlot := 0x8000 + slot.val }) s
    else s)

/-- A write of 0x0001 to FREEZE (R351, R352). -/
def freezeOn (s : State) : State :=
  if winAnswers s then setWin (fun w => { w with frozen := some w.live, stale := false }) s else s
/-- A write of 0x0000 to FREEZE. -/
def freezeOff (s : State) : State :=
  if winAnswers s then setWin (fun w => { w with frozen := none, stale := false }) s else s

/-- FREEZE (R351). -/
def execFreeze (s : State) : Host.Outcome State Fault Refusal := .next (freezeOn (hostStir s))

/-- UNFREEZE (R351). -/
def execUnfreeze (s : State) : Host.Outcome State Fault Refusal := .next (freezeOff (hostStir s))

/-- FREEZE_TIMEOUT (R352). -/
def execFreezeTimeout (s : State) : Host.Outcome State Fault Refusal :=
  .next (if s.win.frozen.isSome then setLeaf 6 5 (setWin (fun w => { w with frozen := none, stale := false }) s) else s)

/-- STEWARD_SLOT_PERIOD (R353, R387, R405, R447): slots 0, 3, 4 and 5 are published by time too. -/
def execStewardSlotPeriod (slot : Fin 8) (s : State) : Host.Outcome State Fault Refusal :=
  .next (if 7 ≤ s.isl.step ∧ [0, 3, 4, 5].contains slot.val then pubAlways slot.val s else s)

/-! ### Control cells (R354 to R357) -/

/-- The present person whose CELL_MASK holds a cell (R354); 0 none. -/
def cellOwner (s : State) (n : Nat) : Nat :=
  ((List.range 7).find? fun p => s.present p && maskBit (s.row p).cellMask n).getD 0

/-- The present state of the object a cell is bound to, as VALUE shows it (R356). -/
def cellValue (s : State) (c : Cell) : Nat :=
  let two := fun (b : Bool) => if b then 1 else 2
  match c.bind with
  | .feed n => two (vget s.port.feed n).on
  | .run p => two (s.running p)
  | .life => two s.snt.hold.any
  | .fence n => two (s.core n).fenced
  | _ => c.val

/-- A cell halfword (R354). -/
def cellRead (s : State) (n : Nat) : Nat :=
  let c := s.cell n
  if cellOwner s n = 0 then 0 else c.st * 8192 + c.code * 256 + c.wseq % 16 * 16 + cellValue s c % 16

/-- A cell ends in DONE (3) or REFUSED (4): the order is gone, the cell and leaf CELL_DONE follow on GF_H (R356, R366). A cell that
has become UNBOUND stays so (R354). -/
def cellResult (n st code val : Nat) (s : State) : State :=
  if (s.cell n).bind = .none then s
  else setLeaf 6 6 (toHost (.cell n st code val)
    (setWin (fun w => { w with cellQ := w.cellQ.filter fun k => decide (k ≠ n) })
      (setCell n (fun c => { c with order := none, taken := false }) s)))

/-- Sources 103 to 110: orders of a group wait to be taken (R210, R357). -/
def cellLevels (s : State) : State :=
  forNat 8 (fun g t => cicLevel (103 + g) (t.win.cellQ.any fun n => decide (n / 16 = g)) t) s

/-- A write to a cell (R355): the order carries the whole halfword (R358). -/
def cellWritten (n : Nat) (v : BitVec 16) (s : State) : State :=
  let c := s.cell n
  if !winLive s ∨ cellOwner s n = 0 ∨ c.st = 0 then s
  else if c.st = 2 then setLeaf 6 1 s
  else
    let q := (c.wseq + 1) % 16
    let s := setCell n (fun c => { c with st := 2, code := 0, wseq := q }) s
    { s with gates := { s.gates with ghF := s.gates.ghF ++ [.cellOrder n v.toNat q] } }

/-- CELL_WRITE (R355). -/
def execCellWrite (cell : Fin 128) (v : BitVec 16) (s : State) : Host.Outcome State Fault Refusal :=
  .next (cellWritten cell.val v (hostStir s))

/-- CELL_ORDER_TIMEOUT (R357): 2 s without an answer from the owner. -/
def execCellOrderTimeout (cell : Fin 128) (s : State) : Host.Outcome State Fault Refusal :=
  let c := s.cell cell.val
  .next (if c.bind = .person ∧ c.order.isSome then cellLevels (cellResult cell.val 4 5 c.val s) else s)

/-- Orders of a cell that are still on their way from the host. -/
def GTxn.isOrder (n : Nat) (t : GTxn) : Bool := match t with | .cellOrder k _ _ => decide (k = n) | _ => false
def ordersGone (n : Nat) (s : State) : State :=
  { s with gates := { s.gates with ghF := s.gates.ghF.filter fun t => !t.isOrder n,
                                   ghTaken := s.gates.ghTaken.filter fun q => !q.2.isOrder n } }

/-- A person starts or becomes DEAD: its cells become UNBOUND (R354), its waiting orders end. -/
def cellsUnbind (p : Nat) (s : State) : State :=
  cellLevels (forNat 128 (fun n t =>
    if cellOwner t n = p ∧ (t.cell n).bind ≠ .none then
      toHost (.cell n 0 0 0) (setWin (fun w => { w with cellQ := w.cellQ.filter fun k => decide (k ≠ n) })
        (setCell n (fun c => { c with bind := .none, order := none, taken := false }) (ordersGone n t)))
    else t) s)

/-! ### Line buffer (R359 to R361) -/

/-- Present a line. -/
def presentLine (t : Text) (s : State) : State := setLeaf 6 2 (toHost (.line t) s)

/-- Send a WIN line: presented when nothing is, else queued; a line that is no final reply waits in 16 places (R361). -/
def winSend (final : Bool) (t : Text) (s : State) : State :=
  if s.win.rx.isNone && s.win.rxQ.isEmpty && !s.gates.gfH.any HTxn.isLine then presentLine t s
  else if final || decide ((s.win.rxQ.filter fun q => !q.1).length < 16) then
    setWin (fun w => { w with rxQ := w.rxQ ++ [(final, t)] }) s
  else setLeaf 6 3 (setWin (fun w => { w with lineLost := true }) s)

/-- RX_RELEASE (R361). -/
def rxRelease (s : State) : State :=
  if s.win.rx.isNone then s
  else
    let s := setWin (fun w => { w with rx := none }) s
    match s.win.rxQ with
    | [] => s
    | q :: r => presentLine q.2 (setWin (fun w => { w with rxQ := r }) s)

/-- Characters written to LB_TX (R360): a character without room is dropped. -/
def txChars (cs : Bytes) (s : State) : State :=
  let room := 256 - s.win.txFifo.length
  let send := cs.take room
  let s := if send.isEmpty then s else
    { setWin (fun w => { w with txFifo := w.txFifo ++ send }) s with
      gates := { s.gates with ghF := s.gates.ghF ++ [.chars send] } }
  if room < cs.length then
    setLeaf 6 4 { setWin (fun w => { w with txOverflow := true }) s with
      gates := { s.gates with ghF := s.gates.ghF ++ [.lost] } }
  else s

/-- The characters of a write to LB_TX. -/
def txOf (v : BitVec 16) : Bytes :=
  [v.setWidth 8, (v >>> 8).setWidth 8].filter fun b => decide (b ≠ 0)

/-- LB_TX (R360). -/
def execLbTx (v : BitVec 16) (s : State) : Host.Outcome State Fault Refusal :=
  .next (if winLive s then txChars (txOf v) (hostStir s) else s)

/-- RX_RELEASE (R361). -/
def execRxRelease (s : State) : Host.Outcome State Fault Refusal := .next (if winLive s then rxRelease (hostStir s) else s)

/-- W1C bits of LB_STATUS (R359). -/
def lbClear (v : BitVec 16) (s : State) : State :=
  setWin (fun w => { w with txOverflow := w.txOverflow && !v.getLsbD 14, lineLost := w.lineLost && !v.getLsbD 13 }) s

/-- LB_FLAG_CLEAR (R359). -/
def execLbFlagClear (v : BitVec 16) (s : State) : Host.Outcome State Fault Refusal :=
  .next (if winLive s then lbClear v (hostStir s) else s)

/-- LB_STATUS as it reads. -/
def lbStatus (s : State) : Nat :=
  bitN s.win.rx.isSome * 32768 + bitN s.win.txOverflow * 16384 + bitN s.win.lineLost * 8192 + (s.win.rx.getD []).length

/-- Character i of the presented line. -/
def rxChar (s : State) (i : Nat) : Nat := (((s.win.rx.getD [])[i]?).map Char.toNat).getD 0

/-! ### The tree (R363, R364) -/

/-- A W1C write to a branch, reported on GH_F (R364). -/
def leafClear (b : Nat) (v : BitVec 16) (s : State) : State :=
  let s := setWin (fun w => { w with branch := vmod w.branch b fun m => m &&& ~~~v }) s
  { s with gates := { s.gates with ghF := s.gates.ghF ++ [.leafClear b v.toNat] } }

/-- TREE_LEAF_CLEAR (R364). -/
def execTreeLeafClear (branch : Fin 16) (v : BitVec 16) (s : State) : Host.Outcome State Fault Refusal :=
  .next (if winLive s ∧ branch.val < 15 then leafClear branch.val v (hostStir s) else s)

/-- TREE_SUMMARY (R363). -/
def treeSummary (s : State) : Nat :=
  (List.range 15).foldl (fun m b => m + bitN (decide (vget s.win.branch b ≠ 0)) * 2 ^ b) 0

/-- IRQ_N is driven low (R363, R344). -/
def irqLow (s : State) : Bool :=
  winLive s && (List.range 15).any fun b => decide (vget s.win.branch b &&& ~~~(vget s.win.mask b) ≠ 0)

/-! ### The window as the host reads and writes it (R7, R343, R344, R362) -/

/-- A halfword of the window, read (R343); a read of halfword 0 of a slot is also MIRROR_SNAPSHOT. -/
def hostRead (a : Nat) (s : State) : Nat :=
  if !winAnswers s then 0
  else if a = 0x400 then 0x4664
  else if a = 0x401 then fuseCode s
  else if a = 0x403 then s.win.state
  else if !winLive s then 0
  else if a < 0x200 then
    if a % 4 = 0 then (vget s.win.image (a / 4)).1.toNat % 65536
    else (vget s.win.shadow (a / 4)).toNat / 2 ^ (16 * (a % 4 - 1)) % 65536
  else if a = 0x200 then treeSummary s
  else if a < 0x210 then (vget s.win.branch (a - 0x201)).toNat
  else if 0x211 ≤ a ∧ a ≤ 0x220 then (vget s.win.mask (a - 0x211)).toNat
  else if 0x221 ≤ a ∧ a < 0x228 then vget s.win.details (a - 0x220)
  else if a = 0x228 then vget s.win.details 0
  else if 0x300 ≤ a ∧ a < 0x380 then cellRead s (a - 0x300)
  else if a = 0x380 then lbStatus s
  else if a = 0x381 then 256 - s.win.txFifo.length
  else if 0x382 ≤ a ∧ a < 0x400 then rxChar s (2 * (a - 0x382)) + 256 * rxChar s (2 * (a - 0x382) + 1)
  else if a = 0x402 then 1
  else if a = 0x404 then bitN s.win.frozen.isSome + 2 * bitN s.win.stale
  else if a = 0x405 then s.win.snapSeq
  else if a = 0x406 then s.win.snapSlot
  else 0

/-- A halfword of the window, written (R343, R344). -/
def hostWrite (a : Nat) (v : BitVec 16) (s : State) : State :=
  let s := hostStir s
  if a = 0x404 then (if v = 1 then freezeOn s else if v = 0 then freezeOff s else s)
  else if !winLive s then s
  else if 0x201 ≤ a ∧ a < 0x210 then leafClear (a - 0x201) v s
  else if 0x211 ≤ a ∧ a ≤ 0x220 then setWin (fun w => { w with mask := vset w.mask (a - 0x211) v }) s
  else if 0x300 ≤ a ∧ a < 0x380 then cellWritten (a - 0x300) v s
  else if a = 0x380 then
    let s := lbClear v s
    if v.getLsbD 8 then rxRelease s else s
  else if a = 0x381 then txChars (txOf v) s
  else s

end Sys2Proof.Machine
end

