-- ==== Sys2Proof/Machine/Reply.lean ====
section
/-! DEFINITION. Carriers, sessions as parties, and the lines the device sends (R298, R307 to R311, R313, R317, R320, R321, R328). -/

namespace Sys2Proof.Machine

/-! ### Carriers (R298) -/

/-- Change Orune. -/
def setOru (f : Oru → Oru) (s : State) : State := { s with oru := f s.oru }

/-- A carrier, and a change to one. -/
def State.car (s : State) (c : Carrier) : CarSt := (s.oru.cars.find? fun q => decide (q.car = c)).getD { car := c }
def setCar (c : Carrier) (f : CarSt → CarSt) (s : State) : State :=
  if s.oru.cars.any fun q => decide (q.car = c) then
    setOru (fun o => { o with cars := o.cars.map fun q => if q.car = c then f q else q }) s
  else setOru (fun o => { o with cars := o.cars ++ [f { car := c }] }) s

/-- A mailbox, and a change to one. -/
def State.mbox (s : State) (p : Nat) : Mbox := vget s.oru.mbox p
def setMbox (p : Nat) (f : Mbox → Mbox) (s : State) : State := setOru (fun o => { o with mbox := vmod o.mbox p f }) s

/-- The carrier code (R298) and the source code and name of CONFLICT_BY (R367). -/
def carCode (c : Carrier) : Nat := match c with | .svc => 1 | .hst => 2 | .win => 3 | .chain _ _ => 4 | .core _ => 5
def carSrc (c : Carrier) : Nat := match c with | .svc => 1 | .hst => 2 | .win => 3 | .chain _ _ => 6 | .core _ => 5
def srcName (n : Nat) : Text := tx (["STEWARD", "SVC", "HST", "WIN", "CELL", "CORE", "CHAIN", "STEWARD"].getD n "")
def partyName (n : Nat) : Text :=
  if n = 0 then tx "ST" else if n = 7 then tx "WS" else if n = 8 then tx "BK" else 'P' :: decText n

/-- Orune lines must carry a suffix; lines are generated, so need a tag (R298, R300, R307). -/
def mustCheck (c : Carrier) : Bool := match c with | .hst => true | .win => true | _ => false
def generated (c : Carrier) : Bool := match c with | .svc => false | .chain _ o => decide (o ≠ 1) | _ => true

/-! ### Parties (R13 to R16, R313) -/

/-- The session of a carrier; a person's own on CORE is implicit (R319). -/
def sessOf (s : State) (c : Carrier) : Option Sess :=
  match c with | .core p => some { party := p } | _ => (s.car c).sess

/-- The party of a carrier's session; 0 where there is none. -/
def partyOf (s : State) (c : Carrier) : Nat := ((sessOf s c).map fun q => q.party).getD 0

/-- The rights of the P5 column of the vendor template without CARD, as a workshop session holds them on AN (R14). -/
def workshopRights : Nat := 0x1FFC6

/-- A party holds a right (R10, R14, R15). -/
def partyRight (s : State) (party bit : Nat) : Bool :=
  if party = 7 then decide (s.fuses.part = .an) && maskBit workshopRights bit else s.right party bit

/-- The rank of a party: a blank session stands below every person (R313). -/
def partyRank (s : State) (party : Nat) : Nat :=
  if party = 8 then 7 else if party = 7 then (if s.fuses.part = .an then 2 else 7) else s.rank party

/-- The names of the rights, in the order of their bits (R10). -/
def rightName (bit : Nat) : Text :=
  tx (["RECORD", "READ_RECORD", "SET_TIME", "FEED", "CAN", "CARD", "CHAIN", "SURVEY_ENROL", "STAGE", "ACTIVATE", "PAIR",
    "STOP_OTHER", "CHARTER", "LIFECYCLE", "RETIRE", "TAMPER_READ", "ENROL"].getD bit "")

/-! ### Mailboxes (R320, R321) -/

/-- Source 96 + p while a mailbox is not empty. -/
def mboxLevel (p : Nat) (s : State) : State := cicLevel (96 + p) (!(s.mbox p).mail.isEmpty) s

/-- Entries of a mailbox that count as replies. -/
def mailReplies (b : Mbox) : Nat := (b.mail.filter fun m => decide (m.kind ≠ 2)).length

/-- A line for a person's own CORE carrier: a final reply always finds room (R320). -/
def toMailbox (p : Nat) (final : Bool) (kind : Nat) (t : Text) (s : State) : State :=
  if !final ∧ 64 ≤ mailReplies (s.mbox p) then setMbox p (fun b => { b with lost := satInc b.lost 255 }) s
  else mboxLevel p (setMbox p (fun b => { b with mail := b.mail ++ [{ kind := kind, car := 5, sender := 0, ref := 0, text := t }] }) s)

/-! ### Sending (R304, R307, R310, R311) -/

/-- Characters leave on SVC or HST. -/
def emit (c : Carrier) (t : Text) (s : State) : State := setCar c (fun q => { q with out := q.out ++ t }) s
def crlf : Text := ['\r', '\n']

/-- A line leaves on a carrier; on SVC it goes around a line being typed (R304). -/
def sendLine (c : Carrier) (final : Bool) (kind : Nat) (t : Text) (s : State) : State :=
  match c with
  | .svc =>
    let typed := (s.car .svc).inp
    if typed.isEmpty then emit .svc (t ++ crlf) s else emit .svc (crlf ++ t ++ crlf ++ typed) s
  | .hst => emit .hst (t ++ crlf) s
  | .win => winSend final t s
  | .core p => toMailbox p final kind t s
  | .chain n o => sendOrune n (if final then 2 else 1) o n t s

/-- A line with its suffix where it carries one (R307). -/
def checked (c : Carrier) (sfx : Bool) (t : Text) : Text :=
  match c with
  | .hst => withCheck t
  | .win => withCheck t
  | .svc => if sfx then withCheck t else t
  | _ => t

/-- Mark and tag of a reply, behind the address it begins with (R310). -/
def replyHead (ln : Ln) (mark : Char) : Text :=
  (match ln.pos with | some n => if n = 0 then [] else '@' :: decText n ++ [' '] | none => []) ++
    mark :: (match ln.tag with | some t => decText t | none => [])

/-- Cut a text at spaces into parts of at most `room` characters (R311). -/
def cutText (room : Nat) (cur : Text) (acc : List Text) (ws : List Text) : List Text :=
  match ws with
  | [] => acc ++ [cur]
  | w :: r =>
    if cur.isEmpty then
      (if w.length ≤ room then cutText room w acc r else cutText room (w.drop room) (acc ++ [w.take room]) r)
    else if cur.length + 1 + w.length ≤ room then cutText room (cur ++ ' ' :: w) acc r
    else if w.length ≤ room then cutText room w (acc ++ [cur]) r
    else cutText room (w.drop room) (acc ++ [cur, w.take room]) r

/-- The words between the single spaces of a text. -/
def wordsOf (cur : Text) (t : Text) : List Text :=
  match t with
  | [] => [cur.reverse]
  | c :: r => if c = ' ' then cur.reverse :: wordsOf [] r else wordsOf (c :: cur) r

/-- One reply line. -/
def replyOne (ln : Ln) (final : Bool) (mark : Char) (t : Text) (s : State) : State :=
  let h := replyHead ln mark
  sendLine ln.car final 1 (checked ln.car ln.sfx (if t.isEmpty ∧ ln.tag.isSome then h else h ++ ' ' :: t)) s

/-- Send a reply of any length: parts that do not fit go ahead as progress lines (R311). -/
def replyText (ln : Ln) (final : Bool) (mark : Char) (t : Text) (s : State) : State :=
  let room := 250 - (replyHead ln mark).length - 1 - 3
  let parts := if t.length ≤ room then [t] else cutText room [] [] (wordsOf [] t)
  let s := forAll parts.dropLast (fun q u => replyOne ln false '~' q u) s
  replyOne ln final mark (parts.getLast?.getD []) s

/-- The line of a reply is outstanding. -/
def tagOpen (s : State) (ln : Ln) : Bool := (s.car ln.car).tags.any fun q => decide (q.tag = ln.tag) && decide (q.node = 0)

/-- A line is accepted: its tag is outstanding (R309). -/
def openTag (ln : Ln) (node : Nat) (s : State) : State :=
  setCar ln.car (fun q => { q with tags := q.tags ++ [{ tag := ln.tag, node := node, sfx := ln.sfx }] }) s

/-- A tag is free again; the answer to an INSTALL CHARTER discards the charter buffer (R332). -/
def closeTag (c : Carrier) (tag : Option Nat) (s : State) : State :=
  setCar c (fun q => { q with
    tags := q.tags.filter fun k => decide (k.tag ≠ tag)
    chBuf := if q.tags.any fun k => decide (k.tag = tag) && k.installs then [] else q.chBuf }) s

/-- The final reply of an accepted line; one that no longer waits for it gets none (R311, R320). -/
def finalReply (ln : Ln) (mark : Char) (t : Text) (s : State) : State :=
  if tagOpen s ln then replyText ln true mark t (closeTag ln.car ln.tag s) else s

/-- Done, and a part of a result. -/
def replyOk (ln : Ln) (t : Text) (s : State) : State := finalReply ln '+' t s
def replyPart (ln : Ln) (t : Text) (s : State) : State := if tagOpen s ln then replyText ln false '~' t s else s

/-- The names of the errors (R328). -/
def errName (n : Nat) : Text :=
  tx (match n with
    | 100 => "LINE_LONG" | 101 => "CHARSET" | 102 => "CHECK" | 103 => "SYNTAX" | 104 => "UNKNOWN" | 105 => "AMBIGUOUS"
    | 106 => "NOT_VALID" | 107 => "TAG_BUSY" | 108 => "TOO_MANY" | 200 => "NO_SESSION" | 201 => "NO_RIGHT" | 202 => "BAD_PROOF"
    | 300 => "NOT_FOUND" | 301 => "WRONG_STATE" | 302 => "INVALID" | 409 => "CONFLICT" | 410 => "SUPERSEDED"
    | 500 => "FLASH_FAIL" | 501 => "NO_SPACE" | 502 => "ROLLBACK" | 503 => "INCOMPATIBLE" | 504 => "CORRUPT"
    | 600 => "NO_ROUTE" | 601 => "CHAIN_FULL" | _ => "")

/-- An error with the fields that follow its name. -/
structure Err where
  code : Nat
  field : Text := []
  deriving DecidableEq, Repr, Inhabited

/-- An error as a reply's text. -/
def Err.text (e : Err) : Text :=
  let h := 'E' :: decText e.code ++ ' ' :: errName e.code
  if e.field.isEmpty then h else h ++ ' ' :: e.field

/-- Refused, or failed. A refusal for want of a right is entered in the event log (R13). -/
def replyErr (ln : Ln) (e : Err) (s : State) : State :=
  let s := if e.code = 201 then logEvent (carSrc ln.car) (partyOf s ln.car) "NO_RIGHT" [] s else s
  finalReply ln '-' e.text s

/-- An answer to a line that was not accepted (checks 1 to 4); on CORE it is the result of the call instead (R319). -/
def replyEarly (ln : Ln) (e : Err) (s : State) : State :=
  match ln.car with
  | .core _ => s
  | _ => replyOne ln true '-' e.text s

/-- An unsolicited line; none is known for a chain carrier (R445). -/
def unsolicited (c : Carrier) (t : Text) (s : State) : State :=
  match c with
  | .chain _ _ => s
  | .core p => toMailbox p false 3 (tx "! " ++ t) s
  | _ => sendLine c false 3 (checked c (s.car c).lastSfx (tx "! " ++ t)) s

/-! ### Sessions (R317, R366) -/

/-- A session is open. -/
def sessionOpen (c : Carrier) (q : Sess) (s : State) : State :=
  logEvent (carSrc c) q.party "ORUNE.SESSION_OPEN" [w32 (carCode c)]
    (setLeaf 12 0 (setCar c (fun k => { k with sess := some q, fails := 0, chal := none }) s))

end Sys2Proof.Machine
end

