-- ==== Sys2Proof/Machine/Answer.lean ====
section
/-! DEFINITION. Where the outcome of any order goes (R327): a line, a steward call, a cell, OUT_STAT. -/

namespace Sys2Proof.Machine

/-- The result of a call that the steward has taken up: kept until it lands; STW_CALL shows it (R321). -/
def callResult (c p svc : Nat) (arg : Word) (code : Nat) (s : State) : State :=
  let hit := fun q : SCallRec => q.taken && q.result.isNone && decide (q.svc = svc) && decide (q.arg = arg)
  let put := fun (l : List SCallRec) =>
    match l.findIdx? hit with
    | some i => l.mapIdx fun j q => if j = i then { q with result := some code } else q
    | none => l
  let s := setMbox p (fun b => { b with svc := svc, res := code, calls := b.calls + 1 }) s
  mirrorTrail c p (setCtx c p (fun x => { x with calls := put x.calls }) s)

/-- The code a cell shows for an error (R354). -/
def cellCode (e : Nat) : Nat := if e = 201 then 1 else if e = 302 ∨ e = 300 then 3 else if e = 409 then 4 else 2

/-- An order is done: the text a line gets, 0 for a call, DONE for a cell and for OUT_STAT. -/
def answerOk (to_ : ReplyTo) (t : Text) (s : State) : State :=
  match to_ with
  | .line ln => replyOk ln t s
  | .call c p svc arg => callResult c p svc arg 0 s
  | .cell n => cellResult n 3 0 0 s
  | .out n => setFeed n (fun f => { f with result := 1 }) s

/-- An order is refused or fails. -/
def answerErr (to_ : ReplyTo) (e : Err) (s : State) : State :=
  match to_ with
  | .line ln => replyErr ln e s
  | .call c p svc arg => callResult c p svc arg e.code (if e.code = 201 then logEvent 5 p "NO_RIGHT" [w32 svc] s else s)
  | .cell n =>
    let c := s.cell n
    let s := if e.code = 201 then logEvent 4 (cellOwner s n) "NO_RIGHT" [w32 n] s else s
    cellResult n 4 (cellCode e.code) (if c.bind = .person then c.val else 0) s
  | .out n =>
    let party := (vget s.cus.frame (0xB1 + n)).toNat
    setFeed n (fun f => { f with result := if e.code = 409 then 2 else 3 })
      (if e.code = 201 then logEvent 5 party "NO_RIGHT" [w32 n] s else s)

/-- The answer to a step that either was refused or was made. -/
def answer (to_ : ReplyTo) (e : Option Err) (t : Text) (s : State) : State :=
  match e with
  | some e => answerErr to_ e s
  | none => answerOk to_ t s

end Sys2Proof.Machine
end

