-- ==== Sys2Proof/Machine/Charter.lean ====
section
/-! DEFINITION. The charter: its bytes (R17), its checks (R5, R8, R12, R16, R18), replacement (R19). -/

namespace Sys2Proof.Machine

/-- The length of a charter, and where its signatures stand (R17). -/
def charterLen : Nat := 792
def charterSigned : Nat := 600

/-- A person row from its 64 bytes (R17). -/
def rowOf (b : Bytes) : Row :=
  { present := leAt b 0 1, rank := leAt b 1 1, placement := leAt b 2 1, modes := leAt b 3 1, rights := leAt b 4 4,
    pageQuota := leAt b 8 2, bankQuota := leAt b 10 1, mirFirst := leAt b 11 1, mirCount := leAt b 12 1,
    moverMask := leAt b 13 2, irqMap := leAt b 15 32, cellMask := leAt b 47 16, reserved := leAt b 63 1 }

/-- A charter from its bytes (R17). -/
def charterOf (b : Bytes) : Charter :=
  { flags := leAt b 6 2, sv := leAt b 8 2, deviceId := slice b 12 32,
    feedOwner := Vector.ofFn fun i : Fin 8 => leAt b (44 + i.val) 1, feedSafe := leAt b 52 1,
    ephKey := slice b 56 97, wrap := slice b 156 60,
    rows := Vector.ofFn fun i : Fin 7 => if i.val = 0 then {} else rowOf (slice b (216 + 64 * (i.val - 1)) 64),
    raw := b }

/-- The rows of the present persons, with their numbers. -/
def Charter.people (c : Charter) : List (Nat × Row) :=
  ((List.range 7).map fun p => (p, vget c.rows p)).filter fun q => decide (q.2.present = 1)

/-- Check 3 of R18. -/
def charterSigs (s : State) (c : Charter) : Bool :=
  let msg := c.raw.take charterSigned
  sigOk384 vendorKey msg (slice c.raw 600 96) &&
    (decide (c.flags % 2 = 0) || match s.fuses.custKey with | some k => sigOk384 k msg (slice c.raw 696 96) | none => false)

/-- Check 6 of R18: R8, R12, R16, and R5 on CG-4664-AN. -/
def charterPersons (part : Part) (c : Charter) : Bool :=
  let ps := c.people
  let n := ps.length
  decide ((vget c.rows 1).present = 1) &&
    !([12, 13, 14, 16].any fun b => maskBit (vget c.rows 4).rights b) &&
    !([2, 3, 4, 5, 6].any fun p => maskBit (vget c.rows p).rights 0) &&
    ((List.range n).all fun r => decide ((ps.filter fun q => decide (q.2.rank = r + 1)).length = 1)) &&
    (decide (part = .ah) || [4, 5, 6].all fun p => decide ((vget c.rows p).present ≠ 1) && decide ((vget c.rows p).rights = 0))

/-- Check 7 of R18. -/
def charterPlaces (part : Part) (c : Charter) : Bool :=
  c.people.all fun q =>
    (decide (part = .ah) || decide (q.2.placement % 16 / 4 = 0)) &&
    (!q.2.witness || decide (q.2.placement % 4 = 3) || decide (q.2.placement / 4 % 4 = 3))

/-- No two entries share a bit. -/
def disjointMasks (l : List Nat) : Bool :=
  match l with
  | [] => true
  | m :: r => r.all (fun k => decide (m &&& k = 0)) && disjointMasks r

/-- The slots a row names, as a mask. -/
def mirrorMask (r : Row) : Nat := (2 ^ r.mirCount - 1) * 2 ^ r.mirFirst

/-- Check 8 of R18. Mirror ranges, IRQ_MAP, MOVER_MASK, CELL_MASK and the quotas are judged over the present persons: that the rows of
absent persons do not count is the model's choice (DESIGN CHOICE, log 72). -/
def charterShares (part : Part) (c : Charter) : Bool :=
  let rs := c.people.map fun q => q.2
  decide ((rs.map fun r => r.pageQuota).sum ≤ 1024) &&
    decide ((rs.map fun r => r.bankQuota).sum ≤ if part = .an then 16 else 32) &&
    rs.all (fun r => decide (r.mirCount = 0) || (decide (8 ≤ r.mirFirst) && decide (r.mirFirst + r.mirCount ≤ 128))) &&
    disjointMasks (rs.map mirrorMask) && disjointMasks (rs.map fun r => r.irqMap) &&
    disjointMasks (rs.map fun r => r.moverMask) && disjointMasks (rs.map fun r => r.cellMask) &&
    c.feedOwner.toList.all fun p => decide (p = 0) || c.people.any fun q => decide (q.1 = p)

/-- Check 9 of R18: reserved bytes and bits, reserved values, and the fields no other check looks at. That bits 7:4 of PLACEMENT,
which the row table does not name, must be 0 is the model's choice (DESIGN CHOICE, log 72). -/
def charterReserved (c : Charter) : Bool :=
  let b := c.raw
  decide (slice b 0 4 = textBytes "CHRT".toList) && decide (leAt b 4 2 = 1) && decide (c.flags < 2) && decide (c.sv ≤ 1022) &&
    decide (leAt b 10 2 = 0) && decide (leAt b 53 3 = 0) && decide (leAt b 153 3 = 0) &&
    (decide (c.flags = 1) || (slice b 696 96).all fun x => x == 0) &&
    [1, 2, 3, 4, 5, 6].all fun p =>
      let r := vget c.rows p
      decide (r.present ≤ 1) && decide (r.placement < 16) && decide (r.modes < 32) && decide (r.rsMode ≠ 3) &&
        decide (r.rights < 2 ^ 17) && decide (r.pageQuota ≤ 1024) && decide (r.bankQuota ≤ 32) &&
        decide (r.irqMap % 2 = 0) && decide (r.reserved = 0)

/-- The names of the lifecycle states (R22). -/
def lifeName (n : Nat) : Text :=
  tx (["FACTORY", "BLANK", "ENROLLED", "IN_SERVICE", "OUT_OF_SERVICE", "RETIRED"].getD n "")

/-- Checks 2 to 9 of R18 (check 1 is the right). -/
def charterCheck (s : State) (raw : Bytes) : Option Err :=
  let c := charterOf raw
  let inForce : Bool := match s.stw.charter with | some k => decide (c.sv ≤ k.sv) | none => false
  if !([1, 2, 4].contains s.life) then some { code := 301, field := lifeName s.life }
  else if raw.length ≠ charterLen then some { code := 302 }
  else if !charterSigs s c then some { code := 202 }
  else if c.deviceId ≠ deviceId then some { code := 202 }
  else if c.sv < s.counter 1 ∨ inForce then some { code := 502 }
  else if !charterPersons s.fuses.part c then some { code := 302 }
  else if !charterPlaces s.fuses.part c then some { code := 302 }
  else if !charterShares s.fuses.part c then some { code := 302 }
  else if !charterReserved c then some { code := 302 }
  else none

/-- The charter in a slot of FB1. -/
def charterAt (s : State) (slot : Nat) : Option Charter :=
  let raw := s.flashRead 1 (slot * sectorBytes) charterLen
  if flashBad s 1 (slot * sectorBytes) charterLen then none
  else if slice raw 0 4 = textBytes "CHRT".toList then some (charterOf raw) else none

/-- The charter in force is loaded at a start; a pending replacement is checked and takes force (R19, R53): counter 1 follows its
CHARTER_SV, and a person absent in it loses its key slots (R412). -/
def charterTake (s : State) : State :=
  let s := flashSeen 1 (s.stw.chSlot * sectorBytes) charterLen { s with stw := { s.stw with charter := charterAt s s.stw.chSlot } }
  if !s.stw.chPending then s
  else
    let n := 1 - s.stw.chSlot
    let s := flashSeen 1 (n * sectorBytes) charterLen { s with stw := { s.stw with chPending := false } }
    match charterAt s n with
    | none => s
    | some c =>
      if (charterCheck s c.raw).isSome then logEvent 7 0 "CHARTER.REFUSED" [] s
      else
        let top := fun v => Nat.max v (Nat.min c.sv 1023)
        let s := { s with stw := { s.stw with charter := some c, chSlot := n },
                          fuses := { s.fuses with counters := vmod s.fuses.counters 1 top } }
        let keep := Vector.ofFn fun i : Fin 7 =>
          let q := vget s.seals.p i.val
          if s.present i.val then q else { q with slot := Vector.replicate 4 {} }
        { s with seals := { s.seals with p := keep } }

end Sys2Proof.Machine
end

