-- ==== Sys2Proof/Machine/Bundle.lean ====
section
/-! DEFINITION. Bundles and images: layout (R275, R276, R279, R290), decryption (R277), the checks of R283, R284 and R286, the copy
of a part (R290), results (R292, R295, R296). -/

namespace Sys2Proof.Machine

/-! ### Images (R279, R290) -/

/-- The first byte of a person's region of FB0, and of the image behind its header unit (R290). -/
def regionBase (p : Nat) : Nat := if p = 0 then 0 else (4 + 20 * (p - 1)) * sectorBytes
def imageAt (p : Nat) : Nat := regionBase p + 16

/-- The image in force of a target. -/
def State.img (s : State) (t : Nat) : Option Img := vget s.bun.img t

/-- What the header of an image says (R279). -/
structure ImgHead where
  code : Nat
  data : Nat
  entry : Nat
  testEntry : Nat
  deriving DecidableEq, Repr

/-- Read an image header (R279); none where a field fails. -/
def headOf (p sv len : Nat) (h : Bytes) : Option ImgHead :=
  let code := leAt h 8 4
  let data := leAt h 12 4
  let budget := leAt h 24 4
  if slice h 0 4 = textBytes (tx "DZIM") ∧ leAt h 4 1 = p ∧ leAt h 5 1 = 0 ∧ leAt h 6 2 = sv ∧ code % 4 = 0 ∧ 4 ≤ code ∧
      code ≤ 131072 ∧ data % 4 = 0 ∧ data ≤ 28672 ∧ leAt h 16 4 < code ∧ leAt h 20 4 < code ∧ 1 ≤ budget ∧
      budget ≤ 8000000 ∧ (slice h 28 36).all (fun b => b == 0) ∧ len = 64 + code + data then
    some { code := code, data := data, entry := leAt h 16 4, testEntry := leAt h 20 4 }
  else none

/-- The image of a person in FB0, as far as its header goes; none that cannot be read whole (R255). -/
def imageHead (s : State) (p : Nat) : Option ImgHead :=
  match s.img p with
  | none => none
  | some i => if flashBad s 0 (imageAt p) i.len then none else headOf p i.sv i.len (s.flashRead 0 (imageAt p) 64)

/-- The image verifies against the hash in its region header (R54). -/
def imageHashOk (s : State) (p : Nat) : Bool :=
  match s.img p with
  | none => false
  | some i => !flashBad s 0 (imageAt p) i.len && decide (sha256 (s.flashRead 0 (imageAt p) i.len) = i.hash)

/-! ### Bundle layout (R275) -/

/-- One entry of a manifest. -/
structure Part1 where
  target : Nat
  sv : Nat
  display : Nat
  offset : Nat
  len : Nat
  nonce : Bytes
  tag : Bytes
  hash : Bytes
  provides : List Nat
  requires : List Nat
  raw : Bytes
  deriving DecidableEq, Repr

/-- The four interface words at a place. -/
def wordsAt (b : Bytes) (i : Nat) : List Nat := (List.range 4).map fun k => leAt b (i + 4 * k) 4

/-- A manifest entry from its 112 bytes. -/
def partOf (b : Bytes) : Part1 :=
  { target := leAt b 0 1, sv := leAt b 2 2, display := leAt b 4 4, offset := leAt b 8 4, len := leAt b 12 4,
    nonce := slice b 16 12, tag := slice b 28 16, hash := slice b 44 32, provides := wordsAt b 76, requires := wordsAt b 92, raw := b }

/-- The first byte of the staging area in FB1 (R280), and staged bytes: the steward reads them once what it is writing stands there. -/
def stageBase : Nat := 3 * sectorBytes
def staged (s : State) (i n : Nat) : Bytes := s.flashView 1 (stageBase + i) n

/-- The largest bundle (R280). -/
def stageMax : Nat := 2048000

/-- Fields of the staged bundle's header. -/
def bundleCount (s : State) : Nat := leNat (staged s 149 1)
def bundleMode (s : State) : Nat := leNat (staged s 148 1)
def bundleFlags (s : State) : Nat := leNat (staged s 6 2)
def manifestEnd (n : Nat) : Nat := 152 + 112 * n

/-- The parts of the staged bundle, in the order patch, then persons by rank (R290). -/
def stagedParts (s : State) : List Part1 :=
  let l := (List.range (Nat.min 7 (bundleCount s))).map fun i => partOf (staged s (152 + 112 * i) 112)
  let rankOf := fun (q : Part1) => if q.target = 0 then 0 else (s.row q.target).rank
  (List.range 8).flatMap fun r => l.filter fun q => decide (rankOf q = r)

/-- The targets of the staged bundle. -/
def stagedTargets (s : State) : List Nat := (stagedParts s).map fun q => q.target

/-! ### The checks of R283 -/

/-- An interface word is well formed (R276). -/
def wordOk (w : Nat) : Bool := decide (w % 65536 ≠ 0) || decide (w = 0)

/-- A part's fields are well formed (R275, R276, R279). -/
def partFields (total n : Nat) (q : Part1) : Bool :=
  decide (q.target ≤ 6) && decide (leAt q.raw 1 1 = 0) && decide (leAt q.raw 108 4 = 0) && decide (q.sv ≤ 1022) &&
    decide (q.offset % 16 = 0) && decide (manifestEnd n + 192 ≤ q.offset) && decide (q.offset + q.len ≤ total) &&
    (q.provides ++ q.requires).all wordOk &&
    (decide (q.target = 0) || q.provides.all fun w => decide (w % 65536 < 0xFF00)) &&
    if q.target = 0 then decide (q.len ≤ 65536) else decide (q.len ≤ 64 + 131072 + 28672)

/-- No two ciphertexts overlap. -/
def partsApart (l : List Part1) : Bool :=
  match l with
  | [] => true
  | q :: r => r.all (fun z => decide (q.offset + q.len ≤ z.offset) || decide (z.offset + z.len ≤ q.offset)) && partsApart r

/-- Check 1. -/
def checkForm (s : State) : Bool :=
  let n := bundleCount s
  let m := bundleMode s
  let total := s.bun.written
  decide (staged s 0 4 = textBytes "DZB1".toList) && decide (leNat (staged s 4 2) = 1) && decide (bundleFlags s < 2) &&
    decide (leNat (staged s 12 4) = total) && decide (s.bun.total = total) && decide (leNat (staged s 145 3) = 0) &&
    decide (leNat (staged s 150 2) = 0) && (decide (m = 1) || decide (m = 2)) && decide (1 ≤ n) &&
    decide (n ≤ if m = 1 then 7 else 1) && decide (manifestEnd n + 192 ≤ total) &&
    (stagedParts s).length == n && (stagedParts s).all (partFields total n) && partsApart (stagedParts s)

/-- Check 2 (R275, R283). -/
def checkSigs (s : State) : Bool :=
  let e := manifestEnd (bundleCount s)
  let msg := staged s 0 e
  let need : Bool := match s.stw.charter with | some c => decide (c.flags % 2 = 1) | none => false
  let co := staged s (e + 96) 96
  sigOk384 vendorKey msg (staged s e 96) &&
    if bundleFlags s = 1 then (match s.fuses.custKey with | some k => sigOk384 k msg co | none => false)
    else !need && co.all fun b => b == 0

/-- Check 4. -/
def checkTargets (s : State) : Bool :=
  let ts := stagedTargets s
  decide (ts.Nodup) && (decide (bundleMode s = 1) || !ts.contains 0) &&
    ts.all fun t => decide (t = 0) || (s.present t && (decide (s.fuses.part = .ah) || decide (t ≤ 3)))

/-- A party holds a right for every person target under R11: its own part, or one of lower rank; in BLANK any session passes (R282). -/
def holdsFor (s : State) (party : Nat) (ts : List Nat) : Bool :=
  decide (party = 8) || decide (s.life = 1) ||
    ts.all fun t => decide (t = 0) || decide (t = party) || decide (partyRank s party < (s.row t).rank)

/-- Check 5 (R283): the stager holds STAGE, now, for every person target. -/
def checkStager (s : State) : Bool :=
  (decide (s.bun.stager = 8) || decide (s.life = 1) || partyRight s s.bun.stager 8) && holdsFor s s.bun.stager (stagedTargets s)

/-- The plaintext of a part (R277): none where its tag or its hash fails. -/
def partPlain (s : State) (q : Part1) : Option Bytes :=
  match transportKey s (staged s 48 97) "DZB transport" with
  | none => none
  | some k =>
    if flashBad s 1 (stageBase + q.offset) q.len then none else
    let aad := q.raw.take 28 ++ List.replicate 16 0 ++ q.raw.drop 44
    match gcmDec k q.nonce aad (staged s q.offset q.len) q.tag with
    | none => none
    | some pt => if sha256 pt = q.hash then some pt else none

/-- Check 7 of one part: plaintext, and an image header as R279 has it. -/
def partSound (s : State) (q : Part1) : Bool :=
  match partPlain s q with
  | none => false
  | some pt => decide (q.target = 0) || (headOf q.target q.sv q.len (pt.take 64)).isSome

/-- The checks of R283 in order, for the stager: the first failure, with the target it is about. -/
def bundleCheck (s : State) : Option (Err × Option Nat) :=
  if !checkForm s then some ({ code := 302 }, none)
  else if !checkSigs s then some ({ code := 202 }, none)
  else if staged s 16 32 ≠ deviceId then some ({ code := 202 }, none)
  else if !checkTargets s then some ({ code := 302 }, none)
  else if !checkStager s then some ({ code := 201, field := rightName 8 }, none)
  else match (stagedParts s).find? fun q => decide (q.sv < s.counter (2 + q.target)) with
    | some q => some ({ code := 502, field := decText q.target }, some q.target)
    | none => match (stagedParts s).find? fun q => !partSound s q with
      | some q => some ({ code := 504, field := decText q.target }, some q.target)
      | none => none

/-! ### Compatibility (R286) -/

/-- A PROVIDES word meets a REQUIRES word. -/
def meets (w r : Nat) : Bool :=
  decide (w % 65536 = r % 65536) && decide (w / 65536 % 256 = r / 65536 % 256) && decide (r / 2 ^ 24 ≤ w / 2 ^ 24)

/-- The future set of an activation as (target, PROVIDES, REQUIRES): its parts, the images in force of the other present persons
that are not DEAD, the patch. -/
def futureSet (s : State) (ps : List Part1) : List (Nat × List Nat × List Nat) :=
  let own := ps.map fun q => (q.target, q.provides, q.requires)
  let rest := (List.range 7).filterMap fun t =>
    if ps.any (fun q => decide (q.target = t)) then none
    else if t ≠ 0 ∧ (!s.present t ∨ (s.person t).run = .dead) then none
    else if t = 0 ∧ s.bun.patch.isNone then none
    else match s.img t with | some i => some (t, i.provides, i.requires) | none => none
  own ++ rest

/-- A REQUIRES word is met by another member, or by the ROM, whose interfaces the spec does not list. -/
def requireMet (set : List (Nat × List Nat × List Nat)) (t r : Nat) : Bool :=
  decide (r % 65536 = 0) || set.any (fun m => decide (m.1 ≠ t) && m.2.1.any fun w => meets w r) ||
    (decide (0xFF00 ≤ r % 65536) && Config.romMeets r)

/-- The first REQUIRES word that an activation leaves unmet. -/
def unmet (s : State) (ps : List Part1) : Option Nat :=
  let set := futureSet s ps
  set.findSome? fun m => m.2.2.find? fun r => !requireMet set m.1 r

/-! ### The steward's sequences on FB0 and FB1 (R253, R254, R280) -/

/-- The steward runs steps on FB0 or FB1, one command at a time, those of FB1 first; within a start, whose step they belong to, they end
with it (assumption 90). -/
def fbRun (b : Nat) (steps : List FlashStep) (s : State) : State :=
  if s.isl.power = .starting then
    forAll steps (fun st t => match st with | .op o => flashEffect b o t | _ => t) s
  else
    let s := bankKick 4 1 (setBank b (fun k => { k with plan := k.plan ++ steps }) s)
    if (s.bank 1).busy.isNone && (s.bank 1).plan.isEmpty then bankKick 4 0 s else s

/-- The programs of some bytes from a place on, the last unit filled up with 0xFF. -/
def unitSteps (a : Nat) (bs : Bytes) : List FlashStep :=
  (List.range ((bs.length + 15) / 16)).map fun i =>
    let d := slice bs (16 * i) 16
    .op (.program (a + 16 * i) (d ++ List.replicate (16 - d.length) 0xFF))

/-- An entry of the directory as its 16 bytes: the spec names the entries, not their bytes (assumption 122). -/
def entryUnit (e : DirEnt) : Bytes :=
  let w := fun (k t c n : Nat) (h : Bytes) => leBytes 1 k ++ leBytes 1 t ++ leBytes 1 c ++ leBytes 1 0 ++ leBytes 4 n ++ padTo 8 (h.take 8)
  match e with
  | .open_ len p => w 1 p 0 len []
  | .closed h => w 2 0 0 0 h
  | .activate all => w 3 0 (bitN all) 0 []
  | .copyBegin t => w 4 t 0 0 []
  | .copyEnd t => w 5 t 0 0 []
  | .result t c => w 6 t c 0 []
  | .discard => w 7 0 0 0 []

/-- Where the directory stands in FB1. -/
def dirBase : Nat := 2 * sectorBytes

/-- An entry goes into the directory (R280); OPEN begins it anew. -/
def dirAdd (e : DirEnt) (s : State) : State :=
  let fresh := match e with | .open_ _ _ => true | _ => false
  let d := if fresh then [] else s.bun.dir
  let steps := (if fresh then [FlashStep.op (.erase 2)] else []) ++ [.op (.program (dirBase + 16 * d.length) (entryUnit e))]
  let s := { s with bun := { s.bun with dir := d ++ [e], dirDone := if fresh then 0 else s.bun.dirDone } }
  if s.isl.power = .starting then fbRun 1 steps { s with bun := { s.bun with dirDone := s.bun.dir.length } }
  else fbRun 1 (steps ++ [.mark]) { s with oru := { s.oru with flash := s.oru.flash ++ [.entry] } }

/-! ### Results and copies (R290, R292, R295, R296) -/

/-- A result of a part: mirror slot 6, event log, record, leaf. -/
def noteResult (t code : Nat) (s : State) : State :=
  let m := s.bun.fresh
  let s := { s with bun := { s.bun with result := vset s.bun.result t code, fresh := if maskBit m t then m else m + 2 ^ t } }
  let leaf := if code = 1 then 1 else if code = 2 ∨ code = 3 then 3 else 2
  let s := setLeafD 4 leaf [(6, s.bun.fresh)] (logEvent 7 0 "UPDATE.RESULT" [w32 t, w32 code] s)
  pubSlot 6 (recordMake 4 (textBytes "UPDATE".toList ++ [BitVec.ofNat 8 t, BitVec.ofNat 8 code]) s)

/-- A result that the directory receives too. -/
def partResult (t code : Nat) (s : State) : State :=
  noteResult t code (dirAdd (.result t code) s)

/-- Change the staging state. -/
def setStage (st : Staging) (s : State) : State := pubSlot 6 { s with bun := { s.bun with st := st, progress := 0 } }

/-- An activation has ended: the bundle stays staged as DONE (R292). -/
def setBunDone (s : State) : State := setStage .done s

/-- The result code of a part that may not be copied (R284, R286); none where it may. -/
def refusedCode (s : State) (ps : List Part1) (q : Part1) : Option Nat :=
  if q.sv < s.counter (2 + q.target) then some 4
  else if (unmet s ps).isSome then some 5
  else none

/-- Sectors that n bytes of an image behind its header unit occupy. -/
def imageSectors (n : Nat) : Nat := (16 + n + sectorBytes - 1) / sectorBytes

/-- What the region header of a part holds (R290), with its interfaces. -/
def imgOf (q : Part1) : Img :=
  { len := q.len, sv := q.sv, display := q.display, hash := q.hash, provides := q.provides, requires := q.requires }

/-- The region header in unit 0: LENGTH, SV, DISPLAY and as much of IMAGE_HASH as the unit has room for (assumption 122). -/
def regionUnit (q : Part1) : Bytes := leBytes 4 q.len ++ leBytes 2 q.sv ++ leBytes 4 q.display ++ padTo 6 (q.hash.take 6)

/-- Steps 2 and 3 of a copy (R290): the sectors of the old and the new image erased, the plaintext from unit 1 on. -/
def copySteps (s : State) (q : Part1) : List FlashStep :=
  let old := match s.img q.target with | some i => i.len | none => 0
  let first := regionBase q.target / sectorBytes
  (List.range (imageSectors (Nat.max old q.len))).map (fun i => .op (.erase (first + i))) ++
    match partPlain s q with | some pt => unitSteps (imageAt q.target) pt | none => []

/-- The image in force of a target. -/
def setImg (t : Nat) (i : Option Img) (s : State) : State := { s with bun := { s.bun with img := vset s.bun.img t i } }

/-- The copy reads back as it should (R290 steps 3 and 4). -/
def copySound (s : State) (q : Part1) : Bool :=
  (partPlain s q).isSome && !flashBad s 0 (imageAt q.target) q.len && decide (sha256 (s.flashRead 0 (imageAt q.target) q.len) = q.hash)

/-- A copy within step 8 of a start (R290), and whether it succeeds: the old image is gone either way (R292). -/
def copyPart (q : Part1) (fail : Bool) (s : State) : Bool × State :=
  let steps := copySteps s q
  let s := fbRun 0 steps (setImg q.target none (dirAdd (.copyBegin q.target) s))
  let s := { s with bun := { s.bun with progress := 100 } }
  if fail || !copySound s q then (false, s)
  else
    (true, setImg q.target (some (imgOf q)) (dirAdd (.copyEnd q.target) (fbRun 0 (unitSteps (regionBase q.target) (regionUnit q)) s)))

/-- A ONE copy outside a start begins (R290): the person waits, nothing of it runs. -/
def copyBegin (q : Part1) (s : State) : State :=
  let steps := copySteps s q
  let s := { s with bun := { s.bun with copying := some { target := q.target, total := steps.length } } }
  fbRun 0 (steps ++ [.mark]) (setImg q.target none (dirAdd (.copyBegin q.target) s))

end Sys2Proof.Machine
end

