-- ==== Sys2Proof/Decode.lean ====
section
/-! DEFINITION. The syllable decoder and encoder of the sentence machine (R60, R64 to R66, R96 and the opcode tables of 04 and 05), and decodeTableWord, which reads no command because spec/opcode_table.json gives no row any bits. -/

namespace Sys2Proof

/-! ### The host's table decoder -/

/-- spec/opcode_table.json gives none of its rows bits, so no word spells a command. -/
def decodeTableWord (_nbits _w : Nat) : Option Instr := none

/-! ### Opcode tables -/

/-- The opcodes of the L units (R101). -/
def lOpcode (c : Nat) : Option (Op × LMode) :=
  match c with
  | 0x00 => some (.ldB, .off) | 0x01 => some (.ldBu, .off) | 0x02 => some (.ldH, .off)
  | 0x03 => some (.ldHu, .off) | 0x04 => some (.ldW, .off) | 0x05 => some (.ldWp, .off)
  | 0x06 => some (.addx, .off) | 0x07 => some (.addxr, .off)
  | 0x08 => some (.ldB, .post) | 0x09 => some (.ldBu, .post) | 0x0A => some (.ldH, .post)
  | 0x0B => some (.ldHu, .post) | 0x0C => some (.ldW, .post) | 0x0D => some (.ldWp, .post)
  | 0x0E => some (.movx, .off) | 0x0F => some (.mfx, .off)
  | 0x10 => some (.ldB, .pre) | 0x11 => some (.ldBu, .pre) | 0x12 => some (.ldH, .pre)
  | 0x13 => some (.ldHu, .pre) | 0x14 => some (.ldW, .pre) | 0x15 => some (.ldWp, .pre)
  | 0x16 => some (.ldbrH, .brev) | 0x17 => some (.ldbrW, .brev)
  | 0x18 => some (.ldB, .idx) | 0x19 => some (.ldBu, .idx) | 0x1A => some (.ldH, .idx)
  | 0x1B => some (.ldHu, .idx) | 0x1C => some (.ldW, .idx) | 0x1D => some (.ldWp, .idx)
  | 0x1E => some (.ldbrWp, .brev) | 0x1F => some (.stWp, .idx)
  | 0x20 => some (.ldDB, .off) | 0x21 => some (.ldDBu, .off) | 0x22 => some (.ldDH, .off)
  | 0x23 => some (.ldDHu, .off) | 0x24 => some (.ldDW, .off) | 0x25 => some (.ldDWp, .off)
  | 0x26 => some (.stbrH, .brev) | 0x27 => some (.stbrW, .brev)
  | 0x28 => some (.ldDB, .idx) | 0x29 => some (.ldDBu, .idx) | 0x2A => some (.ldDH, .idx)
  | 0x2B => some (.ldDHu, .idx) | 0x2C => some (.ldDW, .idx) | 0x2D => some (.ldDWp, .idx)
  | 0x2E => some (.stbrWp, .brev)
  | 0x30 => some (.stB, .off) | 0x31 => some (.stH, .off) | 0x32 => some (.stW, .off)
  | 0x33 => some (.stWp, .off)
  | 0x34 => some (.stB, .post) | 0x35 => some (.stH, .post) | 0x36 => some (.stW, .post)
  | 0x37 => some (.stWp, .post)
  | 0x38 => some (.stB, .pre) | 0x39 => some (.stH, .pre) | 0x3A => some (.stW, .pre)
  | 0x3B => some (.stWp, .pre)
  | 0x3C => some (.stB, .idx) | 0x3D => some (.stH, .idx) | 0x3E => some (.stW, .idx)
  | _ => none

/-- The opcodes of the A units (R106); the Bool says immediate form. -/
def aOpcode (c : Nat) : Option (Op × Bool) :=
  match c with
  | 0x00 => some (.nop, false) | 0x01 => some (.add, false) | 0x02 => some (.sub, false)
  | 0x03 => some (.adds, false) | 0x04 => some (.subs, false) | 0x05 => some (.andOp, false)
  | 0x06 => some (.orOp, false) | 0x07 => some (.xorOp, false) | 0x08 => some (.andn, false)
  | 0x09 => some (.shl, false) | 0x0A => some (.shr, false) | 0x0B => some (.sra, false)
  | 0x0C => some (.ror, false) | 0x0D => some (.min, false) | 0x0E => some (.max, false)
  | 0x0F => some (.minu, false) | 0x10 => some (.maxu, false) | 0x11 => some (.abs, false)
  | 0x12 => some (.neg, false) | 0x14 => some (.cmpeq, false) | 0x15 => some (.cmpne, false)
  | 0x16 => some (.cmplt, false) | 0x17 => some (.cmple, false) | 0x18 => some (.cmpltu, false)
  | 0x19 => some (.cmpleu, false) | 0x1A => some (.cmpgt, false) | 0x1B => some (.cmpge, false)
  | 0x1C => some (.pand, false) | 0x1D => some (.por, false) | 0x1E => some (.pandn, false)
  | 0x1F => some (.pnot, false)
  | 0x20 => some (.movi, true) | 0x21 => some (.add, true) | 0x22 => some (.sub, true)
  | 0x23 => some (.adds, true) | 0x25 => some (.andOp, true) | 0x26 => some (.orOp, true)
  | 0x27 => some (.xorOp, true) | 0x29 => some (.shl, true) | 0x2A => some (.shr, true)
  | 0x2B => some (.sra, true) | 0x2C => some (.ror, true) | 0x2D => some (.min, true)
  | 0x2E => some (.max, true) | 0x34 => some (.cmpeq, true) | 0x35 => some (.cmpne, true)
  | 0x36 => some (.cmplt, true) | 0x37 => some (.cmple, true) | 0x38 => some (.cmpltu, true)
  | 0x39 => some (.cmpleu, true) | 0x3A => some (.cmpgt, true) | 0x3B => some (.cmpge, true)
  | _ => none

/-- The polynomial selected by the pp bits of a cyclic-check opcode (R110). -/
def crcPoly (pp : Nat) : CrcPoly :=
  match pp with
  | 0 => .p8 | 1 => .p16 | 2 => .p32 | _ => .p32c

/-- The opcodes of the C unit (R110); the Bool says immediate form. -/
def cOpcode (c : Nat) : Option (Op × Bool) :=
  match c with
  | 0x20 => some (.par, false) | 0x21 => some (.parp, false) | 0x22 => some (.brev, false)
  | 0x23 => some (.brevb, false) | 0x24 => some (.bswap, false) | 0x25 => some (.clz, false)
  | 0x26 => some (.ctz, false) | 0x27 => some (.popc, false) | 0x28 => some (.extu, false)
  | 0x29 => some (.exts, false) | 0x2A => some (.ins, false) | 0x2B => some (.btst, false)
  | 0x2C => some (.btsti, true) | 0x2D => some (.bseti, true) | 0x2E => some (.bclri, true)
  | 0x2F => some (.tstp, false) | 0x30 => some (.clmull, false) | 0x31 => some (.clmulh, false)
  | _ =>
    if c < 0x20 ∧ c % 4 ≠ 3 then
      some (.crc (crcPoly (c / 8)) (c / 4 % 2 = 1) (BitVec.ofNat 2 (c % 4)), false)
    else none

/-- The opcodes of the B unit (R113); the Bool says immediate form. -/
def bOpcode (c : Nat) : Option (Op × Bool) :=
  match c with
  | 0x00 => some (.br, true) | 0x01 => some (.brr, false) | 0x02 => some (.call, true)
  | 0x03 => some (.callr, false) | 0x04 => some (.ret, false) | 0x05 => some (.reti, false)
  | 0x06 => some (.loop, true) | 0x07 => some (.lpop, false) | 0x08 => some (.wait, false)
  | 0x09 => some (.fenceSl, false) | 0x0A => some (.publish, false) | 0x0B => some (.mfc, false)
  | 0x0C => some (.mtc, false) | 0x0D => some (.scall, true) | 0x0E => some (.claim, false)
  | 0x0F => some (.give, false) | 0x10 => some (.free, false)
  | _ => none

/-- The opcodes of the M units (R122); the Bool says immediate form. Whether a unit holds one is `m1Only`. -/
def mOpcode (c : Nat) : Option (Op × Bool) :=
  match c with
  | 0x01 => some (.mul, false) | 0x02 => some (.mulh, false) | 0x03 => some (.mulhu, false)
  | 0x04 => some (.muli, true) | 0x05 => some (.mulq31, false) | 0x06 => some (.mul2hq, false)
  | 0x08 => some (.mac, false) | 0x09 => some (.macu, false) | 0x0A => some (.msu, false)
  | 0x0B => some (.macs, false) | 0x0C => some (.mac2h, false) | 0x0D => some (.mac2hq, false)
  | 0x0E => some (.msu2h, false)
  | 0x10 => some (.clr, false) | 0x11 => some (.accw, false) | 0x12 => some (.accp, false)
  | 0x13 => some (.extr, false) | 0x14 => some (.extl, false) | 0x15 => some (.exth, false)
  | 0x16 => some (.extg, false)
  | 0x18 => some (.divs, false) | 0x19 => some (.divu, false) | 0x1A => some (.rems, false)
  | 0x1B => some (.remu, false) | 0x1C => some (.divps, false) | 0x1D => some (.divpu, false)
  | 0x20 => some (.faddS, false) | 0x21 => some (.fsubS, false) | 0x22 => some (.fmulS, false)
  | 0x23 => some (.fmaS, false) | 0x24 => some (.fmsS, false) | 0x25 => some (.fnmaS, false)
  | 0x26 => some (.fdivS, false) | 0x27 => some (.fsqrtS, false) | 0x28 => some (.fminS, false)
  | 0x29 => some (.fmaxS, false)
  | 0x2A => some (.fcmpeqS, false) | 0x2B => some (.fcmpltS, false) | 0x2C => some (.fcmpleS, false)
  | 0x2D => some (.fcmpunS, false)
  | 0x2E => some (.fcvtSW, false) | 0x2F => some (.fcvtSWu, false) | 0x30 => some (.fcvtWS, false)
  | 0x31 => some (.fcvtWuS, false) | 0x32 => some (.frintS, false) | 0x33 => some (.fabsS, false)
  | 0x34 => some (.fnegS, false) | 0x36 => some (.fcvtDS, false) | 0x37 => some (.fcvtSD, false)
  | 0x38 => some (.faddD, false) | 0x39 => some (.fsubD, false) | 0x3A => some (.fmulD, false)
  | 0x3B => some (.fmaD, false) | 0x3C => some (.fdivD, false) | 0x3D => some (.fsqrtD, false)
  | 0x3E => some (.fbar, false)
  | _ => none

/-- The syllables only M1 has (R122). -/
def m1Only (o : Op) : Bool :=
  match o with
  | .divs | .divu | .rems | .remu | .divps | .divpu | .fdivS | .fsqrtS | .fdivD | .fsqrtD => true
  | _ => false

/-! ### Field classes (R60, R96) -/

/-- What the destination field names; the data field of a store names a source, and INS and the fused forms also read theirs. -/
def dClass (o : Op) : FClass :=
  match o with
  | .ldB | .ldBu | .ldH | .ldHu | .ldW | .ldbrH | .ldbrW => .wreg
  | .ldDB | .ldDBu | .ldDH | .ldDHu | .ldDW => .wreg
  | .ldWp | .ldbrWp | .ldDWp => .pairs
  | .stB | .stH | .stW | .stbrH | .stbrW => .wreg
  | .stWp | .stbrWp => .pairs
  | .addx | .addxr | .movx => .xreg
  | .mfx => .wreg
  | .nop => .unused
  | .movi | .add | .sub | .adds | .subs | .andOp | .orOp | .xorOp | .andn => .wreg
  | .shl | .shr | .sra | .ror | .min | .max | .minu | .maxu | .abs | .neg => .wreg
  | .cmpeq | .cmpne | .cmplt | .cmple | .cmpltu | .cmpleu | .cmpgt | .cmpge => .preg
  | .pand | .por | .pandn | .pnot => .preg
  | .crc _ _ _ | .par | .brev | .brevb | .bswap | .clz | .ctz | .popc => .wreg
  | .parp | .btst | .btsti | .tstp => .preg
  | .extu | .exts | .ins | .bseti | .bclri | .clmull | .clmulh => .wreg
  | .br | .brr | .call | .callr | .ret | .reti | .loop | .lpop | .wait | .fenceSl | .publish => .unused
  | .mfc => .wreg
  | .mtc => .ctrl
  | .scall | .claim | .give | .free => .wreg
  | .mul | .mulh | .mulhu | .muli | .mulq31 | .mul2hq => .wreg
  | .mac | .macu | .msu | .macs | .mac2h | .mac2hq | .msu2h | .clr | .accw | .accp => .accu
  | .extr | .extl | .exth | .extg => .wreg
  | .divs | .divu | .rems | .remu => .wreg
  | .divps | .divpu => .pairs
  | .faddS | .fsubS | .fmulS | .fmaS | .fmsS | .fnmaS | .fdivS | .fsqrtS | .fminS | .fmaxS => .wreg
  | .fcmpeqS | .fcmpltS | .fcmpleS | .fcmpunS => .preg
  | .fcvtSW | .fcvtSWu | .fcvtWS | .fcvtWuS | .frintS | .fabsS | .fnegS => .wreg
  | .fcvtDS => .pairs
  | .fcvtSD => .wreg
  | .faddD | .fsubD | .fmulD | .fmaD | .fdivD | .fsqrtD => .pairs
  | .fbar => .unused

/-- What the source 1 field names. -/
def s1Class (o : Op) : FClass :=
  match o with
  | .ldB | .ldBu | .ldH | .ldHu | .ldW | .ldWp | .ldbrH | .ldbrW | .ldbrWp => .xreg
  | .ldDB | .ldDBu | .ldDH | .ldDHu | .ldDW | .ldDWp => .xreg
  | .stB | .stH | .stW | .stWp | .stbrH | .stbrW | .stbrWp => .xreg
  | .addx | .addxr | .mfx => .xreg
  | .movx => .wreg
  | .nop | .movi => .unused
  | .add | .sub | .adds | .subs | .andOp | .orOp | .xorOp | .andn => .wreg
  | .shl | .shr | .sra | .ror | .min | .max | .minu | .maxu | .abs | .neg => .wreg
  | .cmpeq | .cmpne | .cmplt | .cmple | .cmpltu | .cmpleu | .cmpgt | .cmpge => .wreg
  | .pand | .por | .pandn | .pnot => .preg
  | .crc _ _ _ | .par | .parp | .brev | .brevb | .bswap | .clz | .ctz | .popc => .wreg
  | .extu | .exts | .ins | .btst | .btsti | .bseti | .bclri | .tstp | .clmull | .clmulh => .wreg
  | .br | .call | .ret | .reti | .lpop | .wait | .fenceSl => .unused
  | .brr | .callr | .loop => .wreg
  | .publish => .pairs
  | .mfc => .ctrl
  | .mtc | .scall | .claim | .give | .free => .wreg
  | .mul | .mulh | .mulhu | .muli | .mulq31 | .mul2hq => .wreg
  | .mac | .macu | .msu | .macs | .mac2h | .mac2hq | .msu2h | .accw => .wreg
  | .clr => .unused
  | .accp => .pairs
  | .extr | .extl | .exth | .extg => .accu
  | .divs | .divu | .rems | .remu | .divps | .divpu => .wreg
  | .faddS | .fsubS | .fmulS | .fmaS | .fmsS | .fnmaS | .fdivS | .fsqrtS | .fminS | .fmaxS => .wreg
  | .fcmpeqS | .fcmpltS | .fcmpleS | .fcmpunS => .wreg
  | .fcvtSW | .fcvtSWu | .fcvtWS | .fcvtWuS | .frintS | .fabsS | .fnegS | .fcvtDS => .wreg
  | .fcvtSD => .pairs
  | .faddD | .fsubD | .fmulD | .fmaD | .fdivD | .fsqrtD => .pairs
  | .fbar => .unused

/-- What the source 2 field names where it is a register field. -/
def s2Class (o : Op) : FClass :=
  match o with
  | .ldB | .ldBu | .ldH | .ldHu | .ldW | .ldWp | .ldDB | .ldDBu | .ldDH | .ldDHu | .ldDW | .ldDWp => .wreg
  | .stB | .stH | .stW | .stWp | .addxr => .wreg
  | .ldbrH | .ldbrW | .ldbrWp | .stbrH | .stbrW | .stbrWp | .addx | .movx | .mfx => .unused
  | .nop | .movi | .abs | .neg => .unused
  | .add | .sub | .adds | .subs | .andOp | .orOp | .xorOp | .andn => .wreg
  | .shl | .shr | .sra | .ror | .min | .max | .minu | .maxu => .wreg
  | .cmpeq | .cmpne | .cmplt | .cmple | .cmpltu | .cmpleu | .cmpgt | .cmpge => .wreg
  | .pand | .por | .pandn => .preg
  | .pnot => .unused
  | .crc _ _ _ | .extu | .exts | .ins | .btst | .clmull | .clmulh => .wreg
  | .par | .parp | .brev | .brevb | .bswap | .clz | .ctz | .popc | .btsti | .bseti | .bclri | .tstp => .unused
  | .br | .brr | .call | .callr | .ret | .reti | .loop | .lpop | .wait | .fenceSl => .unused
  | .publish | .give => .wreg
  | .mfc | .mtc | .scall | .claim | .free => .unused
  | .mul | .mulh | .mulhu | .mulq31 | .mul2hq => .wreg
  | .muli => .unused
  | .mac | .macu | .msu | .macs | .mac2h | .mac2hq | .msu2h => .wreg
  | .clr | .accw | .accp | .extr | .extl | .exth | .extg => .unused
  | .divs | .divu | .rems | .remu | .divps | .divpu => .wreg
  | .faddS | .fsubS | .fmulS | .fmaS | .fmsS | .fnmaS | .fdivS | .fminS | .fmaxS => .wreg
  | .fcmpeqS | .fcmpltS | .fcmpleS | .fcmpunS => .wreg
  | .fsqrtS | .fcvtSW | .fcvtSWu | .fcvtWS | .fcvtWuS | .frintS | .fabsS | .fnegS | .fcvtDS | .fcvtSD => .unused
  | .faddD | .fsubD | .fmulD | .fmaD | .fdivD => .pairs
  | .fsqrtD | .fbar => .unused

/-- The listed control registers (R62). -/
def ctlListed (n : Nat) : Bool :=
  n ≤ 0x24 || (0x28 ≤ n && n ≤ 0x37) || (0x3C ≤ n && n ≤ 0x3F)

/-- A register field lies inside R60. -/
def fieldOk (k : FClass) (f : BitVec 6) : Bool :=
  match k with
  | .unused | .wreg | .pairs => true
  | .xreg => f.toNat ≤ 16
  | .preg | .accu => f.toNat ≤ 7
  | .ctrl => ctlListed f.toNat

/-! ### Immediates (R66) -/

/-- The syllables whose immediate is zero-extended when there is no extension (R106, R110, R113). -/
def zeroExt (o : Op) : Bool :=
  match o with
  | .andOp | .orOp | .xorOp | .shl | .shr | .sra | .ror | .cmpltu | .cmpleu => true
  | .btsti | .bseti | .bclri | .scall | .extr => true
  | _ => false

/-- The 32-bit value of an immediate; none for widening mode 0b11 (R66). -/
def immValue (zext : Bool) (i : Imm) : Option Word :=
  match i with
  | .short raw => some (if zext then raw.setWidth 32 else raw.signExtend 32)
  | .ext raw hi =>
    let v : BitVec 26 := hi ++ raw.extractLsb' 0 4
    match (raw.extractLsb' 4 2).toNat with
    | 0 => some (v.signExtend 32)
    | 1 => some (v.setWidth 32)
    | 2 => some (v ++ (0 : BitVec 6))
    | _ => none

/-! ### One syllable -/

/-- What an opcode of a unit stands for: the operation, its L mode and whether source 2 is an immediate form (R64, R101, R106, R110, R113, R122). -/
def opcodeOf (u : FUnit) (c : Nat) : Option (Op × LMode × Bool) :=
  match u with
  | .l0 | .l1 =>
    match lOpcode c with
    | some (o, m) =>
      let plain : Bool := match o with | .addxr | .movx | .mfx => true | _ => false
      some (o, m, !plain && decide (m ≠ .idx))
    | none => none
  | .m0 =>
    match mOpcode c with
    | some (o, f) => if m1Only o then none else some (o, .off, f)
    | none => none
  | .m1 => match mOpcode c with | some (o, f) => some (o, .off, f) | none => none
  | .a0 | .a1 => match aOpcode c with | some (o, f) => some (o, .off, f) | none => none
  | .c => match cOpcode c with | some (o, f) => some (o, .off, f) | none => none
  | .b => match bOpcode c with | some (o, f) => some (o, .off, f) | none => none

/-- The unit with a given code (R64). -/
def unitOf (n : Nat) : FUnit :=
  match n with
  | 0 => .l0 | 1 => .l1 | 2 => .m0 | 3 => .m1 | 4 => .a0 | 5 => .a1 | 6 => .c | _ => .b

/-- The code of a unit (R64). -/
def unitCode (u : FUnit) : BitVec 3 :=
  match u with
  | .l0 => 0 | .l1 => 1 | .m0 => 2 | .m1 => 3 | .a0 => 4 | .a1 => 5 | .c => 6 | .b => 7

/-- Bits of a syllable word (R64). -/
def wUnit (w : Word) : FUnit := unitOf (w.extractLsb' 28 3).toNat
def wOpcode (w : Word) : Nat := (w.extractLsb' 22 6).toNat
def wIsExt (w : Word) : Bool := w.extractLsb' 22 6 == 0x3F
def wFullStop (w : Word) : Bool := w.getLsbD 31

/-- Source 2 of a host word, with the extension word that follows it if there is one. -/
def src2Of (o : Op) (imm : Bool) (w : Word) (ext : Option Word) : Src2 :=
  let raw := w.extractLsb' 4 6
  if imm then
    match ext with
    | none => .imm (.short raw)
    | some e => .imm (.ext raw (e.extractLsb' 0 22))
  else if o = .extr then .imm (.short raw)
  else .reg raw

/-- Decode one host syllable with its extension; none for a reserved opcode. -/
def decodeSyl (w : Word) (ext : Option Word) : Option Syl :=
  match opcodeOf (wUnit w) (wOpcode w) with
  | none => none
  | some (o, m, imm) =>
    some { unit := wUnit w, op := o, mode := m, d := w.extractLsb' 16 6, s1 := w.extractLsb' 10 6,
           s2 := src2Of o imm w ext, guard := { p := w.extractLsb' 1 3, inv := w.getLsbD 0 } }

/-- A cyclic-check step names 8, 16 or 32 data bits (R110). -/
def crcOk (o : Op) : Bool := match o with | .crc _ _ ww => ww != 3 | _ => true

/-- The syllable breaks no rule by itself: field ranges (R60), the widening mode (R66), a LOOP body that is not negative (R88). -/
def sylOk (y : Syl) : Bool :=
  crcOk y.op && fieldOk (dClass y.op) y.d && fieldOk (s1Class y.op) y.s1 &&
  (match y.s2 with
   | .reg r => fieldOk (s2Class y.op) r
   | .imm i =>
     match immValue (zeroExt y.op) i with
     | none => false
     | some v => !(decide (y.op = .loop) && v.getLsbD 31))

/-! ### Destinations (R65, R96) -/

/-- The registers of one class a field names. -/
def regsOf (k : FClass) (f : BitVec 6) : List Reg :=
  match k with
  | .unused => []
  | .wreg => [.w f]
  | .pairs => [.w (f &&& 0x3E), .w (f ||| 1)]
  | .xreg => [.x f]
  | .preg => [.p f]
  | .accu => [.acc f]
  | .ctrl => [.ctl f]

/-- A store: its data field is a source (R96). -/
def isStore (o : Op) : Bool :=
  match o with
  | .stB | .stH | .stW | .stWp | .stbrH | .stbrW | .stbrWp => true
  | _ => false

/-- The loads, dismissible ones included. -/
def isLoad (o : Op) : Bool :=
  match o with
  | .ldB | .ldBu | .ldH | .ldHu | .ldW | .ldWp | .ldbrH | .ldbrW | .ldbrWp => true
  | .ldDB | .ldDBu | .ldDH | .ldDHu | .ldDW | .ldDWp => true
  | _ => false

/-- The dismissible loads (R74). -/
def isDismissible (o : Op) : Bool :=
  match o with
  | .ldDB | .ldDBu | .ldDH | .ldDHu | .ldDW | .ldDWp => true
  | _ => false

/-- The address register a load or store updates (R98). -/
def updatesX (y : Syl) : List Reg :=
  if isLoad y.op || isStore y.op then
    match y.mode with
    | .post | .pre | .brev => [.x y.s1]
    | .off | .idx => []
  else []

/-- Every register a syllable writes (R96). -/
def destsOf (y : Syl) : List Reg :=
  (if isStore y.op then [] else regsOf (dClass y.op) y.d) ++ updatesX y

/-- Every register a syllable reads in a source field (R96, R112, R132). A destination field that is read as the third operand (INS,
the FMA forms) counts as one, so that POISON_USE covers it (R77): DESIGN CHOICE (assumption 108). -/
def sourcesOf (y : Syl) : List Reg :=
  regsOf (s1Class y.op) y.s1 ++
  (match y.s2 with
   | .reg r => if s2Class y.op = .unused then [] else regsOf (s2Class y.op) r
   | .imm _ => []) ++
  (if isStore y.op then regsOf (dClass y.op) y.d else []) ++
  (match y.op with
   | .ins | .fmaS | .fmsS | .fnmaS | .fmaD => regsOf (dClass y.op) y.d
   | .mac | .macu | .msu | .macs | .mac2h | .mac2hq | .msu2h => regsOf .accu y.d
   | _ => [])

/-- The flow syllables of R84 (R113). -/
def isFlow (o : Op) : Bool :=
  match o with
  | .br | .brr | .call | .callr | .ret | .reti | .loop => true
  | _ => false

/-! ### A sentence (R64, R65) -/

/-- A sentence as it was cut: its length in syllable words, its syllables with their word index, and the word index of the syllable an ILLEGAL fault would name, if it breaks a rule at decode. -/
structure Sentence where
  len : Nat
  syls : List (Nat × Syl)
  bad : Option Nat
  deriving DecidableEq, Repr

/-- A host word may carry an extension: it decodes and has an immediate form (R65). -/
def takesExt (w : Word) : Bool :=
  !wIsExt w &&
  match opcodeOf (wUnit w) (wOpcode w) with
  | some (_, _, imm) => imm
  | none => false

/-- An extension word stands directly behind a host of its unit that has an immediate form (R65). -/
def extPlaced (prev : Option Word) (w : Word) : Bool :=
  match prev with
  | some h => takesExt h && decide (wUnit h = wUnit w)
  | none => false

/-- Decode the words of a sentence one after the other: index, word before, words. A misplaced extension and a reserved opcode are reported by index. -/
def decodeWords (i : Nat) (prev : Option Word) (ws : List Word) : List (Nat × Syl) × List Nat :=
  match ws with
  | [] => ([], [])
  | w :: rest =>
    let (ys, bad) := decodeWords (i + 1) (some w) rest
    if wIsExt w then
      (ys, if extPlaced prev w then bad else i :: bad)
    else
      let ext := match rest with
        | e :: _ => if wIsExt e && extPlaced (some w) e then some e else none
        | [] => none
      match decodeSyl w ext with
      | none => (ys, i :: bad)
      | some y => ((i, y) :: ys, if sylOk y then bad else i :: bad)

/-- The syllables that name a unit or a destination an earlier syllable of the sentence named (R65): the later of the two. -/
def clashes (seenU : List FUnit) (seenD : List Reg) (ys : List (Nat × Syl)) : List Nat :=
  match ys with
  | [] => []
  | (i, y) :: rest =>
    let bad := clashes (y.unit :: seenU) (destsOf y ++ seenD) rest
    if seenU.contains y.unit || (destsOf y).any seenD.contains then i :: bad else bad

/-- The syllables whose reserved opcode hides their operation still name a unit (R65). -/
def unitClashes (i : Nat) (seen : List FUnit) (ws : List Word) : List Nat :=
  match ws with
  | [] => []
  | w :: rest =>
    if wIsExt w then unitClashes (i + 1) seen rest
    else
      let bad := unitClashes (i + 1) (wUnit w :: seen) rest
      if seen.contains (wUnit w) then i :: bad else bad

/-- The least of some indexes. -/
def leastOf (l : List Nat) : Option Nat :=
  match l with
  | [] => none
  | a :: rest => match leastOf rest with | none => some a | some b => some (if a ≤ b then a else b)

/-- Cut and check a sentence from its words (R64, R65); `closed` says the last word has full-stop 1. -/
def decodeSentence (ws : List Word) (closed : Bool) : Sentence :=
  let (ys, bad) := decodeWords 0 none ws
  let all := bad ++ clashes [] [] ys ++ unitClashes 0 [] ws ++ (if closed then [] else [7])
  { len := ws.length, syls := ys, bad := leastOf all }

/-- The sentence of one syllable. -/
def oneSyllable (y : Syl) : Sentence :=
  { len := (match y.s2 with | .imm (.ext _ _) => 2 | _ => 1),
    syls := [(0, y)],
    bad := if sylOk y && (y.unit = .m1 || !m1Only y.op) && (destsOf y).Nodup then none else some 0 }

/-! ### Encoder -/

/-- The opcode of an L syllable in a mode (R101). -/
def lCode (o : Op) (m : LMode) : Option Nat :=
  (List.range 64).find? fun c => lOpcode c = some (o, m)

/-- The opcode of a syllable outside the L units, in register or immediate form. -/
def xCode (tab : Nat → Option (Op × Bool)) (o : Op) (imm : Bool) : Option Nat :=
  (List.range 64).find? fun c => tab c = some (o, imm)

/-- Source 2 is an immediate form (EXTR's shift count is a field of its own, R122). -/
def immForm (y : Syl) : Bool :=
  match y.s2 with
  | .imm _ => decide (y.op ≠ .extr)
  | .reg _ => false

/-- The opcode of a syllable. -/
def codeOf (y : Syl) : Option Nat :=
  match y.unit with
  | .l0 | .l1 => lCode y.op y.mode
  | .m0 | .m1 => xCode mOpcode y.op (immForm y)
  | .a0 | .a1 => xCode aOpcode y.op (immForm y)
  | .c => xCode cOpcode y.op (immForm y)
  | .b => xCode bOpcode y.op (immForm y)

/-- The 6 bits of the source 2 field. -/
def s2Bits (y : Syl) : BitVec 6 :=
  match y.s2 with
  | .reg r => r
  | .imm (.short raw) => raw
  | .imm (.ext raw _) => raw

/-- The host word of a syllable with a given opcode (R64). -/
def hostWord (stop : Bool) (c : Nat) (y : Syl) : Word :=
  (BitVec.ofBool stop ++ unitCode y.unit ++ BitVec.ofNat 6 c ++ y.d ++ y.s1 ++ s2Bits y ++
    y.guard.p ++ BitVec.ofBool y.guard.inv).cast (by decide)

/-- The extension word behind a host (R64). -/
def extWord (stop : Bool) (u : FUnit) (hi : BitVec 22) : Word :=
  (BitVec.ofBool stop ++ unitCode u ++ (0x3F : BitVec 6) ++ hi).cast (by decide)

/-- The words of a one-syllable sentence, the last with full-stop 1; none where no opcode stands for it. -/
def encodeSyl (y : Syl) : Option (List Word) :=
  match codeOf y with
  | none => none
  | some c =>
    match y.s2 with
    | .imm (.ext _ hi) => some [hostWord false c y, extWord true y.unit hi]
    | _ => some [hostWord true c y]

end Sys2Proof
end

