-- ==== Sys2Proof/Machine/Flags.lean ====
section
/-! DEFINITION. The FLAGS register (03, FLAGS, R63): its bits, what a sticky update does, what MTC writes. -/

namespace Sys2Proof.Machine

/-- Sticky flags a syllable sets (03 FLAGS bits 0 to 2 and 8 to 12). -/
structure Sticky where
  ovf : Bool := false
  sat : Bool := false
  divz : Bool := false
  nv : Bool := false
  dz : Bool := false
  of_ : Bool := false
  uf : Bool := false
  nx : Bool := false
  deriving DecidableEq, Repr, Inhabited

/-- No flag. -/
def Sticky.none : Sticky := default

/-- The OR of two sets of sticky flags (R63). -/
def Sticky.or (a b : Sticky) : Sticky :=
  { ovf := a.ovf || b.ovf, sat := a.sat || b.sat, divz := a.divz || b.divz, nv := a.nv || b.nv,
    dz := a.dz || b.dz, of_ := a.of_ || b.of_, uf := a.uf || b.uf, nx := a.nx || b.nx }

/-- Trap-class exceptions: invalid and division by zero (R135). -/
def Sticky.trap (a : Sticky) : Bool := a.nv || a.dz

/-- The FLAGS bits of a set of sticky flags. -/
def Sticky.word (a : Sticky) : Word :=
  w32 (bitN a.ovf + 2 * bitN a.sat + 4 * bitN a.divz + 0x100 * bitN a.nv + 0x200 * bitN a.dz +
    0x400 * bitN a.of_ + 0x800 * bitN a.uf + 0x1000 * bitN a.nx)

/-- FLAGS after a sentence that sets some sticky flags (R63). -/
def flagsOr (f : Word) (a : Sticky) : Word := f ||| a.word

/-- What MTC to FLAGS writes: the reserved bits read 0 (03 FLAGS). -/
def flagsWrite (v : Word) : Word := v &&& 0x000F1F07

/-- The rounding modes of FLAGS.RM. -/
inductive Rm where
  | even | zero | up | down
  deriving DecidableEq, Repr

/-- FLAGS.RM (bits 17:16). -/
def flagsRm (f : Word) : Rm :=
  match bits f 17 16 with
  | 0 => .even
  | 1 => .zero
  | 2 => .up
  | _ => .down

/-- FLAGS.FTZ (bit 18). -/
def flagsFtz (f : Word) : Bool := f.getLsbD 18

/-- FLAGS.DIVZ_TRAP (bit 19). -/
def flagsDivzTrap (f : Word) : Bool := f.getLsbD 19

end Sys2Proof.Machine
end

