-- ==== Sys2Proof/Machine/Float.lean ====
section
/-! DEFINITION. The floating-point operations of 05 (R129 to R135): IEEE 754-2019 binary32 and binary64 computed on exact integers, rounded once. -/

namespace Sys2Proof.Machine

/-- A binary format: fraction bits and exponent bits. -/
structure Fmt where
  mb : Nat
  eb : Nat
  deriving DecidableEq, Repr

/-- binary32. -/
def f32 : Fmt := { mb := 23, eb := 8 }

/-- binary64. -/
def f64 : Fmt := { mb := 52, eb := 11 }

/-- The exponent bias. -/
def Fmt.bias (k : Fmt) : Int := 2 ^ (k.eb - 1) - 1

/-- The least exponent of a normal number. -/
def Fmt.emin (k : Fmt) : Int := 1 - k.bias

/-- A value read from its bits; a finite number is (-1)^neg × m × 2^e. -/
inductive FVal where
  | nan (neg quiet : Bool) (frac : Nat)
  | inf (neg : Bool)
  | fin (neg : Bool) (m : Nat) (e : Int)
  deriving DecidableEq, Repr

/-- Read the bits of a format; with FTZ a subnormal is a zero of its sign (R131). -/
def unpack (k : Fmt) (ftz : Bool) (v : Nat) : FVal :=
  let frac := v % 2 ^ k.mb
  let ex := v / 2 ^ k.mb % 2 ^ k.eb
  let neg := v / 2 ^ (k.mb + k.eb) % 2 = 1
  if ex = 2 ^ k.eb - 1 then
    if frac = 0 then .inf neg else .nan neg (frac / 2 ^ (k.mb - 1) % 2 = 1) frac
  else if ex = 0 then
    .fin neg (if ftz then 0 else frac) (k.emin - k.mb)
  else .fin neg (frac + 2 ^ k.mb) (Int.ofNat ex - k.bias - k.mb)

/-- Sign, exponent field and fraction put together. -/
def packBits (k : Fmt) (neg : Bool) (ex frac : Nat) : Nat :=
  bitN neg * 2 ^ (k.mb + k.eb) + ex * 2 ^ k.mb + frac

/-- A zero of a sign. -/
def fZero (k : Fmt) (neg : Bool) : Nat := packBits k neg 0 0

/-- An infinity of a sign. -/
def fInf (k : Fmt) (neg : Bool) : Nat := packBits k neg (2 ^ k.eb - 1) 0

/-- The NaN made from operands that are none (R134). -/
def fNaN (k : Fmt) : Nat := packBits k false (2 ^ k.eb - 1) (2 ^ (k.mb - 1))

/-- A quiet NaN that carries sign and fraction of an operand (R134). -/
def fQuiet (k : Fmt) (neg : Bool) (frac : Nat) : Nat :=
  packBits k neg (2 ^ k.eb - 1) (if frac / 2 ^ (k.mb - 1) % 2 = 1 then frac else frac + 2 ^ (k.mb - 1))

/-- The largest finite number of a sign. -/
def fMaxFin (k : Fmt) (neg : Bool) : Nat := packBits k neg (2 ^ k.eb - 2) (2 ^ k.mb - 1)

/-- Round m / 2^n to an integer under a mode (R130); the Bool says inexact. -/
def roundShift (rm : Rm) (neg : Bool) (m n : Nat) : Nat × Bool :=
  let q := m / 2 ^ n
  let r := m % 2 ^ n
  let up : Bool :=
    match rm with
    | .even => decide (2 * r > 2 ^ n) || (decide (2 * r = 2 ^ n) && decide (q % 2 = 1))
    | .zero => false
    | .up => !neg && decide (r ≠ 0)
    | .down => neg && decide (r ≠ 0)
  (if up then q + 1 else q, decide (r ≠ 0))

/-- Round m × 2^e to a multiple of 2^q. -/
def roundTo (rm : Rm) (neg : Bool) (m : Nat) (e q : Int) : Nat × Bool :=
  if q ≤ e then (m * 2 ^ (e - q).toNat, false) else roundShift rm neg m (q - e).toNat

/-- The overflow result of a sign under a mode. -/
def fOverflow (k : Fmt) (rm : Rm) (neg : Bool) : Nat :=
  match rm with
  | .even => fInf k neg
  | .zero => fMaxFin k neg
  | .up => if neg then fMaxFin k neg else fInf k neg
  | .down => if neg then fInf k neg else fMaxFin k neg

/-- Deliver an exact nonzero value (-1)^neg × m × 2^e in a format (R129 to R131): overflow, tininess after rounding, FTZ. -/
def deliver (k : Fmt) (rm : Rm) (ftz neg : Bool) (m : Nat) (e : Int) : Nat × Sticky :=
  if m = 0 then (fZero k neg, {}) else
  let top : Int := e + Int.ofNat (Nat.log2 m)
  -- rounded as if the exponent were unbounded: tininess and overflow are judged on this
  let (nu, _) := roundTo rm neg m e (top - k.mb)
  let topU : Int := if nu = 2 ^ (k.mb + 1) then top + 1 else top
  let tiny : Bool := decide (topU < k.emin)
  let q : Int := if top < k.emin then k.emin - k.mb else top - k.mb
  let (n, inex) := roundTo rm neg m e q
  if topU > k.bias then (fOverflow k rm neg, { of_ := true, nx := true })
  else if n < 2 ^ k.mb then
    -- a subnormal or zero result
    if ftz && decide (n ≠ 0) then (fZero k neg, { uf := true, nx := true })
    else (packBits k neg 0 n, { uf := tiny && inex, nx := inex })
  else
    let (n', q') := if n = 2 ^ (k.mb + 1) then (2 ^ k.mb, q + 1) else (n, q)
    (packBits k neg (q' + k.mb + k.bias).toNat (n' - 2 ^ k.mb), { uf := tiny && inex, nx := inex })

/-- A NaN result for operands of which one at least is a NaN: payload of the first, NV for a signalling one (R134). -/
def nanOf (k : Fmt) (ops : List FVal) : Option (Nat × Sticky) :=
  match ops.find? (fun v => match v with | .nan _ _ _ => true | _ => false) with
  | some (.nan neg _ frac) =>
    some (fQuiet k neg frac, { nv := ops.any fun v => match v with | .nan _ false _ => true | _ => false })
  | _ => none

/-- The invalid operation: default NaN and NV (R134). -/
def invalid (k : Fmt) : Nat × Sticky := (fNaN k, { nv := true })

/-- Change the sign of a value that is no NaN. -/
def fNegate (v : FVal) : FVal :=
  match v with
  | .nan n q f => .nan n q f
  | .inf n => .inf (!n)
  | .fin n m e => .fin (!n) m e

/-- The signed integer of a sign and magnitude. -/
def sgn (neg : Bool) (m : Nat) : Int := if neg then -(Int.ofNat m) else Int.ofNat m

/-- The exact sum of two finite values, delivered; an exact zero takes the sign of the mode (IEEE 754). -/
def addFin (k : Fmt) (rm : Rm) (ftz : Bool) (na : Bool) (ma : Nat) (ea : Int) (nb : Bool) (mb : Nat) (eb : Int) : Nat × Sticky :=
  let e := min ea eb
  let s : Int := sgn na (ma * 2 ^ (ea - e).toNat) + sgn nb (mb * 2 ^ (eb - e).toNat)
  if s = 0 then
    (fZero k (if ma = 0 ∧ mb = 0 ∧ na = nb then na else decide (rm = .down)), {})
  else deliver k rm ftz (decide (s < 0)) s.natAbs e

/-- Addition of values that are no NaN. -/
def addVals (k : Fmt) (rm : Rm) (ftz : Bool) (a b : FVal) : Nat × Sticky :=
  match a, b with
  | .inf n, .inf m => if n = m then (fInf k n, {}) else invalid k
  | .inf n, _ => (fInf k n, {})
  | _, .inf n => (fInf k n, {})
  | .fin na ma ea, .fin nb mb eb => addFin k rm ftz na ma ea nb mb eb
  | _, _ => invalid k

/-- FADD (R129, R134). -/
def fAdd (k : Fmt) (rm : Rm) (ftz : Bool) (a b : Nat) : Nat × Sticky :=
  let x := unpack k ftz a
  let y := unpack k ftz b
  match nanOf k [x, y] with
  | some r => r
  | none => addVals k rm ftz x y

/-- FSUB. -/
def fSub (k : Fmt) (rm : Rm) (ftz : Bool) (a b : Nat) : Nat × Sticky :=
  let x := unpack k ftz a
  let y := unpack k ftz b
  match nanOf k [x, y] with
  | some r => r
  | none => addVals k rm ftz x (fNegate y)

/-- FMUL. -/
def fMul (k : Fmt) (rm : Rm) (ftz : Bool) (a b : Nat) : Nat × Sticky :=
  let x := unpack k ftz a
  let y := unpack k ftz b
  match nanOf k [x, y] with
  | some r => r
  | none =>
    match x, y with
    | .inf n, .inf m => (fInf k (n != m), {})
    | .inf n, .fin m v _ => if v = 0 then invalid k else (fInf k (n != m), {})
    | .fin n v _, .inf m => if v = 0 then invalid k else (fInf k (n != m), {})
    | .fin na ma ea, .fin nb mb eb => deliver k rm ftz (na != nb) (ma * mb) (ea + eb)
    | _, _ => invalid k

/-- The fused forms (R132): (−1)^np × a × b + (−1)^nd × d, rounded once; 0 × ∞ raises NV even beside a quiet NaN in d (R134). -/
def fFma (k : Fmt) (rm : Rm) (ftz np nd : Bool) (a b d : Nat) : Nat × Sticky :=
  let x := unpack k ftz a
  let y := unpack k ftz b
  let z := unpack k ftz d
  let zi : Bool := match x, y with
    | .inf _, .fin _ v _ => decide (v = 0)
    | .fin _ v _, .inf _ => decide (v = 0)
    | _, _ => false
  match nanOf k [x, y, z] with
  | some (r, f) => (r, { f with nv := f.nv || zi })
  | none =>
    if zi then invalid k else
    let z' := if nd then fNegate z else z
    match x, y with
    | .fin na ma ea, .fin nb mb eb =>
      addVals k rm ftz (.fin ((na != nb) != np) (ma * mb) (ea + eb)) z'
    | .inf na, .fin nb _ _ => addVals k rm ftz (.inf ((na != nb) != np)) z'
    | .fin na _ _, .inf nb => addVals k rm ftz (.inf ((na != nb) != np)) z'
    | .inf na, .inf nb => addVals k rm ftz (.inf ((na != nb) != np)) z'
    | _, _ => invalid k

/-- FDIV: the quotient with guard bits and a sticky bit is exact enough to round once. -/
def fDiv (k : Fmt) (rm : Rm) (ftz : Bool) (a b : Nat) : Nat × Sticky :=
  let x := unpack k ftz a
  let y := unpack k ftz b
  match nanOf k [x, y] with
  | some r => r
  | none =>
    match x, y with
    | .inf _, .inf _ => invalid k
    | .inf n, .fin m _ _ => (fInf k (n != m), {})
    | .fin n _ _, .inf m => (fZero k (n != m), {})
    | .fin na ma ea, .fin nb mb eb =>
      if mb = 0 then
        if ma = 0 then invalid k else (fInf k (na != nb), { dz := true })
      else if ma = 0 then (fZero k (na != nb), {})
      else
        let sh := 2 * k.mb + 4
        let q := ma * 2 ^ sh / mb
        let r := ma * 2 ^ sh % mb
        deliver k rm ftz (na != nb) (2 * q + (if r = 0 then 0 else 1)) (ea - eb - Int.ofNat sh - 1)
    | _, _ => invalid k

/-- The integer square root of n by bits: the greatest r, built from bit i downwards, with r × r ≤ n. -/
def isqrtBits (i r n : Nat) : Nat :=
  match i with
  | 0 => r
  | j + 1 => if (r + 2 ^ j) * (r + 2 ^ j) ≤ n then isqrtBits j (r + 2 ^ j) n else isqrtBits j r n

/-- FSQRT. -/
def fSqrt (k : Fmt) (rm : Rm) (ftz : Bool) (a : Nat) : Nat × Sticky :=
  let x := unpack k ftz a
  match nanOf k [x] with
  | some r => r
  | none =>
    match x with
    | .inf n => if n then invalid k else (fInf k false, {})
    | .fin n m e =>
      if m = 0 then (fZero k n, {})
      else if n then invalid k
      else
        -- m × 2^e with an even exponent and enough bits
        let sh := 2 * k.mb + 4 + (if e % 2 = 0 then 0 else 1)
        let big := m * 2 ^ sh
        let r := isqrtBits (k.mb * 2 + 8) 0 big
        deliver k rm ftz false (2 * r + (if r * r = big then 0 else 1)) ((e - Int.ofNat sh) / 2 - 1)
    | _ => invalid k

/-- The order of two values that are no NaN: their exact difference compared with 0. -/
def fLess (a b : FVal) : Bool :=
  match a, b with
  | .inf n, .inf m => n && !m
  | .inf n, _ => n
  | _, .inf m => !m
  | .fin na ma ea, .fin nb mb eb =>
    let e := min ea eb
    decide (sgn na (ma * 2 ^ (ea - e).toNat) < sgn nb (mb * 2 ^ (eb - e).toNat))
  | _, _ => false

/-- Equality of two values that are no NaN. -/
def fSame (a b : FVal) : Bool :=
  match a, b with
  | .nan _ _ _, _ => false
  | _, .nan _ _ _ => false
  | _, _ => !fLess a b && !fLess b a

/-- A value is a NaN; a signalling one. -/
def isNan (v : FVal) : Bool := match v with | .nan _ _ _ => true | _ => false
def isSnan (v : FVal) : Bool := match v with | .nan _ false _ => true | _ => false

/-- The sign of a value. -/
def fNeg? (v : FVal) : Bool := match v with | .nan n _ _ => n | .inf n => n | .fin n _ _ => n

/-- The bits of a value already in the format, with FTZ applied to a subnormal (R131). -/
def refine (k : Fmt) (ftz : Bool) (v : Nat) : Nat :=
  match unpack k ftz v with
  | .fin n 0 _ => fZero k n
  | _ => v

/-- FMIN and FMAX (R133): −0 orders below +0. -/
def fMinMax (k : Fmt) (ftz big : Bool) (a b : Nat) : Nat × Sticky :=
  let x := unpack k ftz a
  let y := unpack k ftz b
  match nanOf k [x, y] with
  | some r => r
  | none =>
    let less := if fSame x y then fNeg? x && !fNeg? y else fLess x y
    (refine k ftz (if less != big then a else b), {})

/-- FCMPEQ, FCMPLT, FCMPLE, FCMPUN (R133): the predicate and NV. -/
def fCmpEq (k : Fmt) (ftz : Bool) (a b : Nat) : Bool × Sticky :=
  let x := unpack k ftz a
  let y := unpack k ftz b
  (fSame x y, { nv := isSnan x || isSnan y })

def fCmpUn (k : Fmt) (ftz : Bool) (a b : Nat) : Bool × Sticky :=
  let x := unpack k ftz a
  let y := unpack k ftz b
  (isNan x || isNan y, { nv := isSnan x || isSnan y })

def fCmpLt (k : Fmt) (ftz : Bool) (a b : Nat) : Bool × Sticky :=
  let x := unpack k ftz a
  let y := unpack k ftz b
  let n := isNan x || isNan y
  (!n && fLess x y, { nv := n })

def fCmpLe (k : Fmt) (ftz : Bool) (a b : Nat) : Bool × Sticky :=
  let x := unpack k ftz a
  let y := unpack k ftz b
  let n := isNan x || isNan y
  (!n && !fLess y x, { nv := n })

/-- FCVT.S.W and FCVT.S.WU: an integer rounded into binary32. -/
def fFromInt (k : Fmt) (rm : Rm) (v : Int) : Nat × Sticky :=
  if v = 0 then (fZero k false, {}) else deliver k rm false (decide (v < 0)) v.natAbs 0

/-- FCVT.W.S and FCVT.WU.S into the range lo to hi (R133). -/
def fToInt (k : Fmt) (rm : Rm) (ftz : Bool) (lo hi : Int) (a : Nat) : Int × Sticky :=
  match unpack k ftz a with
  | .nan _ _ _ => (hi, { nv := true })
  | .inf n => (if n then lo else hi, { nv := true })
  | .fin n m e =>
    let (r, inex) := roundTo rm n m e 0
    let v := sgn n r
    if v > hi then (hi, { nv := true })
    else if v < lo then (lo, { nv := true })
    else (v, { nx := inex })

/-- FRINT.S: to an integral value under RM, with inexact as for roundToIntegralExact (DEDUCED, log 15). -/
def fRint (k : Fmt) (rm : Rm) (ftz : Bool) (a : Nat) : Nat × Sticky :=
  let x := unpack k ftz a
  match nanOf k [x] with
  | some r => r
  | none =>
    match x with
    | .inf n => (fInf k n, {})
    | .fin n m e =>
      let (r, inex) := roundTo rm n m e 0
      if r = 0 then (fZero k n, { nx := inex })
      else ((deliver k rm ftz n r 0).1, { nx := inex })
    | _ => invalid k

/-- FCVT.D.S (R133): the fraction of a NaN goes to fraction bits 51:29. -/
def fWiden (ftz : Bool) (a : Nat) : Nat × Sticky :=
  match unpack f32 ftz a with
  | .nan n q f => (fQuiet f64 n (f * 2 ^ 29), { nv := !q })
  | .inf n => (fInf f64 n, {})
  | .fin n m e => if m = 0 then (fZero f64 n, {}) else deliver f64 .even false n m e

/-- FCVT.S.D (R133): a NaN keeps fraction bits 51:29. -/
def fNarrow (rm : Rm) (ftz : Bool) (a : Nat) : Nat × Sticky :=
  match unpack f64 ftz a with
  | .nan n q f => (fQuiet f32 n (f / 2 ^ 29), { nv := !q })
  | .inf n => (fInf f32 n, {})
  | .fin n m e => if m = 0 then (fZero f32 n, {}) else deliver f32 rm ftz n m e

end Sys2Proof.Machine
end

