-- ==== Sys2Proof/Machine/Arith.lean ====
section
/-! DEFINITION. What the A, C and M units compute from their operands (R106 to R112, R122 to R128, R132, R133), one definition for each operation. -/

namespace Sys2Proof.Machine

/-- A word and the sticky flags its computation sets. -/
abbrev WF := Word × Sticky

/-! ### A units (R106 to R108) -/

/-- Limit an exact result to the signed range of n bits (R108, R123). -/
def satTo (n : Nat) (v : Int) : Int × Bool :=
  if v > 2 ^ (n - 1) - 1 then (2 ^ (n - 1) - 1, true)
  else if v < -(2 ^ (n - 1)) then (-(2 ^ (n - 1)), true)
  else (v, false)

/-- A word from an exact integer, modulo 2^32. -/
def wInt (v : Int) : Word := BitVec.ofInt 32 v

/-- The wrapped result with OVF where the exact one lies outside 32 bits (R108). -/
def wrapOvf (v : Int) : WF := (wInt v, { ovf := (satTo 32 v).2 })

/-- The saturated result with SAT (R108). -/
def sat32 (v : Int) : WF := (wInt (satTo 32 v).1, { sat := (satTo 32 v).2 })

def aluAdd (a b : Word) : WF := wrapOvf (a.toInt + b.toInt)
def aluSub (a b : Word) : WF := wrapOvf (a.toInt - b.toInt)
def aluAdds (a b : Word) : WF := sat32 (a.toInt + b.toInt)
def aluSubs (a b : Word) : WF := sat32 (a.toInt - b.toInt)
def aluNeg (a : Word) : WF := wrapOvf (0 - a.toInt)
def aluAbs (a : Word) : WF := sat32 (if a.toInt < 0 then -a.toInt else a.toInt)

/-- The shift count: bits 5:0 of the second operand (R107). -/
def shiftCount (b : Word) : Nat := b.toNat % 64

def aluShl (a b : Word) : Word := a <<< shiftCount b
def aluShr (a b : Word) : Word := a >>> shiftCount b
def aluSra (a b : Word) : Word := a.sshiftRight (shiftCount b)
def aluRor (a b : Word) : Word := a.rotateRight (b.toNat % 32)
def aluMin (a b : Word) : Word := if a.toInt ≤ b.toInt then a else b
def aluMax (a b : Word) : Word := if a.toInt ≤ b.toInt then b else a
def aluMinu (a b : Word) : Word := if a.toNat ≤ b.toNat then a else b
def aluMaxu (a b : Word) : Word := if a.toNat ≤ b.toNat then b else a

/-! ### C unit (R110 to R112) -/

/-- Width and polynomial of a selector (R111). -/
def crcWidth (p : CrcPoly) : Nat := match p with | .p8 => 8 | .p16 => 16 | .p32 | .p32c => 32
def crcGen (p : CrcPoly) : Nat :=
  match p with | .p8 => 0x07 | .p16 => 0x1021 | .p32 => 0x04C11DB7 | .p32c => 0x1EDC6F41

/-- One bit of a normal-form step: data bit i of the t bits still to come. -/
def crcNormal (w g : Nat) (i crc data : Nat) : Nat :=
  match i with
  | 0 => crc
  | j + 1 =>
    let fb := (crc / 2 ^ (w - 1) + data / 2 ^ j) % 2
    let c := crc * 2 % 2 ^ w
    crcNormal w g j (if fb = 1 then c ^^^ g else c) data

/-- A reflected-form step over i data bits, lowest first. -/
def crcReflected (w g : Nat) (i crc data : Nat) : Nat :=
  match i with
  | 0 => crc
  | j + 1 =>
    let fb := (crc + data) % 2
    let c := crc / 2
    crcReflected w g j (if fb = 1 then c ^^^ revBits w g else c) (data / 2)

/-- The data bits ww selects (R110). -/
def crcBits (ww : BitVec 2) : Nat := match ww.toNat with | 0 => 8 | 1 => 16 | _ => 32

/-- A cyclic-check step (R111). -/
def cCrc (p : CrcPoly) (refl : Bool) (ww : BitVec 2) (a b : Word) : Word :=
  let w := crcWidth p
  let crc := a.toNat % 2 ^ w
  let t := crcBits ww
  let d := b.toNat % 2 ^ t
  w32 (if refl then crcReflected w (crcGen p) t crc d else crcNormal w (crcGen p) t crc d)

/-- The number of 1 bits among the low n bits. -/
def popCount (n v : Nat) : Nat :=
  match n with
  | 0 => 0
  | k + 1 => v % 2 + popCount k (v / 2)

/-- Leading zero bits of a 32-bit number; 32 for 0. -/
def clz32 (v : Nat) : Nat := if v = 0 then 32 else 31 - Nat.log2 v

/-- Trailing zero bits among the low n bits; n for 0. -/
def ctzN (n v : Nat) : Nat :=
  match n with
  | 0 => 0
  | k + 1 => if v % 2 = 1 then 0 else 1 + ctzN k (v / 2)

def cPar (a : Word) : Bool := popCount 32 a.toNat % 2 = 1
def cBrev (a : Word) : Word := a.reverse
def cBrevb (a : Word) : Word :=
  w32 (revBits 8 (a.toNat % 256) + 256 * revBits 8 (a.toNat / 256 % 256) +
    65536 * revBits 8 (a.toNat / 65536 % 256) + 16777216 * revBits 8 (a.toNat / 16777216))
def cBswap (a : Word) : Word := w32 (leNat (leBytes 4 a.toNat).reverse)
def cClz (a : Word) : Word := w32 (clz32 a.toNat)
def cCtz (a : Word) : Word := w32 (ctzN 32 a.toNat)
def cPopc (a : Word) : Word := w32 (popCount 32 a.toNat)

/-- Position and effective length of a field control word (R112). -/
def fieldPos (b : Word) : Nat := b.toNat % 32
def fieldLen (b : Word) : Nat := Nat.min (b.toNat / 32 % 64) (32 - fieldPos b)

def cExtu (a b : Word) : Word := w32 (a.toNat / 2 ^ fieldPos b % 2 ^ fieldLen b)
def cExts (a b : Word) : Word :=
  let e := fieldLen b
  let v := a.toNat / 2 ^ fieldPos b % 2 ^ e
  if e ≠ 0 ∧ v / 2 ^ (e - 1) % 2 = 1 then w32 (v + (2 ^ 32 - 2 ^ e)) else w32 v
def cIns (d a b : Word) : Word :=
  let m := w32 ((2 ^ fieldLen b - 1) * 2 ^ fieldPos b)
  (d &&& ~~~m) ||| ((a <<< fieldPos b) &&& m)
def cBtst (a b : Word) : Bool := a.getLsbD (b.toNat % 32)
def cBset (a b : Word) : Word := a ||| w32 (2 ^ (b.toNat % 32))
def cBclr (a b : Word) : Word := a &&& ~~~(w32 (2 ^ (b.toNat % 32)))

/-- The carry-less product of the low n bits of b with a. -/
def clmul (n a b : Nat) : Nat :=
  match n with
  | 0 => 0
  | k + 1 => (if b % 2 = 1 then a else 0) ^^^ clmul k (2 * a) (b / 2)

def cClmull (a b : Word) : Word := w32 (clmul 32 a.toNat b.toNat)
def cClmulh (a b : Word) : Word := w32 (clmul 32 a.toNat b.toNat / 2 ^ 32)

/-! ### Products (R123) -/

/-- The signed halfwords of a word. -/
def loH (a : Word) : Int := (a.extractLsb' 0 16).toInt
def hiH (a : Word) : Int := (a.extractLsb' 16 16).toInt

def mMul (a b : Word) : Word := a * b
def mMulh (a b : Word) : Word := wInt (a.toInt * b.toInt / 2 ^ 32)
def mMulhu (a b : Word) : Word := w32 (a.toNat * b.toNat / 2 ^ 32)
def mMulq31 (a b : Word) : WF := sat32 ((2 * a.toInt * b.toInt + 2 ^ 31) / 2 ^ 32)

/-- One Q15 halfword product of MUL2HQ. -/
def q15 (x y : Int) : Int × Bool := satTo 16 ((2 * x * y + 2 ^ 15) / 2 ^ 16)
def mMul2hq (a b : Word) : WF :=
  let l := q15 (loH a) (loH b)
  let h := q15 (hiH a) (hiH b)
  ((BitVec.ofInt 16 h.1 ++ BitVec.ofInt 16 l.1 : BitVec 32), { sat := l.2 || h.2 })

/-! ### Accumulators (R124, R125) -/

/-- An accumulator and sticky flags. -/
abbrev AF := Acc × Sticky

/-- Wrap an exact sum to 72 bits, with OVF outside (R124). -/
def wrap72 (v : Int) : AF := (BitVec.ofInt 72 v, { ovf := (satTo 72 v).2 })

def mMac (c : Acc) (a b : Word) : AF := wrap72 (c.toInt + a.toInt * b.toInt)
def mMacu (c : Acc) (a b : Word) : AF := wrap72 (c.toInt + a.toNat * b.toNat)
def mMsu (c : Acc) (a b : Word) : AF := wrap72 (c.toInt - a.toInt * b.toInt)
def mMacs (c : Acc) (a b : Word) : AF :=
  let r := satTo 64 (c.toInt + a.toInt * b.toInt)
  (BitVec.ofInt 72 r.1, { sat := r.2 })
def mMac2h (c : Acc) (a b : Word) : AF := wrap72 (c.toInt + loH a * loH b + hiH a * hiH b)
def mMsu2h (c : Acc) (a b : Word) : AF := wrap72 (c.toInt - loH a * loH b - hiH a * hiH b)
def mMac2hq (c : Acc) (a b : Word) : AF :=
  let l := satTo 32 (2 * (loH a * loH b))
  let h := satTo 32 (2 * (hiH a * hiH b))
  let r := wrap72 (c.toInt + l.1 + h.1)
  (r.1, { r.2 with sat := l.2 || h.2 })
def mClr : Acc := 0
def mAccw (a : Word) : Acc := a.signExtend 72
def mAccp (lo hi : Word) : Acc := (hi ++ lo : BitVec 64).signExtend 72
def mExtr (c : Acc) (n : Nat) : WF :=
  sat32 ((c.toInt + (if n = 0 then 0 else 2 ^ (n - 1))) / 2 ^ n)
def mExtl (c : Acc) : Word := c.extractLsb' 0 32
def mExth (c : Acc) : Word := c.extractLsb' 32 32
def mExtg (c : Acc) : Word := (c.extractLsb' 64 8).signExtend 32

/-! ### Division (R126, R128) -/

/-- Quotient, remainder and flags of one divide (R126). -/
structure DivOut where
  q : Word
  r : Word
  fl : Sticky
  deriving DecidableEq, Repr

/-- Unsigned division. -/
def divUnsigned (a b : Word) : DivOut :=
  if b = 0 then { q := 0xFFFFFFFF, r := a, fl := { divz := true } }
  else { q := w32 (a.toNat / b.toNat), r := w32 (a.toNat % b.toNat), fl := {} }

/-- Signed division, truncating toward zero. -/
def divSigned (a b : Word) : DivOut :=
  if b = 0 then { q := if a.getLsbD 31 then 0x80000000 else 0x7FFFFFFF, r := a, fl := { divz := true } }
  else if a = 0x80000000 ∧ b = 0xFFFFFFFF then { q := 0x80000000, r := 0, fl := { ovf := true } }
  else { q := wInt (a.toInt.tdiv b.toInt), r := wInt (a.toInt.tmod b.toInt), fl := {} }

/-- The cycles t of a divide outside constant-time mode, from the magnitudes (R128). -/
def divCycles (ma mb : Nat) : Nat :=
  let k := (clz32 mb - clz32 ma) + 1
  3 + (k + 1) / 2

/-- The magnitude of a word read as signed or unsigned (R128). -/
def magnitude (signed : Bool) (a : Word) : Nat := if signed then a.toInt.natAbs else a.toNat

/-- T of R128. -/
def divTime (constTime signed : Bool) (a b : Word) : Nat :=
  if constTime then 20 else divCycles (magnitude signed a) (magnitude signed b)

end Sys2Proof.Machine
end

