-- ==== Sys2Proof/Machine/Operands.lean ====
section
/-! DEFINITION. Operands of a syllable: registers (R59), results in flight (R67 to R70), immediates (R66), addressing modes and updates (R97 to R100), control registers (R62). -/

namespace Sys2Proof.Machine

/-! ### Registers (R59) -/

/-- w0 reads 0. -/
def Ctx.rw (x : Ctx) (r : Nat) : Word := if r = 0 then 0 else (vget x.w r).v

/-- w0 is never poisoned. -/
def Ctx.poisoned (x : Ctx) (r : Nat) : Bool := if r = 0 then false else (vget x.w r).poison

/-- Address registers; 16 is ds. -/
def Ctx.rx (x : Ctx) (r : Nat) : Word := vget x.x r

/-- p0 reads 1. -/
def Ctx.rp (x : Ctx) (r : Nat) : Bool := if r = 0 then true else vget x.p r

/-- Accumulators. -/
def Ctx.ra (x : Ctx) (r : Nat) : Acc := vget x.acc r

/-- One register write; writes to w0 and p0 are discarded (R59). -/
def applyWr (q : Wr) (x : Ctx) : Ctx :=
  match q with
  | .w r v b => if r = 0 then x else { x with w := vset x.w r { v := v, poison := b } }
  | .x r v => { x with x := vset x.x r v }
  | .p r b => if r = 0 then x else { x with p := vset x.p r b }
  | .acc r v => { x with acc := vset x.acc r v }

/-- The low register of the pair a field names (R102). -/
def pairLow (f : BitVec 6) : Nat := f.toNat / 2 * 2

/-- A pair as a 64-bit number. -/
def Ctx.rpair (x : Ctx) (f : BitVec 6) : Nat :=
  (x.rw (pairLow f)).toNat + 2 ^ 32 * (x.rw (pairLow f + 1)).toNat

/-- The two writes of a pair. -/
def pairWr (f : BitVec 6) (v : Nat) : List Wr :=
  [.w (pairLow f) (w32 v) false, .w (pairLow f + 1) (w32 (v / 2 ^ 32)) false]

/-! ### Results in flight (R67, R70) -/

/-- Put a result in flight, behind those that land no later (R70: the later-issued write remains). -/
def insertFl (f : InFl) (l : List InFl) : List InFl :=
  match l with
  | [] => [f]
  | g :: r => if g.due ≤ f.due then g :: insertFl f r else f :: g :: r

/-- Land the results that sentence `seq` and later see (R67). -/
def landDue (x : Ctx) : Ctx :=
  let now := x.infl.takeWhile fun f => decide (f.due ≤ x.seq)
  { forAll now (fun f => applyWr f.wr) x with infl := x.infl.dropWhile fun f => decide (f.due ≤ x.seq) }

/-- Land every result in flight, and the running divide (R92 step 2). -/
def landAll (x : Ctx) : Ctx :=
  let y := { forAll x.infl (fun f => applyWr f.wr) x with infl := [] }
  match x.div with
  | none => y
  | some d =>
    { forAll d.writes (fun q => applyWr (.w q.1 q.2 false)) y with div := none, cycles := Nat.max x.cycles (d.lands + 1) }

/-- The newest value of an accumulator, in flight or not (R69). -/
def Ctx.newestAcc (x : Ctx) (r : Nat) : Acc :=
  x.infl.foldl (fun v f => match f.wr with | .acc k w => if k = r then w else v | _ => v) (x.ra r)

/-! ### Immediates and second sources (R66) -/

/-- The value of source 2 as a word. -/
def val2 (x : Ctx) (y : Syl) : Word :=
  match y.s2 with
  | .reg r => x.rw r.toNat
  | .imm i => (immValue (zeroExt y.op) i).getD 0

/-- Source 2 is an immediate. -/
def isImm (y : Syl) : Bool := match y.s2 with | .imm _ => true | .reg _ => false

/-- The register number of source 2. -/
def reg2 (y : Syl) : Nat := match y.s2 with | .reg r => r.toNat | .imm _ => 0

/-! ### Address updates (R99, R100) -/

/-- The modulo update of R99, by a signed number of bytes. -/
def upd (x : Ctx) (n : Nat) (k : Int) : Word :=
  if n ≤ 7 ∧ vget x.mlen n ≠ 0 then
    let base := vget x.mbase n
    BitVec.ofInt 32 (Int.ofNat base.toNat +
      (Int.ofNat (x.rx n).toNat - Int.ofNat base.toNat + k) % Int.ofNat (vget x.mlen n).toNat)
  else x.rx n + BitVec.ofInt 32 k

/-- The bit-reversed update of R100, for accesses of sz bytes. -/
def brupd (x : Ctx) (n : Nat) (k : Word) (sz : Nat) : Word :=
  let len := (vget x.mlen n).toNat
  if n ≤ 7 ∧ 2 * sz ≤ len then
    let base := vget x.mbase n
    let b := Nat.log2 (len / sz)
    let i := ((Int.ofNat (x.rx n).toNat - Int.ofNat base.toNat) / Int.ofNat sz % 2 ^ b).toNat
    let j := (k.toInt / Int.ofNat sz % 2 ^ b).toNat
    let r := revBits b ((revBits b i + revBits b j) % 2 ^ b)
    w32 (base.toNat + r * sz)
  else x.rx n + k

/-! ### Loads and stores (R97, R98, R102) -/

/-- Size in bytes, signed, pair, of a load or store. -/
def accessOf (o : Op) : Nat × Bool × Bool :=
  match o with
  | .ldB | .ldDB => (1, true, false)
  | .ldBu | .ldDBu | .stB => (1, false, false)
  | .ldH | .ldDH | .ldbrH => (2, true, false)
  | .ldHu | .ldDHu | .stH | .stbrH => (2, false, false)
  | .ldWp | .ldDWp | .ldbrWp | .stWp | .stbrWp => (8, false, true)
  | _ => (4, false, false)

/-- log2 of an access size. -/
def sizeLog (n : Nat) : Nat := match n with | 1 => 0 | 2 => 1 | 4 => 2 | _ => 3

/-- Effective address and update of the address register (R98). -/
def eaOf (x : Ctx) (y : Syl) : Word × Option (Nat × Word) :=
  let n := y.s1.toNat
  let sz := (accessOf y.op).1
  let k := val2 x y
  match y.mode with
  | .off => (x.rx n + k, none)
  | .post => (x.rx n, some (n, upd x n k.toInt))
  | .pre => let a := upd x n (-k.toInt); (a, some (n, a))
  | .idx => (x.rx n + (k <<< sizeLog sz), none)
  | .brev => (x.rx n, some (n, brupd x n k sz))

/-- The bytes a store writes (R102). -/
def storeBytes (x : Ctx) (y : Syl) : Bytes :=
  let (sz, _, pr) := accessOf y.op
  if pr then leBytes 8 (x.rpair y.d) else leBytes sz (x.rw y.d.toNat).toNat

/-- The registers and values a load writes from its bytes (R102): sign or zero extension, pairs low word first. -/
def loadWrites (o : Op) (d : BitVec 6) (bs : Bytes) : List (Nat × Word) :=
  let (sz, sg, pr) := accessOf o
  let v := leNat bs
  if pr then [(pairLow d, w32 v), (pairLow d + 1, w32 (v / 2 ^ 32))]
  else if sg ∧ v / 2 ^ (8 * sz - 1) % 2 = 1 then [(d.toNat, w32 (v + (2 ^ 32 - 2 ^ (8 * sz))))]
  else [(d.toNat, w32 v)]

/-- The w registers a load writes. -/
def loadDests (o : Op) (d : BitVec 6) : List Nat :=
  if (accessOf o).2.2 then [pairLow d, pairLow d + 1] else [d.toNat]

/-! ### Control registers (R62) -/

/-- An MTC to a listed number that is RO (R62). -/
def ctlReadOnly (n : Nat) : Bool :=
  n == 0x00 || n == 0x02 || n == 0x05 || n == 0x06 || (0x0A ≤ n && n ≤ 0x19) || n == 0x24 || (0x3C ≤ n && n ≤ 0x3F)

/-- The pending branch as EBT shows it. -/
def ebtOf (b : Option Branch) : Word :=
  match b with
  | none => 0
  | some q => putBits q.target 1 0 q.left

/-- MFC: read a control register (R62). -/
def readCtl (x : Ctx) (modes n : Nat) : Word :=
  if n = 0x00 then x.pc
  else if n = 0x01 then x.flags
  else if n = 0x02 then w32 modes
  else if n = 0x03 then x.vec
  else if n = 0x04 then x.epc
  else if n = 0x05 then x.ecause
  else if n = 0x06 then x.einfo
  else if n = 0x07 then x.ebt
  else if n = 0x08 then w32 (bitN x.estat)
  else if n = 0x09 then w32 (bitN x.ie)
  else if n = 0x0A then x.deferAddr
  else if n = 0x0B then x.deferCause
  else if n = 0x0C then x.codeBase
  else if n = 0x0D then x.codeLimit
  else if n = 0x0E then x.spillBase
  else if n = 0x0F then w32 x.spillCount
  else if n ≤ 0x18 then
    let k := n - 0x10
    vget (match k % 3 with | 0 => x.ls | 1 => x.le | _ => x.lc) (k / 3)
  else if n = 0x19 then w32 x.ldepth
  else if n ≤ 0x22 then vget x.els (n - 0x1A)
  else if n = 0x23 then w32 x.eldepth
  else if n = 0x24 then w32 x.rsdepth
  else if 0x28 ≤ n ∧ n ≤ 0x2F then vget x.mbase (n - 0x28)
  else if 0x30 ≤ n ∧ n ≤ 0x37 then vget x.mlen (n - 0x30)
  else if n = 0x3C then w32 x.cycles
  else if n = 0x3D then w32 x.sentences
  else if n = 0x3E then w32 x.shmiss
  else if n = 0x3F then w32 x.stalls
  else 0

/-- MTC: write a control register that is RW (R62); bits the tables mark reserved are discarded. -/
def writeCtl (x : Ctx) (n : Nat) (v : Word) : Ctx :=
  if n = 0x01 then { x with flags := flagsWrite v }
  else if n = 0x03 then { x with vec := putBits v 5 0 0 }
  else if n = 0x04 then { x with epc := v }
  else if n = 0x07 then { x with ebt := v }
  else if n = 0x08 then { x with estat := v.getLsbD 0 }
  else if n = 0x09 then { x with ie := v.getLsbD 0 }
  else if 0x1A ≤ n ∧ n ≤ 0x22 then { x with els := vset x.els (n - 0x1A) v }
  else if n = 0x23 then { x with eldepth := v.toNat % 4 }
  else if 0x28 ≤ n ∧ n ≤ 0x2F then { x with mbase := vset x.mbase (n - 0x28) (putBits v 1 0 0) }
  else if 0x30 ≤ n ∧ n ≤ 0x37 then { x with mlen := vset x.mlen (n - 0x30) v }
  else x

end Sys2Proof.Machine
end

