-- ==== Sys2Proof/Machine/Seal.lean ====
section
/-! DEFINITION. The seal (R408, R411 to R423): key slots, jobs, the random source, zeroization, debug unlock, the SEAL block. -/

namespace Sys2Proof.Machine

/-- A person's side of the seal, and a change to it. -/
def State.sealOf (s : State) (p : Nat) : SealP := vget s.seals.p p
def setSeal (p : Nat) (f : SealP → SealP) (s : State) : State := { s with seals := { s.seals with p := vmod s.seals.p p f } }

/-- Status codes of R420. -/
def stParam : Nat := 2
def stCustody : Nat := 3
def stType : Nat := 4
def stEmpty : Nat := 5
def stUse : Nat := 6
def stAuth : Nat := 7
def stEcc : Nat := 8
def stZeroized : Nat := 9
def stRng : Nat := 10
def stAborted : Nat := 11

/-! ### Job start and end (R415, R158, R181) -/

/-- A word of a descriptor. -/
def descW (q : SealRun) (i : Nat) : Nat := (q.words.getD i 0).toNat

/-- The three buffers of a job: address and length. -/
def jobBufs (q : SealRun) : List (Nat × Nat) :=
  [(descW q 1, descW q 2), (descW q 3, descW q 4), (descW q 5, descW q 6)].filter fun b => decide (b.2 ≠ 0)

/-- The lengths of R416. -/
def jobLengths (q : SealRun) : Bool :=
  decide (descW q 2 ≤ 0x100000) && decide (descW q 4 ≤ 0x100000) && decide (descW q 6 ≤ 0x1000)

/-- A buffer the person does not own whole: the address that fails. -/
def bufFails (s : State) (p : Nat) (q : SealRun) : Option Nat :=
  (jobBufs q).findSome? fun b => match bufCheck s p b.1 b.2 with
    | .ok => none
    | .outside => some b.1
    | .foreign x => some x

/-- The operation codes of R416. -/
def sealCodes : List Nat :=
  [0x01, 0x02, 0x03, 0x04, 0x05, 0x06, 0x07, 0x08, 0x10, 0x11, 0x12, 0x13, 0x20, 0x21, 0x22, 0x23, 0x30, 0x31, 0x32, 0x33, 0x40]

/-- A job starts with the words of its descriptor, or with the result it has earned at once. -/
def sealBegin (p a : Nat) (ws : List Word) (r : Option (Nat × Nat)) (s : State) : State :=
  setSeal p (fun q => { q with job := some { desc := a, words := ws, res := r } }) s

/-- The descriptor is read: its operation, its lengths, its buffers (R158, R415, R416). -/
def sealLoad (p a : Nat) (r : Option Bytes × State) : State :=
  match r.1 with
  | none => sealBegin p a [] (some (stEcc, 0)) r.2
  | some bs =>
    let ws := (List.range 16).map fun i => w32 (leAt bs (4 * i) 4)
    let q : SealRun := { desc := a, words := ws }
    if !sealCodes.contains (descW q 0 % 256) || !jobLengths q then sealBegin p a ws (some (stParam, 0)) r.2
    else match bufFails r.2 p q with
      | some x => sealBegin p a ws (some (stCustody, 0)) (foreignAccess 5 0 p x r.2)
      | none => sealBegin p a ws none r.2

/-- A write to SEAL_JOB (R415): the descriptor and the buffers are checked as the job starts (R158); a descriptor whose page is being
zeroed is read as it then is, zeros (R155). -/
def sealJob (p : Nat) (v : Word) (s : State) : State :=
  if (s.sealOf p).job.isSome then setSeal p (fun q => { q with refused := true }) s
  else if s.seals.zeroized then sealBegin p v.toNat [] (some (stZeroized, 0)) s
  else if v.toNat % 16 ≠ 0 then sealBegin p v.toNat [] (some (stParam, 0)) s
  else match bufCheck s p v.toNat 64 with
    | .outside => sealBegin p v.toNat [] (some (stCustody, 0)) (foreignAccess 5 0 p v.toNat s)
    | .foreign x => sealBegin p v.toNat [] (some (stCustody, 0)) (foreignAccess 5 0 p x s)
    | .ok => sealLoad p v.toNat (if bufZeroing s v.toNat 64 then (some (List.replicate 64 0), s) else bufRead v.toNat 64 s)

/-- A job ends (R415): words 8 and 9, the counts, then source 72 + p; a descriptor the person no longer owns is not written. -/
def sealFinish (p status len : Nat) (s : State) : State :=
  match (s.sealOf p).job with
  | none => s
  | some j =>
    let s := if j.desc % 16 = 0 ∧ bufCheck s p j.desc 64 = .ok then
        sramPut (j.desc + 32) (leBytes 4 len ++ leBytes 4 status) s
      else s
    cicPulse (72 + p) (setSeal p (fun q => { q with job := none, done := (q.done + 1) % 65536, last := status }) s)

/-- SEAL_JOB_DONE (R415): the job the engine has served ends, once the descriptor's page is not being zeroed (R155). -/
def execSealJobDone (p : Nat) (s : State) : Host.Outcome State Fault Refusal :=
  .next (match (s.sealOf p).job with
    | none => s
    | some j => match j.res with
      | none => s
      | some r => if bufZeroing s j.desc 64 then s else sealFinish p r.1 r.2 s)

/-- A person's job is aborted (R420). -/
def sealAbort (p : Nat) (s : State) : State := sealFinish p stAborted 0 s

/-! ### Operations (R416, R417) -/

/-- What an operation gives: a status, or output bytes, or a key for a slot. `zeros` is what a failed tag writes. -/
inductive SealOut where
  | err (status : Nat)
  | zeros (n : Nat)
  | auth (out tag : Bytes)
  | out (bs : Bytes)
  | key (slot : Nat) (k : Key)
  | done
  deriving DecidableEq, Repr

/-- What an operation reads: the person, its slots, the fields of the descriptor, the two buffers. -/
structure SealIn where
  p : Nat
  slots : Vector Key 4
  slot : Nat
  dest : Nat
  cap : Nat
  inp : Bytes
  aux : Bytes
  rngFail : Bool
  deriving Repr

/-- Use a slot whose type is admitted (R411, R420): EMPTY, then KEY_USE, then KEY_TYPE. -/
def withKey (i : SealIn) (k : Nat) (admits : KeyType → Bool) (f : Key → SealOut) : SealOut :=
  let q := vget i.slots k
  if q.ty = .empty then .err stEmpty
  else if q.ty = .fixed ∧ !admits .fixed then .err stUse
  else if !admits q.ty then .err stType
  else f q

/-- The types an operation admits. -/
def isAes (t : KeyType) : Bool := decide (t = .aes128) || decide (t = .aes256)
def isHmac (t : KeyType) : Bool := decide (t = .hmac)
def isEc (t : KeyType) : Bool := decide (t = .p256) || decide (t = .p384)
def curveOf (t : KeyType) : Curve := if t = .p384 then p384 else p256

/-- A slot a key may be put into: not a FIXED one. -/
def intoSlot (i : SealIn) (k : Nat) (o : SealOut) : SealOut := if (vget i.slots k).ty = .fixed then .err stUse else o

/-- Block-cipher modes: lengths first (R416). -/
def opEcb (enc : Bool) (i : SealIn) : SealOut :=
  if i.inp.length % 16 ≠ 0 ∨ i.cap < i.inp.length then .err stParam
  else withKey i i.slot isAes fun k => .out (if enc then ecbEnc k.key i.inp else ecbDec k.key i.inp)
def opCbc (enc : Bool) (i : SealIn) : SealOut :=
  if i.inp.length % 16 ≠ 0 ∨ i.cap < i.inp.length ∨ i.aux.length ≠ 16 then .err stParam
  else withKey i i.slot isAes fun k => .out (if enc then cbcEnc k.key i.aux i.inp else cbcDec k.key i.aux i.inp)
def opCtr (i : SealIn) : SealOut :=
  if i.cap < i.inp.length ∨ i.aux.length ≠ 16 then .err stParam
  else withKey i i.slot isAes fun k => .out (ctrEnc k.key i.aux i.inp)

/-- GCM: the auxiliary buffer holds nonce, tag, then additional data; the model takes a tag field of 16 bytes. -/
def opGcm (enc : Bool) (i : SealIn) : SealOut :=
  if i.cap < i.inp.length ∨ i.aux.length < 28 then .err stParam
  else
    let nonce := i.aux.take 12
    let tag := slice i.aux 12 16
    let aad := i.aux.drop 28
    withKey i i.slot isAes fun k =>
      if enc then let r := gcmEnc k.key nonce aad i.inp; .auth r.1 r.2
      else match gcmDec k.key nonce aad i.inp tag with
        | some pt => .out pt
        | none => .zeros i.inp.length
def opCmac (i : SealIn) : SealOut :=
  if i.cap < 16 then .err stParam else withKey i i.slot isAes fun k => .out (cmac k.key i.inp)

/-- Hashes and MACs. -/
def opSha (h : Sha) (n : Nat) (i : SealIn) : SealOut := if i.cap < n then .err stParam else .out (shaHash h i.inp)
def opHmac (h : Sha) (n : Nat) (i : SealIn) : SealOut :=
  if i.cap < n then .err stParam else withKey i i.slot isHmac fun k => .out (hmac h k.key i.inp)

/-- ECDSA (R416): the nonce comes from the random source. -/
def opSign (rnd : Bytes) (i : SealIn) : SealOut :=
  if i.inp.length ≠ 32 ∧ i.inp.length ≠ 48 then .err stParam
  else withKey i i.slot isEc fun k =>
    let c := curveOf k.ty
    if i.cap < 2 * c.len then .err stParam
    else if i.rngFail then .err stRng
    else .out (ecdsaWith c (beNat k.key) (scalarOf c rnd) i.inp)
def opVerify (i : SealIn) : SealOut :=
  let c := if i.aux.length = 193 then p384 else p256
  if (i.inp.length ≠ 32 ∧ i.inp.length ≠ 48) ∨ (i.aux.length ≠ 129 ∧ i.aux.length ≠ 193) then .err stParam
  else match ptRead c (i.aux.take (2 * c.len + 1)) with
    | none => .err stParam
    | some q => if ecdsaOk c q i.inp (i.aux.drop (2 * c.len + 1)) then .done else .err stAuth

/-- ECDH and KEY_DERIVE (R417); `ty` is the type the derived key is kept as, which the descriptor does not name. -/
def opEcdh (ty : KeyType) (i : SealIn) : SealOut :=
  withKey i i.slot isEc fun k =>
    let c := curveOf k.ty
    let n := 2 * c.len + 1
    if 64 < i.inp.length ∨ i.aux.length < n ∨ n + 255 < i.aux.length then .err stParam
    else match ptRead c (i.aux.take n) with
      | none => .err stParam
      | some q => match ecdhX c (beNat k.key) q with
        | none => .err stParam
        | some z => intoSlot i i.dest
            (.key i.dest { ty := ty, origin := 3, key := hkdf sha256P i.inp z (i.aux.drop n) 32 })
def opDerive (ty : KeyType) (i : SealIn) : SealOut :=
  if 255 < i.inp.length ∨ 64 < i.aux.length then .err stParam
  else withKey i i.slot isHmac fun k =>
    intoSlot i i.dest (.key i.dest { ty := ty, origin := 3, key := hkdf sha256P i.aux k.key i.inp 32 })

/-- KEY_PUBLIC: the only operation a FIXED slot admits (R411). -/
def opPublic (i : SealIn) : SealOut :=
  withKey i i.slot (fun t => isEc t || decide (t = .fixed)) fun k =>
    let c := curveOf k.ty
    if i.cap < 2 * c.len + 1 then .err stParam else .out (ptBytes c (pubOf c (beNat k.key)))

/-- Types by their code; a code that names none is PARAM. -/
def keyTypeOf (n : Nat) : Option (KeyType × Nat) :=
  match n with
  | 1 => some (.aes128, 16)
  | 2 => some (.aes256, 32)
  | 3 => some (.hmac, 32)
  | 4 => some (.p256, 32)
  | 5 => some (.p384, 48)
  | _ => none

/-- KEY_GENERATE. -/
def opGenerate (rnd : Bytes) (i : SealIn) : SealOut :=
  match keyTypeOf (leAt i.inp 0 4) with
  | none => .err stParam
  | some (t, n) =>
    if i.inp.length < 4 then .err stParam
    else intoSlot i i.slot (if i.rngFail then .err stRng
      else .key i.slot { ty := t, origin := 1, key := if isEc t then beBytes n (scalarOf (curveOf t) rnd) else rnd.take n })

/-- KEY_IMPORT (R413); `k` is the transport key of EPH_KEY, none where it is no point. -/
def opImport (zero : Bool) (k : Option Bytes) (i : SealIn) : SealOut :=
  let f := fun o => leAt i.aux o 1
  match keyTypeOf (f 97) with
  | none => .err stParam
  | some (t, n) =>
    if i.aux.length ≠ 128 + n ∨ f 98 ≠ i.slot ∨ f 99 ≠ i.p then .err stParam
    else if zero then .err stZeroized
    else match k with
      | none => .err stParam
      | some key =>
        match gcmDec key (slice i.aux 100 12) (deviceId ++ slice i.aux 97 3) (slice i.aux 112 n) (i.aux.drop (112 + n)) with
        | none => .err stAuth
        | some pt =>
          if isEc t ∧ (beNat pt = 0 ∨ (curveOf t).n ≤ beNat pt) then .err stParam
          else intoSlot i i.slot (.key i.slot { ty := t, origin := 2, key := pt })

/-- KEY_ERASE. -/
def opErase (i : SealIn) : SealOut := intoSlot i i.slot (.key i.slot {})

/-- RANDOM. -/
def opRandom (rnd : Bytes) (i : SealIn) : SealOut := if i.rngFail then .err stRng else .out (rnd.take i.cap)

/-- The engine has served a job: its result waits for SEAL_JOB_DONE. -/
def sealRes (p status len : Nat) (s : State) : State :=
  setSeal p (fun q => { q with job := q.job.map fun j => { j with res := some (status, len) } }) s

/-- Write output to a buffer, checked again as it is made (R158): CUSTODY, ECC or nothing. -/
def sealWrite (p a : Nat) (bs : Bytes) (s : State) : Option Nat × State :=
  if bs.isEmpty then (none, s)
  else match bufCheck s p a bs.length with
    | .outside => (some stCustody, foreignAccess 5 0 p a s)
    | .foreign x => (some stCustody, foreignAccess 5 0 p x s)
    | .ok => (if putMeetsBad s a bs.length then some stEcc else none, sramPut a bs s)

/-- Carry out what an operation gave. -/
def sealApply (p : Nat) (j : SealRun) (o : SealOut) (s : State) : State :=
  let fin := fun (r : Option Nat × State) ok len => match r.1 with
    | some e => sealRes p e 0 r.2
    | none => sealRes p ok len r.2
  match o with
  | .err e => sealRes p e 0 s
  | .done => sealRes p 0 0 s
  | .zeros n => fin (sealWrite p (descW j 3) (List.replicate n 0) s) stAuth 0
  | .out bs => fin (sealWrite p (descW j 3) bs s) 0 bs.length
  | .auth bs tag =>
    let r := sealWrite p (descW j 3) bs s
    match r.1 with
    | some e => sealRes p e 0 r.2
    | none => fin (sealWrite p (descW j 5 + 12) tag r.2) 0 bs.length
  | .key k q => sealRes p 0 0 (setSeal p (fun v => { v with slot := vset v.slot k q }) s)

/-- An engine serves person p's job, if its operation has this code: the buffers are read as they stand and checked again. -/
def sealServe (p code : Nat) (f : SealIn → SealOut) (s : State) : State :=
  match (s.sealOf p).job with
  | none => s
  | some j =>
    if j.res.isSome ∨ descW j 0 % 256 ≠ code then s
    else if (jobBufs j).any fun b => bufZeroing s b.1 b.2 then s
    else match bufFails s p j with
      | some x => sealRes p stCustody 0 (foreignAccess 5 0 p x s)
      | none =>
        let a := bufRead (descW j 1) (descW j 2) s
        let b := bufRead (descW j 5) (descW j 6) a.2
        match a.1, b.1 with
        | some inp, some aux =>
          let i : SealIn := { p := p, slots := (s.sealOf p).slot, slot := descW j 0 / 256 % 4, dest := descW j 0 / 4096 % 4,
                              cap := descW j 4, inp := inp, aux := aux, rngFail := s.seals.rngFail }
          sealApply p j (f i) b.2
        | _, _ => sealRes p stEcc 0 b.2

/-- As sealServe, with bytes of the random source. -/
def sealServeRnd (p code n : Nat) (f : Bytes → SealIn → SealOut) (s : State) : State :=
  let r := randomBytes n s
  sealServe p code (f r.1) r.2

/-- The type a derived key is kept as: AES256 or HMAC, left open. -/
def derivedType (n : Nat) : KeyType := if n % 2 = 0 then .aes256 else .hmac

/-- AES_ECB_ENCRYPT. -/
def execAesEcbEncrypt (p : Nat) (s : State) : Host.Outcome State Fault Refusal := .next (sealServe p 0x01 (opEcb true) s)
/-- AES_ECB_DECRYPT. -/
def execAesEcbDecrypt (p : Nat) (s : State) : Host.Outcome State Fault Refusal := .next (sealServe p 0x02 (opEcb false) s)
/-- AES_CBC_ENCRYPT. -/
def execAesCbcEncrypt (p : Nat) (s : State) : Host.Outcome State Fault Refusal := .next (sealServe p 0x03 (opCbc true) s)
/-- AES_CBC_DECRYPT. -/
def execAesCbcDecrypt (p : Nat) (s : State) : Host.Outcome State Fault Refusal := .next (sealServe p 0x04 (opCbc false) s)
/-- AES_CTR. -/
def execAesCtr (p : Nat) (s : State) : Host.Outcome State Fault Refusal := .next (sealServe p 0x05 opCtr s)
/-- AES_GCM_ENCRYPT. -/
def execAesGcmEncrypt (p : Nat) (s : State) : Host.Outcome State Fault Refusal := .next (sealServe p 0x06 (opGcm true) s)
/-- AES_GCM_DECRYPT. -/
def execAesGcmDecrypt (p : Nat) (s : State) : Host.Outcome State Fault Refusal := .next (sealServe p 0x07 (opGcm false) s)
/-- AES_CMAC. -/
def execAesCmac (p : Nat) (s : State) : Host.Outcome State Fault Refusal := .next (sealServe p 0x08 opCmac s)
/-- SHA_256. -/
def execSha256 (p : Nat) (s : State) : Host.Outcome State Fault Refusal := .next (sealServe p 0x10 (opSha sha256P 32) s)
/-- SHA_384. -/
def execSha384 (p : Nat) (s : State) : Host.Outcome State Fault Refusal := .next (sealServe p 0x11 (opSha sha384P 48) s)
/-- HMAC_SHA_256. -/
def execHmacSha256 (p : Nat) (s : State) : Host.Outcome State Fault Refusal := .next (sealServe p 0x12 (opHmac sha256P 32) s)
/-- HMAC_SHA_384. -/
def execHmacSha384 (p : Nat) (s : State) : Host.Outcome State Fault Refusal := .next (sealServe p 0x13 (opHmac sha384P 48) s)
/-- ECDSA_SIGN. -/
def execEcdsaSign (p : Nat) (s : State) : Host.Outcome State Fault Refusal := .next (sealServeRnd p 0x20 64 opSign s)
/-- ECDSA_VERIFY. -/
def execEcdsaVerify (p : Nat) (s : State) : Host.Outcome State Fault Refusal := .next (sealServe p 0x21 opVerify s)
/-- ECDH. -/
def execEcdh (p : Nat) (s : State) : Host.Outcome State Fault Refusal :=
  let r := freeNat s
  .next (sealServe p 0x22 (opEcdh (derivedType r.1)) r.2)
/-- KEY_PUBLIC. -/
def execKeyPublic (p : Nat) (s : State) : Host.Outcome State Fault Refusal := .next (sealServe p 0x23 opPublic s)
/-- KEY_GENERATE. -/
def execKeyGenerate (p : Nat) (s : State) : Host.Outcome State Fault Refusal := .next (sealServeRnd p 0x30 64 opGenerate s)
/-- KEY_IMPORT. -/
def execKeyImport (p : Nat) (s : State) : Host.Outcome State Fault Refusal :=
  .next (sealServe p 0x31 (fun i => opImport s.fuses.zeroize (transportKey s (i.aux.take 97) "SEAL import") i) s)
/-- KEY_ERASE. -/
def execKeyErase (p : Nat) (s : State) : Host.Outcome State Fault Refusal := .next (sealServe p 0x32 opErase s)
/-- KEY_DERIVE. -/
def execKeyDerive (p : Nat) (s : State) : Host.Outcome State Fault Refusal :=
  let r := freeNat s
  .next (sealServe p 0x33 (opDerive (derivedType r.1)) r.2)
/-- RANDOM: as many bytes as the output holds. -/
def execRandom (p : Nat) (s : State) : Host.Outcome State Fault Refusal :=
  let n := match (s.sealOf p).job with | some j => Nat.min 0x100000 (descW j 4) | none => 0
  .next (sealServeRnd p 0x40 n opRandom s)

/-! ### The random source (R419) -/

/-- RNG_HEALTH_FAIL. -/
def execRngHealthFail (s : State) : Host.Outcome State Fault Refusal :=
  .next (logEvent 7 0 "RNG.FAIL" [] { s with seals := { s.seals with rngFail := true } })

/-- RNG_HEALTH_RECOVER. -/
def execRngHealthRecover (s : State) : Host.Outcome State Fault Refusal :=
  .next { s with seals := { s.seals with rngFail := false } }

/-! ### Zeroization (R421, R422) and debug unlock (R30, R423) -/

/-- Steps 4 and 5: every key slot is wiped, and counter 0 steps to 4 (R421). -/
def zeroizeEnd (s : State) : State :=
  let s := { s with seals := { s.seals with zeroized := true, p := s.seals.p.map fun q => { q with slot := Vector.replicate 4 {} } },
                    store := { s.store with queue := [], run := none, held := [], lostHeld := 0 } }
  lifeCheck (stepCounter 0 4 (planSame [] s))

/-- Zeroization (R421): detail 0 retirement, 1 debug unlock. -/
def zeroize (detail : Nat) (s : State) : State :=
  let s := { s with seals := { s.seals with zeroized := true } }
  let s := forNat 7 (fun p t => sealFinish p stZeroized 0 t) s
  let s := tamper 0x0E detail s
  pubSlot 3 (zeroizeEnd { s with fuses := { s.fuses with zeroize := true } })

/-- A new challenge in the data register of the test port (R423). -/
def newChallenge (s : State) : State :=
  let r := randomBytes 16 s
  { r.2 with seals := { r.2.seals with challenge := r.1 } }

/-! ### The SEAL block (17) -/

/-- The code of a key type. -/
def typeCode (t : KeyType) : Nat :=
  match t with | .empty => 0 | .aes128 => 1 | .aes256 => 2 | .hmac => 3 | .p256 => 4 | .p384 => 5 | .fixed => 6

/-- Read a register of frame p of the SEAL block. -/
def sealRead (p off : Nat) (s : State) : Word :=
  if p = 0 then (if off = 0 then w32 (bitN s.seals.zeroized * 8 + bitN s.seals.rngFail * 4) else 0)
  else if p ≤ 6 then
    let q := s.sealOf p
    if off = 4 then w32 (q.done * 0x10000 + bitN q.refused * 0x100 + q.last * 16 + bitN q.job.isSome)
    else if 0x10 ≤ off ∧ off < 0x20 then
      let k := vget q.slot ((off - 0x10) / 4)
      w32 (k.origin * 0x100 + typeCode k.ty)
    else 0
  else 0

/-- Write a register of frame p of the SEAL block. -/
def sealRegWrite (p off : Nat) (v : Word) (s : State) : State :=
  if p = 0 ∨ 6 < p then s
  else if off = 0 then sealJob p v s
  else if off = 4 then setSeal p (fun q => { q with refused := q.refused && !v.getLsbD 8 }) s
  else s

end Sys2Proof.Machine
end

