-- ==== Sys2Proof/Machine/Fresh.lean ====
section
/-! DEFINITION. Persons as wholes: their images and first registers (R61, R81, R82, R146, R279), starts, restarts and what goes with them
(R160, R196, R197, R226, R246, R347, R354), DEAD and SUSPENDED, hand-overs (R205), fences (R201, R202). -/

namespace Sys2Proof.Machine

/-! ### Places (R82, R146) -/

/-- The cores of the part. -/
def partCores (s : State) : List Nat := if s.fuses.part = .an then [0, 1] else [0, 1, 2, 3]
/-- The PLACEMENT of a person, as cores that the part has and whose island has power. -/
def homeCores (s : State) (p : Nat) : List Nat :=
  (partCores s).filter fun c => maskBit (s.row p).placement c && decide (vget s.isl.pairSt (pairOf c) = .run)

/-- The window [base, base + n) is free of other persons' windows on the given cores. -/
def windowFree (s : State) (p n : Nat) (cs : List Nat) (base : Nat) : Bool :=
  decide (base + n ≤ 0x20000) && cs.all fun c => (List.range 7).all fun q =>
    let w := vget (s.person q).win c
    decide (q = p) || decide (w.2 ≤ base) || decide (base + n ≤ w.1) || decide (w.1 = w.2)

/-- The lowest place for n bytes of code that is free on every core, on a 64-byte boundary. -/
def findWindow (s : State) (p n : Nat) (cs : List Nat) : Option Nat :=
  let ends := cs.flatMap fun c => (List.range 7).map fun q => ((vget (s.person q).win c).2 + 63) / 64 * 64
  (0 :: ends).foldl (fun best b =>
    if windowFree s p n cs b then (match best with | none => some b | some x => some (Nat.min x b)) else best) none

/-- Load a person's code into its window on every core of its PLACEMENT (R82, R279). -/
def placeCode (p : Nat) (h : ImgHead) (s : State) : Option State :=
  let cs := homeCores s p
  match findWindow s p h.code cs with
  | none => none
  | some base =>
    let code := s.flashRead 0 (imageAt p + 64) h.code
    let put := fun (c : Nat) (t : State) =>
      eccOver 2 c base h.code (setCore c (fun k => { k with imem := cellsPut 0 (cellsClear k.imem base h.code) base code }) t)
    let win : Vector (Nat × Nat) 4 := Vector.ofFn fun i : Fin 4 => if cs.contains i.val then (base, base + h.code) else (0, 0)
    some (setPerson p (fun q => { q with win := win }) (forAll cs put s))

/-- A person owns a bank of a core; the lowest such bank. -/
def ownBanks (s : State) (p c : Nat) : List Nat := (List.range 8).filter fun b => s.bankOwner c b == ownerCode p

/-- The cores, singly or as a pair, on each of which a person that starts on the cores of a mask gets a home bank: those of its
PLACEMENT that have power and are not fenced (R146, R201); a person whose charter requires witness execution, or that starts on a
pair, gets one number for both cores of it (R192). A self-check gets one on its core only (R291). -/
def homeGroups (s : State) (p mask : Nat) (test : Bool) : List (List Nat) :=
  if test then [maskCores mask]
  else
    let cs := (homeCores s p).filter fun c => !(s.core c).fenced && !(s.core c).halted
    [0, 1].flatMap fun pr =>
      let l := cs.filter fun c => decide (pairOf c = pr)
      if l.length = 2 ∧ ((s.row p).witness ∨ maskPair mask = some pr) then [l] else l.map fun c => [c]

/-- The home bank of a person on some cores: the lowest number it owns on all of them (R146, R192). -/
def homeBank (s : State) (p : Nat) (cs : List Nat) : Option Nat :=
  firstIdx 8 fun b => cs.all fun c => s.bankOwner c b == ownerCode p

/-- Give a person its home banks, the lowest FREE bank of each core (R146, R192) that its quota has room for (R147); a core where it
owns one already is left. -/
def homeBanks (p : Nat) (groups : List (List Nat)) (s : State) : State :=
  forAll groups (fun cs t =>
    if (homeBank t p cs).isSome then t
    else match firstIdx 8 fun b => cs.all fun c => t.bankOwner c b == 0xF with
      | none => t
      | some b =>
        if (t.row p).bankQuota < t.banksHeld p + cs.length then t
        else forAll cs (fun c u => setBankOwner c b (ownerCode p) u) t) s

/-- The zeroing engine of a core finishes what is queued: a start waits for it (R155), and it waits for bursts accepted before (R153). -/
def zeroNow (c : Nat) (s : State) : State :=
  forAll (vget s.cus.bankZero c) (fun b t =>
    bankZeroed c b (forNat 16 (putEarly fun d a => decide (d = c) && decide (regionOf a = .dmem b)) t)) s

/-- The registers of a person that starts on the cores of a mask (R61, R81, R86). -/
def freshCtx (s : State) (p mask c entry : Nat) : Ctx :=
  let w := vget (s.person p).win c
  let top := match homeBank s p (maskCores mask) with | some b => bankBase b + 0x8000 | none => 0
  let spill := decide ((s.row p).rsMode = 2)
  let base := top - 0x1000
  { pc := w32 (w.1 + entry), codeBase := w32 w.1, codeLimit := w32 w.2,
    x := (Vector.replicate 17 0).set 16 (w32 (if spill then base else top)),
    spillBase := if spill then w32 base else 0 }

/-! ### Stopping (R94, R160) -/

/-- A person stops: what its cores have buffered leaves as the gate accepts (R167). -/
def haltPerson (p : Nat) (r : PRun) (s : State) : State :=
  stopPerson p r (forAll (maskCores (s.person p).cores) drainAll s)

/-- The steward publishes 0 to each slot of a person (R347). -/
def zeroSlots (p : Nat) (s : State) : State :=
  forNat (s.row p).mirCount (fun i t => publishSlot ((t.row p).mirFirst + i) 0 t) s

/-- What a restart, DEAD or a ONE activation does to what a person holds (R160, R226, R246, R347, R354, R420, R450). -/
def personReset (p : Nat) (s : State) : State :=
  reclaim p (zeroSlots p (cellsUnbind p (cicReset p (portReset p (movReset p (sealAbort p s))))))

/-- Orders that waited for a person to run or to move get their answer. -/
def answerMove (p : Nat) (f : ReplyTo → State → State) (s : State) : State :=
  let l := s.oru.awaitMove.filter fun q => decide (q.1 = p)
  forAll l (fun q t => f q.2 t) (setOru (fun o => { o with awaitMove := o.awaitMove.filter fun q => decide (q.1 ≠ p) }) s)

/-- The name of a person's state, as an E301 names it (R204). -/
def runName (r : PRun) : Text :=
  tx (match r with
    | .absent => "ABSENT" | .starting => "STARTING" | .running => "RUNNING" | .stopped => "STOPPED" | .dead => "DEAD"
    | .suspended => "SUSPENDED" | .restarting => "RESTARTING" | .handover => "HANDOVER")

/-- A person is marked DEAD (R54, R82, R146, R292): it runs again only once a part for it has passed. -/
def becomeDead (p : Nat) (s : State) : State :=
  let s := setPerson p (fun q => { q with deferred := false, moveTo := 0, failed := true }) s
  let s := personReset p (haltPerson p .dead s)
  answerMove p (fun d t => answerErr d { code := 301, field := tx "DEAD" } t) s

/-- The pair of the cores in a mask; of no core, none. -/
def pairOfMask (m : Nat) : Option Nat := (maskCores m).head?.map pairOf

/-- A person is suspended (R196). -/
def suspend (p : Nat) (s : State) : State :=
  let last := (s.person p).lastCores
  let s := setPerson p (fun q => { q with deferred := false, moveTo := 0 }) (stopPerson p .suspended s)
  let s := match pairOfMask last with
    | some pr => { s with wit := { s.wit with suspect := vset s.wit.suspect pr true } }
    | none => s
  let s := setLeaf 9 1 (logEvent 7 p "WITNESS.SUSPEND" [] s)
  answerMove p (fun d t => answerErr d { code := 301, field := tx "SUSPENDED" } t) s

/-! ### Starting (R61, R146, R160, R279) -/

/-- Cores in a mask as the text of `CORES=`: bit 3 first. -/
def coresText (m : Nat) : Text := bin4 m

/-- The person is on its cores and runs. -/
def enterCores (p mask : Nat) (wit : Bool) (s : State) : State :=
  let test := s.checking p
  let s := setPerson p (fun q => { q with
    cores := mask, lastCores := if test then q.lastCores else mask,
    wasWitness := if test then q.wasWitness else wit, moveTo := 0, deferred := false }) s
  let s := setRun p .running s
  let s := forAll (maskCores mask) pickPerson s
  let s := opEval 1 (opEval 0 (cicUpdate s))
  if p = 1 ∧ !s.checking 1 then recPerson1 s else s

/-- The self-check of a person fails: DEAD (R292). -/
def checkFailed (p : Nat) (s : State) : State :=
  let s := becomeDead p s
  let s := { s with bun := { s.bun with check := none, st := .done, progress := 0 } }
  let s := forNat 4 (fun c t => pickPerson c t) s
  pubSlot 2 (opEval 1 (opEval 0 (partResult p 3 s)))

/-- A person that cannot be started is DEAD, by its self-check if that was to begin (R54, R82, R146, R292). -/
def startFails (p : Nat) (test : Bool) (s : State) : State := if test then checkFailed p s else becomeDead p s

/-- Start a person afresh on the cores of a mask: image, home banks, initial data, registers (R61, R146, R279). One whose part has failed
stays DEAD (R292). -/
def startRaw (p mask : Nat) (test : Bool) (s : State) : State :=
  if (s.person p).failed && !test then becomeDead p s else
  let s := match s.img p with | some i => flashSeen 0 (imageAt p) i.len s | none => s
  match imageHead s p with
  | none => startFails p test s
  | some h =>
    match placeCode p h (forAll (partCores s) zeroNow s) with
    | none => startFails p test s
    | some s =>
      let groups := homeGroups s p mask test
      let s := homeBanks p groups s
      if (groups.any fun cs => (homeBank s p cs).isNone) || (homeBank s p (maskCores mask)).isNone then startFails p test s
      else
        let data := s.flashRead 0 (imageAt p + 64 + h.code) h.data
        let load := fun (cs : List Nat) (t : State) => match homeBank t p cs with
          | some b => forAll cs (fun c u => dmemWrite c (bankBase b) data (eccOver 1 c (bankBase b) h.data u)) t
          | none => t
        let s := zeroSlots p (cellsUnbind p (forAll groups load s))
        let entry := if test then h.testEntry else h.entry
        let s := forNat 4 (fun c t => setCtx c p (fun _ => if maskBit mask c then freshCtx t p mask c entry else {}) t) s
        let s := setPerson p (fun q => { q with consent := false }) s
        let s := setMbox p (fun b => { b with lost := 0, svc := 0, res := 0, calls := 0 }) s
        let s := enterCores p mask ((maskPair mask).isSome) s
        if test then s
        else answerMove p (fun d t => answerOk d (tx "PERSON " ++ decText p ++ tx " RUNNING") t) s

/-! ### Which cores can take a person (R196, R197, R204) -/

/-- A core can run persons: on the part, powered and not being powered off, unfenced, no fence ordered, its pair not SUSPECT. -/
def coreUsable (s : State) (c : Nat) : Bool :=
  let k := s.core c
  (partCores s).contains c && decide (vget s.isl.pairSt (pairOf c) = .run) && !vget s.isl.draining (pairOf c) && !k.halted &&
    !k.fenced && !k.underTest && !vget s.wit.fencing c && !vget s.wit.suspect (pairOf c) &&
    match s.bun.check with | some q => decide (q.2 ≠ c) | none => true

/-- A core of a person's PLACEMENT that can take it singly, whoever is placed there already (R95, R196, R491). -/
def singleOk (s : State) (p c : Nat) : Bool := coreUsable s c && maskBit (s.row p).placement c

/-- The core with the fewest placed persons, the lowest number first. -/
def fewest (s : State) (cs : List Nat) : Option Nat :=
  cs.foldl (fun best c => match best with
    | none => some c
    | some b => if (s.placed c).length < (s.placed b).length then some c else some b) none

/-- The bank numbers a person owns on the core it runs on. -/
def bankNumbers (s : State) (p : Nat) : List Nat :=
  match maskCores (s.person p).cores with | c :: _ => ownBanks s p c | [] => []

/-- Every bank number of a person is FREE on a core, or the person's own there; `taken` holds what a plan gives away. -/
def banksFit (s : State) (p c : Nat) (taken : List (Nat × Nat)) : Bool :=
  (bankNumbers s p).all fun b =>
    !taken.contains (c, b) && (s.bankOwner c b == 0xF || s.bankOwner c b == ownerCode p) && !(vget s.cus.bankZero c).contains b

/-- The persons that run singly on either core of a pair, by rank. -/
def singlesOn (s : State) (p pr : Nat) : List Nat :=
  s.byRank.filter fun q => decide (q ≠ p) && (s.witnessOn q).isNone && (s.placedOn q (2 * pr) || s.placedOn q (2 * pr + 1))

/-- Where each single of a pair goes when a witness person takes it (R197): a core outside the pair, or none. -/
def evictPlan (s : State) (p pr : Nat) : List (Nat × Option Nat) :=
  ((singlesOn s p pr).foldl (fun (acc : List (Nat × Option Nat) × List (Nat × Nat)) q =>
    let cs := (List.range 4).filter fun c =>
      decide (pairOf c ≠ pr) && singleOk s q c && decide ((vget (s.person q).win c).2 ≠ 0) && banksFit s q c acc.2
    let load := fun c => (s.placed c).length + (acc.1.filter fun z => decide (z.2 = some c)).length
    let best := cs.foldl (fun b c => match b with | none => some c | some x => if load c < load x then some c else some x) none
    match best with
    | some c => (acc.1 ++ [(q, some c)], acc.2 ++ (bankNumbers s q).map fun b => (c, b))
    | none => (acc.1 ++ [(q, none)], acc.2)) ([], [])).1

/-- Once the singles of a plan have gone, every bank number of a person is FREE on a core or its own there (R204). -/
def banksLeft (s : State) (p c : Nat) (plan : List (Nat × Option Nat)) : Bool :=
  (bankNumbers s p).all fun b =>
    let o := s.bankOwner c b
    o == 0xF || o == ownerCode p || plan.any fun z => z.2.isSome && o == ownerCode z.1

/-- A move to the cores of a mask keeps the person's banks within its quota (R147): those it moves with, on each core of the mask,
and those it keeps on cores it neither leaves nor takes. That it is refused otherwise is a choice (assumption 116). -/
def quotaFits (s : State) (p mask : Nat) : Bool :=
  let other := (List.range 4).filter fun c => !maskBit mask c && !maskBit (s.person p).cores c
  decide ((bankNumbers s p).length * (maskCores mask).length + (other.map fun c => (ownBanks s p c).length).sum ≤ (s.row p).bankQuota)

/-- A pair is an allowed place for a person (R196, R197): every person it would stop ranks below it. -/
def pairOk (s : State) (p pr : Nat) : Bool :=
  [2 * pr, 2 * pr + 1].all (fun c => coreUsable s c && maskBit (s.row p).placement c) &&
    !((List.range 7).any fun q => decide (q ≠ p) && decide ((s.person q).run = .handover) &&
      decide (pairOfMask (s.person q).moveTo = some pr)) &&
    (evictPlan s p pr).all fun z => z.2.isSome || decide ((s.row p).rank < (s.row z.1).rank)

/-- The mask of a pair. -/
def pairMask (pr : Nat) : Nat := if pr = 0 then 3 else 12

/-- The place of a restart or resume (R196): where the person ran, then as the rule orders. -/
def choosePlace (s : State) (p : Nat) : Option Nat :=
  let q := s.person p
  let singles := (List.range 4).filter fun c => singleOk s p c
  let single := (fewest s singles).map fun c => 2 ^ c
  let same := pairOfMask q.lastCores
  if (s.row p).witness ∨ q.wasWitness then
    let prs := match same with | some pr => [pr, 1 - pr] | none => [0, 1]
    match prs.find? fun pr => pairOk s p pr with
    | some pr => some (pairMask pr)
    | none => if (s.row p).witness then none else single
  else match (maskCores q.lastCores).head? with
    | some c => if singles.contains c then some (2 ^ c) else single
    | none => single

/-! ### ONE activations (R289 to R292) -/

/-- The self-check of a person begins: alone on one core of its PLACEMENT, from TEST_ENTRY (R291). -/
def checkBegin (p : Nat) (s : State) : State :=
  match fewest s ((List.range 4).filter fun c => singleOk s p c) with
  | none => checkFailed p s
  | some c => startRaw p (2 ^ c) true { s with bun := { s.bun with check := some (p, c) } }

/-- A pending ONE activation of a person (R289). -/
def onePending (s : State) (p : Nat) : Bool :=
  decide (s.bun.st = .pendingOne) && (stagedParts s).any fun q => decide (q.target = p)

/-- A person starts: a ONE activation that waits for it is carried out first (R284, R289, R290), its copy command by command; one that
its SV or its interfaces now forbid leaves the old image in force. -/
def startOn (p mask : Nat) (s : State) : State :=
  if onePending s p then
    match (stagedParts s).find? fun q => decide (q.target = p) with
    | none => startRaw p mask false s
    | some q =>
      match refusedCode s [q] q with
      | some n => startRaw p mask false (setBunDone (partResult p n s))
      | none => copyBegin q (setRun p .restarting (personReset p (setStage .activating s)))
  else startRaw p mask false s

/-! ### Hand-overs (R205, R206) -/

/-- A hand-over begins: the person stops between sentences and its stores leave (R205 step 1). -/
def beginMove (p mask : Nat) (s : State) : State :=
  let m := (s.person p).cores
  let s := forAll (maskCores m) drainAll s
  let s := setRun p .handover (setPerson p (fun q => { q with moveTo := mask }) s)
  -- a RETI under way runs on to its target first (R93)
  cicUpdate (forAll (maskCores m) pickPerson (logEvent 7 p "HANDOVER_BEGIN" [w32 m, w32 mask] s))

/-- The persons a pair must lose leave it (R197): by hand-over, or stopped and to be started again. -/
def displace (p pr : Nat) (s : State) : State :=
  forAll (evictPlan s p pr) (fun z t => match z.2 with
    | some c => beginMove z.1 (2 ^ c) t
    | none => setPerson z.1 (fun q => { q with deferred := true }) (haltPerson z.1 .stopped t)) s

/-- No other person is on the cores of a mask singly, nor leaving them, nor has stores buffered there (R197). -/
def placeFree (s : State) (p mask : Nat) : Bool :=
  let single := fun (q : Nat) => decide (q ≠ p) && (s.witnessOn q).isNone
  (maskCores mask).all fun c =>
    ((List.range 7).all fun q =>
      !(single q && (s.running q || decide ((s.person q).run = .handover)) && maskBit (s.person q).cores c)) &&
    ((s.core c).sb.all fun e => !single e.person)

/-- Start a person afresh on its place; on a pair the singles leave first (R197). -/
def startAt (p mask : Nat) (s : State) : State :=
  match maskPair mask with
  | none => startOn p mask s
  | some pr =>
    let s := displace p pr s
    if placeFree s p mask then startOn p mask s
    else setRun p .restarting (setPerson p (fun q => { q with moveTo := mask }) s)

/-- The place a person waits for can no longer take it, fenced or lost meanwhile: another is chosen (R196, R197). -/
def placeAgain (p : Nat) (s : State) : State :=
  let s := setPerson p (fun q => { q with moveTo := 0 }) s
  match choosePlace s p with
  | some m => startAt p m s
  | none =>
    if (s.person p).afresh then suspend p s
    else setPerson p (fun q => { q with deferred := true }) (setRun p .stopped s)

/-- Persons that wait for their place take it once it is free. -/
def startWaiting (s : State) : State :=
  forAll s.byRank (fun p t =>
    let q := t.person p
    if q.run ≠ .restarting ∨ q.moveTo = 0 then t
    else if (maskCores q.moveTo).any fun c => !coreUsable t c then placeAgain p t
    else if placeFree t p q.moveTo then startOn p q.moveTo t else t) s

/-- A bank of a person with its content goes to the same number on another core (R205 steps 2 and 3). The copy reads the source and
so finds its errors (R162); a word that cannot be read stays uncorrectable in the copy (assumption 115). -/
def copyBank (p src dst b : Nat) (s : State) : State :=
  let s := eccRead 1 src (bankBase b) 0x8000 (eccOver 1 dst (bankBase b) 0x8000 s)
  let worn := s.mem.ecc.filter fun u => decide (u.space = 1) && decide (u.core.val = src) &&
    decide (bankBase b ≤ u.addr) && decide (u.addr < bankBase b + 0x8000)
  let s := addUpsets (worn.map fun u => { u with core := Fin.ofNat 4 dst }) s
  let held := (s.core src).dmem.filter fun q => decide (bankBase b ≤ q.1) && decide (q.1 < bankBase b + 0x8000)
  setBankOwner dst b (ownerCode p)
    (setCore dst (fun k => { k with dmem := cellsOver 0 (cellsClear k.dmem (bankBase b) 0x8000) held }) s)

/-- The hand-over of a person can be carried out: its stores have left, what it waits for has come, its place is free. -/
def moveReady (s : State) (p : Nat) : Bool :=
  let q := s.person p
  decide (q.run = .handover) && decide (q.moveTo ≠ 0) &&
    (maskCores q.cores).all (fun c => (s.core c).sb.all (fun e => decide (e.person ≠ p)) &&
      (s.ctx c p).loads.isEmpty && (s.ctx c p).calls.isEmpty && (s.ctx c p).cus.isNone && !inReti s c p &&
      (decide ((s.core c).cur ≠ p) || decide (s.cus.held ≠ some c))) &&
    (maskCores q.moveTo).all (fun c => maskBit q.cores c || banksFit s p c []) &&
    ((maskPair q.moveTo).isNone || placeFree s p q.moveTo)

/-- The text of a reply about a person's execution (R331). -/
def execText (s : State) (p : Nat) : Text :=
  tx "PERSON " ++ decText p ++ tx (if (s.witnessOn p).isSome then " EXEC=WITNESS CORES=" else " EXEC=SINGLE CORES=") ++
    coresText (s.person p).cores

/-- A hand-over that began is not made, since a core it was to take has been fenced or lost meanwhile (R201): the person goes on where
it is (assumption 117). -/
def cancelMove (p : Nat) (s : State) : State :=
  let s := setRun p .running (setPerson p (fun q => { q with moveTo := 0 }) s)
  let s := cicUpdate (forAll (maskCores (s.person p).cores) pickPerson s)
  let s := logEvent 7 p "HANDOVER_END" [w32 (s.person p).cores] s
  answerMove p (fun d t => answerErr d { code := 301, field := tx "FENCED" } t) s

/-- Carry out a hand-over (R205 steps 2 to 5). -/
def completeMove (p : Nat) (s : State) : State :=
  let q := s.person p
  match maskCores q.cores, maskCores q.moveTo with
  | src :: _, dst :: _ =>
    let olds := maskCores q.cores
    let news := maskCores q.moveTo
    let nums := bankNumbers s p
    let x := landAll (s.ctx src p)
    let s := forAll olds (fun c t => setCtx c p (fun _ => x) t) s
    let s := forAll news (fun c t => if olds.contains c then t else
      forAll nums (fun b u => copyBank p src c b u) (setCtx c p (fun _ => x) t)) s
    let leave := fun (c b : Nat) (t : State) => if t.bankOwner c b == ownerCode p then cusMove (.bank b) [c] 0 true t else t
    let s := forAll olds (fun c t => if news.contains c then t else setCtx c p (fun _ => {}) (forNat 8 (leave c) t)) s
    let s := forAll news (fun c t => forNat 8 (fun b u => if nums.contains b then u else leave c b u) t) s
    let s := if src = dst then s else cicMove p src dst s
    let s := setPerson p (fun q => { q with cores := q.moveTo, lastCores := q.moveTo, moveTo := 0,
                                            wasWitness := (maskPair q.moveTo).isSome }) s
    let s := movLost p s
    let s := forAll (olds ++ news) pickPerson (setRun p .running s)
    let s := opEval 1 (opEval 0 (cicUpdate s))
    let s := setLeaf 9 4 (logEvent 7 p "HANDOVER_END" [w32 (s.person p).cores] s)
    startWaiting (answerMove p (fun d t => answerOk d (execText t p) t) s)
  | _, _ => s

/-! ### Restarts (R160, R195, R196) -/

/-- A person leaves its cores to be restarted: what it holds is reclaimed and reset. -/
def takeDown (p : Nat) (s : State) : State :=
  let m := (s.person p).cores
  let drop := fun c t => setCore c (fun k => { k with sb := k.sb.filter fun e => decide (e.person ≠ p) }) t
  let s := forAll (maskCores m) drop s
  personReset p (stopPerson p .restarting (setPerson p (fun q => { q with moveTo := 0, deferred := false }) s))

/-- An automatic restart (R196): a place, or suspension. -/
def autoRestart (p : Nat) (s : State) : State :=
  if 3 ≤ (s.person p).restarts then suspend p s
  else match choosePlace s p with
    | none => suspend p s
    | some m => startAt p m (setPerson p (fun q => { q with restarts := q.restarts + 1, afresh := true }) s)

/-- A restart by order, or of a person that waits for a core (R197): without a place it stays stopped, to be started later. -/
def orderedStart (p : Nat) (s : State) : State :=
  match choosePlace s p with
  | none => setPerson p (fun q => { q with deferred := true }) (setRun p .stopped s)
  | some m => startAt p m s

/-- The self-check of a person passes: its counter follows its SV, what it held is reclaimed, and it starts (R285, R289, R291). -/
def checkPassed (p : Nat) (s : State) : State :=
  let sv := match s.img p with | some i => i.sv | none => 0
  let s := setPerson p (fun q => { q with failed := false }) (takeDown p s)
  let s := setBunDone (stepCounter (2 + p) sv { s with bun := { s.bun with check := none } })
  let s := forNat 4 (fun c t => pickPerson c t) s
  orderedStart p (partResult p 1 s)

/-! ### Fences (R201, R202) -/

/-- A core is fenced: its banks are reclaimed and zeroed; retention keeps the fence (R201). -/
def fenceNow (c : Nat) (byOrder : Bool) (s : State) : State :=
  let s := zeroNow c (reclaimCore c s)
  let s := setCore c (fun k => { k with fenced := true, byOrder := byOrder }) s
  let m := s.snt.fences
  let o := s.snt.fencesByOrder
  let s := { s with wit := { s.wit with fencing := vset s.wit.fencing c false },
                    snt := { s.snt with fences := if maskBit m c then m else m + 2 ^ c,
                                        fencesByOrder := if byOrder && !maskBit o c then o + 2 ^ c else o } }
  setLeaf 9 3 (logEvent 7 0 "WITNESS.FENCE" [w32 c, 1] (cicUpdate s))

/-- A fence is lifted (R200, R201). -/
def unfence (c : Nat) (s : State) : State :=
  let clr := fun m => if maskBit m c then m - 2 ^ c else m
  let s := setCore c (fun k => { k with fenced := false, byOrder := false, selftestFail := false }) s
  let s := { s with snt := { s.snt with fences := clr s.snt.fences, fencesByOrder := clr s.snt.fencesByOrder } }
  setLeaf 9 3 (logEvent 7 0 "WITNESS.FENCE" [w32 c, 0] (cicUpdate s))

/-- Orders on a core's fence that wait get their answer. -/
def answerCore (c : Nat) (f : ReplyTo → State → State) (s : State) : State :=
  let l := s.oru.awaitCore.filter fun q => decide (q.1 = c)
  forAll l (fun q t => f q.2 t) (setOru (fun o => { o with awaitCore := o.awaitCore.filter fun q => decide (q.1 ≠ c) }) s)

/-- An ordered fence is made once no person is on the core any more, nor on its way to it (R202). -/
def tryFence (c : Nat) (s : State) : State :=
  if vget s.wit.fencing c && ((List.range 7).all fun q =>
      !((s.running q || decide ((s.person q).run = .handover)) && maskBit ((s.person q).cores ||| (s.person q).moveTo) c)) &&
      (s.core c).sb.isEmpty then
    answerCore c (fun d t => answerOk d (tx "CORE " ++ decText c ++ tx " FENCED") t) (fenceNow c true s)
  else s

/-- What waited for a core to be left, or for its stores to leave, goes on (R197, R202): fences and starts. -/
def placesOn (s : State) : State :=
  let s := forNat 4 (fun c t => tryFence c t) s
  if s.stw.persons.any fun q => decide (q.run = .restarting) && decide (q.moveTo ≠ 0) then startWaiting s else s

/-- Where a person goes when a core it runs on is fenced by order (R202): a mask, or none. -/
def fenceMove (s : State) (p c : Nat) : Option Nat :=
  match s.witnessOn p with
  | none =>
    (fewest s ((List.range 4).filter fun d => decide (d ≠ c) && singleOk s p d && decide ((vget (s.person p).win d).2 ≠ 0) &&
      banksFit s p d [])).map fun d => 2 ^ d
  | some pr =>
    if !(s.row p).witness ∧ coreUsable s (buddy c) then some (2 ^ buddy c)
    else
      let plan := evictPlan s p (1 - pr)
      if pairOk s p (1 - pr) ∧ (maskCores (pairMask (1 - pr))).all fun d => banksLeft s p d plan then some (pairMask (1 - pr)) else none

/-- The persons on a core that is to be fenced move by hand-over or stop; then the fence is made, at once or when they have left
(R202). -/
def clearCore (c : Nat) (s : State) : State :=
  let move := fun (p : Nat) (t : State) => match fenceMove t p c with
    | some m =>
      let t := match maskPair m with | some pr => displace p pr t | none => t
      beginMove p m t
    | none => setPerson p (fun q => { q with deferred := true }) (haltPerson p .stopped t)
  placesOn (forAll (s.byRank.filter fun p => s.placedOn p c) move s)

/-- A fence by order begins (R202). -/
def beginFence (c : Nat) (s : State) : State :=
  clearCore c { s with wit := { s.wit with fencing := vset s.wit.fencing c true } }

/-! ### Divergence (R194, R195, R209) -/

/-- The record of a divergence (R195 step 1): registers, event log, leaf with WITNESS_INFO, count. -/
def noteDivergence (pr p : Nat) (r : DivReg) (s : State) : State :=
  let s := { s with wit := { s.wit with div := vset s.wit.div pr r } }
  let s := setPerson p (fun q => { q with divTotal := satInc q.divTotal 255 }) s
  let k := bits r.info 3 0
  setLeafD 9 0 [(5, p * 256 + pr * 16 + k)] (logEvent 7 p "WITNESS.DIVERGE" [r.info, r.pc, r.lead, r.trail] s)

/-- What an INFO word says (WIT_DIVA). -/
def divInfo (reg unit part p kind : Nat) : Word := w32 (reg * 0x1000000 + unit * 0x100000 + part * 0x10000 + p * 256 + kind)

/-- The pair of a person stops, what the person holds is reclaimed, both cores are tested (R194, R195). -/
def diverge (pr p : Nat) (r : DivReg) (s : State) : State :=
  let s := takeDown p (noteDivergence pr p r s)
  let test := fun (c : Nat) (t : State) =>
    setCore c (fun k => { k with underTest := true })
      { t with wit := { t.wit with why := vset t.wit.why c (some .divergence) } }
  let s := test (2 * pr) (test (2 * pr + 1) s)
  { s with wit := { s.wit with waiting := vset s.wit.waiting pr p } }

end Sys2Proof.Machine
end

