-- ==== Sys2Proof/Machine/Units.lean ====
section
/-! DEFINITION. What one executed syllable of the A, C and M units produces: register writes with their latency (R68), sticky flags, a divide. -/

namespace Sys2Proof.Machine

/-- The products of one executed syllable. -/
structure SylOut where
  res : List (Nat × Wr) := []
  fl : Sticky := {}
  div : Option (List (Nat × Word) × Nat) := none
  deriving DecidableEq, Repr, Inhabited

/-- One w register, no flags. -/
def outW (lat : Nat) (d : BitVec 6) (v : Word) : SylOut := { res := [(lat, .w d.toNat v false)] }

/-- One w register with flags. -/
def outF (lat : Nat) (d : BitVec 6) (r : WF) : SylOut := { res := [(lat, .w d.toNat r.1 false)], fl := r.2 }

/-- One predicate. -/
def outP (d : BitVec 6) (b : Bool) : SylOut := { res := [(1, .p d.toNat b)] }

/-- One accumulator with flags; latency 3 (R68). -/
def outA (d : BitVec 6) (r : AF) : SylOut := { res := [(3, .acc d.toNat r.1)], fl := r.2 }

/-- One binary32 result. -/
def outS (lat : Nat) (d : BitVec 6) (r : Nat × Sticky) : SylOut := { res := [(lat, .w d.toNat (w32 r.1) false)], fl := r.2 }

/-- One binary64 result in a pair. -/
def outD (lat : Nat) (d : BitVec 6) (r : Nat × Sticky) : SylOut :=
  { res := (pairWr d r.1).map fun q => (lat, q), fl := r.2 }

/-- A floating-point compare: predicate and flags, latency 1 (R68). -/
def outC (d : BitVec 6) (r : Bool × Sticky) : SylOut := { res := [(1, .p d.toNat r.1)], fl := r.2 }

/-! ### A units (R106) -/

def evalA (x : Ctx) (y : Syl) : SylOut :=
  let a := x.rw y.s1.toNat
  let b := val2 x y
  let pa := x.rp y.s1.toNat
  let pb := x.rp (reg2 y)
  match y.op with
  | .movi => outW 1 y.d b
  | .add => outF 1 y.d (aluAdd a b)
  | .sub => outF 1 y.d (if isImm y then aluSub b a else aluSub a b)
  | .adds => outF 1 y.d (aluAdds a b)
  | .subs => outF 1 y.d (aluSubs a b)
  | .andOp => outW 1 y.d (a &&& b)
  | .orOp => outW 1 y.d (a ||| b)
  | .xorOp => outW 1 y.d (a ^^^ b)
  | .andn => outW 1 y.d (a &&& ~~~b)
  | .shl => outW 1 y.d (aluShl a b)
  | .shr => outW 1 y.d (aluShr a b)
  | .sra => outW 1 y.d (aluSra a b)
  | .ror => outW 1 y.d (aluRor a b)
  | .min => outW 1 y.d (aluMin a b)
  | .max => outW 1 y.d (aluMax a b)
  | .minu => outW 1 y.d (aluMinu a b)
  | .maxu => outW 1 y.d (aluMaxu a b)
  | .abs => outF 1 y.d (aluAbs a)
  | .neg => outF 1 y.d (aluNeg a)
  | .cmpeq => outP y.d (a == b)
  | .cmpne => outP y.d (a != b)
  | .cmplt => outP y.d (decide (a.toInt < b.toInt))
  | .cmple => outP y.d (decide (a.toInt ≤ b.toInt))
  | .cmpltu => outP y.d (decide (a.toNat < b.toNat))
  | .cmpleu => outP y.d (decide (a.toNat ≤ b.toNat))
  | .cmpgt => outP y.d (decide (a.toInt > b.toInt))
  | .cmpge => outP y.d (decide (a.toInt ≥ b.toInt))
  | .pand => outP y.d (pa && pb)
  | .por => outP y.d (pa || pb)
  | .pandn => outP y.d (pa && !pb)
  | .pnot => outP y.d (!pa)
  | _ => {}

/-! ### C unit (R110) -/

def evalC (x : Ctx) (y : Syl) : SylOut :=
  let a := x.rw y.s1.toNat
  let b := val2 x y
  match y.op with
  | .crc p refl ww => outW (if ww = 2 then 2 else 1) y.d (cCrc p refl ww a b)
  | .par => outW 1 y.d (if cPar a then 1 else 0)
  | .parp => outP y.d (cPar a)
  | .brev => outW 1 y.d (cBrev a)
  | .brevb => outW 1 y.d (cBrevb a)
  | .bswap => outW 1 y.d (cBswap a)
  | .clz => outW 1 y.d (cClz a)
  | .ctz => outW 1 y.d (cCtz a)
  | .popc => outW 1 y.d (cPopc a)
  | .extu => outW 1 y.d (cExtu a b)
  | .exts => outW 1 y.d (cExts a b)
  | .ins => outW 1 y.d (cIns (x.rw y.d.toNat) a b)
  | .btst => outP y.d (cBtst a b)
  | .btsti => outP y.d (cBtst a b)
  | .bseti => outW 1 y.d (cBset a b)
  | .bclri => outW 1 y.d (cBclr a b)
  | .tstp => outP y.d (x.poisoned y.s1.toNat)
  | .clmull => outW 1 y.d (cClmull a b)
  | .clmulh => outW 1 y.d (cClmulh a b)
  | _ => {}

/-! ### M units (R122) -/

/-- A divide: what it writes and its time (R126, R128). -/
def outDiv (x : Ctx) (ct signed : Bool) (y : Syl) (pick : DivOut → List (Nat × Word)) : SylOut :=
  let a := x.rw y.s1.toNat
  let b := val2 x y
  let r := if signed then divSigned a b else divUnsigned a b
  { fl := r.fl, div := some (pick r, divTime ct signed a b) }

/-- Quotient alone, remainder alone, quotient and remainder in a pair. -/
def pickQ (d : BitVec 6) (r : DivOut) : List (Nat × Word) := [(d.toNat, r.q)]
def pickR (d : BitVec 6) (r : DivOut) : List (Nat × Word) := [(d.toNat, r.r)]
def pickQR (d : BitVec 6) (r : DivOut) : List (Nat × Word) := [(pairLow d, r.q), (pairLow d + 1, r.r)]

def evalM (x : Ctx) (ct : Bool) (y : Syl) : SylOut :=
  let a := x.rw y.s1.toNat
  let b := val2 x y
  let an := a.toNat
  let bn := b.toNat
  let dn := (x.rw y.d.toNat).toNat
  let pa := x.rpair y.s1
  let pb := x.rpair (BitVec.ofNat 6 (reg2 y))
  let pd := x.rpair y.d
  let rm := flagsRm x.flags
  let ftz := flagsFtz x.flags
  let acc := x.newestAcc y.d.toNat
  let src := x.ra y.s1.toNat
  match y.op with
  | .mul => outW 3 y.d (mMul a b)
  | .mulh => outW 3 y.d (mMulh a b)
  | .mulhu => outW 3 y.d (mMulhu a b)
  | .muli => outW 3 y.d (mMul a b)
  | .mulq31 => outF 3 y.d (mMulq31 a b)
  | .mul2hq => outF 3 y.d (mMul2hq a b)
  | .mac => outA y.d (mMac acc a b)
  | .macu => outA y.d (mMacu acc a b)
  | .msu => outA y.d (mMsu acc a b)
  | .macs => outA y.d (mMacs acc a b)
  | .mac2h => outA y.d (mMac2h acc a b)
  | .mac2hq => outA y.d (mMac2hq acc a b)
  | .msu2h => outA y.d (mMsu2h acc a b)
  | .clr => outA y.d (mClr, {})
  | .accw => outA y.d (mAccw a, {})
  | .accp => outA y.d (mAccp (x.rw (pairLow y.s1)) (x.rw (pairLow y.s1 + 1)), {})
  | .extr => outF 3 y.d (mExtr src (val2 x y).toNat)
  | .extl => outW 3 y.d (mExtl src)
  | .exth => outW 3 y.d (mExth src)
  | .extg => outW 3 y.d (mExtg src)
  | .divs => outDiv x ct true y (pickQ y.d)
  | .divu => outDiv x ct false y (pickQ y.d)
  | .rems => outDiv x ct true y (pickR y.d)
  | .remu => outDiv x ct false y (pickR y.d)
  | .divps => outDiv x ct true y (pickQR y.d)
  | .divpu => outDiv x ct false y (pickQR y.d)
  | .faddS => outS 4 y.d (fAdd f32 rm ftz an bn)
  | .fsubS => outS 4 y.d (fSub f32 rm ftz an bn)
  | .fmulS => outS 4 y.d (fMul f32 rm ftz an bn)
  | .fmaS => outS 4 y.d (fFma f32 rm ftz false false an bn dn)
  | .fmsS => outS 4 y.d (fFma f32 rm ftz false true an bn dn)
  | .fnmaS => outS 4 y.d (fFma f32 rm ftz true false an bn dn)
  | .fdivS => outS 12 y.d (fDiv f32 rm ftz an bn)
  | .fsqrtS => outS 14 y.d (fSqrt f32 rm ftz an)
  | .fminS => outS 4 y.d (fMinMax f32 ftz false an bn)
  | .fmaxS => outS 4 y.d (fMinMax f32 ftz true an bn)
  | .fcmpeqS => outC y.d (fCmpEq f32 ftz an bn)
  | .fcmpltS => outC y.d (fCmpLt f32 ftz an bn)
  | .fcmpleS => outC y.d (fCmpLe f32 ftz an bn)
  | .fcmpunS => outC y.d (fCmpUn f32 ftz an bn)
  | .fcvtSW => outS 4 y.d (fFromInt f32 rm a.toInt)
  | .fcvtSWu => outS 4 y.d (fFromInt f32 rm (Int.ofNat an))
  | .fcvtWS =>
    let r := fToInt f32 rm ftz (-(2 ^ 31)) (2 ^ 31 - 1) an
    outF 4 y.d (wInt r.1, r.2)
  | .fcvtWuS =>
    let r := fToInt f32 rm ftz 0 (2 ^ 32 - 1) an
    outF 4 y.d (wInt r.1, r.2)
  | .frintS => outS 4 y.d (fRint f32 rm ftz an)
  | .fabsS => outW 4 y.d (a &&& 0x7FFFFFFF)
  | .fnegS => outW 4 y.d (a ^^^ 0x80000000)
  | .fcvtDS => outD 6 y.d (fWiden ftz an)
  | .fcvtSD => outS 4 y.d (fNarrow rm ftz pa)
  | .faddD => outD 6 y.d (fAdd f64 rm ftz pa pb)
  | .fsubD => outD 6 y.d (fSub f64 rm ftz pa pb)
  | .fmulD => outD 6 y.d (fMul f64 rm ftz pa pb)
  | .fmaD => outD 6 y.d (fFma f64 rm ftz false false pa pb pd)
  | .fdivD => outD 22 y.d (fDiv f64 rm ftz pa pb)
  | .fsqrtD => outD 26 y.d (fSqrt f64 rm ftz pa)
  | _ => {}

/-- An integer divide (R73, R128). -/
def isDivide (o : Op) : Bool :=
  match o with
  | .divs | .divu | .rems | .remu | .divps | .divpu => true
  | _ => false

/-- What an executed A, C or M syllable produces; L and B syllables produce nothing here. -/
def evalUnit (x : Ctx) (ct : Bool) (y : Syl) : SylOut :=
  match y.unit with
  | .a0 | .a1 => evalA x y
  | .c => evalC x y
  | .m0 | .m1 => evalM x ct y
  | .l0 | .l1 | .b => {}

end Sys2Proof.Machine
end

