-- ==== Sys2Proof/Machine/Issue.lean ====
section
/-! DEFINITION. How a core issues a sentence (R64 to R95, R102 to R121, R135 to R137, R165 to R167): fetch, faults in their order, interlocks, effects; entry to faults and interrupts. -/

namespace Sys2Proof.Machine

/-! ### Who issues -/

/-- The core is the trailer of a witness person: its sentences follow the lead's (R188, R189). -/
def isTrailer (s : State) (c p : Nat) : Bool := (s.witnessOn p).isSome && decide (c % 2 = 1)

/-- The core can issue: its island runs, it is not halted, fenced or under test, and its person runs on it, a witness person on both
cores of its pair. -/
def coreLive (s : State) (c : Nat) : Bool :=
  let k := s.core c
  decide (vget s.isl.pairSt (pairOf c) = .run) && !k.halted && !k.fenced && !k.underTest &&
    decide (k.cur ≠ 0) && (s.placedOn k.cur c || leaving s c k.cur) && !isTrailer s c k.cur &&
    ((s.witnessOn k.cur).isNone || decide ((s.core (buddy c)).cur = k.cur))

/-! ### Fetch (R64, R79, R81) -/

/-- The outcome of a fetch: outside the window or unreadable, or the words up to the full stop. -/
inductive Fetched where
  | fault
  | words (ws : List Word) (closed : Bool)
  deriving DecidableEq, Repr

/-- Fetch words from an address until a full stop, at most n. -/
def fetchWords (s : State) (c p a n : Nat) : Fetched :=
  match n with
  | 0 => .words [] false
  | k + 1 =>
    if !s.inWindow c p a 4 || eccBad 2 c a 4 s then .fault
    else
      let w := (s.core c).word a
      if wFullStop w then .words [w] true
      else
        match fetchWords s c p (a + 4) k with
        | .fault => .fault
        | .words ws f => .words (w :: ws) f

/-- Fetching finds single-bit errors in the syllables read (R162). -/
def fetchEcc (c a n : Nat) (s : State) : State := eccRead 2 c a (4 * n) s

/-- The length in bytes of the sentence at an address. -/
def sentenceBytes (k : Core) (a n : Nat) : Nat :=
  match n with
  | 0 => 0
  | j + 1 => if wFullStop (k.word a) then 4 else 4 + sentenceBytes k (a + 4) j

/-- The address after the sentence at an address. -/
def afterSentence (k : Core) (a : Nat) : Nat := a + sentenceBytes k a 8

/-! ### The shape of a sentence -/

/-- The guard of a syllable holds (R72). -/
def guardOn (x : Ctx) (y : Syl) : Bool := x.rp y.guard.p.toNat != y.guard.inv

/-- The syllable a unit holds. -/
def sylOf (l : List (Nat × Syl)) (u : FUnit) : Option (Nat × Syl) := l.find? fun q => decide (q.2.unit = u)

/-- The units in the order of R91. -/
def unitOrder : List FUnit := [.l0, .l1, .m0, .m1, .a0, .a1, .c, .b]

/-- The syllables of a sentence in unit order. -/
def inUnitOrder (l : List (Nat × Syl)) : List (Nat × Syl) := unitOrder.filterMap (sylOf l)

/-- One load or store: size, address, kind. -/
structure Acc1 where
  y : Syl
  addr : Nat
  size : Nat
  store : Bool
  upd : Option (Nat × Word)
  deriving Repr

/-- The load or store of an L syllable, if it is one. -/
def accOf (x : Ctx) (y : Syl) : Option Acc1 :=
  if isLoad y.op || isStore y.op then
    let e := eaOf x y
    some { y := y, addr := e.1.toNat, size := (accessOf y.op).1, store := isStore y.op, upd := e.2 }
  else none

/-- Local access: the core's data memory, or a read of the code window (R102). -/
def isLocal (a : Acc1) : Bool :=
  match regionOf a.addr with
  | .imem => true
  | .dmem _ => true
  | _ => false

/-- A DEVICE access. -/
def isDevice (a : Acc1) : Bool := match regionOf a.addr with | .device _ => true | _ => false

/-- The access is misaligned, or a DEVICE access that is no word (R91, R97). -/
def misaligned (a : Acc1) : Bool :=
  decide (a.addr % a.size ≠ 0) || (isDevice a && decide (a.size ≠ 4))

/-- Why a dismissible load is not issued (R74, R78), in the order of R78. -/
def notIssued (s : State) (c p : Nat) (x : Ctx) (a : Acc1) : Option Nat :=
  if decide (a.y.mode = .idx) && x.poisoned (reg2 a.y) then some 5
  else if decide (a.addr % a.size ≠ 0) then some 3
  else if isDevice a then some 2
  else if !s.mayRead c p a.addr a.size then some 1
  else none

/-- The access goes to memory: not a dismissible load that is not issued. -/
def reaches (s : State) (c p : Nat) (x : Ctx) (a : Acc1) : Bool :=
  !(isDismissible a.y.op) || (notIssued s c p x a).isNone

/-! ### Interlocks (R72, R73) -/

/-- A syllable touches one of some w registers. -/
def touches (y : Syl) (rs : List Nat) : Bool :=
  (destsOf y ++ sourcesOf y).any fun r => match r with | .w k => rs.contains k.toNat | _ => false

/-- The w registers of outstanding shared loads and calls (R73, R119). -/
def outstanding (x : Ctx) : List Nat := x.loads.flatMap (fun l => l.dests) ++ x.calls.map fun q => q.dest

/-- The register interlocks: an outstanding shared load, call or divide, a second divide (R73). Predicates do not count (R72). -/
def regStall (x : Ctx) (l : List (Nat × Syl)) : Bool :=
  l.any fun q =>
    touches q.2 (outstanding x) ||
    (match x.div with
     | none => false
     | some d => isDivide q.2.op || touches q.2 (d.writes.map fun w => w.1))

/-- Shared accesses of a sentence, in program order; one that would fault or is not issued takes no resource. -/
def sharedAccs (s : State) (c p : Nat) (x : Ctx) (l : List (Nat × Syl)) : List Acc1 :=
  (inUnitOrder l).filterMap fun q =>
    match accOf x q.2 with
    | none => none
    | some a =>
      if isLocal a || misaligned a || !reaches s c p x a then none
      else if (if a.store then s.mayWrite c p a.addr else s.mayRead c p a.addr a.size) then some a
      else none

/-- The youngest place of the buffer that is a granule or DEVICE entry. -/
def youngest (sb : List SbEntry) : Option SbEntry :=
  (sb.reverse).find? fun e => match e.what with | .slot _ _ => false | _ => true

/-- Places of the buffer that count among its eight (R165): not slots on their way. -/
def sbUsed (sb : List SbEntry) : Nat :=
  (sb.filter fun e => match e.what with | .slot _ _ => false | _ => true).length

/-- A store to an address combines into the youngest entry (R165, R166). -/
def combines (sb : List SbEntry) (a : Nat) (device : Bool) : Bool :=
  match youngest sb with
  | none => false
  | some e => !device && !e.closed && match e.what with | .gran b _ => decide (b = a / 16) | _ => false

/-- Put a store into the buffer (R165, R166). -/
def sbStore (person stamp a : Nat) (device : Bool) (bs : Bytes) (sb : List SbEntry) : List SbEntry :=
  if combines sb a device then
    let e := (youngest sb).getD default
    sb.map fun f => if f.stamp = e.stamp then
      match f.what with
      | .gran b cs => { f with last := stamp, what := .gran b (bs.zipIdx.foldl (fun m q =>
          let k := a + q.2
          (m.filter fun z => decide (z.1 ≠ k)) ++ [(k, q.1)]) cs) }
      | _ => f
      else f
  else
    sb ++ [{ person := person, stamp := stamp, last := stamp, due := false, closed := false,
             what := if device then .dev a (w32 (leNat bs)) else .gran (a / 16) (bs.zipIdx.map fun q => (a + q.2, q.1)) }]

/-! ### Shared loads on their way (R117, R168, R171, R176, R177) -/

/-- Own stores of a core still on their way: buffered, in the gate, or waiting to commit. -/
def ownInFlight (s : State) (c : Nat) : List StTxn :=
  (vget s.gates.pairF (pairOf c) ++ vget s.gates.commitQ (pairOf c)).filter fun t => decide (t.core = c)

/-- A store of the core with a stamp below a bound has not committed. -/
def storesBefore (s : State) (c bound : Nat) : Bool :=
  ((s.core c).sb.any fun e => decide (e.stamp < bound) && match e.what with | .slot _ _ => false | _ => true) ||
  ((ownInFlight s c).any fun t => decide (t.stamp < bound) && match t.what with | .slot _ _ => false | _ => true)

/-- A load that leaves its core now follows on the gate what the cores of the pair have put there (R168): the stamps, of either
core, below which it has been put there. -/
def arriveGate (s : State) (c : Nat) : Nat × Nat :=
  let ahead := vget s.gates.pairF (pairOf c) ++ vget s.gates.commitQ (pairOf c)
  let bound := fun (h : Nat) => ((ahead.filter fun t => decide (t.core % 2 = h)).map fun t => t.stamp + 1).foldl Nat.max 0
  (bound 0, bound 1)

/-- What was ahead of a load on its gate has been performed (R168). -/
def gatePassed (s : State) (c : Nat) (g : Nat × Nat) : Bool :=
  !(vget s.gates.pairF (pairOf c) ++ vget s.gates.commitQ (pairOf c)).any fun t =>
    decide (t.stamp < if t.core % 2 = 0 then g.1 else g.2)

/-- A load of an address goes to FABRIC: it does not find its line in the cache (R169). -/
def leavesCore (s : State) (c a : Nat) : Bool :=
  match regionOf a with
  | .page _ => !cacheHit (s.core c) (a / 64)
  | _ => true

/-- The buffered stores an access overlaps, oldest first: stamp and bytes (R171). -/
def overlaps (k : Core) (a n : Nat) : List SbEntry :=
  k.sb.filter fun e => match e.what with
    | .gran _ cs => cs.any fun q => decide (a ≤ q.1) && decide (q.1 < a + n)
    | _ => false

/-- Bytes an entry forwards, if it covers the access whole (R171). -/
def forwards (e : SbEntry) (a n : Nat) : Option (Nat × Bytes) :=
  match e.what with
  | .gran _ cs =>
    if (List.range n).all fun i => cs.any fun q => decide (q.1 = a + i) then
      some (e.stamp, (List.range n).map fun i => cellGet 0 cs (a + i))
    else none
  | _ => none

/-- What a shared load waits for and what covers it (R117, R171, R176, R177): the stamp below which own stores must have
committed, and the buffered store it takes its value from. `fenced`: its sentence holds a FENCE.SL. -/
def loadHold (s : State) (c : Nat) (fenced : Bool) (a : Acc1) : Nat × Option (Nat × Bytes) :=
  let k := s.core c
  if isDevice a || fenced then (k.stamp, none)
  else
    let ov := overlaps k a.addr a.size
    let inGate := (ownInFlight s c).filter fun t => match t.what with
      | .gran _ cs => cs.any fun q => decide (a.addr ≤ q.1) && decide (q.1 < a.addr + a.size)
      | _ => false
    match ov.getLast?.bind fun e => forwards e a.addr a.size with
    | some f => (k.fence, some f)
    | none => ((ov.map (fun e : SbEntry => e.stamp + 1) ++ inGate.map fun t : StTxn => t.stamp + 1).foldl Nat.max k.fence, none)

/-- The buffered stores a load waits for take no later store, which would have to wait for the load (R165, R174): a choice
(assumption 22). -/
def closeBelow (hold : Nat) (sb : List SbEntry) : List SbEntry :=
  sb.map fun e => if e.stamp < hold then { e with closed := true } else e

/-- The sentence needs a ninth outstanding load, finds no buffer entry, or meets an object being zeroed (R73). -/
def memStall (s : State) (c p : Nat) (x : Ctx) (l : List (Nat × Syl)) : Bool :=
  let acc := sharedAccs s c p x l
  let loads := (acc.filter fun a => !a.store).length
  let calls := (l.filter fun q => decide (q.2.op = .scall)).length
  let stores := acc.filter fun a => a.store
  let held := (acc.filter fun a => !a.store).foldl (fun b a => closeBelow (loadHold s c false a).1 b) (s.core c).sb
  let sb := stores.foldl (fun b a => sbStore 0 0 a.addr (isDevice a) (List.replicate a.size 0) b) held
  (decide (loads + calls ≠ 0) && decide (8 < x.loads.length + x.calls.length + loads + calls)) ||
    (!stores.isEmpty && decide (8 < sbUsed sb)) ||
    l.any fun q => match accOf x q.2 with
      | none => false
      | some a => !misaligned a && reaches s c p x a &&
          (if a.store then s.mayWrite c p a.addr else s.mayRead c p a.addr a.size) && s.zeroing c a.addr

/-- L0 and L1 meet in one bank: one cycle is lost (R73). -/
def bankClash (s : State) (c p : Nat) (x : Ctx) (l : List (Nat × Syl)) : Bool :=
  let bank := fun u => match sylOf l u with
    | none => none
    | some q => match accOf x q.2 with
      | none => none
      | some a => if reaches s c p x a then (match regionOf a.addr with | .dmem b => some b | _ => none) else none
  match bank .l0, bank .l1 with
  | some a, some b => decide (a = b)
  | _, _ => false

/-! ### Faults (R91) -/

/-- A fault: cause code and EINFO. -/
structure Flt where
  code : Nat
  info : Word
  deriving DecidableEq, Repr

/-- The address of a syllable. -/
def sylAddr (x : Ctx) (i : Nat) : Word := x.pc + w32 (4 * i)

/-- ILLEGAL: the syllable that breaks a rule at decode, or a flow syllable executed in a delay sentence (R65, R84). -/
def illegalOf (x : Ctx) (sn : Sentence) : Option Nat :=
  let flow := if x.br.isSome then
      (sn.syls.filter fun q => isFlow q.2.op && guardOn x q.2).map fun q => q.1
    else []
  leastOf (flow ++ (match sn.bad with | none => [] | some i => [i]))

/-- The first value a function gives along a list. -/
def firstOf {α β : Type} (l : List α) (f : α → Option β) : Option β := l.findSome? f

/-- PRIV: MTC to a register that is RO (R62). -/
def privOf (ex : List (Nat × Syl)) : Option Flt :=
  firstOf ex fun q => if decide (q.2.op = .mtc) && ctlReadOnly q.2.d.toNat then
    some { code := 3, info := w32 q.2.d.toNat } else none

/-- POISON_USE of one source register. -/
def poisonReg (x : Ctx) (r : Reg) : Option Flt :=
  match r with
  | .w k => if x.poisoned k.toNat then some { code := 4, info := w32 k.toNat } else none
  | _ => none

/-- POISON_USE: a poisoned source of a syllable other than LD.D and TSTP (R77). Where one syllable reads several poisoned
registers EINFO names the first of source 1, source 2, data or third operand: DESIGN CHOICE (assumption 108). -/
def poisonOf (x : Ctx) (ex : List (Nat × Syl)) : Option Flt :=
  firstOf ex fun q =>
    if isDismissible q.2.op || decide (q.2.op = .tstp) then none else firstOf (sourcesOf q.2) (poisonReg x)

/-- A call or return that the return-stack mode faults (R85). -/
def rsFault (x : Ctx) (mode : Nat) (o : Op) : Bool :=
  match o with
  | .call | .callr => decide (x.rsdepth = 16) && (decide (mode = 1) || (decide (mode = 2) && decide (1024 ≤ x.spillCount)))
  | .ret => decide (x.rsdepth = 0) && (decide (mode = 1) || (decide (mode = 2) && decide (x.spillCount = 0)))
  | _ => false

/-- LOOP_DEPTH and RSTACK (R85, R88). -/
def flowFault (x : Ctx) (mode : Nat) (ex : List (Nat × Syl)) : Option Flt :=
  firstOf ex fun q =>
    if decide (q.2.op = .loop) && decide (3 ≤ x.ldepth) then some { code := 5, info := sylAddr x q.1 }
    else if rsFault x mode q.2.op then some { code := 6, info := sylAddr x q.1 }
    else none

/-- An address fault of one order number for the L units (R91 orders 6 to 9). -/
def accFault (x : Ctx) (ex : List (Nat × Syl)) (code : Nat) (f : Acc1 → Bool) : Option Flt :=
  firstOf ex fun q => match accOf x q.2 with
    | none => none
    | some a => if f a then some { code := code, info := w32 a.addr } else none

/-- The slot a PUBLISH names lies in the person's charter range (R118). -/
def slotOwned (r : Row) (n : Nat) : Bool := decide (r.mirFirst ≤ n) && decide (n < r.mirFirst + r.mirCount)

/-- The custody operation of a syllable: kind, address, recipient (R120). -/
def cusReq (x : Ctx) (y : Syl) : Option (CusKind × Nat × Nat) :=
  match y.op with
  | .claim => some (.claim, (x.rw y.s1.toNat).toNat, 0)
  | .give => some (.give, (x.rw y.s1.toNat).toNat, (x.rw (reg2 y)).toNat)
  | .free => some (.free, (x.rw y.s1.toNat).toNat, 0)
  | _ => none

/-- CUSTODY of the B unit: a slot outside the range, a foreign free or give (R118, R150). -/
def bCustody (s : State) (c p : Nat) (x : Ctx) (ex : List (Nat × Syl)) : Option Flt :=
  firstOf ex fun q =>
    if decide (q.2.op = .publish) then
      let n := (x.rw (reg2 q.2)).toNat % 128
      if slotOwned (s.row p) n then none else some { code := 9, info := w32 (4 * n) }
    else match cusReq x q.2 with
      | none => none
      | some (k, a, r) => if cusCheck s k c p a r = .fault then some { code := 9, info := x.rw q.2.s1.toNat } else none

/-- The spill area of a person in SPILL mode (R86). -/
def inSpill (x : Ctx) (mode a : Nat) : Bool :=
  decide (mode = 2) && decide (x.spillBase.toNat ≤ a) && decide (a < x.spillBase.toNat + 0x1000)

/-- DIVZ and FP (R127, R136). -/
def divzOf (x : Ctx) (ex : List (Nat × Syl)) : Option Flt :=
  firstOf ex fun q =>
    if isDivide q.2.op && flagsDivzTrap x.flags && decide (val2 x q.2 = 0) then
      some { code := 0xB, info := sylAddr x q.1 } else none
def fpOf (x : Ctx) (r : Row) (ex : List (Nat × Syl)) : Option Flt :=
  if r.precise then
    firstOf ex fun q => if (evalUnit x r.constTime q.2).fl.trap then some { code := 0xC, info := sylAddr x q.1 } else none
  else none

/-- The faults of an executed sentence that is legal, in the order of R91 from PRIV on. -/
def faultOf (s : State) (c p : Nat) (x : Ctx) (ex : List (Nat × Syl)) : Option Flt :=
  let r := s.row p
  (privOf ex) <|> (poisonOf x ex) <|> (flowFault x r.rsMode ex) <|>
  (accFault x ex 7 fun a => !isDismissible a.y.op && misaligned a) <|>
  (accFault x ex 8 fun a => a.store && decide (a.addr < 0x20000)) <|>
  (accFault x ex 9 fun a => !isDismissible a.y.op &&
    (if a.store then !s.mayWrite c p a.addr else !s.mayRead c p a.addr a.size)) <|>
  (bCustody s c p x ex) <|>
  (accFault x ex 10 fun a => a.store && inSpill x r.rsMode a.addr) <|>
  (divzOf x ex) <|> (fpOf x r ex)

/-! ### Entry (R92 to R94, R137) -/

/-- Time passes without a sentence: a stalled attempt (R67, R73). -/
def stallOne (c p : Nat) (s : State) : State :=
  setCtx c p (fun x => { x with cycles := x.cycles + 1, stalls := x.stalls + 1 }) s

/-- The live loop registers in the order LS0, LE0, LC0, LS1 … (R62). -/
def loopWord (x : Ctx) (k : Nat) : Word := vget (match k % 3 with | 0 => x.ls | 1 => x.le | _ => x.lc) (k / 3)

/-- The saving and vectoring of an entry (R92 steps 2 to 5). -/
def enter (code : Nat) (info : Word) (fault : Bool) (x : Ctx) : Ctx :=
  let x := landAll x
  { x with
    epc := x.pc, ebt := ebtOf x.br, estat := x.ie,
    els := Vector.ofFn (fun i : Fin 9 => loopWord x i.val),
    eldepth := x.ldepth, ldepth := 0, ie := false, br := none,
    ecause := w32 code, einfo := info,
    pc := if fault then x.vec else x.vec + 0x40,
    waiting := false,
    faultOpen := fault || x.faultOpen }

/-- A fault now would be a double fault (R93, R94). -/
def isDouble (x : Ctx) : Bool :=
  (x.faultOpen && !x.ie) || (match x.br with | some b => decide (b.kind = .reti) | none => false)

/-- A double fault stops the person: causes and EPCs of both are logged, leaf PERSON_FAULT is set (R94). -/
def doubleFault (c p code : Nat) (s : State) : State :=
  let x := s.ctx c p
  let s := logEvent 5 p "PERSON_FAULT" [x.ecause, x.epc, w32 code, x.pc] s
  setLeaf 11 0 (if s.checking p then checkFailed p s else haltPerson p .stopped s)

/-- No shared load, no call and no custody operation is outstanding: what an entry waits for (R92 step 2, R148). -/
def settled (x : Ctx) : Bool := x.loads.isEmpty && x.calls.isEmpty && x.cus.isNone

/-- A custody operation the controller holds for a core is withdrawn with the sentence that made it (R91, R154). -/
def dropHeld (c : Nat) (s : State) : State :=
  if s.cus.held = some c then { s with cus := { s.cus with held := none } } else s

/-- Take a fault at the present sentence (R91, R92, R94); with FP-pending set the FP fault is taken in its place (R137). -/
def takeFault (c p : Nat) (f : Flt) (s : State) : State :=
  let x := s.ctx c p
  if !settled x then setCtx c p (fun z => { z with cycles := z.cycles + 1 }) s
  else
    let g : Flt := if x.fpPending && decide (f.code ≠ 0xC) then { code := 0xC, info := x.pc } else f
    let s := dropHeld c s
    if isDouble x then doubleFault c p g.code s
    else setCtx c p (fun x => { enter g.code g.info true x with fpPending := if g.code = 0xC then false else x.fpPending }) s

/-- A discarded store's CUSTODY fault at a sentence boundary (R183). -/
def takeStoreFault (c p : Nat) (s : State) : State :=
  let x := s.ctx c p
  match x.storeFaults with
  | [] => s
  | a :: rest =>
    if !settled x then setCtx c p (fun x => { x with cycles := x.cycles + 1 }) s
    else if x.fpPending then takeFault c p { code := 9, info := a } s
    else takeFault c p { code := 9, info := a } (setCtx c p (fun x => { x with storeFaults := rest }) s)

/-! ### Interrupts (R92, R93, R116, R215) -/

/-- An interrupt is due at a boundary: a candidate stands at the core, IE is 1, no RETI is under way, and no custody operation
waits at the controller. -/
def irqDue (s : State) (c : Nat) : Bool :=
  let p := (s.core c).cur
  let x := s.ctx c p
  x.ie && decide (vget (s.core c).cand p ≠ 0) && x.cus.isNone && decide (s.cus.held ≠ some c) &&
    (match x.br with | some b => decide (b.kind ≠ .reti) | none => true)

/-- The core may take an interrupt now: it is due, what is outstanding has landed, and no store's fault comes before it (R92,
R183). -/
def mayEnter (s : State) (c : Nat) : Bool :=
  let x := s.ctx c (s.core c).cur
  coreLive s c && irqDue s c && settled x && x.storeFaults.isEmpty

/-- Take an interrupt that is due, once what is outstanding has landed; with FP-pending set the FP fault is taken and the
interrupt stays pending (R92, R137). -/
def takeIrq (c p : Nat) (s : State) : State :=
  let x := s.ctx c p
  if !settled x then setCtx c p (fun z => { z with cycles := z.cycles + 1 }) s
  else if x.fpPending then takeFault c p { code := 0xC, info := x.pc } s
  else setCtx c p (enter 0x10 (w32 (vget (s.core c).cand p)) false) s

/-! ### Person switch (R95) -/

/-- A core may leave its person now: results have landed, the buffer is empty, no custody operation waits, no RETI is under way
(R92, R93, R95). -/
def mayLeave (s : State) (c : Nat) : Bool :=
  let k := s.core c
  settled (s.ctx c k.cur) && k.sb.isEmpty && decide (s.cus.held ≠ some c) && !inReti s c k.cur

/-- A core goes from its person to another (R95), whose candidate is sent to it (R213). -/
def goTo (c q : Nat) (s : State) : State :=
  cicUpdate (setCore c (fun k => { k with cur := q, switchDue := false }) (setCtx c (s.core c).cur landAll s))

/-- Make the switch that is due, once results have landed and the buffer is empty; FP-pending is a barrier (R95, R137). Where a
witness person leaves its lead, its trailer takes up a person of its own, and it may do so while the person waits. A person in WAIT
whose candidate is on its way is no more idle. -/
def trySwitch (c : Nat) (s : State) : State :=
  let k := s.core c
  let p := k.cur
  let x := s.ctx c p
  match nextRunnable s c with
  | none => if k.switchDue then setCore c (fun k => { k with switchDue := false }) s else s
  | some q =>
    let idle := x.waiting && decide (vget (vget s.cic.sent c) p = 0)
    if !(k.switchDue && !isTrailer s c p || idle) || !mayLeave s c then s
    else if x.fpPending then takeFault c p { code := 0xC, info := x.pc } s
    else
      let s := goTo c q s
      if (s.witnessOn p).isSome ∧ c % 2 = 0 ∧ (s.core (c + 1)).cur = p then goTo (c + 1) (choosePerson s (c + 1)) s else s

/-- The trailer of a pair whose lead has taken up a witness person leaves its own, at a boundary as for a switch, and joins it
(R95, R188, R191). -/
def joinTrail (c : Nat) (s : State) : State :=
  let p := (s.core c).cur
  let d := c + 1
  let r := (s.core d).cur
  if (s.witnessOn p).isNone || decide (c % 2 = 1) || decide (r = p) || (s.ctx c p).waiting then s
  else if !mayLeave s d then drainAll d s
  else if (s.ctx d r).fpPending then takeFault d r { code := 0xC, info := (s.ctx d r).pc } s
  else goTo d p s

/-! ### Effects of a sentence -/

/-- The writes of the executed syllables of A, C and M, put in flight (R67); `now` is the cycle the sentence issues in, after its
stalls (R73, R128). -/
def putResults (x0 : Ctx) (ct : Bool) (now : Nat) (ex : List (Nat × Syl)) (x : Ctx) : Ctx :=
  forAll ex (fun q z =>
    let o := evalUnit x0 ct q.2
    let z := forAll o.res (fun r t => { t with infl := insertFl { due := x0.seq + r.1, wr := r.2 } t.infl }) z
    { z with flags := flagsOr z.flags o.fl,
             fpPending := z.fpPending || o.fl.trap,
             div := match o.div with
               | none => z.div
               | some d => some { writes := d.1, lands := now + d.2 } }) x

/-- The sticky flags of a sentence's syllables, by OR (R63). -/
def orSticky (x0 : Ctx) (ct : Bool) (ex : List (Nat × Syl)) (x : Ctx) : Ctx :=
  { x with flags := ex.foldl (fun f q => flagsOr f (evalUnit x0 ct q.2).fl) x.flags }

/-- Put one write in flight with a latency. -/
def fly (x0 : Ctx) (lat : Nat) (q : Wr) (x : Ctx) : Ctx := { x with infl := insertFl { due := x0.seq + lat, wr := q } x.infl }

/-- The address register update of a load or store, and the address syllables (R98, R105); latency 1 (R68). -/
def putAddr (x0 : Ctx) (y : Syl) (x : Ctx) : Ctx :=
  match y.op with
  | .addx => fly x0 1 (.x y.d.toNat (x0.rx y.s1.toNat + val2 x0 y)) x
  | .addxr => fly x0 1 (.x y.d.toNat (x0.rx y.s1.toNat + val2 x0 y)) x
  | .movx => fly x0 1 (.x y.d.toNat (x0.rw y.s1.toNat)) x
  | .mfx => fly x0 1 (.w y.d.toNat (x0.rx y.s1.toNat) false) x
  | _ =>
    match accOf x0 y with
    | none => x
    | some a => match a.upd with
      | none => x
      | some u => fly x0 1 (.x u.1 u.2) x

/-- A load that is not issued or whose data is bad poisons its destination (R74, R78). -/
def putPoison (x0 : Ctx) (y : Syl) (cause addr : Nat) (x : Ctx) : Ctx :=
  let x := forAll (loadDests y.op y.d) (fun r t => fly x0 3 (.w r 0 true) t) x
  { x with deferAddr := w32 addr, deferCause := w32 cause }

/-- A load takes its place in program order; the stores it waits for take no later one. -/
def placeLoad (hold : Nat) (k : Core) : Core := { k with stamp := k.stamp + 1, sb := closeBelow hold k.sb }

/-- A slot takes its place behind the buffered stores (R118). -/
def bufferSlot (n : Nat) (v : BitVec 64) (k : Core) : Core :=
  { k with stamp := k.stamp + 1,
           sb := k.sb ++ [{ person := k.cur, stamp := k.stamp, last := k.stamp, due := true, closed := true, what := .slot n v }] }

/-- A shared store takes its place in program order (R165, R166). -/
def bufferStore (a : Nat) (dev : Bool) (bs : Bytes) (k : Core) : Core :=
  { k with stamp := k.stamp + 1, sb := sbStore k.cur k.stamp a dev bs k.sb }

/-- The cores whose local memories a core's person reads with its accesses: both of the pair for a witness person (R188). -/
def twins (s : State) (c p : Nat) : List Nat := if (s.witnessOn p).isSome then [c, c + 1] else [c]

/-- Issue one load (R102, R74, R75, R171): local data comes at latency 3, a shared load becomes outstanding. `s0` is the device
before any store of the sentence (R104); `fenced`: the sentence holds a FENCE.SL, whose loads follow its stores (R177). -/
def issueLoad (s0 : State) (c p : Nat) (x0 : Ctx) (fenced : Bool) (a : Acc1) (s : State) : State :=
  let y := a.y
  let dm := isDismissible y.op
  match (if dm then notIssued s0 c p x0 a else none) with
  | some cause => setCtx c p (putPoison x0 y cause a.addr) s
  | none =>
    if isLocal a then
      let space := if a.addr < 0x20000 then 2 else 1
      if eccBad space c a.addr a.size s then
        setCtx c p (putPoison x0 y 4 a.addr) (eccRead space c a.addr a.size s)
      else
        let bs := (s0.core c).localRead a.addr a.size
        let s := forAll (twins s c p) (fun d t => eccRead space d a.addr a.size t) s
        setCtx c p (fun x => forAll (loadWrites y.op y.d bs) (fun q t => fly x0 3 (.w q.1 q.2 false) t) x) s
    else
      let h := loadHold s c fenced a
      let goes := h.2.isNone && leavesCore s c a.addr && !storesBefore s c h.1
      let ld : ShLoad := { stamp := (s.core c).stamp, dests := loadDests y.op y.d, addr := a.addr, size := a.size,
                           signed := (accessOf y.op).2.1, dismiss := dm, device := isDevice a, hold := h.1, fwd := h.2,
                           gate := if goes then some (arriveGate s c) else none }
      let s := setCtx c p (fun x => { x with loads := x.loads ++ [ld] }) (setCore c (placeLoad h.1) s)
      if isDevice a then drainAll c s else s

/-- Issue one store (R102, R165, R166): local stores write the bank at once, shared ones enter the buffer. -/
def issueStore (c : Nat) (x0 : Ctx) (a : Acc1) (s : State) : State :=
  let bs := storeBytes x0 a.y
  if isLocal a then
    let cs := twins s c (s.core c).cur
    let part := decide (a.size < 4)
    let bad := part && eccBad 1 c a.addr a.size s
    let s := forAll cs (fun d t => if part then eccRead 1 d a.addr a.size t else eccOver 1 d a.addr a.size t) s
    if bad then s else dmemWrite c a.addr bs s
  else
    setCore c (bufferStore a.addr (isDevice a) bs) s

/-! ### Flow (R83 to R93) -/

/-- Push a return address (R85); in SPILL mode the oldest entry moves to the spill area at depth 16. -/
def rsPush (c p mode : Nat) (a : Word) (s : State) : State :=
  let x := s.ctx c p
  let top := (x.rsp + 1) % 16
  let s :=
    if x.rsdepth = 16 ∧ mode = 2 then
      let a := x.spillBase.toNat + 4 * x.spillCount
      let s := forAll (twins s c p) (fun d t => eccOver 1 d a 4 t) s
      let s := dmemWrite c a (leBytes 4 (vget x.rs top).toNat) s
      setCtx c p (fun x => { x with spillCount := x.spillCount + 1, cycles := x.cycles + 1 }) s
    else s
  setCtx c p (fun x => { x with rs := vset x.rs top a, rsp := top, rsdepth := Nat.min 16 (x.rsdepth + 1) }) s

/-- Pop a return address (R85): the value and the state after. What an uncorrectable word of the spill area gives is free
(assumption 115). -/
def rsPop (c p mode : Nat) (s : State) : Word × State :=
  let x := s.ctx c p
  if x.rsdepth = 0 ∧ mode = 2 then
    let a := x.spillBase.toNat + 4 * (x.spillCount - 1)
    let bad := eccBad 1 c a 4 s
    let v := if bad then w32 (Config.free s.free) else (s.core c).word a
    let s := forAll (twins s c p) (fun d t => eccRead 1 d a 4 t) (if bad then bumpFree s else s)
    (v, setCtx c p (fun x => { x with spillCount := x.spillCount - 1, cycles := x.cycles + 1 }) s)
  else
    (vget x.rs x.rsp, setCtx c p (fun x => { x with rsp := (x.rsp + 15) % 16, rsdepth := x.rsdepth - 1 }) s)

/-- The innermost level is evaluated at its LE, and the next-outer one with it where it shares that LE (R89):
the next sentence, with the levels as they stand then. A level whose LC is 0, which only a RETI with ELC 0 leaves, is removed as
with LC 1: DESIGN CHOICE (assumption 110). -/
def loopEnd (fuel : Nat) (next : Word) (x : Ctx) : Word × Ctx :=
  match fuel with
  | 0 => (next, x)
  | n + 1 =>
    let i := x.ldepth - 1
    if x.ldepth = 0 ∨ vget x.le i ≠ x.pc then (next, x)
    else if 1 < (vget x.lc i).toNat then
      (vget x.ls i, { x with lc := vset x.lc i (vget x.lc i - 1) })
    else loopEnd n next { x with ldepth := i }

/-- Activate a loop level (R88, R115). -/
def loopPush (ls le lc : Word) (x : Ctx) : Ctx :=
  { x with ls := vset x.ls x.ldepth ls, le := vset x.le x.ldepth le, lc := vset x.lc x.ldepth lc,
           ldepth := x.ldepth + 1 }

/-- The return address of a call: the sentence after the two delay sentences (R83). -/
def returnAddr (k : Core) (next : Word) : Word :=
  w32 (afterSentence k (afterSentence k next.toNat))

/-- A RETI takes effect as its target issues (R93). -/
def retiDone (x : Ctx) : Ctx :=
  { x with
    ie := x.estat, faultOpen := false,
    ls := Vector.ofFn (fun i : Fin 3 => vget x.els (3 * i.val)),
    le := Vector.ofFn (fun i : Fin 3 => vget x.els (3 * i.val + 1)),
    lc := Vector.ofFn (fun i : Fin 3 => vget x.els (3 * i.val + 2)),
    ldepth := x.eldepth,
    pc := putBits x.epc 1 0 0,
    br := if bits x.ebt 1 0 = 0 then none
          else some { target := putBits x.ebt 1 0 0, left := bits x.ebt 1 0, kind := .flow } }

/-- Move on after a sentence that held no taken flow syllable: loop ends, delay sentences, targets (R83, R89, R90). -/
def advance (next : Word) (x : Ctx) : Ctx :=
  match x.br with
  | none =>
    let r := loopEnd 3 next x
    { r.2 with pc := r.1 }
  | some b =>
    if 1 < b.left then { x with pc := next, br := some { b with left := b.left - 1 } }
    else match b.kind with
      | .flow => { x with pc := b.target, br := none }
      | .reti => retiDone x

/-- A taken flow syllable: LE is evaluated first, the target waits two sentences (R83, R90). -/
def takeFlow (t : Word) (kind : BrKind) (x : Ctx) : Ctx := { x with br := some { target := t, left := 2, kind := kind } }

/-- What the executed B syllable does beyond its register results, and where the core goes next; `next` is the address after
the sentence, `late` the sticky flags of its other syllables, which an MTC to FLAGS does not lose (R63). An LPOP removes its level
before LE is evaluated, and with no level it does nothing: DESIGN CHOICE (assumptions 19 and 111). -/
def bFlow (c p mode : Nat) (late : Ctx → Ctx) (x0 : Ctx) (next : Word) (b : Option (Nat × Syl)) (s : State) : State :=
  let adv := setCtx c p (advance next)
  match b with
  | none => adv s
  | some (_, y) =>
    let rel := x0.pc + val2 x0 y * 4
    let ind := putBits (x0.rw y.s1.toNat) 1 0 0
    match y.op with
    | .br => setCtx c p (takeFlow rel .flow) (adv s)
    | .brr => setCtx c p (takeFlow ind .flow) (adv s)
    | .call =>
      let s := adv s
      setCtx c p (takeFlow rel .flow) (rsPush c p mode (returnAddr (s.core c) (s.ctx c p).pc) s)
    | .callr =>
      let s := adv s
      setCtx c p (takeFlow ind .flow) (rsPush c p mode (returnAddr (s.core c) (s.ctx c p).pc) s)
    | .ret =>
      let r := rsPop c p mode (adv s)
      setCtx c p (takeFlow r.1 .flow) r.2
    | .reti => setCtx c p (takeFlow 0 .reti) (adv s)
    | .loop =>
      let cnt := x0.rw y.s1.toNat
      let le := next + val2 x0 y * 4
      if cnt = 0 then
        setCtx c p (fun x => { x with cycles := x.cycles + 2, pc := w32 (afterSentence (s.core c) le.toNat) }) (adv s)
      else setCtx c p (loopPush next le cnt) (adv s)
    | .lpop => adv (setCtx c p (fun x => { x with ldepth := x.ldepth - 1 }) s)
    | .mtc => adv (setCtx c p (fun x => late (writeCtl x y.d.toNat (x0.rw y.s1.toNat))) s)
    | .mfc => adv (setCtx c p (fly x0 1 (.w y.d.toNat (readCtl x0 (s.row p).modes y.s1.toNat) false)) s)
    | .fenceSl =>
      adv (drainAll c (setCore c (fun k => { k with fence := k.stamp }) s))
    | .publish =>
      let n := (x0.rw (reg2 y)).toNat % 128
      let v := BitVec.ofNat 64 (x0.rpair y.s1)
      adv (drainAll c (setCore c (bufferSlot n v) s))
    | .scall =>
      let q : SCallRec := { dest := y.d.toNat, svc := (val2 x0 y).toNat, arg := x0.rw y.s1.toNat,
                            hold := (s.core c).stamp, result := none }
      adv (drainAll c (setCtx c p (fun x => { x with calls := x.calls ++ [q] }) s))
    | .wait =>
      let s := drainAll c (adv s)
      if vget (s.core c).cand p ≠ 0 then s else cicUpdate (setCtx c p (fun x => { x with waiting := true }) s)
    | _ => adv s

/-! ### Custody syllables (R120, R148) -/

/-- The custody operation of an executed sentence. -/
def cusOf (x : Ctx) (ex : List (Nat × Syl)) : Option (Nat × Syl × CusKind × Nat × Nat) :=
  firstOf ex fun q => (cusReq x q.2).map fun r => (q.1, q.2, r.1, r.2.1, r.2.2)

/-- A custody sentence is held: own stores of earlier sentences have not committed, a queue it needs is full, or another core's
operation waits for one (R148, R154). It is judged on all its syllables, whatever their predicates (R72). -/
def cusHeld (s : State) (c p : Nat) (x : Ctx) (l : List (Nat × Syl)) : Bool :=
  match cusOf x (inUnitOrder l) with
  | none => false
  | some (_, _, k, a, r) =>
    !(s.core c).sb.isEmpty || !(ownInFlight s c).isEmpty ||
      (match s.cus.held with | some d => decide (d ≠ c) | none => false) ||
      (decide (cusCheck s k c p a r = .done) && cusQueueFull s k c p a)

/-- The operation waits at the head of the controller's order for a queue entry (R154). -/
def cusWaitsQueue (s : State) (c p : Nat) (x : Ctx) (ex : List (Nat × Syl)) : Bool :=
  match cusOf x ex with
  | none => false
  | some (_, _, k, a, r) =>
    (s.core c).sb.isEmpty && (ownInFlight s c).isEmpty && decide (cusCheck s k c p a r = .done) &&
      cusQueueFull s k c p a && s.cus.held.isNone

/-- The controller serves the core's custody operation (R148 to R151, R154): it is stamped as it is presented (R37), held while a
queue it needs is full, and else answered. Where the object has changed hands since its sentence was judged, the refusal is that
sentence's fault (assumption 112). -/
def cusServe (c p : Nat) (r : CusRun) (s : State) : State :=
  let s := if s.cus.held = some c then s else stampArrival s
  let ans := cusCheck s r.kind c p r.addr r.recip
  if ans = .done ∧ cusQueueFull s r.kind c p r.addr then { s with cus := { s.cus with held := some c } }
  else
    let s := setCtx c p (fun x => { x with cus := none }) (dropHeld c s)
    if ans = .fault then
      takeFault c p { code := 9, info := w32 r.addr }
        (if (s.ctx c p).fpPending then s else cusEffect ans r.kind c p r.addr r.recip s)
    else
      setCtx c p (fun x => advance r.next
        { x with infl := insertFl { due := x.seq, wr := .w r.dest (w32 (cusStatus ans)) false } x.infl })
        (cusEffect ans r.kind c p r.addr r.recip s)

/-- A custody operation that its core has sent reaches the controller once the core's own stores and loads before it are done
(R148, R168, R182) and no other core's operation is held there (R154). -/
def cusTry (c p : Nat) (s : State) : State :=
  let x := s.ctx c p
  match x.cus with
  | none => s
  | some r =>
    if storesBefore s c r.hold || !x.loads.isEmpty ||
        (match s.cus.held with | some d => decide (d ≠ c) | none => false) ||
        (decide (cusCheck s r.kind c p r.addr r.recip = .fault) && !x.calls.isEmpty) then s
    else cusServe c p r s

/-! ### Issue -/

/-- FP-pending is set and the sentence holds a barrier that executes: the FP fault in its place (R137). -/
def barrierOf (x : Ctx) (ex : List (Nat × Syl)) : Option Flt :=
  if x.fpPending then
    firstOf ex fun q => match q.2.op with
      | .fbar | .wait | .publish | .scall => some { code := 0xC, info := sylAddr x q.1 }
      | _ => none
  else none

/-- The sentence issues: all its effects (R63, R67, R104, R172). Loads see memory as it stood before the stores of the sentence,
but shared loads beside a FENCE.SL come after them (R177). A custody operation goes to the controller after the sentence's stores
(R182), and the core moves on when it is answered. -/
def issueGo (c p : Nat) (x0 : Ctx) (sn : Sentence) (ex : List (Nat × Syl)) (s : State) : State :=
  let r := s.row p
  let clash := bankClash s c p x0 sn.syls
  let s := setCtx c p (fun x =>
    { putResults x0 r.constTime (x0.cycles + if clash then 1 else 0) ex x with
      seq := x0.seq + 1, sentences := x0.sentences + 1,
      cycles := x0.cycles + (if clash then 2 else 1), stalls := x0.stalls + (if clash then 1 else 0) }) s
  let s := forAll ex (fun q t => setCtx c p (putAddr x0 q.2) t) s
  let accs := ex.filterMap fun q => accOf x0 q.2
  let fenced := ex.any fun q => decide (q.2.op = .fenceSl)
  let after := fun (a : Acc1) => fenced && !isLocal a
  let s0 := s
  let s := forAll (accs.filter fun a => !a.store && !after a) (fun a t => issueLoad s0 c p x0 false a t) s
  let s := forAll (accs.filter fun a => a.store) (fun a t => issueStore c x0 a t) s
  let s := forAll (accs.filter fun a => !a.store && after a) (fun a t => issueLoad s0 c p x0 true a t) s
  let next := x0.pc + w32 (4 * sn.len)
  match cusOf x0 ex with
  | none => bFlow c p r.rsMode (orSticky x0 r.constTime ex) x0 next (sylOf ex .b) s
  | some (_, y, k, a, q) =>
    let run : CusRun := { kind := k, addr := a, recip := q, dest := y.d.toNat, next := next, hold := (s.core c).stamp }
    cusTry c p (drainAll c (setCtx c p (fun x => { x with cus := some run }) s))

/-- A local load that meets an uncorrectable word on one core of a pair only: its syllable, and whether it is the lead's (R194). -/
def poisonDiffers (s : State) (c p : Nat) (x : Ctx) (ex : List (Nat × Syl)) : Option (Syl × Bool) :=
  firstOf ex fun q => match accOf x q.2 with
    | none => none
    | some a =>
      let space := if a.addr < 0x20000 then 2 else 1
      let bad := fun d => eccBad space d a.addr a.size s
      if !a.store && isLocal a && reaches s c p x a && bad c != bad (c + 1) then some (q.2, bad c) else none

/-- The sentence issues; under witness execution a poison bit that differs is a divergence of KIND 0x1 (R194). -/
def issuePair (c p : Nat) (x : Ctx) (sn : Sentence) (ex : List (Nat × Syl)) (s : State) : State :=
  match s.witnessOn p, poisonDiffers s c p x ex with
  | some pr, some (y, lead) =>
    diverge pr p { info := divInfo y.d.toNat (if y.unit = .l0 then 0 else 1) 5 p 1, pc := x.pc,
                   lead := w32 (bitN lead), trail := w32 (bitN (!lead)) } s
  | _, _ => issueGo c p x sn ex s

/-- Results due by now land, a divide whose time has passed too (R67, R128). -/
def landNow (x : Ctx) : Ctx :=
  let y := landDue x
  match y.div with
  | none => y
  | some d =>
    if d.lands < y.cycles then { forAll d.writes (fun q => applyWr (.w q.1 q.2 false)) y with div := none } else y

/-- An executed sentence meets a fault (R91); the controller's refusal of a foreign free or give comes after own stores have
committed, and is counted (R150). -/
def issueFault (c p : Nat) (x : Ctx) (sn : Sentence) (ex : List (Nat × Syl)) (f : Flt) (s : State) : State :=
  if f.code = 9 ∧ cusHeld s c p x sn.syls then drainAll c (stallOne c p s)
  else
    takeFault c p f (match cusOf x ex with
      | some (_, _, k, a, q) =>
        if f.code = 9 ∧ cusCheck s k c p a q = .fault ∧
            (accFault x ex 9 fun a => !isDismissible a.y.op &&
              (if a.store then !s.mayWrite c p a.addr else !s.mayRead c p a.addr a.size)) = none
            ∧ settled x ∧ !x.fpPending then cusEffect .fault k c p a q (stampArrival s)
        else s
      | none => s)

/-- A legal sentence whose registers are free: its faults, then what it waits for, then its effects (R73, R91, R137, R154). -/
def issueLegal (c p : Nat) (x : Ctx) (sn : Sentence) (s : State) : State :=
  let ex := inUnitOrder (sn.syls.filter fun q => guardOn x q.2)
  match faultOf s c p x ex with
  | some f => issueFault c p x sn ex f s
  | none =>
    match barrierOf x ex with
    | some f => takeFault c p f s
    | none =>
      if memStall s c p x sn.syls then stallOne c p s
      else if cusHeld s c p x sn.syls then
        drainAll c (stallOne c p
          (if cusWaitsQueue s c p x ex then { stampArrival s with cus := { s.cus with held := some c } } else s))
      else issuePair c p x sn ex s

/-- The attempt at a fetched sentence: a custody operation of the last one goes first; then, in its place, the fault of a
discarded store or an interrupt that is due (R92, R183; which of the two goes first is assumption 113); then its fetch fault,
ILLEGAL, register interlocks, and the rest (R65, R73, R91). -/
def attempt (c p : Nat) (x : Ctx) (sn : Option Sentence) (s : State) : State :=
  if x.cus.isSome then cusTry c p (drainAll c (stallOne c p s))
  else if !x.storeFaults.isEmpty then takeStoreFault c p s
  else if irqDue s c then takeIrq c p s
  else match sn with
    | none => takeFault c p { code := 1, info := x.pc } s
    | some sn =>
      if !s.inWindow c p x.pc.toNat (4 * sn.len) then takeFault c p { code := 1, info := x.pc } s
      else match illegalOf x sn with
        | some i => takeFault c p { code := 2, info := sylAddr x i } s
        | none => if regStall x sn.syls then stallOne c p s else issueLegal c p x sn s

/-- One attempt to issue a sentence cut from the core's person's code (R64 to R95). -/
def issue (c : Nat) (sn : Option Sentence) (s : State) : State :=
  let p := (s.core c).cur
  let s := joinTrail c s
  if !coreLive s c then s
  else if (s.ctx c p).waiting then trySwitch c s
  else
    let t := setCtx c p landNow s
    let u := trySwitch c (mirrorTrail c p (attempt c p (t.ctx c p) sn t))
    if leaving s c p then pickPerson c u else u

/-- Issue the sentence of one syllable at the core's pc. -/
def issueOne (c : Fin 4) (y : Syl) (s : State) : State := issue c.val (some (oneSyllable y)) s

end Sys2Proof.Machine
end

