-- ==== Sys2Proof/Machine/Service.lean ====
section
/-! DEFINITION. Steward calls (R119, R159, R182): which call the steward serves, its descriptor and buffers, and where any order's outcome goes (R327). -/

namespace Sys2Proof.Machine

/-! ### Serving a call -/

/-- The first call of a person on a core that the steward has not taken up (R37), once its earlier stores have committed (R182). -/
def readyCall (s : State) (c p svc : Nat) (arg : Word) : Bool :=
  match (s.ctx c p).calls.find? fun q => !q.taken with
  | none => false
  | some q => decide (q.svc = svc) && decide (q.arg = arg) && !storesBefore s c q.hold

/-- The person whose call of a service with an argument the steward serves on a core: its current one, or another. In NAP the
steward is in WAIT and serves none (R46). -/
def callerOf (s : State) (c svc : Nat) (arg : Word) : Option Nat :=
  if s.isl.power = .nap then none
  else ((s.core c).cur :: (List.range 7)).find? fun p => decide (p ≠ 0) && readyCall s c p svc arg

/-- Mark the call as taken up. -/
def takeCall (c p : Nat) (s : State) : State :=
  let put := fun (l : List SCallRec) =>
    match l.findIdx? fun q => !q.taken with
    | some i => l.mapIdx fun j q => if j = i then { q with taken := true } else q
    | none => l
  mirrorTrail c p (setCtx c p (fun x => { x with calls := put x.calls }) s)

/-- Serve a call: nothing happens where no such call waits. The FABRIC that stamps calls counts an arrival (R37). -/
def serve (core : Fin 4) (svc : Nat) (arg : Word) (f : Nat → ReplyTo → State → State) (s : State) : State :=
  match callerOf s core.val svc arg with
  | none => s
  | some p => f p (.call core.val p svc arg) (takeCall core.val p (stampArrival s))

/-- Serve a call whose result is known at once. -/
def serveNow (core : Fin 4) (svc : Nat) (arg : Word) (f : Nat → State → Nat × State) (s : State) : State :=
  serve core svc arg (fun p d s => let r := f p s; match r.1 with
    | 0 => answerOk d [] r.2
    | e => answerErr d { code := e } r.2) s

/-- Check a person's buffer (R159): 302 with nothing counted outside shared SRAM, 302 and a foreign access on another's page. -/
def bufOk (p core a n : Nat) (s : State) : Bool × State :=
  match bufCheck s p a n with
  | .ok => (true, s)
  | .outside => (false, s)
  | .foreign x => (false, foreignAccess 6 core p x s)

/-- Bytes of a person's buffer; none answers 302. -/
def bufGet (p core a n : Nat) (s : State) : Option Bytes × State :=
  let r := bufOk p core a n s
  if r.1 then bufRead a n r.2 else (none, r.2)

/-- The four words of a descriptor. -/
def descOf (bs : Bytes) : List Nat := [leAt bs 0 4, leAt bs 4 4, leAt bs 8 4, leAt bs 12 4]

/-- Serve a call with a descriptor in shared SRAM (R159); one whose page is being zeroed waits (R155). -/
def serveDesc (core : Fin 4) (svc : Nat) (arg : Word) (f : Nat → ReplyTo → List Nat → State → State) (s : State) : State :=
  if bufZeroing s arg.toNat 16 then s
  else serve core svc arg (fun p d s =>
    match bufGet p core.val arg.toNat 16 s with
    | (none, s) => answerErr d { code := 302 } s
    | (some bs, s) => f p d (descOf bs) s) s

/-- The payload that a waiting call's descriptor names, `len` bytes at its first word, lies in a page of the caller that is being
zeroed: the call waits (R155). -/
def payloadZeroing (core : Fin 4) (svc : Nat) (arg : Word) (len : List Nat → Nat) (s : State) : Bool :=
  let w := descOf (s.sramRead arg.toNat 16)
  match callerOf s core.val svc arg with
  | none => false
  | some p =>
    decide (len w ≠ 0) && decide (bufCheck s p arg.toNat 16 = .ok) && decide (bufCheck s p (w.getD 0 0) (len w) = .ok) &&
      bufZeroing s (w.getD 0 0) (len w)

/-- Serve a call with a descriptor that names a payload. -/
def serveBuf (core : Fin 4) (svc : Nat) (arg : Word) (len : List Nat → Nat) (f : Nat → ReplyTo → List Nat → State → State)
    (s : State) : State :=
  if payloadZeroing core svc arg len s then s else serveDesc core svc arg f s

/-- Write a word of the descriptor. -/
def descPut (a i v : Nat) (s : State) : State := sramPut (a + 4 * i) (leBytes 4 v) s

/-! ### The services of 04 and 15 that need no decision slot -/

/-- TREE_SIGNAL (R358). -/
def execTreeSignal (core : Fin 4) (arg : Word) (s : State) : Host.Outcome State Fault Refusal :=
  .next (serveNow core 0x38 arg (fun p s => (0, setLeaf 5 (p - 1) s)) s)

/-- The binding a CELL_BIND names (R358): none for a bad kind or index. -/
def bindOf (s : State) (arg : Word) : Option CellBindTo :=
  let i := bits arg 14 12
  match bits arg 10 8 with
  | 0 => some .none
  | 1 => some .person
  | 2 => some (.feed i)
  | 3 => if 1 ≤ i ∧ i ≤ 6 then some (.run i) else none
  | 4 => some .life
  | 5 => if i < 4 ∧ !(decide (s.fuses.part = .an) && decide (2 ≤ i)) then some (.fence i) else none
  | _ => none

/-- The owner of a cell holds the right its binding needs (R356). -/
def bindRight (s : State) (p : Nat) (b : CellBindTo) : Bool :=
  match b with
  | .feed n => s.right p 3 && decide ((match s.stw.charter with | some ch => vget ch.feedOwner n | none => 0) = p)
  | .run q => decide (q = p) || s.right p 11
  | .life => s.right p 13
  | .fence _ => s.right p 10
  | _ => true

/-- CELL_BIND (R358). -/
def cellBind (p : Nat) (arg : Word) (s : State) : Nat × State :=
  let n := bits arg 6 0
  if cellOwner s n ≠ p then (201, s)
  else match bindOf s arg with
    | none => (302, s)
    | some b =>
      if !bindRight s p b then (201, s)
      else if (s.cell n).st = 2 then (301, s)
      else (0, toHost (.cell n (if b = .none then 0 else 1) 0 0) (setCell n (fun c => { c with bind := b }) s))

/-- CELL_BIND. -/
def execCellBind (core : Fin 4) (arg : Word) (s : State) : Host.Outcome State Fault Refusal :=
  .next (serveNow core 0x39 arg (fun p s => cellBind p arg s) s)

/-- CELL_TAKE (R358): the caller's oldest waiting order. -/
def cellTake (p : Nat) (d : ReplyTo) (a : Nat) (s : State) : State :=
  match s.win.cellQ.find? fun n => decide (cellOwner s n = p) with
  | none => answerErr d { code := 300 } s
  | some n =>
    let c := s.cell n
    let s := descPut a 0 ((c.order.getD 0) + n * 2 ^ 16 + c.wseq % 16 * 2 ^ 24) s
    let s := setWin (fun w => { w with cellQ := w.cellQ.filter fun k => decide (k ≠ n) }) s
    answerOk d [] (cellLevels (setCell n (fun c => { c with taken := true }) s))

/-- CELL_TAKE. -/
def execCellTake (core : Fin 4) (arg : Word) (s : State) : Host.Outcome State Fault Refusal :=
  .next (serveDesc core 0x3A arg (fun p d _ s => cellTake p d arg.toNat s) s)

/-- CELL_ANSWER (R358). -/
def cellAnswer (p : Nat) (arg : Word) (s : State) : Nat × State :=
  let n := bits arg 6 0
  let refused := arg.getLsbD 7
  let code := bits arg 12 8
  let c := s.cell n
  if refused ∧ code < 0x10 then (302, s)
  else if cellOwner s n ≠ p ∨ c.bind ≠ .person ∨ c.order.isNone ∨ !c.taken then (301, s)
  else (0, cellLevels (cellResult n (if refused then 4 else 3) (if refused then code else 0) (bits arg 19 16) s))

/-- CELL_ANSWER. -/
def execCellAnswer (core : Fin 4) (arg : Word) (s : State) : Host.Outcome State Fault Refusal :=
  .next (serveNow core 0x3B arg (fun p s => cellAnswer p arg s) s)

/-- OP_REQUEST (R41, R119): a point for the caller's own pair, or its withdrawal. -/
def opRequest (core p : Nat) (arg : Word) (s : State) : Nat × State :=
  let v := bits arg 2 0
  let pr := pairOf core
  if v = 5 ∨ v = 6 then (302, s)
  else (0, opEval pr (setIsl (fun k => { k with opReq := vmod k.opReq pr fun l => vset l p v }) s))

/-- OP_REQUEST. -/
def execOpRequest (core : Fin 4) (arg : Word) (s : State) : Host.Outcome State Fault Refusal :=
  .next (serveNow core 0x01 arg (fun p s => opRequest core.val p arg s) s)

/-- STANDBY_CONSENT (R47): 1 gives, 0 withdraws. -/
def execStandbyConsent (core : Fin 4) (arg : Word) (s : State) : Host.Outcome State Fault Refusal :=
  .next (serveNow core 0x02 arg (fun p s =>
    if 1 < arg.toNat then (302, s) else (0, setPerson p (fun q => { q with consent := decide (arg = 1) }) s)) s)

/-- WAKE_CFG (R119): person 1 sets ISL_WAKE_CFG. -/
def execWakeCfg (core : Fin 4) (arg : Word) (s : State) : Host.Outcome State Fault Refusal :=
  .next (serveNow core 0x03 arg (fun p s =>
    if p ≠ 1 then (201, s) else (0, setIsl (fun k => { k with wakeCfg := BitVec.ofNat 4 arg.toNat }) s)) s)

end Sys2Proof.Machine
end

