-- ==== Sys2Proof/Machine/Witness.lean ====
section
/-! DEFINITION. Witness pairs and islands as events (08, 02): divergence, self-tests, hand-overs, deferred starts, glitches, power-off; the WIT block. -/

namespace Sys2Proof.Machine

/-! ### Divergence (R194, R195) -/

/-- DIVERGENCE (R194, R195): the comparator of a pair in lockstep finds a difference. -/
def execDivergence (pr : Pair) (r : DivRec) (s : State) : Host.Outcome State Fault Refusal :=
  let n := pairNo pr
  let p := s.pairPerson n
  let d : DivReg := { info := divInfo r.reg.toNat r.unit.toNat r.part.toNat p r.kind.toNat, pc := r.pc, lead := r.lead, trail := r.trail }
  .next (if p = 0 then s else diverge n p d s)

/-! ### Self-test (R200, R202) -/

/-- A core fails its self-test: it is fenced, and every person that was running on it is restarted (R200, R202). -/
def selftestFails (c : Nat) (s : State) : State :=
  let l := s.placed c
  let s := forAll l takeDown (setLeaf 9 2 (setCore c (fun k => { k with selftestFail := true }) s))
  let s := if (s.core c).fenced then s else fenceNow c false s
  forAll l autoRestart s

/-- The person of a pair restarts once no core of the pair is under test (R195 step 4). -/
def pairTested (pr : Nat) (s : State) : State :=
  let p := vget s.wit.waiting pr
  if p = 0 ∨ (s.core (2 * pr)).underTest ∨ (s.core (2 * pr + 1)).underTest then s
  else autoRestart p { s with wit := { s.wit with waiting := vset s.wit.waiting pr 0 } }

/-- The self-test of a core ends. -/
def selftestDone (c : Nat) (pass : Bool) (s : State) : State :=
  let why := vget s.wit.why c
  let s := setCore c (fun k => { k with underTest := false }) { s with wit := { s.wit with why := vset s.wit.why c none } }
  let s := if pass then setCore c (fun k => { k with selftestFail := false }) s else selftestFails c s
  match why with
  | some .lift =>
    if pass then
      startWaiting (answerCore c (fun d t => answerOk d (tx "CORE " ++ decText c ++ tx " RUN") t) (unfence c s))
    else answerCore c (fun d t => answerErr d { code := 301, field := tx "SELFTEST_FAIL" } t) s
  | _ => pairTested (pairOf c) s

/-- CORE_SELFTEST_DONE (R200). -/
def execCoreSelftestDone (core : Fin 4) (pass : Bool) (s : State) : Host.Outcome State Fault Refusal :=
  .next (if (s.core core.val).underTest then selftestDone core.val pass s else s)

/-- The lifting of a fence begins with a self-test (R200). -/
def beginLift (c : Nat) (s : State) : State :=
  setCore c (fun k => { k with underTest := true }) { s with wit := { s.wit with why := vset s.wit.why c (some .lift) } }

/-! ### Hand-overs and deferred starts (R197, R202, R205) -/

/-- A hand-over that may be made is made (R205): with FP-pending set, the FP fault goes first (R137); a core it was to take that is
fenced, halted or off by now ends it (R201); one that is to be fenced is left again (R202). -/
def handoverGoes (p : Nat) (s : State) : State :=
  let q := s.person p
  let lost := (maskCores q.moveTo).any fun c =>
    (s.core c).fenced || (s.core c).halted || decide (vget s.isl.pairSt (pairOf c) ≠ .run) || vget s.isl.draining (pairOf c)
  if q.run ≠ .handover then s
  else if lost then placesOn (cancelMove p s)
  else if !moveReady s p then s
  else
    let src := (maskCores q.cores).headD 0
    let s := if (s.ctx src p).fpPending then
        mirrorTrail src p (takeFault src p { code := 0xC, info := (s.ctx src p).pc } s) else s
    if !moveReady s p then s
    else
      let s := completeMove p s
      placesOn (forAll ((maskCores q.moveTo).filter fun c => vget s.wit.fencing c) clearCore s)

/-- HANDOVER (R205). -/
def execHandover (p : Nat) (s : State) : Host.Outcome State Fault Refusal :=
  let m := (s.person p).cores
  let s := forAll (maskCores m) drainAll s
  .next (handoverGoes p s)

/-- PERSON_DEFERRED_START (R197, R202): a person stopped for want of a core starts afresh when one can take it. -/
def execPersonDeferredStart (p : Nat) (s : State) : Host.Outcome State Fault Refusal :=
  let q := s.person p
  .next (if q.deferred ∧ q.run = .stopped then
      match choosePlace s p with
      | none => s
      | some m => startAt p m (takeDown p s)
    else s)

/-- RESTART_WINDOW_EXPIRY (R196). -/
def execRestartWindowExpiry (p : Nat) (s : State) : Host.Outcome State Fault Refusal :=
  .next (setPerson p (fun q => { q with restarts := q.restarts - 1 }) s)

/-! ### Power-off and glitches of a pair island (R38, R39, R44, R184, R209) -/

/-- Transactions the island has sent and that are still open (R39): its stores on their way, its loads and calls. -/
def islandOpen (s : State) (pr : Nat) : Bool :=
  !(vget s.gates.pairF pr).isEmpty || !(vget s.gates.commitQ pr).isEmpty ||
    [2 * pr, 2 * pr + 1].any fun c => decide (s.cus.held = some c) ||
      (s.core c).ctx.toList.any fun x => !x.loads.isEmpty || x.calls.any fun q => q.result.isNone

/-- The island loses power (R39, R161): its banks are reclaimed, what its cores held is gone; fences stay. -/
def islandOff (pr : Nat) (s : State) : State :=
  let off := fun (c : Nat) (t : State) =>
    let t := reclaimCore c t
    let t := setCore c (fun k => { fenced := k.fenced, byOrder := k.byOrder, selftestFail := k.selftestFail, halted := true }) t
    { t with wit := { t.wit with why := vset t.wit.why c none, fencing := vset t.wit.fencing c false },
             cus := { t.cus with held := if t.cus.held = some c then none else t.cus.held },
             mem := { t.mem with ecc := t.mem.ecc.filter fun u => eccShared u.space || decide (u.core.val ≠ c) } }
  let s := off (2 * pr) (off (2 * pr + 1) s)
  let g := s.gates
  { s with
    isl := { s.isl with pairSt := vset s.isl.pairSt pr .off, draining := vset s.isl.draining pr false,
                        opTarget := vset s.isl.opTarget pr none,
                        fllLock := (w32 s.isl.fllLock &&& ~~~(w32 (2 ^ pr))).toNat },
    gates := { g with pairF := vset g.pairF pr [], commitQ := vset g.commitQ pr [], fPair := vset g.fPair pr [] },
    wit := { s.wit with waiting := vset s.wit.waiting pr 0 },
    cic := { s.cic with sent := vset (vset s.cic.sent (2 * pr) (Vector.replicate 7 0)) (2 * pr + 1) (Vector.replicate 7 0) } }

/-- R39: the gates close; power goes once nothing is open. -/
def islandClose (pr : Nat) (s : State) : State :=
  let s := { s with gates := { s.gates with closed := vset s.gates.closed pr true },
                    isl := { s.isl with draining := vset s.isl.draining pr true } }
  if islandOpen s pr then s else islandOff pr s

/-- ISLAND_POWER_OFF (R39): the steward powers a pair off once every person on it has stopped and its buffers have drained
(R184), or goes on with one that a glitch has halted. -/
def execIslandPowerOff (pr : Pair) (s : State) : Host.Outcome State Fault Refusal :=
  let n := pairNo pr
  let cs := [2 * n, 2 * n + 1]
  .next (if vget s.isl.pairSt n ≠ .run then s
    else if vget s.isl.draining n then (if islandOpen s n then s else islandOff n s)
    else if cs.any (fun c => (List.range 7).any fun p =>
        (s.running p || decide ((s.person p).run = .handover)) && maskBit (s.person p).cores c) ||
        cs.any (fun c => !(s.core c).sb.isEmpty) then s
    else islandClose n s)

/-- ISLAND_DRAIN_TIMEOUT (R39): what is still open completes OFFLINE, and power goes. -/
def execIslandDrainTimeout (pr : Pair) (s : State) : Host.Outcome State Fault Refusal :=
  let n := pairNo pr
  .next (if vget s.isl.draining n ∧ vget s.isl.pairSt n = .run then islandOff n s else s)

/-- The tamper-log DETAIL of a glitch (R403). -/
def glitchDetail (n : Nat) (clock : Bool) : Nat := n + 128 * bitN clock

/-- A pair island is halted by a glitch (R44, R184, R209): its persons are handled as after a divergence of KIND 0xD. -/
def pairGlitch (pr : Nat) (clock : Bool) (s : State) : State :=
  let cs := [2 * pr, 2 * pr + 1]
  let ps := s.byRank.filter fun p =>
    (s.running p || decide ((s.person p).run = .handover)) && cs.any fun c => maskBit (s.person p).cores c
  let s := setLeaf 11 1 (setLeaf 0 3 (tamper 5 (glitchDetail pr clock) s))
  let s := forAll cs (fun c t => setCore c (fun k => { k with halted := true, selftestFail := true, underTest := false, sb := [] }) t) s
  let note := fun (p : Nat) (t : State) =>
    noteDivergence pr p { info := divInfo 0 15 0 p 0xD, pc := (t.ctx ((maskCores (t.person p).cores).headD 0) p).pc } t
  let late := vget s.wit.waiting pr
  let s := forAll ps (fun p t => takeDown p (note p t)) s
  let s := islandClose pr { s with wit := { s.wit with waiting := vset s.wit.waiting pr 0 } }
  -- one under self-check has failed it (R291)
  placesOn (forAll (ps ++ if late = 0 then [] else [late]) (fun p t => if t.checking p then checkFailed p t else autoRestart p t) s)

/-- ISLAND_GLITCH (R44): a pair island may have one while it starts, too. -/
def execIslandGlitch (isl : Island) (clock : Bool) (s : State) : Host.Outcome State Fault Refusal :=
  let powered := fun (n : Nat) => decide (vget s.isl.pairSt n = .run) || decide (vget s.isl.pairSt n = .starting)
  let whole := fun (n : Nat) =>
    setLeaf 0 3 (tamper 5 (glitchDetail n clock) (beginStart (fun c => { c with glitch := true, glitchIsland := n }) s))
  .next (match isl with
    | .pairA => if powered 0 then pairGlitch 0 clock s else s
    | .pairB => if powered 1 then pairGlitch 1 clock s else s
    | .fabric => if s.isl.fabric = .run then whole 2 else s
    | .port => if s.isl.port = .run then whole 3 else s
    | .host => if s.isl.host = .run then whole 4 else s
    | .sentinel => lifeCheck (vstbyLoss 1 s))

/-! ### Placing the persons at a start (R146, R491) -/

/-- Place one person (R54, R82, R146, R491); `saved` is what retention records of the pairing after a WAKE start. -/
def placeOne (saved : Option Saved) (p : Nat) (s : State) : State :=
  let r := s.row p
  let was := fun pr => match saved with | some q => decide (vget q.pairing pr = p) | none => false
  let empty := fun pr => [2 * pr, 2 * pr + 1].all fun c =>
    coreUsable s c && maskBit r.placement c && (s.placed c).isEmpty
  let prs := ([0, 1].filter was ++ [0, 1]).filter empty
  if (s.person p).run = .dead then s
  else if !onePending s p ∧ (!imageHashOk s p ∨ (imageHead s p).isNone ∨ r.bankQuota < ((partCores s).filter fun c => maskBit r.placement c).length) then
    becomeDead p s
  else if r.witness then
    match prs.head? with
    | some pr => startOn p (pairMask pr) s
    | none => suspend p s
  else match prs.find? was with
    | some pr => startOn p (pairMask pr) s
    | none => match fewest s ((List.range 4).filter fun c => singleOk s p c) with
      | some c => startOn p (2 ^ c) s
      | none => suspend p s

/-- Place every person, in rank order (R491). -/
def placeAll (saved : Option Saved) (s : State) : State := forAll s.byRank (placeOne saved) s

/-! ### The WIT block (08) -/

/-- The execution state of a person (R199): RESTARTING lasts until the first sentence after an automatic restart. -/
def execCode (s : State) (p : Nat) : Nat :=
  match (s.person p).run with
  | .running => if s.checking p then 0 else if (s.person p).afresh && decide ((s.ctx ((maskCores (s.person p).cores).headD 0) p).seq = 0) then 4 else if (s.witnessOn p).isSome then 2 else 1
  | .handover => 3
  | .restarting => 4
  | .suspended => 5
  | _ => 0

/-- A mask over the cores. -/
def coreMaskOf (s : State) (f : Core → Bool) : Nat := ((List.range 4).map fun c => bitN (f (s.core c)) * 2 ^ c).sum

/-- Read a register of the WIT block, by a person. -/
def witRead (p f off : Nat) (s : State) : Word :=
  if f ≠ 0 then 0
  else if off = 0 then
    let a := s.pairPerson 0
    let b := s.pairPerson 1
    w32 (b * 0x80000 + bitN (vget s.wit.suspect 1) * 0x40000 + bitN (decide (b ≠ 0)) * 0x20000 + a * 8 +
      bitN (vget s.wit.suspect 0) * 4 + bitN (decide (a ≠ 0)) * 2)
  else if off = 4 then
    w32 (coreMaskOf s (fun k => k.byOrder) * 0x10000 + coreMaskOf s (fun k => k.selftestFail) * 0x100 +
      (coreMaskOf s (fun k => k.fenced) ||| if s.fuses.part = .an then 0xC else 0))
  else if 0x10 ≤ off ∧ off < 0x28 then
    let n := (off - 0x10) / 4 + 1
    let q := s.person n
    w32 (q.divTotal * 0x1000000 + Nat.min 3 q.restarts * 0x10000 + (if q.run = .running then q.cores else 0) * 0x100 + execCode s n)
  else if 0x40 ≤ off ∧ off < 0x60 then
    let d := vget s.wit.div ((off - 0x40) / 16)
    let who := bits d.info 10 8
    if who ≠ p then 0
    else match (off - 0x40) % 16 / 4 with
      | 0 => d.info
      | 1 => d.pc
      | 2 => d.lead
      | _ => d.trail
  else 0

end Sys2Proof.Machine
end

