-- ==== Sys2Proof/Machine/Orders.lean ====
section
/-! DEFINITION. Orders on control objects (R324 to R327, R338, R339): their objects and safe directions, the checks of rights and of
state (R11, R204, R282 to R287, R331 to R335), their effects, and the end of a decision slot. -/

namespace Sys2Proof.Machine

/-! ### Objects and effects (R338) -/

/-- The targets a staged ONE bundle would restart with NOW. -/
def oneTargets (s : State) : List Nat := if bundleMode s = 2 then (stagedTargets s).filter fun t => decide (t ≠ 0) else []

/-- The control objects an order acts on (R338). -/
def objsOf (s : State) (a : Act) : List Obj :=
  match a with
  | .hold | .release | .commission | .enrol | .retire | .confirm => [.lifecycle]
  | .start p | .stop p | .restart p | .resume p => [.run p]
  | .promote p _ | .demote p _ => [.mode p]
  | .fence c | .lift c _ => [.fence c]
  | .feed n _ => [.feed n]
  | .discard | .openB _ | .writeB _ _ | .closeB => [.bundle]
  | .activate now _ => .bundle :: if now then (oneTargets s).map Obj.run else []
  | .setTime _ _ => [.rtc]
  | .installCharter _ => [.charter]
  | .baseline chs _ _ => chs.map Obj.baseline

/-- An order whose effect is the safe direction of its object (R207, R297, R338). -/
def isSafe (s : State) (a : Act) : Bool :=
  match a with
  | .hold | .stop _ | .promote _ _ | .fence _ | .discard | .openB _ => true
  | .feed n on => decide (on = match s.stw.charter with | some ch => maskBit ch.feedSafe n | none => false)
  | _ => false

/-- The same effect: the result of a self-test is no part of the order. -/
def sameEffect (a b : Act) : Bool :=
  match a, b with
  | .lift c _, .lift d _ => decide (c = d)
  | _, _ => decide (a = b)

/-- CONFLICT_OBJ (R367). -/
def objCode (o : Obj) : Nat :=
  match o with
  | .lifecycle => 0x1000 | .run p => 0x2000 + p | .mode p => 0x3000 + p | .fence c => 0x4000 + c | .feed n => 0x5000 + n
  | .bundle => 0x6000 | .rtc => 0x7000 | .charter => 0x8000 | .baseline n => 0x9000 + n

/-! ### Rights (check 9 of R312) -/

/-- Refused for want of a right. -/
def noRight (bit : Nat) : Option Err := some { code := 201, field := rightName bit }
def needRight (s : State) (party bit : Nat) : Option Err := if partyRight s party bit then none else noRight bit

/-- Every one of some persons ranks below a party. -/
def allBelow (s : State) (party : Nat) (ps : List Nat) : Bool := ps.all fun q => decide (partyRank s party < (s.row q).rank)

/-- A right over another person, within its rank; own orders need none (R11). -/
def overPerson (s : State) (party p bit : Nat) : Option Err :=
  if p = party then none
  else if !partyRight s party bit then noRight bit
  else if s.present p && !allBelow s party [p] then noRight bit
  else none

/-- The other persons on the cores of a mask, and those a move onto it displaces (R11, R204). -/
def othersOn (s : State) (p mask : Nat) : List Nat :=
  s.byRank.filter fun q => decide (q ≠ p) && (maskCores mask).any fun c => s.placedOn q c
def displaced (s : State) (p mask : Nat) : List Nat := if (maskPair mask).isSome then othersOn s p mask else []

/-- The mask a pairing order leads to. -/
def moveMask (a : Act) : Nat := match a with | .promote _ pr => pairMask pr | .demote _ c => 2 ^ c | _ => 0

/-- The right a pairing order needs (R11, R203). -/
def moveRight (s : State) (party p mask : Nat) : Option Err :=
  (overPerson s party p 10) <|>
    (if (othersOn s p mask).isEmpty then none
     else if partyRight s party 10 && allBelow s party (displaced s p mask) then none else noRight 10)

/-- The device is BLANK: charter and bundle orders are open to any session (R18, R282). -/
def blankOpen (s : State) : Bool := decide (s.life = 1)

/-- Check 9 of R312 for an order; the steward, which holds every right, gives one by its own write to OUT_CTRL only (R464). -/
def actRight (s : State) (party : Nat) (a : Act) : Option Err :=
  let stage : Option Err := if blankOpen s then none else needRight s party 8
  match a with
  | .hold | .release | .commission => needRight s party 13
  | .enrol => needRight s party 16
  | .retire | .confirm => needRight s party 14
  | .start p | .stop p | .restart p => overPerson s party p 11
  | .resume p => overPerson s party p 10
  | .promote p _ => moveRight s party p (moveMask a)
  | .demote p _ => moveRight s party p (moveMask a)
  | .fence c | .lift c _ =>
    if partyRight s party 10 && allBelow s party (s.byRank.filter fun q => s.placedOn q c) then none else noRight 10
  | .feed n _ =>
    if party = 0 then none
    else if partyRight s party 3 && decide ((match s.stw.charter with | some ch => vget ch.feedOwner n | none => 0) = party) then none
    else noRight 3
  | .openB _ | .discard =>
    let held := match s.bun.st with
      | .receiving | .staged | .done => decide (partyRank s s.bun.stager < partyRank s party)
      | _ => false
    stage <|> (if held then noRight 8 else none)
  | .writeB _ _ | .closeB =>
    stage <|> (if s.bun.superseded.contains party ∨ s.bun.stager = party ∨ s.bun.st = .empty then none else noRight 8)
  | .activate _ _ =>
    if blankOpen s then none
    else if s.bun.st = .empty ∨ s.bun.st = .receiving then needRight s party 9
    else (needRight s party 9) <|> (if holdsFor s party (stagedTargets s) then none else noRight 9)
  | .setTime _ _ => needRight s party 2
  | .installCharter _ => if blankOpen s then none else needRight s party 12
  | .baseline _ _ _ => needRight s party 7

/-! ### States (check 10 of R312) -/

/-- E301 with the state it names. -/
def wrong (t : Text) : Option Err := some { code := 301, field := t }
def wrongLife (s : State) : Option Err := wrong (lifeName s.life)

/-- A part of the person is being copied (R290). -/
def beingCopied (s : State) (p : Nat) : Bool := match s.bun.copying with | some k => decide (k.target = p) | none => false

/-- Persons can run in this lifecycle state (R22). -/
def personsRun (s : State) : Bool := decide (2 ≤ s.life) && decide (s.life ≤ 4)

/-- The state of a person as an error names it. -/
def personName (s : State) (p : Nat) : Text := if s.checking p then tx "STARTING" else runName (s.person p).run

/-- The refusals of R204 for a move of a running person. -/
def moveState (s : State) (p : Nat) (a : Act) : Option Err :=
  let mask := moveMask a
  let cs := maskCores mask
  let q := s.person p
  let plan := match maskPair mask with | some pr => evictPlan s p pr | none => []
  if !s.present p then some { code := 300 }
  else if q.run ≠ .running ∨ s.checking p then wrong (personName s p)
  else if cs.any fun c => !(partCores s).contains c || !maskBit (s.row p).placement c then some { code := 302 }
  else if cs.any fun c => (s.core c).fenced || vget s.wit.fencing c then wrong (tx "FENCED")
  else if cs.any fun c => vget s.wit.suspect (pairOf c) then wrong (tx "SUSPECT")
  else if cs.any fun c => !coreUsable s c then wrong (tx "OFF")
  else if cs.any fun c => decide ((vget q.win c).2 = 0) then some { code := 302 }
  else if cs.any fun c => !maskBit q.cores c && !banksLeft s p c plan then wrong (tx "BANK")
  else if !quotaFits s p mask then wrong (tx "BANK")
  else if plan.any fun z => z.2.isNone && decide ((s.row z.1).rank < (s.row p).rank) then wrong (tx "RANK")
  else if (maskPair mask).isNone ∧ (s.row p).witness then wrong (tx "WITNESS")
  else if q.cores = mask then wrong (tx (if (s.witnessOn p).isSome then "WITNESS" else "SINGLE"))
  else none

/-- A fence by order would stop person 1 (R202). -/
def fenceStops1 (s : State) (c : Nat) : Bool := s.placedOn 1 c && (fenceMove s 1 c).isNone

/-- The first unmet condition of an enrolment (R23, R335): a person that no ALL activation has made alive counts as dead. -/
def enrolState (s : State) : Option Err :=
  if s.life ≠ 1 then wrongLife s
  else if s.stw.charter.isNone then wrong (tx "NO_CHARTER")
  else if s.byRank.any fun p => decide ((s.person p).run = .dead) || (imageHead s p).isNone || !maskBit s.bun.allAlive p then
    wrong (tx "PERSON_DEAD")
  else if baselineMissing s then wrong (tx "NO_BASELINE")
  else if !s.snt.rtcValid then wrong (tx "NO_TIME")
  else none

/-- The names of the staging states (R296). -/
def stageName (st : Staging) : Text :=
  tx (match st with
    | .empty => "EMPTY" | .receiving => "RECEIVING" | .staged => "STAGED" | .pendingAll => "PENDING_ALL"
    | .pendingOne => "PENDING_ONE" | .activating => "ACTIVATING" | .done => "DONE")

/-- An activation is pending or under way (R282). -/
def stageBusy (s : State) : Bool := s.bun.st == .pendingAll || s.bun.st == .pendingOne || s.bun.st == .activating

/-- CONFLICT BY=c.w (R327). -/
def byText (src party : Nat) : Text := tx "BY=" ++ srcName src ++ '.' :: partyName party

/-- Check 10 of R312 for an order of a party from a source. -/
def actState (s : State) (party : Nat) (car : Option Carrier) (a : Act) : Option Err :=
  match a with
  | .hold => if [2, 3, 4].contains s.life then none else wrongLife s
  | .release =>
    if !s.snt.hold.any then wrongLife s
    else if 2 ≤ s.counter 0 ∧ baselineMissing s then wrong (tx "NO_BASELINE") else none
  | .commission => if s.life = 2 then none else wrongLife s
  | .enrol => enrolState s
  | .retire => if s.life = 0 ∨ s.life = 5 then wrongLife s else none
  | .confirm => match s.stw.retire with
    | none => wrongLife s
    | some r =>
      if r.party ≠ party ∨ some r.car ≠ car then wrongLife s
      else match r.cancelled with
        | some (x, w) => some { code := 409, field := byText x w }
        | none => none
  | .start p =>
    if !s.present p then some { code := 300 }
    else if (s.person p).run ≠ .stopped then wrong (personName s p)
    else if !personsRun s then wrongLife s
    else if (choosePlace s p).isNone then wrong (tx "STOPPED") else none
  | .stop p =>
    if !s.present p then some { code := 300 }
    else if !s.running p ∨ s.checking p then wrong (personName s p) else none
  | .restart p =>
    if !s.present p then some { code := 300 }
    else if (s.person p).run = .dead ∨ (s.person p).run = .suspended ∨ s.checking p ∨ beingCopied s p then wrong (personName s p)
    else if !personsRun s then wrongLife s else none
  | .resume p =>
    if !s.present p then some { code := 300 }
    else if (s.person p).run ≠ .suspended then wrong (personName s p)
    else if !personsRun s then wrongLife s
    else if (choosePlace s p).isNone then wrong (tx "SUSPENDED") else none
  | .promote p _ => moveState s p a
  | .demote p _ => moveState s p a
  | .fence c =>
    if !(partCores s).contains c then some { code := 302 }
    else if (s.core c).fenced ∨ vget s.wit.fencing c then wrong (tx "FENCED")
    else if vget s.isl.pairSt (pairOf c) ≠ .run then wrong (tx "OFF")
    else if fenceStops1 s c then wrong (tx "PERSON") else none
  | .lift c _ =>
    if !(partCores s).contains c then wrong (tx "FUSED_OFF")
    else if vget s.isl.pairSt (pairOf c) ≠ .run then wrong (tx "OFF")
    else if !(s.core c).fenced ∨ (s.core c).underTest then wrong (tx "RUN") else none
  | .feed n on =>
    let f := s.feed n
    if on && f.latched then wrong (tx (if f.fault = 2 then "OVER" else "SHORT")) else none
  | .openB len => if stageBusy s then wrong (stageName s.bun.st) else if stageMax < len then some { code := 501 } else none
  | .writeB at_ data =>
    if stageBusy s then wrong (stageName s.bun.st)
    else if s.bun.superseded.contains party ∧ s.bun.stager ≠ party then some { code := 410 }
    else if s.bun.st ≠ .receiving then wrong (stageName s.bun.st)
    else if at_ ≠ s.bun.written ∨ data.length < 16 ∨ s.bun.total < at_ + data.length ∨
      (data.length % 16 ≠ 0 ∧ at_ + data.length ≠ s.bun.total) then some { code := 302 } else none
  | .closeB =>
    if s.bun.superseded.contains party ∧ s.bun.stager ≠ party then some { code := 410 }
    else if stageBusy s then wrong (stageName s.bun.st)
    else if s.bun.st ≠ .receiving ∨ s.bun.spoiled then wrong (stageName s.bun.st)
    else (bundleCheck s).map fun r => r.1
  | .activate _ rst =>
    if s.bun.st = .empty ∨ s.bun.st = .receiving then some { code := 300 }
    else if stageBusy s then wrong (stageName s.bun.st)
    else if bundleMode s = 2 ∧ rst then some { code := 302 }
    else if bundleMode s = 2 ∧ s.stw.chPending then wrong (tx "CHARTER_PENDING")
    else match (stagedParts s).find? fun q => decide (q.sv < s.counter (2 + q.target)) with
      | some q => some { code := 502, field := decText q.target }
      | none => (unmet s (stagedParts s)).map fun r => { code := 503, field := hexWord r }
  | .discard =>
    if stageBusy s then wrong (stageName s.bun.st) else if s.bun.st = .empty then some { code := 300 } else none
  | .setTime sec _ => if sec < timeLow ∨ timeHigh < sec then some { code := 302 } else none
  | .installCharter raw => if raw.length < charterLen then some { code := 302 } else charterCheck s raw
  | .baseline chs all _ =>
    if !(s.life = 1 || s.life = 2 || (s.life = 4 && s.snt.hold.any)) then wrongLife s
    else match chs.findSome? fun n => (baseRefusal s n).map fun t => (n, t) with
      | some (n, t) => wrong (if all then chanName n ++ ' ' :: tx t else tx t)
      | none => none

/-- What a refused order leaves behind: a superseded stager has been told (R282), a failed close spoils the bundle (R283), a part
refused for its version shows it (R284, R296). -/
def refusedSide (party : Nat) (a : Act) (e : Err) (s : State) : State :=
  let target : Option Nat := ((stagedParts s).find? fun q => decide (q.sv < s.counter (2 + q.target))).map fun q => q.target
  match a with
  | .writeB _ _ =>
    if e.code = 410 then setLeaf 4 5 { s with bun := { s.bun with superseded := s.bun.superseded.filter fun p => decide (p ≠ party) } }
    else s
  | .closeB =>
    if e.code = 410 then setLeaf 4 5 { s with bun := { s.bun with superseded := s.bun.superseded.filter fun p => decide (p ≠ party) } }
    else if e.code = 301 ∨ s.bun.spoiled ∨ s.bun.st ≠ .receiving ∨ s.bun.stager ≠ party then s
    else
      let s1 := flashSeen 1 stageBase s.bun.total { s with bun := { s.bun with spoiled := true } }
      match bundleCheck s with
      | some (e, some t) => noteResult t (if e.code = 502 then 4 else 7) s1
      | _ => s1
  | .activate _ _ =>
    if e.code = 502 then (match target with | some t => noteResult t 4 s | none => s)
    else s
  | _ => s

end Sys2Proof.Machine
end

