-- ==== Sys2Proof/Machine/Apply.lean ====
section
/-! DEFINITION. The effects of orders on control objects (R28, R203, R282, R287, R331 to R335), decision slots (R324 to R327, R339), and
the commands that give such orders by steward call, register or cell (R203, R281, R356, R464). -/

namespace Sys2Proof.Machine

/-! ### Answers to several orders of one effect -/

/-- Every order of the same effect succeeds (R326). -/
def answerAll (dests : List ReplyTo) (t : Text) (s : State) : State := forAll dests (fun d u => answerOk d t u) s

/-- A steward call that starts a hand-over is answered at once. -/
def isCall (d : ReplyTo) : Bool := match d with | .call _ _ _ _ => true | _ => false

/-- Orders on a person that are answered when it runs or has moved. -/
def awaitPerson (p : Nat) (dests : List ReplyTo) (s : State) : State :=
  let s := answerAll (dests.filter isCall) [] s
  setOru (fun o => { o with awaitMove := o.awaitMove ++ (dests.filter fun d => !isCall d).map fun d => (p, d) }) s

/-- Orders on a fence that are answered when it is made. -/
def awaitFence (c : Nat) (dests : List ReplyTo) (s : State) : State :=
  setOru (fun o => { o with awaitCore := o.awaitCore ++ dests.map fun d => (c, d) }) s

/-! ### Lifecycle (R22 to R28, R334, R335) -/

/-- A lifecycle order that contradicts a retirement (R28). -/
def contradicts (a : Act) : Bool := match a with | .hold | .release | .commission | .enrol => true | _ => false

/-- A lifecycle order that contradicts a pending retirement cancels it (R28); the first one is named. -/
def cancelRetire (src party : Nat) (s : State) : State :=
  match s.stw.retire with
  | none => s
  | some r => pubSlot 1 { s with stw := { s.stw with retire := some { r with cancelled := some (r.cancelled.getD (src, party)) } } }

/-- Every person stops, for good (R28). -/
def stopAll (s : State) : State :=
  forAll s.byRank (fun p t =>
    if (t.person p).run = .dead then t
    else setPerson p (fun q => { q with deferred := false, moveTo := 0 }) (haltPerson p .stopped t)) s

/-- Retirement (R28): zeroization, counter 0 at 4, no person runs. -/
def retireNow (s : State) : State :=
  pubSlot 1 (stopAll (zeroize 0 { s with stw := { s.stw with retire := none } }))

/-- Person 1's slot 0 holds the record-signing key (R411). -/
def fixKey (s : State) : State :=
  let k : Key := { ty := .fixed, origin := 3, key := beBytes 32 recordKey }
  { s with seals := { s.seals with p := vmod s.seals.p 1 fun q => { q with slot := vset q.slot 0 k } } }

/-- Enrolment (R335): the record-signing key, counter 0 at 2, the persons in rank order. -/
def enrolNow (s : State) : State :=
  let s := fixKey { s with fuses := { s.fuses with recPub := some recordPub }, snt := { s.snt with rtcSet := false } }
  placeAll none (lifeCheck (stepCounter 0 2 s))

/-- RETIRE_LAPSE (R28): 30 s pass; the order lapses, which the event log shows. -/
def execRetireLapse (s : State) : Host.Outcome State Fault Refusal :=
  .next (match s.stw.retire with
    | none => s
    | some r => pubSlot 1 (logEvent (carSrc r.car) r.party "RETIRE_LAPSE" [] { s with stw := { s.stw with retire := none } }))

/-- Debug access and boundary scan are open (R29): in FACTORY, and after an unlock. -/
def debugAccess (s : State) : Bool := decide (s.counter 0 = 0) || s.seals.debugOpen

/-- DEBUG_UNLOCK (R30, R423): accepted in any state other than FACTORY, where debug needs no unlock. -/
def execDebugUnlock (token : Bytes) (s : State) : Host.Outcome State Fault Refusal :=
  .next (if !awake s || decide (s.counter 0 = 0) then s
    else if !s.seals.challenge.isEmpty && sigOk384 vendorKey (deviceId ++ s.seals.challenge) token then
      let s := stopAll (zeroize 1 (tamper 0x0D 0 s))
      { s with seals := { s.seals with debugOpen := true, challenge := [] } }
    else newChallenge (logEvent 7 0 "DEBUG_UNLOCK" [] s))

/-! ### Bundles (R281, R282, R287 to R289) -/

/-- The stager of a bundle that another party replaces or removes is told at its next write or close (R282). -/
def supersede (party : Nat) (b : Bun) : List Nat :=
  let l := b.superseded.filter fun p => decide (p ≠ party)
  if b.st = .empty ∨ b.stager = party then l else dedup (l ++ [b.stager])

/-- OPEN (R281, R282). -/
def stageOpen (party len : Nat) (s : State) : State :=
  let b := s.bun
  let s := dirAdd (.open_ len party) s
  let b := { b with dir := s.bun.dir, dirDone := s.bun.dirDone }
  pubSlot 6 { s with bun := { b with
    st := .receiving, stager := party, total := len, written := 0, id := 0, result := Vector.replicate 7 0, progress := 0,
    spoiled := false, superseded := supersede party b } }

/-- The steps of a WRITE (R281): a sector not yet written is erased first. -/
def writeSteps (at_ : Nat) (data : Bytes) : List FlashStep :=
  let new := (List.range 126).filter fun k => decide (at_ ≤ k * sectorBytes) && decide (k * sectorBytes < at_ + data.length)
  new.map (fun k => .op (.erase (3 + k))) ++ unitSteps (stageBase + at_) data

/-- A WRITE is taken (R281); the first bytes bring the BUNDLE_ID that slot 6 shows (R296). -/
def stageWrite (at_ : Nat) (data : Bytes) (s : State) : State :=
  let s := { s with bun := { s.bun with written := at_ + data.length } }
  if at_ = 0 then pubSlot 6 { s with bun := { s.bun with id := leAt data 8 4 } } else s

/-- CLOSE of a bundle that passes (R283). -/
def stageClose (s : State) : State :=
  let s := flashSeen 1 stageBase s.bun.total s
  let h := sha256 (staged s 0 (manifestEnd (bundleCount s)))
  let s := dirAdd (.closed h) s
  setStage .staged (setLeaf 4 0 s)

/-- DISCARD (R282). -/
def stageDiscard (party : Nat) (s : State) : State :=
  let s := dirAdd .discard s
  let b := s.bun
  pubSlot 6 { s with bun := { b with
    st := .empty, total := 0, written := 0, id := 0, result := Vector.replicate 7 0, progress := 0, spoiled := false,
    superseded := supersede party b } }

/-- ACTIVATE that is accepted (R287): every part is pending. -/
def activateAccept (s : State) : State :=
  let all := decide (bundleMode s = 1)
  let s := forAll (stagedTargets s) (fun t u => { u with bun := { u.bun with result := vset u.bun.result t 8 } }) s
  let s := dirAdd (.activate all) s
  setStage (if all then .pendingAll else .pendingOne) (setLeaf 4 4 s)

/-- A person restarts at once (R160, R289); a DEAD one that no core can take stays DEAD (R292). -/
def restartPerson (p : Nat) (s : State) : State :=
  if (s.person p).run = .dead ∧ (choosePlace s p).isNone then s else orderedStart p (takeDown p s)

/-! ### What the steward's sequences on FB0 and FB1 lead to (R253, R281, R290) -/

/-- What waited for steps on FB1 goes on: they ended well, or one failed twice (E500). -/
def fbDone (d : FbDone) (ok : Bool) (s : State) : State :=
  let answers := fun (dests : List ReplyTo) (t : Text) (s : State) =>
    if ok then answerAll dests t s else forAll dests (fun d u => answerErr d { code := 500 } u) s
  match d with
  | .entry => { s with bun := { s.bun with dirDone := s.bun.dirDone + 1 } }
  | .answer dests t => answers dests t s
  | .write at_ dests t =>
    answers dests t (if ok then s else { s with bun := { s.bun with written := Nat.min s.bun.written at_ } })
  | .charter dests t => answers dests t { s with stw := { s.stw with chPending := ok } }
  | .restart => restartDevice s

/-- Steps on FB1, then what waits for them; in a start both at once. -/
def fbThen (steps : List FlashStep) (d : FbDone) (s : State) : State :=
  if s.isl.power = .starting then fbDone d true (fbRun 1 steps s)
  else fbRun 1 (steps ++ [.mark]) (setOru (fun o => { o with flash := o.flash ++ [d] }) s)

/-- The programs of a ONE copy have ended (R290): the copy is read back and its header programmed, or the part is whole and its
self-check begins (R291); a step that failed leaves it DEAD (R292). -/
def copyDone (ok : Bool) (s : State) : State :=
  match s.bun.copying with
  | none => s
  | some k =>
    match (stagedParts s).find? fun q => decide (q.target = k.target) with
    | none => { s with bun := { s.bun with copying := none } }
    | some q =>
      if !ok || (!k.header && !copySound s q) then
        let s := { s with bun := { s.bun with copying := none } }
        becomeDead k.target (setBunDone (partResult k.target 2 s))
      else if !k.header then
        fbRun 0 (unitSteps (regionBase q.target) (regionUnit q) ++ [.mark])
          { s with bun := { s.bun with copying := some { k with header := true } } }
      else
        checkBegin k.target (pubSlot 6 (setImg k.target (some (imgOf q)) (dirAdd (.copyEnd k.target)
          { s with bun := { s.bun with copying := none, progress := 100 } })))

/-- How far a ONE copy has come, in percent (R296). -/
def copyShown (s : State) : State :=
  match s.bun.copying with
  | none => s
  | some k =>
    if k.header ∨ k.total = 0 then s
    else pubSlot 6 { s with bun := { s.bun with progress := (k.total - ((s.bank 0).plan.length - 1)) * 100 / k.total } }

/-- A command of the steward on FB0 or FB1 has ended: one that failed is given once more; a second failure ends its sequence. -/
def fbStep (b : Nat) (o : FlashOp) (e : FlashEnd) (s : State) : State :=
  setBank b (fun k => match e with
    | .ok => { k with again := false }
    | .verify =>
      if !k.again then { k with again := true, plan := .op o :: k.plan }
      else { k with again := false, bad := true, plan := k.plan.dropWhile fun st => decide (st ≠ .mark) }) s

/-- The steward's sequences on FB1, then on FB0, go on as far as no command runs. -/
def fbPump (fuel : Nat) (s : State) : State :=
  match fuel with
  | 0 => s
  | f + 1 =>
    let k1 := s.bank 1
    let k0 := s.bank 0
    if k1.busy.isSome then s
    else match k1.plan with
      | .mark :: r =>
        let s := setBank 1 (fun k => { k with plan := r, bad := false }) s
        fbPump f (match s.oru.flash with
          | d :: l => fbDone d (!k1.bad) (setOru (fun o => { o with flash := l }) s)
          | [] => s)
      | _ :: _ => fbPump f (bankKick 4 1 s)
      | [] =>
        if k0.busy.isSome then s
        else match k0.plan with
          | .mark :: r => fbPump f (copyDone (!k0.bad) (setBank 0 (fun k => { k with plan := r, bad := false }) s))
          | _ :: _ => fbPump f (bankKick 4 0 s)
          | [] => s

/-- Enough steps for what can be waiting. -/
def fbFuel (s : State) : Nat := (s.bank 0).plan.length + (s.bank 1).plan.length + 16

/-! ### The effect of an order -/

/-- Apply an order that has won, and answer it and those of the same effect. A second RETIRE takes the place of one that waits for
its confirmation, cancelled or not: the model's choice, on which the spec is silent (DESIGN CHOICE, log 104). -/
def applyAct (a : Act) (o : Order) (dests : List ReplyTo) (s : State) : State :=
  match a with
  | .hold =>
    let s := openHold 4 (tamper 0x0B o.party (cancelRetire o.src o.party s))
    answerAll dests (tx "LIFECYCLE OUT_OF_SERVICE HOLD=OPEN") s
  | .release =>
    let s := releaseHolds o.party (cancelRetire o.src o.party s)
    answerAll dests (tx "LIFECYCLE " ++ lifeName s.life) s
  | .commission =>
    let s := lifeCheck (stepCounter 0 3 (cancelRetire o.src o.party s))
    answerAll dests (tx "LIFECYCLE " ++ lifeName s.life) s
  | .enrol => answerAll dests (tx "LIFECYCLE ENROLLED") (enrolNow (cancelRetire o.src o.party s))
  | .retire =>
    match o.dest with
    | .line ln =>
      let r : Retire := { party := o.party, car := ln.car, slot := o.arr }
      answerAll dests (tx "RETIRE CONFIRM=30") (pubSlot 1 (setLeaf 14 4 { s with stw := { s.stw with retire := some r } }))
    | _ => s
  | .confirm => answerAll dests (tx "LIFECYCLE RETIRED") (retireNow s)
  | .start p =>
    let s := awaitPerson p dests s
    match choosePlace s p with
    | none => s
    | some m => startAt p m s
  | .stop p => answerAll dests (tx "PERSON " ++ decText p ++ tx " STOPPED") (haltPerson p .stopped s)
  | .restart p => restartPerson p (awaitPerson p dests s)
  | .resume p => restartPerson p (awaitPerson p dests s)
  | .promote p pr => beginMove p (pairMask pr) (displace p pr (awaitPerson p dests s))
  | .demote p c => beginMove p (2 ^ c) (awaitPerson p dests s)
  | .fence c =>
    let s := answerAll (dests.filter isCall) [] s
    beginFence c (awaitFence c (dests.filter fun d => !isCall d) s)
  | .lift c pass =>
    let s := beginLift c (awaitFence c dests s)
    match pass with | some b => selftestDone c b s | none => s
  | .feed n on =>
    answerAll dests (tx "FEED " ++ decText n ++ tx (if on then " ON" else " OFF")) (feedOrder n on s)
  | .discard => fbThen [] (.answer dests (tx "BUNDLE EMPTY")) (stageDiscard o.party s)
  | .openB len => fbThen [] (.answer dests (tx "BUNDLE RECEIVING")) (stageOpen o.party len s)
  | .writeB at_ data =>
    fbThen (writeSteps at_ data) (.write at_ dests (tx "BUNDLE NEXT=" ++ decText (at_ + data.length))) (stageWrite at_ data s)
  | .closeB => fbThen [] (.answer dests (tx "BUNDLE STAGED")) (stageClose s)
  | .activate now rst =>
    let one := oneTargets s
    let all := decide (bundleMode s = 1)
    let s := fbThen [] (.answer dests (tx (if all then "BUNDLE PENDING_ALL" else "BUNDLE PENDING_ONE"))) (activateAccept s)
    if all && rst then fbThen [] .restart s
    else if now && personsRun s then forAll one restartPerson s else s
  | .setTime sec frac =>
    answerAll dests (tx "TIME " ++ timeText sec (frac % 32768)) (setTime sec frac o.src o.party s)
  | .installCharter raw =>
    -- a replacement goes into the other charter slot of FB1 (R19, R248)
    let slot := 1 - s.stw.chSlot
    fbThen (.op (.erase slot) :: unitSteps (slot * sectorBytes) raw)
      (.charter dests (tx "CHARTER SV=" ++ decText (charterOf raw).sv ++ tx " PENDING")) { s with stw := { s.stw with chPending := true } }
  | .baseline chs all tol =>
    let lns := dests.filterMap fun d => match d with | .line ln => some ln | _ => none
    let j : BaseJob := { chans := chs, all := all, tol := tol, src := o.src, party := o.party, dests := lns, seen := [] }
    if jobReady j then baseAnswer j (baseDone j s) else { s with srv := { s.srv with jobs := s.srv.jobs ++ [j] } }
where
  /-- The reply of a SET BASELINE that is done. -/
  baseAnswer (j : BaseJob) (s : State) : State :=
    let n := j.chans.headD 0
    let t := if j.all then tx "BASELINE ALL" else
      tx "BASELINE " ++ chanName n ++ (match (s.sch n).base with
        | some b => tx " VALUE=" ++ decText b.value ++ tx " TOL=" ++ decText b.win
        | none => [])
    answerAll (j.dests.map ReplyTo.line) t s

/-! ### Decision slots (R324 to R327, R339) -/

/-- Where an order's carrier is a line's. -/
def carOf (d : ReplyTo) : Option Carrier := match d with | .line ln => some ln.car | _ => none

/-- An order that passes checks 9 and 10 joins its decision slot (R325); any other is refused at once. One that contradicts a
pending retirement cancels it as it arrives, whether it wins its slot or not, unless the confirmation has come before it (R28). -/
def submit (src party : Nat) (a : Act) (d : ReplyTo) (s : State) : State :=
  match actRight s party a <|> actState s party (carOf d) a with
  | some e => answerErr d e (refusedSide party a e s)
  | none =>
    let o : Order := { arr := s.isl.arrival, src := src, party := party, rank := partyRank s party, act := a,
                       objs := objsOf s a, dest := d }
    let waits := s.oru.orders.any fun q => decide (q.act = .confirm)
    setOru (fun q => { q with orders := q.orders ++ [o] }) (if contradicts a && !waits then cancelRetire src party s else s)

/-- The order that beats another on one object (R326). -/
def beats (s : State) (a b : Order) : Bool :=
  let x := isSafe s a.act
  let y := isSafe s b.act
  if x ≠ y then x else if a.rank ≠ b.rank then decide (a.rank < b.rank) else decide (a.arr < b.arr)

/-- The winner on an object. -/
def winner (s : State) (l : List Order) (o : Obj) : Option Order :=
  (l.filter fun q => q.objs.contains o).foldl (fun w q => match w with
    | none => some q
    | some z => if beats s q z then some q else some z) none

/-- The object an order loses on, and to whom. -/
def losesTo (s : State) (l : List Order) (q : Order) : Option (Obj × Order) :=
  q.objs.findSome? fun o => match winner s l o with
    | some w => if sameEffect w.act q.act then none else some (o, w)
    | none => none

/-- An order of a contradiction in the event log: arrival, outcome, object (R327). -/
def logConflict (q : Order) (won : Bool) (o : Obj) (s : State) : State :=
  logEvent q.src q.party "WINDOW.CONFLICT" [w32 q.arr, w32 (bitN won), w32 (objCode o)] s

/-- A loser is told (R327). -/
def loseOrder (q : Order) (o : Obj) (w : Order) (s : State) : State :=
  let s := logConflict q false o (logConflict w true o s)
  let s := setLeafD 6 0 [(2, objCode o), (3, w.src * 4096 + w.party)] s
  answerErr q.dest { code := 409, field := byText w.src w.party } s

/-- Apply a survivor with the others of its effect; it is checked again on the state that earlier winners left (R339). -/
def applyOrder (l : List Order) (q : Order) (s : State) : State :=
  let dests := l.map fun z => z.dest
  if !awake s then s else
  match actRight s q.party q.act <|> actState s q.party (carOf q.dest) q.act with
  | some e => forAll dests (fun d t => answerErr d e t) (refusedSide q.party q.act e s)
  | none => applyAct q.act q dests s

/-- The survivors in the order of their arrival, those of one effect together. -/
def applyAll (fuel : Nat) (l : List Order) (s : State) : State :=
  match fuel, l with
  | f + 1, q :: r =>
    let same := r.filter fun z => sameEffect z.act q.act
    applyAll f (r.filter fun z => !sameEffect z.act q.act) (applyOrder (q :: same) q s)
  | _, _ => s

/-- A retirement that has won its slot is cancelled by a contradicting order that came after it in that slot (R28). -/
def retireCut (l : List Order) (s : State) : State :=
  match s.stw.retire with
  | none => s
  | some r =>
    match l.find? fun q => contradicts q.act && decide (r.slot < q.arr) with
    | some q => if l.any fun q => decide (q.act = .retire) && decide (q.arr = r.slot) then cancelRetire q.src q.party s else s
    | none => s

/-- The end of a decision slot (R324, R326, R327, R339). -/
def slotEnd (s : State) : State :=
  let l := s.oru.orders.mergeSort fun a b => decide (a.arr ≤ b.arr)
  let lost := l.filterMap fun q => (losesTo s l q).map fun z => (q, z.1, z.2)
  let won := l.filter fun q => (losesTo s l q).isNone
  let s := setOru (fun o => { o with orders := [], slot := o.slot + 1 }) s
  retireCut l <| applyAll won.length won (forAll lost (fun z t => loseOrder z.1 z.2.1 z.2.2 t) s)

/-- DECISION_SLOT_END (R324): no order is resolved at 50 MHz (R46), and no steward runs in STANDBY or OFF. -/
def execDecisionSlotEnd (s : State) : Host.Outcome State Fault Refusal :=
  .next (match s.isl.power with
    | .run => slotEnd s
    | .starting => slotEnd s
    | .nap => setOru (fun o => { o with slot := o.slot + 1 }) s
    | _ => s)

/-! ### Cells, OUT_CTRL (R356, R357, R464) -/

/-- What a value written to an object cell orders (R356). -/
def cellAct (b : CellBindTo) (v : Nat) : Option Act :=
  match b, v with
  | .feed n, 1 => some (.feed n true)
  | .feed n, 2 => some (.feed n false)
  | .run p, 1 => some (.start p)
  | .run p, 2 => some (.stop p)
  | .life, 1 => some .hold
  | .life, 2 => some .release
  | .fence c, 1 => some (.fence c)
  | .fence c, 2 => some (.lift c none)
  | _, _ => none

/-- A cell order reaches the steward, with the whole value written (R355 to R358); one for a cell that has become UNBOUND is gone. -/
def cellOrder (n v wseq : Nat) (s : State) : State :=
  let c := s.cell n
  let p := cellOwner s n
  match c.bind with
  | .none => s
  | .person =>
    if !s.running p then cellResult n 4 2 v s
    else cellLevels (setWin (fun w => { w with cellQ := w.cellQ ++ [n] })
      (setCell n (fun k => { k with order := some v, taken := false, wseq := wseq }) s))
  | b => match cellAct b v with
    | none => cellResult n 4 3 0 s
    | some a => submit 4 p a (.cell n) s

/-- A write to OUT_CTRL (R464). -/
def outCtrl (p n : Nat) (v : Word) (s : State) : State :=
  match bits v 1 0 with
  | 1 => submit 5 p (.feed n true) (.out n) s
  | 2 => submit 5 p (.feed n false) (.out n) s
  | _ => s

/-- FEED_ON (R464). -/
def execFeedOn (core : Fin 4) (n : Fin 8) (s : State) : Host.Outcome State Fault Refusal :=
  .next (if ownsFrame s core.val (0xB1 + n.val) then outCtrl (s.core core.val).cur n.val 1 (stampArrival s) else s)

/-- FEED_OFF (R464). -/
def execFeedOff (core : Fin 4) (n : Fin 8) (s : State) : Host.Outcome State Fault Refusal :=
  .next (if ownsFrame s core.val (0xB1 + n.val) then outCtrl (s.core core.val).cur n.val 2 (stampArrival s) else s)

/-! ### Steward calls that give orders (R203, R281, R291) -/

/-- A call of service 0x18 with one action. -/
def witnessCall (core : Fin 4) (action : Nat) (arg : Word) (act : State → Nat → Act) (s : State) : State :=
  if bits arg 5 4 ≠ action then s
  else serve core 0x18 arg (fun p d s =>
    let q := if bits arg 2 0 = 0 then p else bits arg 2 0
    submit 5 p (act s q) d s) s

/-- The core a person runs on, the lead of its pair. -/
def leadCore (s : State) (p : Nat) : Nat := (maskCores (s.person p).cores).headD 0

/-- WITNESS_PROMOTE (R203): onto the pair of the core the person runs on. -/
def execWitnessPromote (core : Fin 4) (arg : Word) (s : State) : Host.Outcome State Fault Refusal :=
  .next (witnessCall core 0 arg (fun s p => .promote p (pairOf (leadCore s p))) s)

/-- WITNESS_DEMOTE (R203): onto the lead. -/
def execWitnessDemote (core : Fin 4) (arg : Word) (s : State) : Host.Outcome State Fault Refusal :=
  .next (witnessCall core 1 arg (fun s p => .demote p (leadCore s p)) s)

/-- WITNESS_MIGRATE (R203): to C0, C2, PAIR_A or PAIR_B. -/
def execWitnessMigrate (core : Fin 4) (arg : Word) (s : State) : Host.Outcome State Fault Refusal :=
  .next (witnessCall core 2 arg (fun _ p => match bits arg 9 8 with
    | 0 => .demote p 0 | 1 => .demote p 2 | 2 => .promote p 0 | _ => .promote p 1) s)

/-- WITNESS_RESUME (R196, R203). -/
def execWitnessResume (core : Fin 4) (arg : Word) (s : State) : Host.Outcome State Fault Refusal :=
  .next (witnessCall core 3 arg (fun _ p => .resume p) s)

/-- FENCE_SERVICE (R202, R203). -/
def execFenceService (core : Fin 4) (arg : Word) (s : State) : Host.Outcome State Fault Refusal :=
  .next (if !arg.getLsbD 4 then s else serve core 0x19 arg (fun p d s => submit 5 p (.fence (bits arg 1 0)) d s) s)

/-- LIFT_SERVICE (R200, R203): `pass` is how the self-test ends. -/
def execLiftService (core : Fin 4) (arg : Word) (pass : Bool) (s : State) : Host.Outcome State Fault Refusal :=
  .next (if arg.getLsbD 4 then s else serve core 0x19 arg (fun p d s => submit 5 p (.lift (bits arg 1 0) (some pass)) d s) s)

/-- STAGE_OPEN (R281). -/
def execStageOpen (core : Fin 4) (arg : Word) (s : State) : Host.Outcome State Fault Refusal :=
  .next (serveDesc core 0x28 arg (fun p d w s => submit 5 p (.openB (w.getD 0 0)) d s) s)

/-- STAGE_WRITE (R281): rights first, then the buffer. -/
def execStageWrite (core : Fin 4) (arg : Word) (s : State) : Host.Outcome State Fault Refusal :=
  .next (serveBuf core 0x29 arg (fun w => w.getD 2 0) (fun p d w s =>
    let n := w.getD 2 0
    match actRight s p (.writeB 0 []) with
    | some e => answerErr d e s
    | none =>
      if n < 16 ∨ 16384 < n then answerErr d { code := 302 } s
      else match bufGet p core.val (w.getD 0 0) n s with
        | (none, s) => answerErr d { code := 302 } s
        | (some bs, s) => submit 5 p (.writeB (w.getD 1 0) bs) d s) s)

/-- STAGE_CLOSE (R281, R283). -/
def execStageClose (core : Fin 4) (arg : Word) (s : State) : Host.Outcome State Fault Refusal :=
  .next (serve core 0x2A arg (fun p d s => submit 5 p .closeB d s) s)

/-- ACTIVATE (R281, R287): bit 0 NOW, bit 1 RESTART. -/
def execActivate (core : Fin 4) (arg : Word) (s : State) : Host.Outcome State Fault Refusal :=
  .next (serve core 0x2B arg (fun p d s => submit 5 p (.activate (arg.getLsbD 0) (arg.getLsbD 1)) d s) s)

/-- STAGE_DISCARD (R281, R282). -/
def execStageDiscard (core : Fin 4) (arg : Word) (s : State) : Host.Outcome State Fault Refusal :=
  .next (serve core 0x2C arg (fun p d s => submit 5 p .discard d s) s)

/-- SELFTEST_RESULT (R281, R291). -/
def execSelftestResult (core : Fin 4) (arg : Word) (s : State) : Host.Outcome State Fault Refusal :=
  .next (serve core 0x2D arg (fun p d s =>
    if !s.checking p then answerErr d { code := 301 } s
    else if arg = 0 then checkPassed p (answerOk d [] s) else checkFailed p (answerOk d [] s)) s)

/-- SELFTEST_BUDGET_EXPIRY (R291). -/
def execSelftestBudgetExpiry (s : State) : Host.Outcome State Fault Refusal :=
  .next (match s.bun.check with | some q => checkFailed q.1 s | none => s)

end Sys2Proof.Machine
end

