-- ==== Sys2Proof/Machine/Calls.lean ====
section
/-! DEFINITION. Steward calls of the record store and of the sentinel (R273, R424). -/

namespace Sys2Proof.Machine

/-! ### Record store (R273) -/

/-- RECORD_APPEND (R266, R271, R273): answered when the append is acknowledged or has failed twice. ENROLLED knows no legal recording, in
RETIRED the store is read-only (R22), and without a set of the RTC since enrolment nothing is recorded. -/
def recordAppend (core p : Nat) (arg : Word) (d : ReplyTo) (w : List Nat) (s : State) : State :=
  let n := w.getD 1 0 % 512
  if !s.right p 0 then answerErr d { code := 201 } s
  else if 448 < n then answerErr d { code := 302 } s
  else if s.life ≤ 2 ∨ 5 ≤ s.life ∨ !s.snt.rtcSet then answerErr d { code := 301 } s
  else
    let get := if n = 0 then (some [], s) else bufGet p core (w.getD 0 0) n s
    match get with
    | (none, s) => answerErr d { code := 302 } s
    | (some bs, s) => recordDue { kind := 1, payload := bs, who := .call core p arg } s

/-- RECORD_APPEND. -/
def execRecordAppend (core : Fin 4) (arg : Word) (s : State) : Host.Outcome State Fault Refusal :=
  .next (serveBuf core 0x20 arg (fun w => w.getD 1 0 % 512) (fun p d w s => recordAppend core.val p arg d w s) s)

/-- RECORD_READ (R272, R273). -/
def recordRead (core p : Nat) (arg : Word) (d : ReplyTo) (w : List Nat) (s : State) : State :=
  if !s.right p 1 then answerErr d { code := 201 } s
  else
    let b := bufOk p core (w.getD 0 0) 560 s
    let s := b.2
    if !b.1 then answerErr d { code := 302 } s
    else match recFind s (w.getD 1 0) with
      | none => answerErr d { code := 300 } s
      | some r =>
        let b := flashShown (if w.getD 2 0 % 2 = 1 then 3 else 2) (unitAddr r.phys r.unit) (16 * r.units) s
        let st := bitN (recSplit s r) + 2 * bitN (recVerifies s 2 r) + 4 * bitN (recVerifies s 3 r) + 256 * r.units
        answerOk d [] (descPut arg.toNat 3 st (sramPut (w.getD 0 0) b.1 (recNoteRead r b.2)))

/-- RECORD_READ: a bank that is busy only makes the caller wait (R272). -/
def execRecordRead (core : Fin 4) (arg : Word) (s : State) : Host.Outcome State Fault Refusal :=
  .next (if storeBusy s then s
    else serveBuf core 0x21 arg (fun _ => 560) (fun p d w s => recordRead core.val p arg d w s) s)

/-- RECORD_INFO (R273). -/
def recordInfo (p : Nat) (arg : Word) (d : ReplyTo) (s : State) : State :=
  let r := s.store
  if !s.right p 0 && !s.right p 1 then answerErr d { code := 201 } s
  else
    let old := match r.index.head? with | some q => q.seq | none => 0
    let new := match r.index.getLast? with | some q => q.seq | none => 0
    let a := arg.toNat
    answerOk d [] (descPut a 3 (r.l + 256 * bitN r.recovered) (descPut a 2 r.lap (descPut a 1 new (descPut a 0 old s))))

/-- RECORD_INFO. -/
def execRecordInfo (core : Fin 4) (arg : Word) (s : State) : Host.Outcome State Fault Refusal :=
  .next (serveDesc core 0x22 arg (fun p d _ s => recordInfo p arg d s) s)

/-- READ RECORD SEQ (R272): units of one copy, the state of both. A bank that is busy only makes the reply wait. Where a unit of a
copy cannot be read, the units before it stand and the reply is an error (R337, assumption 80). -/
def readRecordSeq (ln : Ln) (seq : Nat) (fb3 : Bool) (s : State) : State :=
  match recFind s seq with
  | none => replyErr ln { code := 300 } s
  | some r =>
    if storeBusy s then setOru (fun o => { o with awaitRead := o.awaitRead ++ [(ln, seq, fb3)] }) s
    else
      let k := if fb3 then 3 else 2
      let b := recBytes s k r
      let ok := fun b => tx (if recVerifies s b r then "OK" else "BAD")
      let last := spaced [tx "RECORD", tx "SEQ=" ++ decText seq, tx "UNITS=" ++ decText r.units,
        tx "SPLIT=" ++ decText (bitN (recSplit s r)), tx "FB2=" ++ ok 2, tx "FB3=" ++ ok 3]
      let part := fun i t => replyPart ln (tx "U=" ++ decText i ++ ' ' :: hexGroups (slice b (16 * i) 16)) t
      let t := forNat (recReadable s k r) part (recNoteRead r s)
      if recBad s 2 r ∨ recBad s 3 r then replyErr ln { code := 300 } t else replyOk ln last t

/-- What an append that has ended reports to its caller (R266, R270, R273). -/
def recReport (r : RecDone) (s : State) : State :=
  match r with
  | .acked (.call c p arg) q _ => answerOk (.call c p 0x20 arg) [] (descPut arg.toNat 2 q s)
  | .failed (.call c p arg) => answerErr (.call c p 0x20 arg) { code := 500 } s
  | .acked (.tamper l) _ pl => markCopied l pl s
  | _ => s

/-- Reads that waited for the banks of the store are made (R272). -/
def readsWaiting (s : State) : State :=
  if storeBusy s then s
  else forAll s.oru.awaitRead (fun q t => readRecordSeq q.1 q.2.1 q.2.2 t) (setOru (fun o => { o with awaitRead := [] }) s)

/-- What a bank's command belonged to goes on: the append in FB2 and FB3, the steward's sequence in FB0 and FB1. -/
def flashNext (s : State) : State :=
  let r := recAdvance (copyShown s)
  let s := forAll r.2 recReport r.1
  readsWaiting (fbPump (fbFuel s) s)

/-- FLASH_OP_DONE (R251, R253, R266): a bank's command ends, and what it belongs to moves on. A command of the steward that was refused
NOT_BLANK ends without having run. -/
def execFlashOpDone (bank : Fin 4) (e : FlashEnd) (s : State) : Host.Outcome State Fault Refusal :=
  let b := bank.val
  let k := s.bank b
  .next (match k.busy with
    | none => flashNext s
    | some o =>
      let s := recBankDone b e (k.own && decide (2 ≤ b)) (bankEnd b e s)
      flashNext (if k.own && decide (b < 2) then fbStep b o e s else s))

/-! ### Sentinel (R424) -/

/-- RTC_ALARM (R424). -/
def execRtcAlarm (core : Fin 4) (arg : Word) (s : State) : Host.Outcome State Fault Refusal :=
  .next (serveNow core 0x10 arg (fun p s =>
    if s.srcOwner 91 ≠ p then (201, s) else (0, setSnt (fun q => { q with alarm := arg }) s)) s)

/-- SCALL_SET_TIME (R333, R424): an order on the RTC. -/
def execScallSetTime (core : Fin 4) (arg : Word) (s : State) : Host.Outcome State Fault Refusal :=
  .next (serveDesc core 0x11 arg (fun p d w s => submit 5 p (.setTime (w.getD 0 0) (w.getD 1 0 / 2 % 32768)) d s) s)

/-- The entries of the tamper log from an index on, in the order of their SEQ (R406). -/
def tamperFrom (s : State) (i : Nat) : List (Nat × TEntry) :=
  (((List.range 64).filterMap fun k => (vget s.snt.tlog k).map fun e => (k, e)).filter fun q => decide (i ≤ q.1)).mergeSort
    fun a b => decide (a.2.seq ≤ b.2.seq)

/-- TAMPER_READ (R424). -/
def tamperRead (core p : Nat) (arg : Word) (d : ReplyTo) (w : List Nat) (s : State) : State :=
  if !s.right p 15 then answerErr d { code := 201 } s
  else
    let l := (tamperFrom s (w.getD 1 0)).take (w.getD 2 0)
    let n := l.length
    let done := fun s => answerOk d [] (descPut arg.toNat 3 n s)
    if n = 0 then done s
    else
      let b := bufOk p core (w.getD 0 0) (16 * n) s
      if !b.1 then answerErr d { code := 302 } b.2
      else done (sramPut (w.getD 0 0) (l.flatMap fun q => entryBytes q.2) b.2)

/-- TAMPER_READ. -/
def execTamperRead (core : Fin 4) (arg : Word) (s : State) : Host.Outcome State Fault Refusal :=
  .next (serveBuf core 0x12 arg (fun w => 16 * w.getD 2 0) (fun p d w s => tamperRead core.val p arg d w s) s)

end Sys2Proof.Machine
end

