-- ==== Sys2Proof/Machine/Sessions.lean ====
section
/-! DEFINITION. Lines as they are taken (R309, R312, R318, R322, R324), and sessions (R313 to R317): challenge, proof, card, end, lockout. -/

namespace Sys2Proof.Machine

/-! ### Taking a line (R309, R312) -/

/-- What the pair of a line does: whether it needs a session, and its meaning. -/
structure PairDo where
  need : Bool
  act : State → State

/-- Carriers are heard from step 7 of a start on (R299); a person's own only while it is present, the window's while it is live. -/
def heard (s : State) (c : Carrier) : Bool :=
  decide (7 ≤ s.isl.step) && match c with
    | .core p => s.present p
    | .win => winLive s
    | _ => true

/-- The line is for this node; one addressed to its own position is handled as `@0` (R322, R445). -/
def forHere (s : State) (ln : Ln) : Bool :=
  match ln.pos with | none => true | some n => decide (n = 0) || decide (n = s.chn.pos)

/-- Check 4, and the tag of a generated line (R300, R309): the error, and whether it goes under an empty tag. -/
def tagRefusal (s : State) (ln : Ln) : Option (Err × Bool) :=
  let l := (s.car ln.car).tags
  if generated ln.car ∧ ln.tag.isNone then some ({ code := 103 }, true)
  else match ln.tag with
    | some t =>
      if l.any fun q => decide (q.tag = some t) then some ({ code := 107, field := tx "TAG=" ++ decText t }, true)
      else if 64 ≤ l.length then some ({ code := 108 }, false) else none
    | none => if 64 ≤ l.length ∨ (l.any fun q => q.tag.isNone) then some ({ code := 108 }, true) else none

/-- The early answer to a line that fails check 3 or 4. -/
def refuseTag (ln : Ln) (q : Err × Bool) (s : State) : State :=
  replyEarly (if q.2 then { ln with tag := none } else ln) q.1 s

/-- Checks 6 to 8 of R312 and what follows them, for an accepted line that is for this node. -/
def lineHere (ln : Ln) (d : Except Err PairDo) (s : State) : State :=
  match d with
  | .error e => replyErr ln e s
  | .ok p => if p.need && (sessOf s ln.car).isNone then replyErr ln { code := 200 } s else p.act s

/-- The line that brings a pair: FABRIC stamps its arrival (R37, R324), unsolicited lines follow its suffix (R307), and it
is examined in the order of R312. -/
def takeLine (ln : Ln) (d : Except Err PairDo) (s : State) : State :=
  if !heard s ln.car || !forHere s ln then s
  else
    let s := stampArrival (napEnd s)
    let s := setCar ln.car (fun q => { q with lastSfx := ln.sfx }) s
    match tagRefusal s ln with
    | some q => refuseTag ln q s
    | none => lineHere ln d (openTag ln 0 s)

/-- An order on a control object by a line (R325). -/
def lineOrder (ln : Ln) (a : Act) (s : State) : State := submit (carSrc ln.car) (partyOf s ln.car) a (.line ln) s

/-- The pairs that need a session, and those that are open (R318). -/
def needs (f : State → State) : Except Err PairDo := .ok { need := true, act := f }
def openTo (f : State → State) : Except Err PairDo := .ok { need := false, act := f }

/-- A value not valid for its pair (R330). -/
def notValid (field : String) : Except Err PairDo := .error { code := 106, field := tx field }
def whenValid (ok : Bool) (field : String) (d : Except Err PairDo) : Except Err PairDo := if ok then d else notValid field

/-! ### The end of a session (R317) -/

/-- The steward lets go of a card slot that no session uses any more (R458). -/
def cardLeave (n : Nat) (s : State) : State :=
  if s.oru.cars.any fun q => match q.sess with | some k => decide (k.card = some n) | none => false then s
  else
    let s := setSlot n (fun q => { q with steward := false, wait := none }) s
    if (s.slot n).inUse then cardOff n 0 s else s

/-- A session ends, with the line its event sends; a partial charter goes with it (R317, R332). -/
def sessionEnd (c : Carrier) (why : Option Text) (s : State) : State :=
  match (s.car c).sess with
  | none => s
  | some q =>
    let s := setCar c (fun k => { k with sess := none, chBuf := [] }) s
    let s := match q.card with | some n => cardLeave n s | none => s
    let s := logEvent (carSrc c) q.party "ORUNE.SESSION_END" [w32 (carCode c)] (setLeaf 12 1 s)
    match why with
    | some w => unsolicited c (tx "SESSION END " ++ w) s
    | none => s

/-- CLOSE SESSION: the end of the session sends no other line. -/
def closeSession (ln : Ln) (s : State) : State := replyOk ln [] (sessionEnd ln.car none s)

/-- CLOSE_SESSION. -/
def execCloseSession (ln : Ln) (s : State) : Host.Outcome State Fault Refusal :=
  .next (takeLine ln (openTo (closeSession ln)) s)

/-- SESSION_IDLE_TIMEOUT (R317): 600 s without a line. -/
def execSessionIdleTimeout (car : Carrier) (s : State) : Host.Outcome State Fault Refusal :=
  .next (sessionEnd car (some (tx "IDLE")) s)

/-! ### Challenge and proof (R314, R315) -/

/-- The kind byte of M, and of a challenge. -/
def sessCode (k : SessArg) : Nat :=
  match k with | .person p => p | .workshop => 0x57 | .card _ => 0 | .blank => 0x42

/-- The message a proof covers (R314). -/
def sessionMsg (kind : Nat) (c : Carrier) (chal : Bytes) : Bytes :=
  textBytes (tx "ORUNE-SESSION") ++ deviceId ++ leBytes 1 kind ++ leBytes 1 (carCode c) ++
    leBytes 1 (match c with | .chain n _ => n | _ => 0) ++ chal

/-- Give a challenge; it replaces an earlier one. -/
def challenge (c : Carrier) (k : SessArg) (s : State) : Bytes × State :=
  let r := randomBytes 16 s
  (r.1, setCar c (fun q => { q with chal := some (k, r.1), chalAt := s.secs }) r.2)

/-- The workshop key of the charter in force (R13, R17, R277). -/
def workshopKey (s : State) : Option Bytes :=
  match s.stw.charter with
  | none => none
  | some ch => (transportKey s ch.ephKey "DZB transport").bind fun k =>
      gcmDec k (ch.wrap.take 12) [] (slice ch.wrap 12 32) (slice ch.wrap 44 16)

/-- A proof by HMAC. -/
def hmacProof (key : Option Bytes) (m proof : Bytes) : Bool :=
  match key with | some k => decide (hmac sha256P k m = proof) | none => false

/-- The session key of a person (R411). -/
def personKey (s : State) (p : Nat) : Option Bytes :=
  let k := vget (vget s.seals.p p).slot 3
  if s.present p ∧ k.ty = .hmac then some k.key else none

/-- A proof verifies (R313). -/
def proofOk (s : State) (k : SessArg) (c : Carrier) (chal proof : Bytes) : Bool :=
  let m := sessionMsg (sessCode k) c chal
  match k with
  | .person p => hmacProof (personKey s p) m proof
  | .workshop => hmacProof (workshopKey s) m proof
  | .blank => decide (s.life = 1) && sigOk384 enrolKey m proof
  | .card _ => false

/-- A proof has failed on a carrier (R315): the fifth in a row locks it. -/
def proofFailed (c : Carrier) (s : State) : State :=
  let s := setLeaf 12 2 (logEvent (carSrc c) (partyOf s c) "ORUNE.PROOF_FAIL" [w32 (carCode c)] s)
  let n := (s.car c).fails + 1
  if n < 5 then setCar c (fun q => { q with fails := n, chal := none }) s
  else logEvent (carSrc c) (partyOf s c) "ORUNE.LOCKOUT" [w32 (carCode c)]
    (setLeaf 12 3 (setCar c (fun q => { q with fails := n, chal := none, locked := true }) s))

/-- A proof has succeeded: an earlier session of the carrier gives way (R317). -/
def proofPassed (c : Carrier) (q : Sess) (s : State) : State :=
  sessionOpen c q (logEvent (carSrc c) q.party "PROOF" [w32 (carCode c)] (sessionEnd c none s))

/-- The party of a session, and the name of its kind. -/
def sessParty (k : SessArg) : Nat := match k with | .person p => p | .workshop => 7 | .card _ => 0 | .blank => 8
def sessName (k : SessArg) : Text :=
  tx (match k with | .person _ => "PERSON" | .workshop => "WORKSHOP" | .card _ => "CARD" | .blank => "BLANK")

/-- PROVE SESSION (R314, R315); a person's own carrier has its session already (R319). -/
def proveSession (ln : Ln) (proof : Bytes) (s : State) : State :=
  let c := ln.car
  match c, (s.car c).chal with
  | .core _, _ => replyErr ln { code := 301, field := tx "CORE" } s
  | _, some (k, chal) =>
    if s.secs < (s.car c).chalAt + 30 ∧ proofOk s k c chal proof then
      replyOk ln (tx "SESSION " ++ partyName (sessParty k) ++ ' ' :: sessName k) (proofPassed c { party := sessParty k } s)
    else replyErr ln { code := 202 } (proofFailed c s)
  | _, none => replyErr ln { code := 202 } (proofFailed c s)

/-- PROVE_SESSION. -/
def execProveSession (ln : Ln) (proof : Bytes) (s : State) : Host.Outcome State Fault Refusal :=
  .next (takeLine ln (openTo (proveSession ln proof)) s)

/-- LOCKOUT_EXPIRY (R315): 60 s have passed. -/
def execLockoutExpiry (car : Carrier) (s : State) : Host.Outcome State Fault Refusal :=
  .next (if (s.car car).locked then setCar car (fun q => { q with locked := false, fails := 0 }) s else s)

/-! ### Card sessions (R316, R410) -/

/-- The lengths of a certificate (R410) and of the signature over M. -/
def certLen : Nat := 212
def sigLen : Nat := 64

/-- A certificate verifies, is of this time and for this device (R410). -/
def certOk (s : State) (b : Bytes) : Bool :=
  let p := leAt b 4 1
  let now := s.snt.rtcSec.toNat
  decide (b.length = certLen) && decide (b.take 4 = textBytes (tx "CRT1")) && decide (1 ≤ p) && decide (p ≤ 6) &&
    decide (leAt b 5 3 = 0) && decide (leAt b 113 3 = 0) &&
    sigOk384 (s.fuses.custKey.getD vendorKey) (b.take 116) (slice b 116 96) &&
    (!s.snt.rtcValid || (decide (leAt b 8 4 ≤ now) && decide (now ≤ leAt b 12 4))) &&
    (decide (slice b 16 32 = List.replicate 32 0) || decide (slice b 16 32 = deviceId))

/-- The card's answer proves a session of a present person. -/
def cardProof (s : State) (c : Carrier) (chal : Bytes) (a : CardAnswer) : Option Nat :=
  let p := leAt a.cert 4 1
  if certOk s a.cert ∧ s.present p ∧ sigOk256 (slice a.cert 48 65) (sessionMsg p c chal) a.sig then some p else none

/-- The card has answered, or not in time: the session opens, or E202. -/
def cardDone (n : Nat) (ln : Ln) (a : Option CardAnswer) (s : State) : State :=
  let c := ln.car
  let s := setSlot n (fun q => { q with wait := none, rx := [], xfer := none }) s
  let who := match (s.car c).chal, a with
    | some (.card _, chal), some a => cardProof s c chal a
    | _, _ => none
  match who with
  | none => replyErr ln { code := 202 } (cardLeave n (proofFailed c s))
  | some p =>
    let bad := !s.snt.rtcValid
    let s := setSlot n (fun q => { q with st := 3, steward := true }) (proofPassed c { party := p, card := some n } s)
    let s := if bad then logEvent (carSrc c) p "SESSION.NO_TIME" [w32 n] s else s
    replyOk ln (tx "SESSION P" ++ decText p ++ tx " CARD " ++ decText n ++ (if bad then tx " RTC=INVALID" else [])) s

/-- The steward takes a slot and activates its card, if it is not active (R316, R456): an active card is asked for its
certificate at once, another one after its answer-to-reset (assumption 77). -/
def cardTake (n : Nat) (s : State) : State :=
  let q := s.slot n
  let s := setSlot n (fun q => { q with steward := true, tx := [], rx := [] }) s
  if q.st = 3 then cardListen n s else cardStart n (decide (bits q.cfg 1 0 ≠ 1)) s

/-- The certificate of the card being asked verifies: the slot sends M to the card and receives its signature (R316). -/
def cardAsk (n : Nat) (w : CardWait) (cert : Bytes) (s : State) : State :=
  match (s.car w.ln.car).chal with
  | some (.card _, chal) =>
    let m := sessionMsg (leAt cert 4 1) w.ln.car chal
    setSlot n (fun q => { q with wait := some { w with asked := some (cert, m) }, rx := [], xfer := some (.send m.length), sent := 0 }) s
  | _ => cardDone n w.ln none s

/-- The card has given its certificate: one that fails ends the opening. -/
def cardShown (n : Nat) (w : CardWait) (cert : Bytes) (s : State) : State :=
  if certOk s cert ∧ s.present (leAt cert 4 1) then cardAsk n w cert s else cardDone n w.ln none s

/-- The activation, the certificate, M and the signature at once, where the command brings the card's answers. -/
def cardAtOnce (n : Nat) (ln : Ln) (a : CardAnswer) (s : State) : State :=
  let s := cardShown n { ln := ln } a.cert (setSlot n (fun q => { q with st := 3, wait := some { ln := ln } }) s)
  match ((s.slot n).wait.bind fun w => w.asked) with
  | some (cert, m) => cardDone n ln (some { cert := cert, sig := a.sig }) (setSlot n (fun q => { q with sent := m.length, xfer := none }) s)
  | none => s

/-- OPEN SESSION CARD (R316): the answer comes with the command, or by the slot. -/
def openCard (ln : Ln) (n : Nat) (a : Option CardAnswer) (s : State) : State :=
  let q := s.slot n
  if s.fuses.part = .an ∨ !q.present then replyErr ln { code := 300 } s
  else if (q.inUse ∧ !q.steward) ∨ q.wait.isSome then replyErr ln { code := 301, field := tx "CARD" } s
  else
    let s := cardTake n (challenge ln.car (.card n) s).2
    match a with
    | some a => cardAtOnce n ln a s
    | none => setSlot n (fun q => { q with wait := some { ln := ln } }) s

/-- OPEN SESSION (R314, R315, R319). -/
def openSession (ln : Ln) (k : SessArg) (a : Option CardAnswer) (s : State) : State :=
  let c := ln.car
  let give := fun (s : State) =>
    let r := challenge c k s
    replyOk ln (tx "CHALLENGE " ++ hexGroups r.1) r.2
  match c, k with
  | .core _, _ => replyErr ln { code := 301, field := tx "CORE" } s
  | _, _ =>
    if (s.car c).locked then replyErr ln { code := 202 } s
    else match k with
      | .person p => if s.present p then give s else replyErr ln { code := 300 } s
      | .workshop => give s
      | .blank => if s.life = 1 then give s else replyErr ln { code := 301, field := lifeName s.life } s
      | .card n => openCard ln n a s

/-- What OPEN SESSION may name (R331). -/
def sessArgOk (k : SessArg) : Bool :=
  match k with
  | .person p => decide (1 ≤ p) && decide (p ≤ 6)
  | .card n => decide (n < 2)
  | _ => true

/-- OPEN_SESSION. -/
def execOpenSession (ln : Ln) (k : SessArg) (card : Option CardAnswer) (s : State) : Host.Outcome State Fault Refusal :=
  .next (takeLine ln (whenValid (sessArgOk k) "P" (openTo (openSession ln k card))) s)

/-- A byte of the card whose session is being opened: of its answer-to-reset, of its certificate, or of its signature; the first
one behind M shows that M has gone out (assumption 77). -/
def cardByte (n : Nat) (w : CardWait) (v : Byte) (s : State) : State :=
  let q := s.slot n
  match q.xfer with
  | none => s
  | some .atr => setSlot n (fun q => { q with st := 3, atr := (q.atr ++ [v]).take 33 }) s
  | some x =>
    let bs := q.rx ++ [v]
    let sent := match x with | .send k => k | _ => q.sent
    let s := setSlot n (fun q => { q with rx := bs, xfer := some .recv, sent := sent }) s
    match w.asked with
    | none => if bs.length < certLen then s else cardShown n w bs s
    | some a => if bs.length < sigLen then s else cardDone n w.ln (some { cert := a.1, sig := bs }) s

/-- CARD_BYTE_RX (R316, R455): a character of a transfer, or of the answer the steward waits for. -/
def execCardByteRx (sl : Fin 2) (v : Byte) (s : State) : Host.Outcome State Fault Refusal :=
  .next (match (s.slot sl.val).wait with
    | some w => if cardsOn s then cardByte sl.val w v s else s
    | none => cardReceive sl.val v s)

/-- CARD_SESSION_TIMEOUT (R316): 2 s without an answer. -/
def execCardSessionTimeout (sl : Fin 2) (s : State) : Host.Outcome State Fault Refusal :=
  .next (match (s.slot sl.val).wait with
    | some w => cardDone sl.val w.ln none s
    | none => s)

/-- CARD_REMOVE (R317, R457): the sessions of the card end; one being opened fails. -/
def execCardRemove (sl : Fin 2) (s : State) : Host.Outcome State Fault Refusal :=
  let n := sl.val
  .next (if !cardsOn s || !(s.slot n).present then s
    else
      let w := (s.slot n).wait
      let cs := (s.oru.cars.filter fun q => match q.sess with | some k => decide (k.card = some n) | none => false).map fun q => q.car
      let s := cardGone n s
      let s := match w with | some w => cardDone n w.ln none s | none => s
      forAll cs (fun c t => sessionEnd c (some (tx "CARD")) t) s)

end Sys2Proof.Machine
end

