-- ==== Sys2Proof/Machine/Vocab.lean ====
section
/-! DEFINITION. The pairs of the Orune vocabulary (R331 to R335): one meaning for each pair, and the command that brings it. -/

namespace Sys2Proof.Machine

/-! ### Ranges of positional values (R330, R331) -/

/-- A person number. -/
def personNo (p : Nat) (d : Except Err PairDo) : Except Err PairDo := whenValid (decide (1 ≤ p) && decide (p ≤ 6)) "P" d

/-! ### Identity, chain, time -/

/-- READ IDENTITY (R331, R401). -/
def readIdentity (ln : Ln) (s : State) : State :=
  let k := match s.fuses.recPub with | some k => hexGroups k | none => tx "NONE"
  let patch := match s.bun.patch with | some v => dotted v.toNat | none => tx "NONE"
  replyOk ln (tx (if s.fuses.part = .an then "IDENTITY CG-4664-AN DEVICE_ID=" else "IDENTITY CG-4664-AH DEVICE_ID=") ++
      hexGroups deviceId ++ tx " ROM=" ++ dotted Config.romVersion ++ tx " PATCH=" ++ patch ++ tx " POS=" ++ decText s.chn.pos)
    (replyPart ln (tx "RECKEY=" ++ k) s)

/-- READ_IDENTITY. -/
def execReadIdentity (ln : Ln) (s : State) : Host.Outcome State Fault Refusal := .next (takeLine ln (openTo (readIdentity ln)) s)

/-- READ CHAIN. -/
def readChain (ln : Ln) (s : State) : State :=
  replyOk ln (tx "CHAIN NODES=" ++ decText s.chn.members.length ++ tx " POS=" ++ decText s.chn.pos ++ tx " RING=" ++
    decText (bitN s.chn.ring)) s

/-- READ_CHAIN. -/
def execReadChain (ln : Ln) (s : State) : Host.Outcome State Fault Refusal := .next (takeLine ln (needs (readChain ln)) s)

/-- READ TIME (R390). -/
def readTime (ln : Ln) (s : State) : State :=
  replyOk ln (if s.snt.rtcValid then tx "TIME " ++ timeText s.snt.rtcSec.toNat s.snt.rtcFrac else tx "TIME INVALID") s

/-- READ_TIME. -/
def execReadTime (ln : Ln) (s : State) : Host.Outcome State Fault Refusal := .next (takeLine ln (openTo (readTime ln)) s)

/-- SET TIME (R333, R390): fraction digits in steps of 1/32,768 s, a whole second carried; a time before 2000 is out of range. -/
def setTimePair (ln : Ln) (sec : Int) (digits : List (Fin 10)) : Except Err PairDo :=
  let f := fracSteps digits
  whenValid (decide (digits.length ≤ 5)) "TIME"
    (needs (lineOrder ln (.setTime (sec + (f / 32768 : Nat)).toNat (f % 32768))))

/-- SET_TIME. -/
def execSetTime (ln : Ln) (sec : Int) (digits : List (Fin 10)) (s : State) : Host.Outcome State Fault Refusal :=
  .next (takeLine ln (setTimePair ln sec digits) s)

/-! ### Lifecycle and device -/

/-- READ LIFECYCLE. -/
def readLifecycle (ln : Ln) (s : State) : State :=
  replyOk ln (tx "LIFECYCLE " ++ lifeName s.life ++ (if s.snt.hold.any then tx " HOLD=OPEN" else []) ++
    (if s.snt.rtcValid then [] else tx " RTC=INVALID")) s

/-- READ_LIFECYCLE. -/
def execReadLifecycle (ln : Ln) (s : State) : Host.Outcome State Fault Refusal := .next (takeLine ln (openTo (readLifecycle ln)) s)

/-- HOLD LIFECYCLE: a reason goes into the event log, 20 characters at most. -/
def holdLifecycle (ln : Ln) (reason : Text) (s : State) : State :=
  let b := padTo 20 (textBytes reason)
  let note := fun s => if reason.isEmpty then s else
    logEvent (carSrc ln.car) (partyOf s ln.car) "HOLD_REASON" ((List.range 5).map fun i => w32 (leAt b (4 * i) 4)) s
  lineOrder ln .hold (note s)

/-- HOLD_LIFECYCLE. -/
def execHoldLifecycle (ln : Ln) (reason : Text) (s : State) : Host.Outcome State Fault Refusal :=
  .next (takeLine ln (needs (holdLifecycle ln reason)) s)

/-- RELEASE_LIFECYCLE (R334). -/
def execReleaseLifecycle (ln : Ln) (s : State) : Host.Outcome State Fault Refusal :=
  .next (takeLine ln (needs (lineOrder ln .release)) s)

/-- COMMISSION_LIFECYCLE (R335). -/
def execCommissionLifecycle (ln : Ln) (s : State) : Host.Outcome State Fault Refusal :=
  .next (takeLine ln (needs (lineOrder ln .commission)) s)

/-- ENROL_LIFECYCLE (R335). -/
def execEnrolLifecycle (ln : Ln) (s : State) : Host.Outcome State Fault Refusal :=
  .next (takeLine ln (needs (lineOrder ln .enrol)) s)

/-- RETIRE_LIFECYCLE (R28). -/
def execRetireLifecycle (ln : Ln) (s : State) : Host.Outcome State Fault Refusal :=
  .next (takeLine ln (needs (lineOrder ln .retire)) s)

/-- CONFIRM_LIFECYCLE (R28, R334). -/
def execConfirmLifecycle (ln : Ln) (s : State) : Host.Outcome State Fault Refusal :=
  .next (takeLine ln (needs (lineOrder ln .confirm)) s)

/-- RESTART DEVICE (R51, R338): no control object, so at once. -/
def restartDeviceBy (ln : Ln) (s : State) : State :=
  let e := (if blankOpen s then none else needRight s (partyOf s ln.car) 13) <|> (if s.life = 5 then wrongLife s else none)
  match e with
  | some e => replyErr ln e s
  | none => restartDevice (replyOk ln (tx "DEVICE RESTART") s)

/-- RESTART_DEVICE. -/
def execRestartDevice (ln : Ln) (s : State) : Host.Outcome State Fault Refusal := .next (takeLine ln (needs (restartDeviceBy ln)) s)

/-! ### Persons -/

/-- The words a READ PERSON shows a state by, and those of R199. -/
def runWord (s : State) (p : Nat) : Text :=
  tx (match (s.person p).run with
    | .running => if s.checking p then "STOPPED" else "RUNNING"
    | .handover => "RUNNING"
    | .absent => "ABSENT"
    | .dead => "DEAD"
    | _ => "STOPPED")
def execName (n : Nat) : Text :=
  tx (["NOT_RUNNING", "SINGLE", "WITNESS", "HANDOVER", "RESTARTING", "SUSPENDED"].getD n "")

/-- READ PERSON. -/
def readPerson (ln : Ln) (p : Nat) (s : State) : State :=
  let q := s.person p
  let i := (s.img p).getD {}
  replyOk ln (spaced [tx "PERSON", decText p, runWord s p, tx "EXEC=" ++ execName (execCode s p),
    tx "CORES=" ++ coresText (if q.run = .running then q.cores else 0), tx "SV=" ++ decText i.sv, tx "DISPLAY=" ++ dotted i.display]) s

/-- READ_PERSON. -/
def execReadPerson (ln : Ln) (p : Nat) (s : State) : Host.Outcome State Fault Refusal :=
  .next (takeLine ln (personNo p (needs (readPerson ln p))) s)

/-- An order on a person. -/
def personOrder (ln : Ln) (p : Nat) (a : Act) : Except Err PairDo := personNo p (needs (lineOrder ln a))

/-- START_PERSON. -/
def execStartPerson (ln : Ln) (p : Nat) (s : State) : Host.Outcome State Fault Refusal := .next (takeLine ln (personOrder ln p (.start p)) s)

/-- STOP_PERSON. -/
def execStopPerson (ln : Ln) (p : Nat) (s : State) : Host.Outcome State Fault Refusal := .next (takeLine ln (personOrder ln p (.stop p)) s)

/-- RESTART_PERSON. -/
def execRestartPerson (ln : Ln) (p : Nat) (s : State) : Host.Outcome State Fault Refusal :=
  .next (takeLine ln (personOrder ln p (.restart p)) s)

/-- RESUME_PERSON (R196). -/
def execResumePerson (ln : Ln) (p : Nat) (s : State) : Host.Outcome State Fault Refusal := .next (takeLine ln (personOrder ln p (.resume p)) s)

/-- Where an order to move goes, if its verb admits the place (R331). -/
def promoteTo (s : State) (p : Nat) (d : Option Place) : Option Act :=
  match d with
  | none => some (.promote p (pairOf (leadCore s p)))
  | some .pairA => some (.promote p 0)
  | some .pairB => some (.promote p 1)
  | _ => none
def demoteTo (s : State) (p : Nat) (d : Option Place) : Option Act :=
  match d with
  | none => some (.demote p (leadCore s p))
  | some .c0 => some (.demote p 0)
  | some .c2 => some (.demote p 2)
  | _ => none
def migrateTo (p : Nat) (d : Place) : Act :=
  match d with | .c0 => .demote p 0 | .c2 => .demote p 2 | .pairA => .promote p 0 | .pairB => .promote p 1

/-- An order to move. -/
def moveOrder (ln : Ln) (p : Nat) (valid : Bool) (act : State → Option Act) : Except Err PairDo :=
  personNo p (whenValid valid "TO" (needs fun s => match act s with | some a => lineOrder ln a s | none => s))

/-- PROMOTE_PERSON (R203, R204). -/
def promotePair (ln : Ln) (p : Nat) (d : Option Place) : Except Err PairDo :=
  moveOrder ln p (match d with | some .c0 => false | some .c2 => false | _ => true) fun s => promoteTo s p d
def execPromotePerson (ln : Ln) (p : Nat) (dest : Option Place) (s : State) : Host.Outcome State Fault Refusal :=
  .next (takeLine ln (promotePair ln p dest) s)

/-- DEMOTE_PERSON (R203, R204). -/
def demotePair (ln : Ln) (p : Nat) (d : Option Place) : Except Err PairDo :=
  moveOrder ln p (match d with | some .pairA => false | some .pairB => false | _ => true) fun s => demoteTo s p d
def execDemotePerson (ln : Ln) (p : Nat) (dest : Option Place) (s : State) : Host.Outcome State Fault Refusal :=
  .next (takeLine ln (demotePair ln p dest) s)

/-- MIGRATE_PERSON (R203, R204). -/
def execMigratePerson (ln : Ln) (p : Nat) (dest : Place) (s : State) : Host.Outcome State Fault Refusal :=
  .next (takeLine ln (moveOrder ln p true fun _ => some (migrateTo p dest)) s)

/-! ### Cores and operating points -/

/-- READ CORE. -/
def readCore (ln : Ln) (c : Nat) (s : State) : State :=
  let k := s.core c
  let st := if !(partCores s).contains c then "FUSED_OFF" else if k.fenced then "FENCED"
    else if vget s.isl.pairSt (pairOf c) = .run then "RUN" else "OFF"
  replyOk ln (spaced [tx "CORE", decText c, tx st, tx (if k.selftestFail then "SELFTEST=FAIL" else "SELFTEST=PASS")]) s

/-- READ_CORE. -/
def execReadCore (ln : Ln) (c : Fin 4) (s : State) : Host.Outcome State Fault Refusal := .next (takeLine ln (needs (readCore ln c.val)) s)

/-- FENCE_CORE (R202, R203). -/
def execFenceCore (ln : Ln) (c : Fin 4) (s : State) : Host.Outcome State Fault Refusal :=
  .next (takeLine ln (needs (lineOrder ln (.fence c.val))) s)

/-- LIFT_CORE (R200, R203): `pass` is how the self-test ends. -/
def execLiftCore (ln : Ln) (c : Fin 4) (pass : Bool) (s : State) : Host.Outcome State Fault Refusal :=
  .next (takeLine ln (needs (lineOrder ln (.lift c.val (some pass)))) s)

/-- READ OPPOINT (R41): the highest request of all that count, the highest point permitted, the current one. -/
def oppointText (s : State) (pr : Nat) : Text :=
  let q := opReqCode s pr
  spaced [tx "OPPOINT", tx (if pr = 0 then "A" else "B"), tx "REQ=" ++ (if q = 7 then tx "NONE" else decText q),
    tx "MAX=" ++ decText (vget s.isl.opMax pr), tx "CUR=" ++ decText (vget s.isl.opCur pr)]

/-- READ_OPPOINT. -/
def execReadOppoint (ln : Ln) (pr : Pair) (s : State) : Host.Outcome State Fault Refusal :=
  .next (takeLine ln (needs fun s => replyOk ln (oppointText s (pairNo pr)) s) s)

/-- SET OPPOINT (R41): the one request that Orune adds. -/
def setOppoint (ln : Ln) (pr : Nat) (v : Nat) (s : State) : State :=
  match needRight s (partyOf s ln.car) 10 with
  | some e => replyErr ln e s
  | none =>
    if pr = 1 ∧ s.fuses.part = .an then replyErr ln { code := 302, field := tx "PAIR_B" } s
    else
      let s := opEval pr (setIsl (fun k => { k with opReq := vmod k.opReq pr fun l => vset l (8 + partyOf s ln.car) v }) s)
      replyOk ln (oppointText s pr) s

/-- SET_OPPOINT. -/
def execSetOppoint (ln : Ln) (pr : Pair) (point : Option (Fin 5)) (s : State) : Host.Outcome State Fault Refusal :=
  .next (takeLine ln (needs (setOppoint ln (pairNo pr) (match point with | some v => v.val | none => 7))) s)

/-! ### Outputs and survey -/

/-- READ FEED (R463). -/
def readFeed (ln : Ln) (n : Nat) (s : State) : State :=
  let f := s.feed n
  replyOk ln (spaced [tx "FEED", decText n, tx (if f.on then "ON" else "OFF"), tx "I=" ++ decText (f.cur / 100),
    tx "FAULT=" ++ tx (["NONE", "OPEN", "OVER", "SHORT"].getD f.fault "")]) s

/-- READ_FEED. -/
def execReadFeed (ln : Ln) (n : Fin 8) (s : State) : Host.Outcome State Fault Refusal := .next (takeLine ln (needs (readFeed ln n.val)) s)

/-- SET_FEED (R464). -/
def execSetFeed (ln : Ln) (n : Fin 8) (on : Bool) (s : State) : Host.Outcome State Fault Refusal :=
  .next (takeLine ln (needs (lineOrder ln (.feed n.val on))) s)

/-- A verified neighbour as text: eight bytes of its DEVICE_ID and its fuse-set code. -/
def peerText (q : Option (Bytes × Nat)) : Text :=
  match q with | some (b, f) => hexBytes b ++ '-' :: hexFixed 2 f | none => tx "NONE"

/-- The protocol an answer-to-reset names first (ISO/IEC 7816-3): T0 bit 8 announces TD1 behind TA1 to TC1. -/
def atrProtocol (a : Bytes) : Nat :=
  let t0 := leAt a 1 1
  let skip := t0 / 16 % 2 + t0 / 32 % 2 + t0 / 64 % 2
  if t0 / 128 = 1 then leAt a (2 + skip) 1 % 16 else 0

/-- The value and the baseline of a channel as MEASURE SURVEY writes them (R370, R378). -/
def valueText (s : State) (n : Nat) : Text :=
  let there := fun v => tx (if v = 1 then "PRESENT" else "ABSENT")
  if n = 40 ∨ n = 41 then peerText (vget s.srv.peer (n - 40))
  else if n = 42 ∨ n = 43 then there (s.sch n).value
  else if 44 ≤ n then
    let q := s.slot (n - 44)
    if !q.present ∨ q.atr.isEmpty then tx "NONE"
    else tx (if q.classC then "C-T" else "B-T") ++ decText (atrProtocol q.atr) ++ '-' :: hexBytes ((sha256 q.atr).take 8)
  else decText (s.sch n).value
def baseText (s : State) (n : Nat) : Text :=
  if n = 40 ∨ n = 41 then (match vget s.srv.peerBase (n - 40) with | some q => peerText q | none => tx "NONE")
  else match (s.sch n).base with
    | none => tx "NONE"
    | some b => if n = 42 ∨ n = 43 then tx (if b.value = 1 then "PRESENT" else "ABSENT") else decText b.value
def tolText (s : State) (n : Nat) : Text :=
  match (s.sch n).base with
  | some b => if chKind n = some .partner then tx "NONE" else decText b.win
  | none => tx "NONE"

/-- MEASURE SURVEY. -/
def measureSurvey (ln : Ln) (name : Text) (s : State) : State :=
  match chanOf s name with
  | none => replyErr ln { code := 300 } s
  | some n =>
    replyOk ln (spaced [tx "SURVEY", chanName n, tx "VALUE=" ++ valueText s n, tx "BASE=" ++ baseText s n, tx "TOL=" ++ tolText s n,
      tx (if (s.sch n).dev then "STATE=DEVIATION" else "STATE=OK")]) s

/-- MEASURE_SURVEY. -/
def execMeasureSurvey (ln : Ln) (ch : Text) (s : State) : Host.Outcome State Fault Refusal :=
  .next (takeLine ln (needs (measureSurvey ln ch)) s)

/-- The channels a SET BASELINE names (R370, R379, R380): none for an unknown name or a card channel. -/
def baseChans (s : State) (ch : ChanArg) : Option (List Nat) :=
  match ch with
  | .all => some (allChans.filter (marked s))
  | .name t => (chanOf s t).bind fun n => if n < 44 then some [n] else none

/-- A TOL that a channel of the order does not allow (R370). -/
def tolBad (s : State) (ch : ChanArg) (tol : Option Nat) : Bool :=
  match tol with
  | none => false
  | some t => match ch with
    | .all => (allChans.filter (marked s)).any fun n => !tolOk n t
    | .name c => match chanOf s c with | some n => !tolOk n t | none => false

/-- SET BASELINE (R380). -/
def setBaseline (ln : Ln) (ch : ChanArg) (tol : Option Nat) (s : State) : State :=
  match baseChans s ch with
  | some l => lineOrder ln (.baseline l (decide (ch = .all)) tol) s
  | none => match actRight s (partyOf s ln.car) (.baseline [] false none) with
    | some e => replyErr ln e s
    | none => replyErr ln { code := 300 } s

/-- SET_BASELINE: whether TOL is valid depends on the channel. -/
def execSetBaseline (ln : Ln) (ch : ChanArg) (tol : Option Nat) (s : State) : Host.Outcome State Fault Refusal :=
  .next (takeLine ln (whenValid (!tolBad s ch tol) "TOL" (needs (setBaseline ln ch tol))) s)

/-- The measurement joins the SET BASELINE orders that wait for it; those that have all they need are answered (R380). -/
def baseJobs (n : Nat) (r : Tdr) (s : State) : State :=
  let l := s.srv.jobs.map (jobAdd n r)
  let s := { s with srv := { s.srv with jobs := l.filter fun j => !jobReady j } }
  forAll (l.filter jobReady) (fun j t => applyAct.baseAnswer j (baseDone j t)) s

/-- TDR_MEASUREMENT_DONE (R374, R376, R380). -/
def execTdrMeasurementDone (k : Fin 10) (r : Tdr) (s : State) : Host.Outcome State Fault Refusal :=
  .next (if (vget s.srv.tdr k.val).running then baseJobs (24 + k.val) r (tdrDone k.val r s) else s)

/-! ### Charter and bundles -/

/-- The right of WRITE CHARTER (R18, R331). -/
def charterRight (s : State) (party : Nat) : Option Err := if blankOpen s then none else needRight s party 12

/-- WRITE CHARTER (R332). -/
def writeCharter (ln : Ln) (at_ : Nat) (data : Bytes) (s : State) : State :=
  let buf := (s.car ln.car).chBuf
  let e := at_ + data.length
  match charterRight s (partyOf s ln.car) with
  | some r => replyErr ln r s
  | none =>
    if at_ ≠ buf.length ∨ charterLen < e ∨ (data.length % 16 ≠ 0 ∧ e ≠ charterLen) then replyErr ln { code := 302 } s
    else replyOk ln (tx "CHARTER NEXT=" ++ decText e) (setCar ln.car (fun q => { q with chBuf := buf ++ data }) s)

/-- Data of a WRITE pair (R331). -/
def dataOk (data : Bytes) (d : Except Err PairDo) : Except Err PairDo :=
  whenValid (decide (16 ≤ data.length) && decide (data.length ≤ 96)) "DATA" d

/-- WRITE_CHARTER. -/
def execWriteCharter (ln : Ln) (at_ : Nat) (data : Bytes) (s : State) : Host.Outcome State Fault Refusal :=
  .next (takeLine ln (dataOk data (needs (writeCharter ln at_ data))) s)

/-- INSTALL CHARTER (R18, R332): an order for what the buffer holds; its answer discards the buffer. -/
def installCharter (ln : Ln) (s : State) : State :=
  let mine := fun (k : OutTag) => decide (k.tag = ln.tag) && decide (k.node = 0)
  lineOrder ln (.installCharter (s.car ln.car).chBuf)
    (setCar ln.car (fun q => { q with tags := q.tags.map fun k => if mine k then { k with installs := true } else k }) s)

/-- INSTALL_CHARTER. -/
def execInstallCharter (ln : Ln) (s : State) : Host.Outcome State Fault Refusal := .next (takeLine ln (needs (installCharter ln)) s)

/-- READ CHARTER: without one, E300. -/
def readCharter (ln : Ln) (s : State) : State :=
  match s.stw.charter with
  | none => replyErr ln { code := 300 } s
  | some c => replyOk ln (tx "CHARTER SV=" ++ decText c.sv ++ tx " FORMAT=1 PENDING=" ++ decText (bitN s.stw.chPending)) s

/-- READ_CHARTER. -/
def execReadCharter (ln : Ln) (s : State) : Host.Outcome State Fault Refusal := .next (takeLine ln (needs (readCharter ln)) s)

/-- OPEN_BUNDLE (R281, R282). -/
def execOpenBundle (ln : Ln) (len : Nat) (s : State) : Host.Outcome State Fault Refusal :=
  .next (takeLine ln (needs (lineOrder ln (.openB len))) s)

/-- WRITE_BUNDLE (R281, R332). -/
def execWriteBundle (ln : Ln) (at_ : Nat) (data : Bytes) (s : State) : Host.Outcome State Fault Refusal :=
  .next (takeLine ln (dataOk data (needs (lineOrder ln (.writeB at_ data)))) s)

/-- CLOSE_BUNDLE (R283). -/
def execCloseBundle (ln : Ln) (s : State) : Host.Outcome State Fault Refusal := .next (takeLine ln (needs (lineOrder ln .closeB)) s)

/-- ACTIVATE_BUNDLE (R287). -/
def execActivateBundle (ln : Ln) (now restart : Bool) (s : State) : Host.Outcome State Fault Refusal :=
  .next (takeLine ln (needs (lineOrder ln (.activate now restart))) s)

/-- DISCARD_BUNDLE (R282). -/
def execDiscardBundle (ln : Ln) (s : State) : Host.Outcome State Fault Refusal := .next (takeLine ln (needs (lineOrder ln .discard)) s)

/-- The result names of R331, by their codes. -/
def resultName (n : Nat) : Text :=
  tx (["NONE", "DONE", "DEAD_COPY", "DEAD_CHECK", "ROLLBACK", "INCOMPATIBLE", "INVALID", "CORRUPT", "PENDING"].getD n "")

/-- READ BUNDLE. -/
def readBundle (ln : Ln) (s : State) : State :=
  let ts := (List.range 7).filter fun t => decide (vget s.bun.result t ≠ 0)
  replyOk ln (spaced ([tx "BUNDLE", stageName s.bun.st, tx "ID=" ++ hexWord s.bun.id] ++
    ts.map fun t => 'P' :: decText t ++ '=' :: resultName (vget s.bun.result t))) s

/-- READ_BUNDLE. -/
def execReadBundle (ln : Ln) (s : State) : Host.Outcome State Fault Refusal := .next (takeLine ln (needs (readBundle ln)) s)

/-! ### Records and logs -/

/-- A pair that only needs a right. -/
def withRight (ln : Ln) (bit : Nat) (f : State → State) : Except Err PairDo :=
  needs fun s => match needRight s (partyOf s ln.car) bit with
    | some e => replyErr ln e s
    | none => f s

/-- READ RECORD without SEQ. -/
def readRecord (ln : Ln) (s : State) : State :=
  let r := s.store
  let sq := fun (q : Option RecPos) => decText (match q with | some p => p.seq | none => 0)
  replyOk ln (spaced [tx "RECORD", tx "OLDEST=" ++ sq r.index.head?, tx "NEWEST=" ++ sq r.index.getLast?, tx "LAP=" ++ decText r.lap,
    tx "L=" ++ decText r.l, tx "RECOVERED=" ++ decText (bitN r.recovered)]) s

/-- READ_RECORD. -/
def execReadRecord (ln : Ln) (s : State) : Host.Outcome State Fault Refusal := .next (takeLine ln (withRight ln 1 (readRecord ln)) s)

/-- READ_RECORD_SEQ. -/
def execReadRecordSeq (ln : Ln) (seq : Nat) (fb3 : Bool) (s : State) : Host.Outcome State Fault Refusal :=
  .next (takeLine ln (withRight ln 1 (readRecordSeq ln seq fb3)) s)

/-- The names of the tamper causes (R403). -/
def causeName (n : Nat) : Text :=
  tx (["", "CASE_OPEN", "CASE_CLOSE", "MESH", "VSTBY_LOST", "GLITCH", "REF_CLOCK", "X32_RC", "TEMP", "SURVEY", "BASELINE", "HOLD_ORDER",
    "RELEASE", "DEBUG_UNLOCK", "ZEROIZE", "OVERFLOW"].getD n "")

/-- A tamper-log entry as a line (R406). -/
def tamperText (i : Nat) (e : TEntry) : Text :=
  let t := if e.frac / 2 ^ 15 % 2 = 1 then timeText e.sec.toNat (e.frac % 2 ^ 15) else tx "INVALID:" ++ decText e.sec.toNat
  spaced [tx "I=" ++ decText i, tx "SEQ=" ++ decText e.seq, tx "T=" ++ t, tx "CAUSE=" ++ causeName e.cause,
    tx "DETAIL=" ++ decText e.detail, tx "COUNT=" ++ decText e.count, tx "COPIED=" ++ decText (bitN e.copied)]

/-- READ TAMPER (R406). -/
def readTamper (ln : Ln) (i : Nat) (s : State) : State :=
  let l := tamperFrom s i
  replyOk ln (tx "TAMPER COUNT=" ++ decText l.length) (forAll l (fun q t => replyPart ln (tamperText q.1 q.2) t) s)

/-- READ_TAMPER. -/
def execReadTamper (ln : Ln) (from_ : Nat) (s : State) : Host.Outcome State Fault Refusal :=
  .next (takeLine ln (withRight ln 15 (readTamper ln from_)) s)

/-- An event-log entry as a line (R407). -/
def eventText (e : Event) : Text :=
  spaced [tx "E=" ++ decText e.idx, tx "T=" ++ timeText e.sec.toNat e.frac, tx "SRC=" ++ srcName e.src ++ '.' :: partyName e.party,
    tx "CODE=" ++ e.code, tx "D=" ++ joinText ['-'] (e.data.map fun w => hexFixed 8 w.toNat)]

/-- READ EVENT (R407). -/
def readEvent (ln : Ln) (i : Option Nat) (s : State) : State :=
  let l := s.stw.elog.filter fun e => decide (i.getD 0 ≤ e.idx)
  replyOk ln (tx "EVENT NEXT=" ++ decText s.stw.elogNext) (forAll l (fun e t => replyPart ln (eventText e) t) s)

/-- READ_EVENT. -/
def execReadEvent (ln : Ln) (from_ : Option Nat) (s : State) : Host.Outcome State Fault Refusal :=
  .next (takeLine ln (withRight ln 15 (readEvent ln from_)) s)

end Sys2Proof.Machine
end

