-- ==== Sys2Proof/Machine/Pairs.lean ====
section
/-! DEFINITION. From the fields of a line to its pair (R303, R329 to R331, R336): words, arguments, modifiers. -/

namespace Sys2Proof.Machine

/-! ### Words (check 6 of R312) -/

/-- A word of a class, or E104 or E105. -/
def wordIn (cls : List Text) (t : Text) : Except Err Text :=
  match resolve cls t with
  | .is w => .ok w
  | .unknown w => .error { code := 104, field := w }
  | .ambiguous ws => .error { code := 105, field := spaced ws }

/-- One check behind another. -/
def thenDo {α β : Type} (x : Except Err α) (f : α → Except Err β) : Except Err β :=
  match x with | .error e => .error e | .ok a => f a

/-- The arguments of a line: positional values, then modifiers by their names. -/
structure Args where
  pos : List Text
  mods : List (Text × Text)
  deriving DecidableEq, Repr

/-- Values that are names and not keywords: CH (R370). -/
def plainValue (name : Text) : Bool := decide (name = tx "CH")

/-- A value that is a word and cannot be data must be a keyword. -/
def keyCheck (t : Text) : Except Err Unit :=
  if isWord t && (dataOf t).isNone then (wordIn keyWords_ t).map fun _ => () else .ok ()

/-- Read the arguments; a positional value behind a modifier has no place (R330). -/
def readArgs (late : Bool) (l : List Text) : Except Err Args :=
  match l with
  | [] => .ok { pos := [], mods := [] }
  | t :: r =>
    match modifierOf t with
    | none =>
      match keyCheck t with
      | .error e => .error e
      | .ok _ => match readArgs late r with
        | .error e => .error e
        | .ok a => if late then .error { code := 106, field := upperText t } else .ok { a with pos := t :: a.pos }
    | some (n, v) =>
      match wordIn modWords n with
      | .error e => .error e
      | .ok n =>
        match if plainValue n then .ok () else keyCheck v with
        | .error e => .error e
        | .ok _ => (readArgs true r).map fun a => { a with mods := (n, v) :: a.mods }

/-! ### Values (R330) -/

/-- E106 with a field. -/
def bad106 {α : Type} (field : Text) : Except Err α := .error { code := 106, field := field }

/-- A value given in the place of another one is of the wrong form. -/
def posAt (a : Args) (i : Nat) (name : String) : Except Err Text :=
  match a.pos[i]? with | some t => .ok t | none => bad106 (tx name)

/-- A number within limits. -/
def natOf (t : Text) (lo hi : Nat) (name : String) : Except Err Nat :=
  match numberOf t with
  | some (.ofNat n) => if lo ≤ n ∧ n ≤ hi then .ok n else bad106 (tx name)
  | _ => bad106 (tx name)

/-- One of some keywords. -/
def keyOf (t : Text) (allowed : List String) (name : String) : Except Err Text :=
  if isWord t then
    match wordIn keyWords_ t with
    | .error e => .error e
    | .ok w => if (allowed.map tx).contains w then .ok w else bad106 (tx name)
  else bad106 (tx name)

/-- Data. -/
def bytesOf (t : Text) (name : String) : Except Err Bytes := match dataOf t with | some b => .ok b | none => bad106 (tx name)

/-- The value of a modifier. -/
def Args.get (a : Args) (name : String) : Option Text := (a.mods.find? fun q => decide (q.1 = tx name)).map fun q => q.2

/-- A modifier that must be there, and one that may. -/
def need {α : Type} (a : Args) (name : String) (f : Text → Except Err α) : Except Err α :=
  match a.get name with | some v => f v | none => bad106 (tx name)
def may {α : Type} (a : Args) (name : String) (dflt : α) (f : Text → Except Err α) : Except Err α :=
  match a.get name with | some v => f v | none => .ok dflt

/-- A modifier that is not of the pair, or stands twice. -/
def modsBad (allowed : List String) (seen : List Text) (l : List (Text × Text)) : Option Text :=
  match l with
  | [] => none
  | (n, _) :: r => if !(allowed.map tx).contains n || seen.contains n then some n else modsBad allowed (n :: seen) r

/-- Arguments of a pair: how many positional values it has, and its modifiers. -/
def shape (a : Args) (n : Nat) (mods : List String) (f : Unit → Except Err PairDo) : Except Err PairDo :=
  match a.pos[n]? with
  | some t => bad106 (upperText t)
  | none => match modsBad mods [] a.mods with
    | some m => bad106 m
    | none => f ()

/-- A limit for numbers that the pair itself does not bound. -/
def wordMax : Nat := 0xFFFFFFFF

/-- A place (R331). -/
def placeOf (t : Text) : Except Err Place :=
  (keyOf t ["C0", "C2", "PAIR_A", "PAIR_B"] "TO").map fun w =>
    if w = tx "C0" then .c0 else if w = tx "C2" then .c2 else if w = tx "PAIR_A" then .pairA else .pairB

/-- A pair named A or B. -/
def pairArg (a : Args) : Except Err Pair :=
  thenDo (posAt a 0 "PAIR") fun t =>
  thenDo (keyOf t ["A", "B"] "PAIR") fun w =>
  .ok (if w = tx "A" then .a else .b)

/-- A switch written 0 or 1. -/
def flagOf (name : String) (t : Text) : Except Err Bool := (natOf t 0 1 name).map fun n => decide (n = 1)

/-- What OPEN SESSION names. -/
def sessArg (a : Args) : Except Err SessArg :=
  thenDo (posAt a 0 "P") fun t =>
  if isWord t then
    thenDo (keyOf t ["W", "CARD", "BLANK"] "P") fun w =>
    if w = tx "W" then .ok .workshop
    else if w = tx "BLANK" then .ok .blank
    else
      thenDo (posAt a 1 "S") fun u =>
      thenDo (natOf u 0 1 "S") fun n =>
      .ok (.card n)
  else
    thenDo (natOf t 1 6 "P") fun n =>
    .ok (.person n)

/-! ### The pairs -/

/-- A pair without arguments. -/
def noArgs (a : Args) (d : Except Err PairDo) : Except Err PairDo := shape a 0 [] fun _ => d

/-- A pair on a person, on a core, on an output. -/
def onPerson (a : Args) (mods : List String) (f : Nat → Except Err PairDo) : Except Err PairDo :=
  shape a 1 mods fun _ => thenDo (posAt a 0 "P") fun t => thenDo (natOf t 1 6 "P") f
def onCore (a : Args) (f : Nat → Except Err PairDo) : Except Err PairDo :=
  shape a 1 [] fun _ => thenDo (posAt a 0 "C") fun t => thenDo (natOf t 0 3 "C") f

/-- What a line with a pair does, once it is known to be that pair. -/
abbrev PairFn : Type := Unit → Except Err PairDo

/-- A row of the table. -/
def pairRow (name : String) (f : PairFn) : String × PairFn := (name, f)

/-- The pairs of the vocabulary with what each does on a line (R331). -/
def pairTable (s : State) (ln : Ln) (a : Args) : List (String × PairFn) := [
  pairRow "OPEN SESSION" (fun _ => shape a (if (a.pos.headD []).length = 4 ∧ upperText (a.pos.headD []) = tx "CARD" ∨
      upperText (a.pos.headD []) = tx "CAR" then 2 else 1) [] fun _ =>
    thenDo (sessArg a) fun k =>
    openTo (openSession ln k none)),
  pairRow "PROVE SESSION" (fun _ => shape a 1 [] fun _ =>
    thenDo (posAt a 0 "DATA") fun t =>
    thenDo (bytesOf t "DATA") fun b =>
    openTo (proveSession ln b)),
  pairRow "CLOSE SESSION" (fun _ => noArgs a (openTo (closeSession ln))),
  pairRow "READ IDENTITY" (fun _ => noArgs a (openTo (readIdentity ln))),
  pairRow "READ CHAIN" (fun _ => noArgs a (needs (readChain ln))),
  pairRow "READ TIME" (fun _ => noArgs a (openTo (readTime ln))),
  pairRow "SET TIME" (fun _ => shape a 1 [] fun _ =>
    thenDo (posAt a 0 "TIME") fun t =>
    match timeOf t with
    | some q => setTimePair ln q.1 q.2
    | none => notValid "TIME"),
  pairRow "READ LIFECYCLE" (fun _ => noArgs a (openTo (readLifecycle ln))),
  pairRow "HOLD LIFECYCLE" (fun _ => shape a 0 ["REASON"] fun _ =>
    thenDo (may a "REASON" [] fun t => match stringOf t with | some u => .ok u | none => bad106 (tx "REASON")) fun r =>
    needs (holdLifecycle ln r)),
  pairRow "RELEASE LIFECYCLE" (fun _ => noArgs a (needs (lineOrder ln .release))),
  pairRow "COMMISSION LIFECYCLE" (fun _ => noArgs a (needs (lineOrder ln .commission))),
  pairRow "ENROL LIFECYCLE" (fun _ => noArgs a (needs (lineOrder ln .enrol))),
  pairRow "RETIRE LIFECYCLE" (fun _ => noArgs a (needs (lineOrder ln .retire))),
  pairRow "CONFIRM LIFECYCLE" (fun _ => noArgs a (needs (lineOrder ln .confirm))),
  pairRow "RESTART DEVICE" (fun _ => noArgs a (needs (restartDeviceBy ln))),
  pairRow "READ PERSON" (fun _ => onPerson a [] fun p => needs (readPerson ln p)),
  pairRow "START PERSON" (fun _ => onPerson a [] fun p => personOrder ln p (.start p)),
  pairRow "STOP PERSON" (fun _ => onPerson a [] fun p => personOrder ln p (.stop p)),
  pairRow "RESTART PERSON" (fun _ => onPerson a [] fun p => personOrder ln p (.restart p)),
  pairRow "RESUME PERSON" (fun _ => onPerson a [] fun p => personOrder ln p (.resume p)),
  pairRow "PROMOTE PERSON" (fun _ => onPerson a ["TO"] fun p =>
    thenDo (may a "TO" none fun t => (placeOf t).map some) fun d =>
    promotePair ln p d),
  pairRow "DEMOTE PERSON" (fun _ => onPerson a ["TO"] fun p =>
    thenDo (may a "TO" none fun t => (placeOf t).map some) fun d =>
    demotePair ln p d),
  pairRow "MIGRATE PERSON" (fun _ => onPerson a ["TO"] fun p =>
    thenDo (need a "TO" placeOf) fun d =>
    moveOrder ln p true fun _ => some (migrateTo p d)),
  pairRow "READ CORE" (fun _ => onCore a fun c => needs (readCore ln c)),
  pairRow "FENCE CORE" (fun _ => onCore a fun c => needs (lineOrder ln (.fence c))),
  pairRow "LIFT CORE" (fun _ => onCore a fun c => needs (lineOrder ln (.lift c none))),
  pairRow "READ OPPOINT" (fun _ => shape a 1 [] fun _ =>
    thenDo (pairArg a) fun pr =>
    needs fun s => replyOk ln (oppointText s (pairNo pr)) s),
  pairRow "SET OPPOINT" (fun _ => shape a 1 ["VALUE"] fun _ =>
    thenDo (pairArg a) fun pr =>
    thenDo (need a "VALUE" fun t => if isWord t then (keyOf t ["NONE"] "VALUE").map fun _ => 7 else natOf t 0 4 "VALUE") fun v =>
    needs (setOppoint ln (pairNo pr) v)),
  pairRow "READ FEED" (fun _ => shape a 1 [] fun _ =>
    thenDo (posAt a 0 "N") fun t =>
    thenDo (natOf t 0 7 "N") fun n =>
    needs (readFeed ln n)),
  pairRow "SET FEED" (fun _ => shape a 2 [] fun _ =>
    thenDo (posAt a 0 "N") fun t =>
    thenDo (natOf t 0 7 "N") fun n =>
    thenDo (posAt a 1 "STATE") fun u =>
    thenDo (keyOf u ["ON", "OFF"] "STATE") fun w =>
    needs (lineOrder ln (.feed n (decide (w = tx "ON"))))),
  pairRow "MEASURE SURVEY" (fun _ => shape a 0 ["CH"] fun _ =>
    thenDo (need a "CH" fun t => if isWord t then .ok t else bad106 (tx "CH")) fun c =>
    needs (measureSurvey ln c)),
  pairRow "SET BASELINE" (fun _ => shape a 0 ["CH", "TOL"] fun _ =>
    thenDo (need a "CH" fun t => if !isWord t then bad106 (tx "CH") else .ok (if upperText t = tx "ALL" then .all else .name t)) fun c =>
    thenDo (may a "TOL" none fun t => (natOf t 0 wordMax "TOL").map some) fun tol =>
    whenValid (!tolBad s c tol) "TOL" (needs (setBaseline ln c tol))),
  pairRow "WRITE CHARTER" (fun _ => shape a 1 ["AT"] fun _ =>
    thenDo (posAt a 0 "DATA") fun t =>
    thenDo (bytesOf t "DATA") fun b =>
    thenDo (need a "AT" fun t => natOf t 0 wordMax "AT") fun n =>
    dataOk b (needs (writeCharter ln n b))),
  pairRow "INSTALL CHARTER" (fun _ => noArgs a (needs (installCharter ln))),
  pairRow "READ CHARTER" (fun _ => noArgs a (needs (readCharter ln))),
  pairRow "OPEN BUNDLE" (fun _ => shape a 0 ["LEN"] fun _ =>
    thenDo (need a "LEN" fun t => natOf t 0 wordMax "LEN") fun n =>
    needs (lineOrder ln (.openB n))),
  pairRow "WRITE BUNDLE" (fun _ => shape a 1 ["AT"] fun _ =>
    thenDo (posAt a 0 "DATA") fun t =>
    thenDo (bytesOf t "DATA") fun b =>
    thenDo (need a "AT" fun t => natOf t 0 wordMax "AT") fun n =>
    dataOk b (needs (lineOrder ln (.writeB n b)))),
  pairRow "CLOSE BUNDLE" (fun _ => noArgs a (needs (lineOrder ln .closeB))),
  pairRow "ACTIVATE BUNDLE" (fun _ => shape a 0 ["NOW", "RESTART"] fun _ =>
    thenDo (may a "NOW" false (flagOf "NOW")) fun n =>
    thenDo (may a "RESTART" false (flagOf "RESTART")) fun r =>
    needs (lineOrder ln (.activate n r))),
  pairRow "DISCARD BUNDLE" (fun _ => noArgs a (needs (lineOrder ln .discard))),
  pairRow "READ BUNDLE" (fun _ => noArgs a (needs (readBundle ln))),
  pairRow "READ RECORD" (fun _ => shape a 0 (if (a.get "SEQ").isSome then ["SEQ", "COPY"] else []) fun _ =>
    match a.get "SEQ" with
    | none => withRight ln 1 (readRecord ln)
    | some t =>
      thenDo (natOf t 0 wordMax "SEQ") fun n =>
      thenDo (may a "COPY" false fun t => (keyOf t ["FB2", "FB3"] "COPY").map fun w => decide (w = tx "FB3")) fun c =>
      withRight ln 1 (readRecordSeq ln n c)),
  pairRow "READ TAMPER" (fun _ => shape a 0 ["FROM"] fun _ =>
    thenDo (may a "FROM" 0 fun t => natOf t 0 wordMax "FROM") fun n =>
    withRight ln 15 (readTamper ln n)),
  pairRow "READ EVENT" (fun _ => shape a 0 ["FROM"] fun _ =>
    thenDo (may a "FROM" none fun t => (natOf t 0 wordMax "FROM").map some) fun n =>
    withRight ln 15 (readEvent ln n))]

/-- Checks 6 and 7 for a noun of the vocabulary. -/
def pairOfLine (s : State) (ln : Ln) (f : Fields) : Except Err PairDo :=
  match wordIn verbWords f.verb with
  | .error e => .error e
  | .ok v => match wordIn nounWords f.noun with
    | .error e => .error e
    | .ok n => match readArgs false f.args with
      | .error e => .error e
      | .ok a => match (pairTable s ln a).find? fun q => decide (v ++ ' ' :: n = tx q.1) with
        | some q => q.2 ()
        | none => bad106 n

end Sys2Proof.Machine
end

