-- ==== Sys2Proof/Machine/Lines.lean ====
section
/-! DEFINITION. Lines as they arrive (R299 to R312, R469), remote lines at their origin (R322, R323, R445, R446), lines from and to persons (R319, R320). -/

namespace Sys2Proof.Machine

/-! ### Incoming orders of persons (R320) -/

/-- A reference that is free; none when all 255 are in use. -/
def freeRef (b : Mbox) : Option Nat :=
  ((List.range 255).map fun i => (b.nextRef - 1 + i) % 255 + 1).find? fun r => !(b.refs.any fun q => decide (q.1 = r))

/-- Incoming orders that wait in a mailbox. -/
def mailOrders (b : Mbox) : Nat := (b.mail.filter fun m => decide (m.kind = 2)).length

/-- A `Pn.` line is delivered with its sender's identity (R320, R336). -/
def deliverOrder (ln : Ln) (p : Nat) (t : Text) (s : State) : State :=
  let b := s.mbox p
  let no := fun (w : String) => replyErr ln { code := 301, field := tx w } s
  if !s.present p then no "ABSENT"
  else if (s.person p).run = .dead then no "DEAD"
  else if 16 ≤ mailOrders b then no "FULL"
  else match freeRef b with
    | none => no "FULL"
    | some r =>
      let m : Mail := { kind := 2, car := carCode ln.car, sender := partyOf s ln.car, ref := r, text := t }
      mboxLevel p (setMbox p (fun b => { b with mail := b.mail ++ [m], refs := b.refs ++ [(r, ln)], nextRef := r % 255 + 1 }) s)

/-- PERSON_NOUN_LINE: `text` is the line from its verb on. -/
def execPersonNounLine (ln : Ln) (p : Nat) (text : Text) (s : State) : Host.Outcome State Fault Refusal :=
  .next (takeLine ln (personNo p (needs (deliverOrder ln p text))) s)

/-- The person answers an incoming order: its mark, and the text behind it. -/
def answerOrder (p r : Nat) (mark : Char) (t : Text) (s : State) : State :=
  match (s.mbox p).refs.find? fun q => decide (q.1 = r) with
  | none => s
  | some (_, ln) =>
    if mark = '~' then replyPart ln t s
    else finalReply ln mark t (setMbox p (fun b => { b with refs := b.refs.filter fun q => decide (q.1 ≠ r) }) s)

/-- MAILBOX_REPLY_TIMEOUT (R320): 2 s without a reply. -/
def execMailboxReplyTimeout (p ref : Nat) (s : State) : Host.Outcome State Fault Refusal :=
  .next (match (s.mbox p).refs.find? fun q => decide (q.1 = ref) with
    | none => s
    | some (_, ln) => replyErr ln { code := 301, field := tx "NO_REPLY" }
        (setMbox p (fun b => { b with refs := b.refs.filter fun q => decide (q.1 ≠ ref) }) s))

/-! ### Remote lines at their origin (R322, R323, R445, R446) -/

/-- The byte that names the origin's carrier in an ORUNE frame: the person of a CORE carrier stands in its upper half. -/
def originByte (c : Carrier) : Nat := match c with | .core p => 5 + 16 * p | c => carCode c

/-- The carrier an origin byte names here. -/
def carOfByte (b : Nat) : Carrier :=
  match b % 16 with | 1 => .svc | 2 => .hst | 3 => .win | _ => .core (b / 16)

/-- E600 for a line that is out on the chain: it gets no other reply (R323, R446). -/
def remoteFail (c : Carrier) (q : OutTag) (s : State) : State :=
  let ln : Ln := { car := c, tag := q.tag, sfx := q.sfx, pos := some q.node }
  replyText ln true '-' ({ code := 600 : Err }).text (closeTag c q.tag s)

/-- The line closes a session. -/
def closesSession (f : Fields) : Bool :=
  match wordIn verbWords f.verb, wordIn nounWords f.noun with
  | .ok v, .ok n => decide (v = tx "CLOSE") && decide (n = tx "SESSION")
  | _, _ => false

/-- A line for another node (R322, R442, R446): refused here, or sent on without its suffix. -/
def forwardLine (ln : Ln) (n : Nat) (f : Fields) (body : Text) (s : State) : State :=
  let up := match portToward s n with | some d => decide ((s.cport d).st = .up) | none => false
  let no := fun (e : Err) => replyErr ln e (openTag ln 0 s)
  if s.chn.role = .refused then no { code := 601 }
  else if !up then no { code := 600 }
  else if !partyRight s (partyOf s ln.car) 6 then no { code := 201, field := rightName 6 }
  else
    let s := setCar ln.car (fun q =>
      { q with tags := q.tags ++ [{ tag := ln.tag, node := n, sfx := ln.sfx, closes := closesSession f }] }) s
    sendOrune n 0 (originByte ln.car) s.chn.pos body s

/-- REMOTE_LINE_TIMEOUT (R446): 2 s with neither a reply nor a keep frame. -/
def execRemoteLineTimeout (car : Carrier) (tag : Option Nat) (s : State) : Host.Outcome State Fault Refusal :=
  .next (match (s.car car).tags.find? fun q => decide (q.tag = tag) && decide (q.node ≠ 0) with
    | some q => remoteFail car q s
    | none => s)

/-- REMOTE_KEEP_TIMER (R446): a keep frame for each line of a remote origin that is being handled; it names the tag. -/
def execRemoteKeepTimer (s : State) : Host.Outcome State Fault Refusal :=
  .next (forAll s.oru.cars (fun q t => match q.car with
    | .chain n o => forAll q.tags (fun k u => sendOrune n 3 o n ((k.tag.map decText).getD []) u) t
    | _ => t) s)

/-! ### Examination (R312) -/

/-- What checks 1 to 3 make of a line. -/
inductive Exam where
  | ignored
  | early (ln : Ln) (e : Err)
  | ok (ln : Ln) (f : Fields) (body : Text)
  deriving DecidableEq, Repr

/-- A character that a line may hold (R301). -/
def printable (c : Char) : Bool := decide (0x20 ≤ c.toNat) && decide (c.toNat ≤ 0x7E)

/-- Checks 1 to 3 of R312: `long` and `foul` say what its characters were beyond those kept, `lost` that one is missing. -/
def examine (s : State) (c : Carrier) (long foul lost : Bool) (t : Text) : Exam :=
  let sfx := suffixOf t
  let blank : Ln := { car := c, tag := none, sfx := sfx.isSome, pos := none }
  if long || decide (250 < (t.filter printable).length) then .early blank { code := 100 }
  else if foul || t.any (fun x => !printable x) then .early blank { code := 101 }
  else if t.all (fun x => decide (x = ' ')) && !lost then .ignored
  else
    let body := match sfx with | some q => q.1 | none => t
    let good := match sfx with | some q => decide (crc8 q.1 = q.2) | none => !mustCheck c
    if lost || !good then .early blank { code := 102 }
    else match readFields (generated c) body with
      | .bad a tg =>
        let free := match tg with | some n => !(s.car c).tags.any (fun q => decide (q.tag = some n)) | none => true
        .early { blank with tag := if free then tg else none, pos := a } { code := 103 }
      | .ok f => .ok { blank with tag := f.tag, pos := f.addr } f body

/-- The noun of a line as delivered to a person, and the words behind it, from the verb on. -/
def orderText (f : Fields) : Text := spaced (f.verb :: f.noun :: f.args)

/-- Checks 5 to 11 for a line whose fields and tag are in order. -/
def lineFields (ln : Ln) (f : Fields) (body : Text) (s : State) : State :=
  let far := !forHere s ln
  match ln.car, far, ln.pos with
  | .chain _ _, true, _ => replyErr ln { code := 600 } (openTag ln 0 s)
  | _, true, some n => forwardLine ln n f body s
  | _, _, _ =>
    let s := openTag ln 0 s
    match personNoun f.noun with
    | some (p, _) => lineHere ln ((wordIn verbWords f.verb).map fun _ => { need := true, act := deliverOrder ln p (orderText f) }) s
    | none => lineHere ln (pairOfLine s ln f) s

/-- Whatever an early check finds: the answer of a carrier, or the result of a steward call. -/
def lineExam (x : Exam) (s : State) : Option (Err × State) × State :=
  match x with
  | .ignored => (none, s)
  | .early ln e =>
    let s := if e.code = 102 then setLeaf 12 4 s else s
    (some (e, s), replyEarly ln e s)
  | .ok ln f body =>
    match tagRefusal s ln with
    | some q => (some (q.1, s), refuseTag ln q s)
    | none => (none, lineFields ln f body s)

/-- A whole line has arrived on a carrier (R37, R307, R312); its first character has ended NAP (R45, R46). -/
def lineIn (c : Carrier) (long foul lost : Bool) (t : Text) (s : State) : State :=
  if !heard s c then s
  else
    let s := stampArrival (napEnd s)
    let s := setCar c (fun q => { q with lastSfx := (suffixOf t).isSome }) s
    (lineExam (examine s c long foul lost t) s).2

/-- LINE_RECEIVED (R312). -/
def execLineReceived (car : Carrier) (text : Text) (s : State) : Host.Outcome State Fault Refusal :=
  .next (lineIn car false false false text s)

/-! ### Characters (R299, R301, R304, R305) -/

/-- Echo on SVC (R298, R304). -/
def echo (c : Carrier) (t : Text) (s : State) : State := if c = .svc then emit .svc t s else s

/-- The input of a carrier is empty again. -/
def clearInput (c : Carrier) (s : State) : State :=
  setCar c (fun q => { q with inp := [], long := false, bad := false, lost := false }) s

/-- The end of a line: CR, LF, or CR followed by LF. -/
def lineEnd (c : Carrier) (cr : Bool) (s : State) : State :=
  let k := s.car c
  let s := setCar c (fun q => { q with afterCr := cr }) (clearInput c (echo c crlf s))
  lineIn c k.long k.bad k.lost k.inp s

/-- A printable character joins the line; the 251st marks it too long (R301). -/
def lineChar (c : Carrier) (ch : Char) (s : State) : State :=
  let s := echo c [ch] s
  setCar c (fun q => if q.long then q else if 250 ≤ q.inp.length then { q with long := true } else { q with inp := q.inp ++ [ch] }) s

/-- An editing character of typed mode (R304). -/
def lineEdit (ch : Nat) (s : State) : State :=
  let back := [Char.ofNat 8, ' ', Char.ofNat 8]
  if ch = 0x08 ∨ ch = 0x7F then
    (if (s.car .svc).inp.isEmpty then s else setCar .svc (fun q => { q with inp := q.inp.dropLast }) (emit .svc back s))
  else if ch = 0x15 ∨ ch = 0x03 then clearInput .svc (emit .svc crlf s)
  else if ch = 0x09 then lineChar .svc ' ' s
  else s

/-- A character on a carrier. -/
def charIn (c : Carrier) (ch : Byte) (s : State) : State :=
  let n := ch.toNat
  let k := s.car c
  if k.broken then s
  else if n = 0x0A ∧ k.afterCr then setCar c (fun q => { q with afterCr := false }) s
  else
    let s := setCar c (fun q => { q with afterCr := false }) s
    if n = 0x0D ∨ n = 0x0A then lineEnd c (decide (n = 0x0D)) s
    else if printable (Char.ofNat n) then lineChar c (Char.ofNat n) s
    else if c = .svc ∧ !k.long ∧ n < 0x80 ∧ (suffixOf k.inp).isNone then lineEdit n s
    else setCar c (fun q => { q with bad := true }) s

/-- The carriers that bring characters. -/
def typed (c : Carrier) : Bool := match c with | .svc => true | .hst => true | .win => true | _ => false

/-- LINE_CHARACTER (R299, R304). -/
def execLineCharacter (car : Carrier) (ch : Byte) (s : State) : Host.Outcome State Fault Refusal :=
  .next (if typed car && heard s car then charIn car ch (napStir s) else s)

/-- LINE_TIMEOUT (R305): 100 ms without the end; typed lines have no limit. -/
def execLineTimeout (car : Carrier) (s : State) : Host.Outcome State Fault Refusal :=
  let k := s.car car
  let e : Nat := if k.long then 100 else if k.bad then 101 else 103
  .next (if (decide (car = .hst) || decide (car = .win)) && k.begun then
      replyEarly { car := car, tag := none, sfx := false, pos := none } { code := e } (clearInput car s)
    else s)

/-! ### Breaks and rates (R317, R469) -/

/-- LINE_BREAK (R469): the session ends, and everything up to a CR is discarded. -/
def execLineBreak (car : Carrier) (s : State) : Host.Outcome State Fault Refusal :=
  .next (if (decide (car = .svc) || decide (car = .hst)) && heard s car then
      sessionEnd car (some (tx "LINE")) (setCar car (fun q => { q with broken := true, afterCr := false }) (clearInput car s))
    else s)

/-- A measured rate, as DIV × 16, that a line accepts (R469): 9,600 baud up to 921,600 on SVC, 6,000,000 on HST. -/
def rateOk (c : Carrier) (div16 : Nat) : Bool :=
  decide (div16 ≤ 416667) && decide ((if c = .svc then 4340 else 667) ≤ div16)

/-- BAUD_CR (R469): the CR after a break sets the rate; it is an empty line. -/
def execBaudCr (car : Carrier) (div16 : Nat) (s : State) : Host.Outcome State Fault Refusal :=
  .next (if !(s.car car).broken then s
    else
      let s := setCar car (fun q => { q with broken := false, afterCr := true }) (echo car crlf s)
      if !rateOk car div16 then s
      else if car = .svc then { s with port := { s.port with svcDiv := div16 } }
      else { s with port := { s.port with hstDiv := div16 } })

/-! ### Lines from persons (R319, R320) -/

/-- ORUNE_SEND: the result is that of the checks before acceptance. -/
def oruneSend (core p : Nat) (d : ReplyTo) (w : List Nat) (s : State) : State :=
  let n := w.getD 1 0
  if n = 0 ∨ 250 < n then answerErr d { code := 302 } s
  else match bufGet p core (w.getD 0 0) n s with
    | (none, s) => answerErr d { code := 302 } s
    | (some bs, s) =>
      match lineExam (examine s (.core p) false false false (bytesText bs)) s with
      | (some (e, t), _) => answerErr d e t
      | (none, t) => answerOk d [] t

/-- ORUNE_SEND (R319). -/
def execOruneSend (core : Fin 4) (arg : Word) (s : State) : Host.Outcome State Fault Refusal :=
  .next (serveBuf core 0x30 arg (fun w => w.getD 1 0) (fun p d w s => oruneSend core.val p d w s) s)

/-- ORUNE_TAKE: the oldest entry of the mailbox. -/
def oruneTake (core p : Nat) (arg : Word) (d : ReplyTo) (w : List Nat) (s : State) : State :=
  match (s.mbox p).mail with
  | [] => answerErr d { code := 300 } s
  | m :: r =>
    match bufOk p core (w.getD 0 0) 256 s with
    | (false, s) => answerErr d { code := 302 } s
    | (true, s) =>
      let s := mboxLevel p (setMbox p (fun b => { b with mail := r }) s)
      let s := sramPut (w.getD 0 0) (textBytes m.text) s
      let a := arg.toNat
      answerOk d [] (descPut a 2 (m.kind + m.car * 16 + m.sender * 256 + m.ref * 65536) (descPut a 1 m.text.length s))

/-- ORUNE_TAKE (R319). -/
def execOruneTake (core : Fin 4) (arg : Word) (s : State) : Host.Outcome State Fault Refusal :=
  .next (serveBuf core 0x31 arg (fun _ => 256) (fun p d w s => oruneTake core.val p arg d w s) s)

/-- ORUNE_REPLY: the steward inserts the originator's tag (R320). -/
def oruneReply (core p : Nat) (d : ReplyTo) (w : List Nat) (s : State) : State :=
  let n := w.getD 1 0
  let r := w.getD 2 0
  if !((s.mbox p).refs.any fun q => decide (q.1 = r)) then answerErr d { code := 300 } s
  else if n < 2 ∨ 250 < n then answerErr d { code := 302 } s
  else match bufGet p core (w.getD 0 0) n s with
    | (none, s) => answerErr d { code := 302 } s
    | (some bs, s) =>
      match bytesText bs with
      | mark :: ' ' :: t =>
        if (mark = '+' ∨ mark = '-' ∨ mark = '~') ∧ t.all printable then answerOk d [] (answerOrder p r mark t s)
        else answerErr d { code := 302 } s
      | _ => answerErr d { code := 302 } s

/-- ORUNE_REPLY (R319, R320). -/
def execOruneReply (core : Fin 4) (arg : Word) (s : State) : Host.Outcome State Fault Refusal :=
  .next (serveBuf core 0x32 arg (fun w => w.getD 1 0) (fun p d w s => oruneReply core.val p d w s) s)

/-! ### The STW block (R321) -/

/-- Read a register of the STW block. -/
def stwRead (f off : Nat) (s : State) : Word :=
  if f = 0 then
    if off = 0 then w32 Config.romVersion
    else if off = 4 then s.bun.patch.getD 0
    else if off = 8 then s.oru.slot
    else 0
  else if 1 ≤ f ∧ f ≤ 6 then
    let b := s.mbox f
    if off = 0 then w32 (b.lost * 0x1000000 + mailReplies b * 0x10000 + mailOrders b * 256 + (s.car (.core f)).tags.length)
    else if off = 4 then w32 (b.svc * 0x1000000 + b.res % 1024)
    else if off = 8 then b.calls
    else 0
  else 0

end Sys2Proof.Machine
end

