-- ==== Sys2Proof/Machine/Chain.lean ====
section
/-! DEFINITION. The chain (R425 to R448): key exchange, forwarding, formation, ring, remote lines; the CHN block. -/

namespace Sys2Proof.Machine

/-! ### Members and remote lines (R317, R323, R440, R446, R448) -/

/-- A path that was in use is no more what it was. -/
def pathChanged (old new : Chn) (n : Nat) : Bool :=
  decide (pathTo old n = []) || decide (pathTo new n ≠ pathTo old n) || decide (old.pos ≠ new.pos)

/-- Lines and sessions whose path has failed: E600, and the end of sessions; the line about it is sent at the origin. -/
def pathsLost (old : Chn) (s : State) : State :=
  let new := s.chn
  let lose := fun (q : CarSt) (t : State) =>
    let t := forAll (q.tags.filter fun k => decide (k.node ≠ 0) && pathChanged old new k.node) (fun k u => remoteFail q.car k u) t
    let gone := q.remote.filter fun n => pathChanged old new n
    let t := if gone.isEmpty then t else
      unsolicited q.car (tx "SESSION END CHAIN") (setCar q.car (fun k => { k with remote := k.remote.filter fun n => !gone.contains n }) t)
    match q.car with
    | .chain n _ => if pathChanged old new n then sessionEnd q.car none t else t
    | _ => t
  forAll s.oru.cars lose s

/-- The chain changes as a TOPO says: leaves JOIN, LOST, RING; slot 5 (R440, R444, R447, R448). -/
def chainChange (f : Chn → Chn) (s : State) : State :=
  let old := s.chn
  let s := setChn f s
  let new := s.chn
  let was := old.members.map fun m => m.pos
  let now := new.members.map fun m => m.pos
  let s := forAll (now.filter fun n => !was.contains n) (fun n t => setLeafD 2 2 [(0, n)] t) s
  let s := forAll (was.filter fun n => !now.contains n) (fun n t => setLeafD 2 3 [(0, n)] t) s
  let s := if old.ring ≠ new.ring ∨ old.rerouted ≠ new.rerouted ∨ old.brk ≠ new.brk then setLeaf 2 5 s else s
  chainShown (pathsLost old s)

/-- This node has no number any more (R440, R441). -/
def unnumber (s : State) : State :=
  let old := s.chn
  chainShown (pathsLost old (setChn (fun c =>
    { c with role := .unnumbered, pos := 0, members := [], ring := false, rerouted := false, brk := 0, best := none,
             looped := false }) s))

/-! ### Keys of the chain (R439) -/

/-- The key of this node: whether its CHU port is UP, its fuse set, its DEVICE_ID. -/
def ownKey (s : State) : Bytes :=
  leBytes 1 (bitN (decide ((s.cport 0).st = .up))) ++ leBytes 1 (fuseCode s) ++ deviceId

/-- A key beats another: the first byte that differs is lower. -/
def beatsKey (a b : Bytes) : Bool := decide (beNat a < beNat b)

/-- The key of the head of this node's chain, as its CLAIMs offer it (R441). -/
def headKey (s : State) : Bytes := if s.chn.role = .head then ownKey s else s.chn.best.getD (ownKey s)

/-- Some port is UP. -/
def anyUp (s : State) : Bool := [0, 1].any fun d => decide ((s.cport d).st = .up)

/-! ### TOPO (R440, R443, R444) -/

/-- The payload of a TOPO: TOPO_SEQ, NODES, ring flags, BREAK, members on the CHD side, the member order. The ring flags are: closed, a
break rerouted, and that the segments form a loop whose nodes have not all joined yet. -/
def topoPayload (c : Chn) : Bytes :=
  leBytes 2 c.topoSeq ++ leBytes 1 c.members.length ++ leBytes 1 (bitN c.ring + 2 * bitN c.rerouted + 4 * bitN c.looped) ++ leBytes 1 c.brk ++
    leBytes 1 (c.members.filter fun m => decide (m.pos ≠ 1) && m.down).length ++ c.members.map fun m => BitVec.ofNat 8 m.pos

/-- The head broadcasts TOPO on both of its ports. -/
def broadcastTopo (s : State) : State :=
  let pl := topoPayload s.chn
  sendKeyed 0 4 0xFF pl (sendKeyed 1 4 0xFF pl s)

/-- The head makes a change of the chain known. -/
def headChange (f : Chn → Chn) (s : State) : State :=
  broadcastTopo (chainChange (fun c => { f c with topoSeq := (c.topoSeq + 1) % 65536 }) s)

/-- The head first, then its CHD side outward, then its CHU side outward (R440). -/
def memberOrder (l : List ChMem) : List ChMem :=
  let side := fun b => (l.filter fun m => decide (m.pos ≠ 1) && decide (m.down = b)).mergeSort fun a b => decide (a.dist ≤ b.dist)
  l.filter (fun m => decide (m.pos = 1)) ++ side true ++ side false

/-- A TOPO read: flags and members; what is known of a member's identity stays. -/
def topoTaken (pl : Bytes) (c : Chn) : Chn :=
  let n := leAt pl 2 1
  let down := leAt pl 5 1
  let order := ((pl.drop 6).take n).map fun b => b.toNat
  let mem := fun (q : Nat × Nat) =>
    let id := match c.members.find? fun m => decide (m.pos = q.1) with | some m => m.id | none => none
    ({ pos := q.1, dist := if q.2 ≤ down then q.2 else q.2 - down, down := decide (q.2 ≤ down), id := id } : ChMem)
  { c with topoSeq := leAt pl 0 2, ring := decide (leAt pl 3 1 % 2 = 1), rerouted := decide (leAt pl 3 1 / 2 % 2 = 1),
           brk := leAt pl 4 1, members := order.zipIdx.map mem }

/-! ### A segment fails (R428, R440, R443, R444) -/

/-- The member whose CHD side owns a segment of the ring, named by a member and its port. -/
def segUpper (c : Chn) (p port : Nat) : Nat :=
  let l := c.members.map fun m => m.pos
  if port = 1 then p
  else match l.findIdx? fun n => decide (n = p) with
    | some 0 => (l.getLast?).getD 1
    | some i => l.getD (i - 1) 1
    | none => p

/-- The ring with two segments gone: the nodes between them are lost, the rest is a line (R444). -/
def cutRing (u v : Nat) (c : Chn) : Chn :=
  let l := c.members.map fun m => m.pos
  let i := (l.findIdx? fun n => decide (n = u)).getD 0
  let j := (l.findIdx? fun n => decide (n = v)).getD 0
  let lo := Nat.min i j
  let hi := Nat.max i j
  let mem := fun (side : Bool) (q : ChMem × Nat) => { q.1 with down := side, dist := q.2 + 1 }
  { c with ring := false, rerouted := false, brk := 0,
           members := c.members.take 1 ++ ((c.members.take (lo + 1)).drop 1).zipIdx.map (mem true) ++
             ((c.members.drop (hi + 1)).reverse.zipIdx).map (mem false) }

/-- The members of a line beyond a segment that is down. -/
def beyond (c : Chn) (p port : Nat) : List Nat :=
  let out := fun (side : Bool) (d : Nat) => (c.members.filter fun m => decide (m.pos ≠ 1) && decide (m.down = side) && decide (d < m.dist)).map fun m => m.pos
  if p = 1 then out (decide (port = 1)) 0
  else match c.members.find? fun m => decide (m.pos = p) with
    | some m => if m.down = decide (port = 1) then out m.down m.dist else []
    | none => []

/-- The head learns that a member's port has lost its link (R440, R444). -/
def headLoss (p port : Nat) (s : State) : State :=
  let s := setChn (fun c => { c with looped := false }) s
  let c := s.chn
  let u := segUpper c p port
  let last := (c.members.getLast?.map fun m => m.pos).getD 1
  if c.ring then
    if u = last then headChange (fun c => { c with ring := false }) s
    else headChange (fun c => { c with ring := false, rerouted := true, brk := u }) s
  else if c.rerouted then
    if u = c.brk then s else headChange (cutRing c.brk u) s
  else
    let l := beyond c p port
    if l.isEmpty then s else headChange (fun c => { c with members := c.members.filter fun m => !l.contains m.pos }) s

/-- A link that was UP is DOWN (R428): leaf, neighbour, LOSS to the head by the other port. -/
def linkDown (d : Nat) (s : State) : State :=
  let s := setCport d (fun q => { tx := q.tx, sent := q.sent, gaps := q.gaps }) (setChn (fun c => { c with looped := false }) s)
  let s := chainShown (peerIs d none (setLeaf 2 0 s))
  match s.chn.role with
  | .head => headLoss 1 d s
  | .node => sendKeyed (otherPort d) 8 1 [BitVec.ofNat 8 s.chn.pos, BitVec.ofNat 8 d] s
  | _ => s

/-- A row on a port: the steward serves the chain from step 7 of a start on; a zeroized device has no identity (R435). -/
def portRow (d : Nat) (f : State → State) (s : State) : State :=
  if s.isl.step < 7 then s
  else if s.fuses.zeroize then
    (if (s.cport d).st = .fault then s else noIdentity d (if (s.cport d).st = .up then linkDown d s else s))
  else f s

/-! ### A segment comes up (R432 to R435, R441, R443, R444) -/

/-- Offer the key of this chain's head to a neighbour (R441). -/
def offerHead (d : Nat) (s : State) : State :=
  sendKeyed d 3 0 (headKey s) s

/-- JOIN out of a port (R440): DEVICE_ID and fuse set. -/
def sendJoin (d : Nat) (s : State) : State := sendKeyed d 5 1 (deviceId ++ leBytes 1 (fuseCode s)) s

/-- A numbered node tells the head that its port has come UP, and to whom: JOIN with the port and the neighbour's DEVICE_ID. -/
def sendReport (d port : Nat) (s : State) : State :=
  sendKeyed d 5 1 (deviceId ++ leBytes 1 (fuseCode s) ++ leBytes 1 port ++ ((s.cport port).peer.map (·.1)).getD []) s

/-- The member that stands farthest out on a side: the head where there is none. -/
def outermost (c : Chn) (side : Bool) : Option ChMem :=
  match (c.members.filter fun m => decide (m.pos ≠ 1) && decide (m.down = side)).getLast? with
  | some m => some m
  | none => c.members.find? fun m => decide (m.pos = 1)

/-- No member is missing between the head and the outermost of a side. -/
def sideWhole (c : Chn) (side : Bool) : Bool :=
  let l := (c.members.filter fun m => decide (m.pos ≠ 1) && decide (m.down = side)).map fun m => m.dist
  decide (l = (List.range l.length).map (· + 1))

/-- The port of a member is joined to a device: that makes a loop when the two are the ends of the line (R443). -/
def endsMeet (c : Chn) (p port : Nat) (peer : Bytes) : Bool :=
  match outermost c (decide (port = 1)), outermost c (decide (port = 0)) with
  | some m, some n => decide (m.pos = p) && decide (m.pos ≠ n.pos) && decide (n.id.map (·.1) = some peer) && sideWhole c true && sideWhole c false
  | _, _ => false

/-- The line is a closed ring: the member order is the walk from the head's CHD side all the way round (R440, R443). -/
def ringed (c : Chn) : Chn :=
  let side := fun b => c.members.filter fun m => decide (m.pos ≠ 1) && decide (m.down = b)
  { c with ring := true, looped := false,
           members := (c.members.filter fun m => decide (m.pos = 1)) ++
             ((side true ++ (side false).reverse).zipIdx.map fun q => { q.1 with down := true, dist := q.2 + 1 }) }

/-- A port of the head joins the two ends of its line: every segment is UP, and the ring is closed (R443). -/
def ringNow (s : State) : Bool :=
  !s.chn.ring && !s.chn.rerouted && [0, 1].any fun d =>
    decide ((s.cport d).st = .up) && (match (s.cport d).peer with | some q => endsMeet s.chn 1 d q.1 | none => false)

/-- A link has come UP. -/
def linkUp (d : Nat) (s : State) : State :=
  let s := setLeaf 2 1 s
  let s := if s.chn.role = .refused then setChn (fun c => { c with role := .unnumbered, best := none }) s else s
  let s := chainShown s
  match s.chn.role with
  | .head =>
    let s := offerHead d s
    if ringNow s then headChange ringed s else s
  | .node =>
    let s := offerHead d s
    if s.chn.rerouted ∨ headPort s = some (otherPort d) then sendReport (otherPort d) d s else s
  | _ => s

/-- Both CAPs are verified: the keys of the segment (R434, R435). -/
def exchangeDone (d : Nat) (s : State) : State :=
  let q := s.cport d
  if !q.capSent || q.peerEph.isEmpty then s
  else match segmentKeys q d with
    | none => keyFault d s
    | some k =>
      let s := setCport d (keysIn k) s
      if q.st = .up then chainShown s else linkUp d s

/-- The unkeyed frame of a type stands whole and its tag holds (R430). -/
def plainOk (f : Frame) (ty : BitVec 4) : Bool :=
  decide (f.type = ty) && decide (f.ending = .whole) && decide (f.tag = plainTag f)

/-- Begin an exchange; a port that was DOWN shows HELLO. -/
def hail (d : Nat) (s : State) : State :=
  let s := sendHello d s
  chainShown (setCport d (fun q => if q.st = .down then { q with st := .hello } else q) s)

/-- HELLO_TIMER (R432, R442). -/
def helloTimer (d : Nat) (s : State) : State :=
  let q := s.cport d
  if q.st = .down ∨ q.st = .hello then hail d s
  else if q.st = .fault ∧ q.cause = 3 ∧ s.chn.role = .refused then hail d s
  else s

/-- HELLO_TIMER. -/
def execHelloTimer (pt : Port) (s : State) : Host.Outcome State Fault Refusal :=
  .next (portRow (portNo pt) (helloTimer (portNo pt)) s)

/-- HELLO (R432): answered with CAP; a port that has not sent its own HELLO sends it first. -/
def helloIn (d : Nat) (f : Frame) (s : State) : State :=
  let q := s.cport d
  let ready := match q.st with
    | .fault => decide (q.cause = 1) || (decide (q.cause = 3) && !q.nonce.isEmpty)
    | _ => true
  if !plainOk f 1 ∨ f.payload.length ≠ 16 ∨ !ready then s
  else
    let s := countFrame (if q.nonce.isEmpty ∧ q.st ≠ .fault then hail d s else s)
    chainShown (exchangeDone d (sendCap d f.payload s))

/-- HELLO. -/
def execHello (pt : Port) (f : Frame) (s : State) : Host.Outcome State Fault Refusal :=
  .next (portRow (portNo pt) (helloIn (portNo pt) f) s)

/-- CAP (R425, R433): refused, of the wrong port kind, or the verified peer. -/
def capIn (d : Nat) (f : Frame) (s : State) : State :=
  let q := s.cport d
  if !plainOk f 2 ∨ (q.st = .fault ∧ q.cause ≠ 3) then s
  else match capCheck q d f.payload with
    | some 1 => chainShown (segFault d 1 (if q.st = .up then linkDown d s else s))
    | some _ => keyFault d (if q.st = .up then linkDown d s else s)
    | none =>
      let id := sha256 (f.payload.take 97)
      let fuse := leAt f.payload 97 1
      let s := setCport d (fun q => { q with peer := some (id, fuse), peerRole := leAt f.payload 100 1,
                                             peerEph := slice f.payload 128 65 }) s
      exchangeDone d (peerIs d (some (id.take 8, fuse)) (countFrame s))

/-- CAP. -/
def execCap (pt : Port) (f : Frame) (s : State) : Host.Outcome State Fault Refusal :=
  .next (portRow (portNo pt) (capIn (portNo pt) f) s)

/-- KEY_RETRY_TIMER (R433). -/
def execKeyRetryTimer (pt : Port) (s : State) : Host.Outcome State Fault Refusal :=
  let d := portNo pt
  .next (portRow d (fun s =>
    if (s.cport d).st = .fault ∧ (s.cport d).cause = 2 then hail d (setCport d (fun q => { q with st := .down, cause := 0 }) s) else s) s)

/-- REKEY_TIMER (R435): the upper end of an UP link starts a new exchange. -/
def execRekeyTimer (s : State) : Host.Outcome State Fault Refusal :=
  .next (portRow 1 (fun s => if (s.cport 1).st = .up then sendHello 1 s else s) s)

/-- LINK_TIMEOUT (R428): 1 ms without a valid frame or GAP; a port of a refused node stays in FAULT with cause FULL (R442). -/
def linkTimeout (d : Nat) (s : State) : State :=
  match (s.cport d).st with
  | .up => linkDown d s
  | .fault => if (s.cport d).cause = 1 then chainShown (setCport d (fun q => { q with st := .down, cause := 0 }) s) else s
  | .down => s
  | _ =>
    let s := segFault d 3 s
    chainShown (if s.chn.role = .refused then s else setCport d (fun q => { q with st := .down, cause := 0 }) s)

/-- LINK_TIMEOUT. -/
def execLinkTimeout (pt : Port) (s : State) : Host.Outcome State Fault Refusal :=
  .next (portRow (portNo pt) (linkTimeout (portNo pt)) s)

/-! ### GAPs (R428) -/

/-- A direction of the upper end's link has carried 2^32 frames under its keys (R435). -/
def rekeyDue (q : ChPort) : Bool :=
  decide (2 ^ 32 ≤ q.tx - q.txAtKey) || decide (2 ^ 32 ≤ q.rxLast.getD 0 - q.rxAtKey)

/-- GAP_TIMER: the upper end of an UP link sends a GAP. -/
def execGapTimer (s : State) : Host.Outcome State Fault Refusal :=
  .next (portRow 1 (fun s =>
    if (s.cport 1).st ≠ .up then s
    else
      let s := setCport 1 (fun q => { q with gaps := q.gaps + 1 }) s
      if rekeyDue (s.cport 1) ∧ (s.cport 1).nonce.isEmpty then sendHello 1 s else s) s)

/-- GAP_RECEIVED: the lower end answers; on a DOWN port it is the first valid symbol (R432). -/
def execGapReceived (pt : Port) (s : State) : Host.Outcome State Fault Refusal :=
  let d := portNo pt
  .next (portRow d (fun s =>
    if (s.cport d).st = .down then hail d s
    else if d = 0 ∧ (s.cport 0).st = .up then setCport 0 (fun q => { q with gaps := q.gaps + 1 }) s else s) s)

/-! ### Acceptance (R431, R435) -/

/-- A tag has failed; the sixteenth in a row takes the link down, and it keys again: KEYEPOCH then advances (18, Edges). -/
def tagFail (d : Nat) (s : State) : State :=
  let q := s.cport d
  if q.tagFails + 1 < 16 then setCport d (fun q => { q with tagFails := q.tagFails + 1 }) s
  else setCport d (fun z => { z with epoch := q.epoch }) (hail d (linkDown d s))

/-- A keyed frame under no key this port holds: on a DOWN port it is the first valid symbol (R432). -/
def deafTo (d : Nat) (s : State) : State := if (s.cport d).st = .down then hail d s else s

/-- Take a keyed frame of a type: its payload, once it is accepted. -/
def keyed (d : Nat) (f : Frame) (ty : BitVec 4) (use : Bytes → State → State) (s : State) : State :=
  if f.type ≠ ty ∨ f.ending ≠ .whole then s
  else match frameIs s d f with
    | .deaf => deafTo d s
    | .replayed => countReplay s
    | .badTag => tagFail d s
    | .good pl => use pl (frameTaken d f s)

/-- A row that brings a keyed frame. -/
def keyedRow (pt : Port) (f : Frame) (ty : BitVec 4) (use : Nat → Bytes → State → State) (s : State) : State :=
  portRow (portNo pt) (keyed (portNo pt) f ty (use (portNo pt))) s

/-! ### Claims and the head (R439, R441) -/

/-- A CLAIM: one of an unnumbered node bears SRC 0; one of a numbered chain carries the key of its head. -/
def claimIn (f : Frame) (d : Nat) (k : Bytes) (s : State) : State :=
  let c := s.chn
  let on := sendKeyed (otherPort d) 3 0 k
  match c.role with
  | .refused => s
  | .unnumbered =>
    if k = ownKey s then setChn (fun c => { c with looped := true }) s
    else if beatsKey k (c.best.getD (ownKey s)) then on (setChn (fun c => { c with best := some k }) s)
    else s
  | _ =>
    if f.src ≠ 0 ∧ beatsKey k (headKey s) then on (setChn (fun c => { c with best := some k }) (unnumber s)) else s

/-- CHAIN_CLAIM (R439). -/
def execChainClaim (pt : Port) (f : Frame) (s : State) : Host.Outcome State Fault Refusal :=
  .next (keyedRow pt f 3 (claimIn f) s)

/-- CLAIM_TIMER (R439). -/
def execClaimTimer (s : State) : Host.Outcome State Fault Refusal :=
  .next (if s.chn.role = .unnumbered ∧ anyUp s then sendKeyed 0 3 0 (ownKey s) (sendKeyed 1 3 0 (ownKey s) s) else s)

/-- HEAD_ELECTION_TIMEOUT (R439): 100 ms have passed without a better key. -/
def execHeadElectionTimeout (s : State) : Host.Outcome State Fault Refusal :=
  let own := ownKey s
  .next (if s.chn.role = .unnumbered ∧ anyUp s then
      headChange (fun c =>
        { c with role := .head, pos := 1, best := some own,
                 members := [{ pos := 1, id := some (deviceId, fuseCode s) }] }) s
    else s)

/-- TOPO_TIMER (R440). -/
def execTopoTimer (s : State) : Host.Outcome State Fault Refusal := .next (if s.chn.role = .head then broadcastTopo s else s)

/-- A TOPO from the head is taken (R440): a node that has no place in it joins, in a loop by its CHU port. -/
def topoIn (d : Nat) (pl : Bytes) (s : State) : State :=
  let ring := decide (leAt pl 3 1 % 2 = 1) || decide (leAt pl 3 1 / 4 % 2 = 1)
  let join := fun (s : State) => sendJoin (if ring then 0 else d) s
  match s.chn.role with
  | .head => s
  | .refused => s
  | .unnumbered => join s
  | .node =>
    if ((pl.drop 6).take (leAt pl 2 1)).any fun b => decide (b.toNat = s.chn.pos) then chainChange (topoTaken pl) s
    else join (unnumber s)

/-- TOPO_TIMEOUT (R440): 300 ms without TOPO. -/
def execTopoTimeout (s : State) : Host.Outcome State Fault Refusal := .next (if s.chn.role = .node then unnumber s else s)

/-! ### Joining (R440, R442) -/

/-- The lowest free position from 2 to 64. -/
def freePos (c : Chn) : Option Nat :=
  ((List.range 63).map fun i => i + 2).find? fun n => !(c.members.any fun m => decide (m.pos = n))

/-- ASSIGN out of a port: DEVICE_ID, position, the head's key. -/
def sendAssign (d pos : Nat) (id : Bytes) (s : State) : State :=
  sendKeyed d 6 pos (id ++ leBytes 1 pos ++ (s.chn.best.getD (ownKey s))) s

/-- A JOIN reaches the head: a new member, one that asks again, or one that reports a segment that has come UP. The closure segment of a
loop carries none (R443). -/
def joinIn (f : Frame) (d : Nat) (pl : Bytes) (s : State) : State :=
  let c := s.chn
  let id := pl.take 32
  let fuse := leAt pl 32 1
  let known := c.members.find? fun m => match m.id with | some q => decide (q.1 = id) | none => false
  if c.role ≠ .head ∨ pl.length < 33 ∨ (c.looped ∧ d = 0) then s
  else match known with
    | some m =>
      if f.src = 0 then sendAssign d m.pos id s
      else if 33 < pl.length ∧ c.ring = false ∧ c.rerouted = false ∧ endsMeet c m.pos (leAt pl 33 1) (pl.drop 34) then headChange ringed s
      else if c.rerouted ∧ (m.pos = c.brk ∨ segUpper c m.pos 0 = c.brk) then
        headChange (fun c => { c with ring := true, rerouted := false, brk := 0 }) s
      else s
    | none =>
      match freePos c with
      | none =>
        let s := sendKeyed d 7 0 (id ++ leBytes 2 601) s
        logEvent 6 0 "CHAIN.FULL" [w32 601] (setLeafD 2 4 [(0, 65)] s)
      | some n =>
        let m : ChMem := { pos := n, dist := 65 - f.hops.toNat, down := decide (d = 1), id := some (id, fuse) }
        let s := headChange (fun c => { c with members := memberOrder (c.members ++ [m]) }) (sendAssign d n id s)
        if ringNow s then headChange ringed s else s

/-- JOIN. -/
def execJoin (pt : Port) (f : Frame) (s : State) : Host.Outcome State Fault Refusal := .next (keyedRow pt f 5 (joinIn f) s)

/-- ASSIGN for this node (R440). -/
def assignIn (pl : Bytes) (s : State) : State :=
  let n := leAt pl 32 1
  if pl.take 32 ≠ deviceId ∨ s.chn.role ≠ .unnumbered ∨ n < 2 ∨ 64 < n then s
  else chainShown (setChn (fun c => { c with role := .node, pos := n, best := some (pl.drop 33) }) s)

/-- ASSIGN. -/
def execAssign (pt : Port) (f : Frame) (s : State) : Host.Outcome State Fault Refusal :=
  .next (keyedRow pt f 6 (fun _ => assignIn) s)

/-- A port of a refused node (R442). -/
def portFull (d : Nat) (s : State) : State :=
  let s := if (s.cport d).st = .up then peerIs d none (setLeaf 2 0 s) else s
  setCport d (fun q => { tx := q.tx, sent := q.sent, gaps := q.gaps, st := .fault, cause := 3 }) s

/-- REFUSE (R442): this node is refused; any other passes it on, as it does a CLAIM. -/
def refuseIn (d : Nat) (pl : Bytes) (s : State) : State :=
  if pl.take 32 = deviceId then
    (if s.chn.role = .unnumbered ∧ leAt pl 32 2 = 601 then
      chainShown (setChn (fun c => { c with role := .refused }) (portFull 1 (portFull 0 (unnumber s))))
     else s)
  else if s.chn.role = .head ∨ s.chn.role = .refused then s
  else sendKeyed (otherPort d) 7 0 pl s

/-- REFUSE. -/
def execRefuse (pt : Port) (f : Frame) (s : State) : Host.Outcome State Fault Refusal := .next (keyedRow pt f 7 refuseIn s)

/-- LOSS (R444): the head is told which port of which member has lost its link. -/
def execLoss (pt : Port) (f : Frame) (s : State) : Host.Outcome State Fault Refusal :=
  .next (keyedRow pt f 8 (fun _ pl s => if s.chn.role = .head then headLoss (leAt pl 0 1) (leAt pl 1 1) s else s) s)

/-! ### ORUNE frames (R445, R446) -/

/-- A reply as it comes back: its mark, its tag and its text behind the address. -/
def replyParts (t : Text) : Option (Char × Option Nat × Text) :=
  let u := match t with | '@' :: r => (r.dropWhile fun c => decide (c ≠ ' ')).drop 1 | _ => t
  match u with
  | m :: r =>
    let ds := r.takeWhile isDigit
    some (m, decimalOf ds, (r.drop ds.length).drop 1)
  | [] => none

/-- A reply of another node for a carrier here (R307, R310, R446). -/
def remoteReply (c : Carrier) (node : Nat) (final : Bool) (t : Text) (s : State) : State :=
  match replyParts t with
  | none => s
  | some (m, tag, u) =>
    match (s.car c).tags.find? fun q => decide (q.tag = tag) && decide (q.node = node) with
    | none => logEvent 6 (partyOf s c) "CHAIN.LATE_REPLY" [w32 node] s
    | some q =>
      let s := if final then closeTag c tag s else s
      let opened := final && decide (m = '+') && (tx "SESSION").isPrefixOf u
      let s := if opened then setCar c (fun k => { k with remote := dedup (k.remote ++ [node]) }) s
        else if final && q.closes && decide (m = '+') then setCar c (fun k => { k with remote := k.remote.filter fun n => decide (n ≠ node) }) s
        else s
      sendLine c final 1 (checked c q.sfx t) s

/-- An ORUNE frame reaches its node. -/
def oruneIn (f : Frame) (pl : Bytes) (s : State) : State :=
  let kind := leAt pl 0 1
  let o := leAt pl 1 1
  let t := bytesText (pl.drop 4)
  if s.chn.pos = 0 ∨ f.dst.toNat ≠ s.chn.pos ∨ pl.length < 4 then s
  else if kind = 0 then lineIn (.chain (leAt pl 2 1) o) false false false t s
  else if kind = 1 ∨ kind = 2 then remoteReply (carOfByte o) f.src.toNat (decide (kind = 2)) t s
  else s

/-- ORUNE_FRAME. -/
def execOruneFrame (pt : Port) (f : Frame) (s : State) : Host.Outcome State Fault Refusal :=
  .next (keyedRow pt f 9 (fun _ => oruneIn f) s)

/-! ### Forwarding (R436 to R438) -/

/-- A unicast frame that is not for this node. -/
def passing (s : State) (f : Frame) : Bool :=
  decide (f.dst ≠ 0) && decide (f.dst ≠ 0xFF) && decide (f.dst.toNat ≠ s.chn.pos) && decide (1 < f.hops.toNat) &&
    decide (3 ≤ f.type.toNat) && decide (s.chn.role ≠ .refused)

/-- The frame that has begun to go out ends in ABORT; where the abort began, it counts. -/
def cutShort (d o : Nat) (f : Frame) (k : Bytes) (s : State) : State :=
  let pl := (gcmEnc k (frameNonce (decide (d = 1)) f.segseq) (frameHeader f) f.payload).1
  let s := if f.ending = .abort then s else countAbort s
  putFrame o (sealFrame s o { f with hops := f.hops - 1, payload := pl, ending := .abort }) s

/-- Pass an accepted frame on (R436): at once while the outgoing segment is free, else it is stored or dropped. -/
def passOn (o : Nat) (f : Frame) (pl : Bytes) (free : Bool) (s : State) : State :=
  if free then relay o f pl s
  else if (s.cport o).stored.length < 4 then
    setCport o (fun q => { q with stored := q.stored ++ [{ f with hops := f.hops - 1, payload := pl }] }) s
  else countDrop s

/-- Forward a frame: cut through while the outgoing segment is free, else stored; `use` is what its delivery here does. -/
def forward (d : Nat) (f : Frame) (free : Bool) (use : Bytes → State → State) (s : State) : State :=
  let o := otherPort d
  let out := decide ((s.cport o).st = .up) && mayCross s o f.type && decide (1 < f.hops.toNat)
  match frameKey s d f with
  | none => deafTo d s
  | some (k, _) =>
    let is := frameIs s d f
    if is = .replayed then countReplay s
    else if f.ending ≠ .whole then (if out && free then cutShort d o f k s else s)
    else match is with
      | .good pl =>
        let s := frameTaken d f s
        use pl (if out then passOn o f pl free s else s)
      | _ => tagFail d (if out && free then cutShort d o f k s else s)

/-- TOPO (R437, R438, R440): it is passed on as it comes in, the outgoing segment being free, and taken. -/
def execTopo (pt : Port) (f : Frame) (s : State) : Host.Outcome State Fault Refusal :=
  let d := portNo pt
  .next (portRow d (fun s => if f.type = 4 then forward d f true (topoIn d) s else s) s)

/-- FRAME_FORWARD (R436, R437): `free` tells whether the outgoing segment is free; a TOPO is delivered as well as forwarded (R438). -/
def execFrameForward (pt : Port) (f : Frame) (free : Bool) (s : State) : Host.Outcome State Fault Refusal :=
  let d := portNo pt
  .next (portRow d (fun s =>
    if f.type = 4 ∧ f.dst = 0xFF then forward d f free (topoIn d) s
    else if passing s f then forward d f free (fun _ s => s) s else s) s)

/-- STORED_FRAME_SEND (R436): the oldest stored frame goes out of the port. -/
def execStoredFrameSend (pt : Port) (s : State) : Host.Outcome State Fault Refusal :=
  let d := portNo pt
  .next (portRow d (fun s =>
    match (s.cport d).stored with
    | [] => s
    | f :: r =>
      if (s.cport d).st ≠ .up then s
      else
        let s := setCport d (fun q => { q with stored := r }) s
        putFrame d (sealFrame s d f) s) s)

/-! ### The CHN block (18) -/

/-- A port's state code. -/
def linkCode (st : LinkSt) : Nat := match st with | .down => 0 | .hello => 1 | .keying => 2 | .up => 3 | .fault => 4

/-- Read a register of the CHN block. -/
def chnRead (f off : Nat) (s : State) : Word :=
  let c := s.chn
  let port := fun d => let q := s.cport d; w32 (q.epoch * 0x1000000 + q.cause * 0x100 + linkCode q.st)
  if f ≠ 0 then 0
  else if off = 0 then
    w32 (c.members.length * 0x1000000 + c.pos * 0x10000 + c.brk * 0x100 + roleCode c.role * 64 + bitN c.ring * 32 +
      bitN c.rerouted * 16 + bitN (segmentLong s) * 8)
  else if off = 4 then port 0
  else if off = 8 then port 1
  else if off = 0xC then w32 (peerValue (s.cport 0).peer)
  else if off = 0x10 then w32 (peerValue (s.cport 1).peer)
  else if off = 0x20 then w32 c.frames
  else if off = 0x24 then w32 c.lateAbort
  else if off = 0x28 then w32 c.drop
  else if off = 0x2C then w32 c.replay
  else if off = 0x30 then w32 (c.topoSeq * 0x10000)
  else if 0x100 ≤ off ∧ off < 0x200 then
    match c.members[(off - 0x100) / 4]? with
    | none => 0
    | some m =>
      let id := m.id.getD ([], 0)
      w32 (0x80000000 + m.pos * 0x1000000 + id.2 * 0x10000 + leNat (id.1.take 2))
  else 0

end Sys2Proof.Machine
end

