-- ==== Sys2Proof/Machine/Regs.lean ====
section
/-! DEFINITION. The register blocks as one DEVICE space (R141, R145): the CUS block, reads and writes by address, REGISTER_WRITE. -/

namespace Sys2Proof.Machine

/-! ### The CUS block (06) -/

/-- An owner code as a person sees it: its own, FREE, shared-read, or another's. -/
def viewCode (p : Nat) (o : BitVec 4) : Nat :=
  if p = 0 ∨ o = ownerCode p ∨ o = 0xF ∨ o = 0xE then o.toNat else 7

/-- Eight owner codes as a word. -/
def codeWord (p : Nat) (f : Nat → BitVec 4) : Word :=
  w32 ((List.range 8).foldl (fun m i => m + viewCode p (f i) * 16 ^ i) 0)

/-- A reader sees that an object of an owner is being zeroed: its own or a FREE one. -/
def seesZero (p : Nat) (o : BitVec 4) : Bool := decide (p = 0) || o == ownerCode p || o == 0xF

/-- The address of the latest uncorrectable word, for a reader that owns the object. -/
def eccAddrFor (p : Nat) (s : State) : Word :=
  let a := s.cus.eccAddr
  match s.cus.eccCore with
  | none => if p = 0 ∨ s.mayRead 0 p a.toNat 4 then a else 0
  | some c => if p = 0 ∨ s.mayRead c p a.toNat 4 then a + w32 c else 0

/-- Read a register of the CUS block, by a person. -/
def cusRead (p f off : Nat) (s : State) : Word :=
  if f ≠ 0 then 0
  else if off < 0x200 then codeWord p fun i => s.pageOwner (2 * off + i)
  else if off < 0x280 then
    w32 ((List.range 32).foldl (fun m i =>
      let n := 32 * ((off - 0x200) / 4) + i
      if s.cus.pageZero.contains n ∧ seesZero p (s.pageOwner n) then m + 2 ^ i else m) 0)
  else if 0x400 ≤ off ∧ off < 0x410 then
    let c := (off - 0x400) / 4
    codeWord p fun i => if s.fuses.part = .an ∧ 2 ≤ c then 0xF else s.bankOwner c i
  else if off = 0x410 then
    w32 ((List.range 32).foldl (fun m i =>
      let c := i / 8
      if (vget s.cus.bankZero c).contains (i % 8) ∧ seesZero p (s.bankOwner c (i % 8)) then m + 2 ^ i else m) 0)
  else if 0x800 ≤ off ∧ off < 0x888 then codeWord p fun i => vget s.cus.frame (2 * (off - 0x800) + i)
  else if 0x900 ≤ off ∧ off < 0x918 then
    let q := (off - 0x900) / 4 + 1
    if p = 0 ∨ q = p then w32 (s.banksHeld q * 0x10000 + s.pagesHeld q) else 0
  else if off = 0xA00 then w32 s.cus.doubleFree
  else if off = 0xA04 then w32 s.cus.foreignFree
  else if off = 0xA08 then w32 s.cus.foreignAccess
  else if off = 0xA0C then (if p = 0 ∨ bits s.cus.last 2 0 = p then s.cus.last else 0)
  else if off = 0xA10 then (if p = 0 ∨ bits s.cus.last 2 0 = p then s.cus.lastAddr else 0)
  else if off = 0xA14 then w32 (s.cus.eccUncorr * 0x10000 + s.cus.eccCorr)
  else if off = 0xA18 then eccAddrFor p s
  else 0

/-! ### DEVICE space -/

/-- The block, the frame in it and the offset of a DEVICE address (R141). -/
def devBlock (a : Nat) : Nat := (a - 0x30000000) / 0x10000
def devFrame (a : Nat) : Nat := a / 0x1000 % 16
def devOff (a : Nat) : Nat := a % 0x1000

/-- A read of a word of DEVICE space for a person: by core c, or by a mover or the steward (c = 4). -/
def devRead (c p a : Nat) (s : State) : Word × State :=
  let f := devFrame a
  let off := devOff a
  match devBlock a with
  | 0x0 => (cusRead p f off s, s)
  | 0x1 => cicRead c f off s
  | 0x2 => (movRead f off s, s)
  | 0x3 => (flcRead f off s, s)
  | 0x4 => (sealRead f off s, s)
  | 0x5 => srvRead f off s
  | 0x6 => (chnRead f off s, s)
  | 0x7 => (canRead f off s, s)
  | 0x8 => crdRead f off s
  | 0x9 => serRead f off s
  | 0xA => snsRead c f off s
  | 0xB => (outRead f off s, s)
  | 0xC => sntRead c f off s
  | 0xE => (islRead f off s, s)
  | 0xF => (witRead p f off s, s)
  | 0x10 => (stwRead f off s, s)
  | _ => (0, s)

/-- The registers of the ISL block that the steward writes (02). -/
def islWrite (f off : Nat) (v : Word) (s : State) : State :=
  if f ≠ 0 then s
  else if off = 0x08 then setIsl (fun k => { k with wakeCfg := BitVec.ofNat 4 (bits v 3 0) }) s
  else if off = 0x18 then setIsl (fun k => { k with napDelay := bits v 15 0 }) s
  else s

/-- A write of a word of DEVICE space for a person: by core c, or by a mover or the steward (c = 4). -/
def devWrite (c p a : Nat) (v : Word) (s : State) : State :=
  let s := stampArrival s
  let f := devFrame a
  let off := devOff a
  match devBlock a with
  | 0x1 => cicWrite c f off v s
  | 0x2 => movWrite f off v s
  | 0x3 => flcWrite f off v s
  | 0x4 => sealRegWrite f off v s
  | 0x5 => srvWrite f off v s
  | 0x7 => canWrite f off v s
  | 0x8 => crdWrite f off v s
  | 0x9 => serWrite f off v s
  | 0xA => snsWrite f off v s
  | 0xB => if 1 ≤ f ∧ f ≤ 8 ∧ off = 0 then outCtrl p (f - 1) v s else s
  | 0xE => if p = 0 then islWrite f off v s else s
  | _ => s

/-- A write by the core's current person reaches its register: the frame is that person's (R143, R449). -/
def coreRegWrite (c a : Nat) (v : Word) (s : State) : State :=
  let p := (s.core c).cur
  match regionOf a with
  | .device f => if a % 4 = 0 ∧ ownsFrame s c f then devWrite c p a v s else s
  | _ => s

/-- A write by the steward: any register block, but the frame of a mover channel only where it owns the channel (R229). -/
def stewardRegWrite (a : Nat) (v : Word) (s : State) : State :=
  match regionOf a with
  | .device _ => if a % 4 = 0 ∧ (devBlock a ≠ 2 ∨ s.chanOwner (devFrame a) = 0) then devWrite 4 0 a v s else s
  | _ => s

/-- REGISTER_WRITE (R7, R62, R343): the writable fields take the value; the host writes a halfword of the window. -/
def execRegisterWrite (w : RegWriter) (addr : Nat) (v : Word) (s : State) : Host.Outcome State Fault Refusal :=
  .next (match w with
    | .core c => coreRegWrite c.val addr v s
    | .steward => stewardRegWrite addr v s
    | .host => hostWrite addr (v.setWidth 16) s)

end Sys2Proof.Machine
end

