-- ==== Sys2Proof/Machine/Commit.lean ====
section
/-! DEFINITION. What crosses the gates and what comes back to the cores (R35 to R38, R68, R119, R156, R163, R168 to R185): gate transfers, commits of buffered stores, the data of shared loads, the results of steward calls. -/

namespace Sys2Proof.Machine

/-! ### Slots on their way (R185) -/

/-- Slots at the head of what a pair has sent, which every earlier store has left behind, are forwarded. -/
def forwardSlots (fuel pr : Nat) (s : State) : State :=
  match fuel, vget s.gates.commitQ pr with
  | f + 1, t :: r =>
    match t.what with
    | .slot n v => forwardSlots f pr (publishSlot n v { s with gates := { s.gates with commitQ := vset s.gates.commitQ pr r } })
    | _ => s
  | _, _ => s

/-- A custody operation of a core's person that waited for what has come may go to the controller (R148, R182). -/
def custodyGoes (c : Nat) (s : State) : State :=
  let p := (s.core c).cur
  if (s.ctx c p).cus.isSome ∧ !isTrailer s c p then mirrorTrail c p (cusTry c p s) else s

/-- A place in the gate or a commit lets the cores of a pair go on: due entries leave, a switch that waits is made. -/
def pairOn (pr : Nat) (s : State) : State :=
  let s := forwardSlots (vget s.gates.commitQ pr).length pr s
  placesOn (forAll [2 * pr, 2 * pr + 1] (fun c t => trySwitch c (custodyGoes c (drain c t))) s)

/-! ### GATE_TRANSFER (R35 to R38) -/

/-- The head of GA_F or GB_F enters FABRIC, stamped (R37); a DEVICE access is stamped when it is presented. -/
def pairCross (pr : Nat) (s : State) : State :=
  match vget s.gates.pairF pr with
  | [] => s
  | t :: r =>
    let g := { s.gates with pairF := vset s.gates.pairF pr r, commitQ := vmod s.gates.commitQ pr fun l => l ++ [t] }
    let s := { s with gates := g }
    pairOn pr (match t.what with | .dev _ _ => s | _ => stampArrival s)

/-- A candidate, or a withdrawal, arrives at a core (R213, R116). -/
def candArrives (t : CandTxn) (s : State) : State :=
  if t.src = 0 ∨ !(s.ctx t.core t.person).waiting then candLands t s else trySwitch t.core (candLands t s)

/-- The head of GF_A or GF_B crosses; toward an island that is closed or off it completes OFFLINE (R38): the source stays
pending and is not delivered. -/
def candCross (pr : Nat) (s : State) : State :=
  match vget s.gates.fPair pr with
  | [] => s
  | t :: r =>
    let g := { s.gates with fPair := vset s.gates.fPair pr r }
    if vget s.gates.closed pr ∨ vget s.isl.pairSt pr ≠ .run then
      { s with gates := g, cic := { s.cic with sent := vmod s.cic.sent t.core fun v => vset v t.person 0 } }
    else if s.isl.power = .nap then s
    else candArrives t { s with gates := g }

/-- What a transaction of GH_F, taken and stamped, makes the steward do (R355, R360, R364). -/
def hostSends (t : GTxn) (s : State) : State :=
  match t with
  | .cellOrder n v q => cellOrder n v q s
  | .chars cs =>
    let s := setWin (fun w => { w with txFifo := w.txFifo.drop cs.length }) s
    forAll cs (fun ch t => if heard t .win then charIn .win ch t else t) s
  | .lost => setCar .win (fun q => { q with lost := true }) s
  | .leafClear _ _ => s

/-- What FABRIC took from GH_F in NAP is handled under the arrival number it was given (R37, R46). -/
def takeHeld (s : State) : State :=
  let one := fun (q : Nat × GTxn) (t : State) =>
    let now := t.isl.arrival
    let t := hostSends q.2 (setIsl (fun k => { k with arrival := q.1 }) t)
    setIsl (fun k => { k with arrival := Nat.max now k.arrival }) t
  forAll s.gates.ghTaken one { s with gates := { s.gates with ghTaken := [] } }

/-- The head of GH_F enters FABRIC, stamped (R37); in NAP it waits there until the steward has left WAIT (R46). -/
def hostCross (s : State) : State :=
  match s.gates.ghF with
  | [] => s
  | t :: r =>
    let s := stampArrival { s with gates := { s.gates with ghF := r } }
    if s.isl.power = .nap then { s with gates := { s.gates with ghTaken := s.gates.ghTaken ++ [(s.isl.arrival, t)] } }
    else hostSends t (takeHeld s)

/-- FABRIC_RELOCK (R45, R46): once a wake source has arisen FABRIC is back at 600 MHz and the steward leaves WAIT; it takes up what
has come in NAP. -/
def execFabricRelock (s : State) : Host.Outcome State Fault Refusal :=
  .next (if s.isl.power = .nap ∧ s.isl.napWake = true then takeHeld (napEnd s) else s)

/-- GATE_TRANSFER (R35, R36). GF_P, GP_F, GF_S and GS_F carry nothing that waits: their crossings are part of the commands
that send over them (assumption 31). -/
def execGateTransfer (g : GateId) (s : State) : Host.Outcome State Fault Refusal :=
  .next (match g with
    | .gaF => pairCross 0 s
    | .gbF => pairCross 1 s
    | .gfA => candCross 0 s
    | .gfB => candCross 1 s
    | .gfH => gfHCross s
    | .ghF => hostCross s
    | .gfP | .gpF | .gfS | .gsF => s)

/-! ### STORE_COMMIT (R155, R156, R163, R168, R169, R183) -/

/-- The address a transaction names: that of its lowest byte. -/
def txnAddr (t : StTxn) : Nat :=
  match t.what with
  | .gran b cs => (cs.map fun q => q.1).foldl Nat.min (16 * b + 15)
  | .dev a _ => a
  | .slot n _ => 4 * n

/-- A store that fails the fabric's check is discarded; its core takes an imprecise CUSTODY fault (R156, R183). -/
def discardStore (t : StTxn) (s : State) : State :=
  let a := txnAddr t
  let s := foreignAccess 1 t.core t.person a s
  if s.placedOn t.person t.core then
    mirrorTrail t.core t.person (setCtx t.core t.person (fun x => { x with storeFaults := x.storeFaults ++ [w32 a] }) s)
  else s

/-- A transaction is performed. -/
def perform (t : StTxn) (s : State) : State :=
  if !s.mayWrite t.core t.person (txnAddr t) then discardStore t s
  else match t.what with
    | .gran _ cs => commitCells (some t.core) cs s
    | .dev a v => devWrite t.core t.person a v s
    | .slot n v => publishSlot n v s

/-- The oldest transaction that FABRIC has taken from a pair commits (R168), once its page is not being zeroed (R155). -/
def storeCommit (pr : Nat) (s : State) : State :=
  match vget s.gates.commitQ pr with
  | [] => s
  | t :: r =>
    if s.zeroing t.core (txnAddr t) then s
    else pairOn pr (perform t { s with gates := { s.gates with commitQ := vset s.gates.commitQ pr r } })

/-- STORE_COMMIT (R168). -/
def execStoreCommit (pr : Pair) (up : List Upset) (s : State) : Host.Outcome State Fault Refusal :=
  .next (storeCommit (pairNo pr) (addUpsets up s))

/-! ### SHARED_LOAD_DATA (R68, R73, R156, R162, R163, R169, R171, R173) -/

/-- What a load brings: bytes, or why its destination is poisoned (R78). -/
inductive LoadAns where
  | data (bs : Bytes)
  | poison (cause : Nat)
  deriving DecidableEq, Repr

/-- A load of shared SRAM: from the cache, or from the bank, which reads the line and finds its errors (R162, R169). -/
def sramLoad (c p a n : Nat) (s : State) : LoadAns × State :=
  let line := a / 64
  if cacheHit (s.core c) line then (.data (s.sramRead a n), setCore c (cacheUse line) s)
  else
    let bad := eccBad 0 0 a n s
    let lineBad := eccBad 0 0 (64 * line) 64 s
    let s := setCtx c p (fun x => { x with shmiss := (x.shmiss + 1) % 2 ^ 32 }) s
    let s := eccRead 0 0 (64 * line) 64 s
    if bad then (.poison 4, s)
    else (.data (s.sramRead a n), if lineBad then s else setCore c (cacheUse line) s)

/-- The bytes the load's own buffered store gives it, while that store has not committed (R171). -/
def forwarded (s : State) (c : Nat) (l : ShLoad) : Option Bytes :=
  match l.fwd with
  | none => none
  | some (n, bs) =>
    if ((s.core c).sb.any fun e => decide (e.stamp = n)) || (ownInFlight s c).any fun t => decide (t.stamp = n) then some bs else none

/-- A shared load takes its value (R156, R171); what goes to FABRIC for it is stamped (R37). -/
def loadValue (c p : Nat) (l : ShLoad) (s : State) : LoadAns × State :=
  match forwarded s c l with
  | some bs => (.data bs, s)
  | none =>
    let s := if leavesCore s c l.addr then gateFlush (pairOf c) (stampArrival s) else s
    if !s.mayRead c p l.addr l.size then (.poison 1, foreignAccess 1 c p l.addr s)
    else match regionOf l.addr with
      | .device _ =>
        let r := devRead c p l.addr s
        (.data (leBytes 4 r.1.toNat), toCore c r)
      | .calib => (.data ((List.range l.size).map fun i => calibByte (l.addr - 0x21000000 + i)), s)
      | _ => sramLoad c p l.addr l.size s

/-- The word a load of one register writes, its sign extended (R102). -/
def loadWord (l : ShLoad) (bs : Bytes) : Word :=
  let v := leNat bs
  if l.signed ∧ v / 2 ^ (8 * l.size - 1) % 2 = 1 then w32 (v + (2 ^ 32 - 2 ^ (8 * l.size))) else w32 v

/-- The answer lands in the destinations (R68, R78). Beside the poison bit it writes 0, which nothing can read: DESIGN CHOICE
(assumption 114); R74 gives the 0 only for an LD.D that is not issued. -/
def landLoad (l : ShLoad) (a : LoadAns) (x : Ctx) : Ctx :=
  match a with
  | .data bs =>
    match l.dests with
    | [d] => applyWr (.w d (loadWord l bs) false) x
    | ds => forAll ds.zipIdx (fun q t => applyWr (.w q.1 (w32 (leAt bs (4 * q.2) 4)) false) t) x
  | .poison cause =>
    let x := forAll l.dests (fun d t => applyWr (.w d 0 true) t) x
    { x with deferAddr := w32 l.addr, deferCause := w32 cause }

/-- The oldest load of a person on a core may take its value: the stores it waits for have committed, its object is not being
zeroed (R155, R171, R176, R177). -/
def loadReady (s : State) (c p : Nat) : Bool :=
  match (s.ctx c p).loads with
  | [] => false
  | l :: _ =>
    decide (s.isl.power ≠ .nap) && !storesBefore s c l.hold && ((forwarded s c l).isSome || !s.zeroing c l.addr) &&
      (match l.gate with | some g => gatePassed s c g | none => true) && !isTrailer s c p

/-- The oldest load leaves its core only now: it waited in the core, or found its line in the cache and has lost it since (R117,
R173); what is ahead of it on its gate is performed first (R168). -/
def loadGoes (s : State) (c : Nat) (l : ShLoad) : Bool :=
  l.gate.isNone && (forwarded s c l).isNone && leavesCore s c l.addr && !gatePassed s c (arriveGate s c)

/-- The oldest load of a person on a core takes its value and lands (R173). -/
def loadLands (c p : Nat) (s : State) : State :=
  match (s.ctx c p).loads with
  | [] => s
  | l :: r =>
    if loadGoes s c l then
      mirrorTrail c p (setCtx c p (fun x => { x with loads := { l with gate := some (arriveGate s c) } :: r }) s)
    else
      let v := loadValue c p l s
      let s := setCtx c p (fun x => landLoad l v.1 { x with loads := r }) v.2
      trySwitch c (custodyGoes c (drain c (mirrorTrail c p s)))

/-- The person whose load is served on a core: its current one, or another whose load is still open. -/
def loaderOf (s : State) (c : Nat) : Option Nat :=
  ((s.core c).cur :: List.range 7).find? fun p => loadReady s c p

/-- SHARED_LOAD_DATA. -/
def execSharedLoadData (core : Fin 4) (up : List Upset) (s : State) : Host.Outcome State Fault Refusal :=
  let s := addUpsets up s
  .next (match loaderOf s core.val with
    | none => s
    | some p => loadLands core.val p s)

/-! ### STEWARD_ANSWER (R119) -/

/-- The service numbers that some chapter assigns (R119). -/
def services : List Nat :=
  [0x01, 0x02, 0x03, 0x10, 0x11, 0x12, 0x18, 0x19, 0x20, 0x21, 0x22, 0x28, 0x29, 0x2A, 0x2B, 0x2C, 0x2D, 0x30, 0x31, 0x32,
   0x38, 0x39, 0x3A, 0x3B]

/-- A call of a service that no chapter assigns is answered 302 (R119). -/
def refuseUnassigned (c p : Nat) (s : State) : State :=
  match (s.ctx c p).calls.find? fun q => !q.taken with
  | none => s
  | some q =>
    if services.contains q.svc ∨ storesBefore s c q.hold then s
    else callResult c p q.svc q.arg 302 (takeCall c p (stampArrival s))

/-- The person on a core whose result is ready, the current one first. -/
def answeredOf (s : State) (c : Nat) : Option Nat :=
  ((s.core c).cur :: List.range 7).find? fun p => !isTrailer s c p && (s.ctx c p).calls.any fun q => q.result.isSome

/-- The oldest ready result lands in wd. -/
def answerLands (c p : Nat) (s : State) : State :=
  let l := (s.ctx c p).calls
  match l.find? fun q => q.result.isSome, l.findIdx? fun q => q.result.isSome with
  | some q, some i =>
    let s := setCtx c p (fun x =>
      applyWr (.w q.dest (w32 (q.result.getD 0)) false) { x with calls := x.calls.eraseIdx i }) s
    trySwitch c (mirrorTrail c p (gateFlush (pairOf c) s))
  | _, _ => s

/-- STEWARD_ANSWER (R119). -/
def execStewardAnswer (core : Fin 4) (s : State) : Host.Outcome State Fault Refusal :=
  let c := core.val
  let s := forAll ((s.core c).cur :: List.range 7) (fun p t => refuseUnassigned c p t) s
  .next (match answeredOf s c with
    | none => s
    | some p => answerLands c p s)

end Sys2Proof.Machine
end

