-- ==== Sys2Proof/Machine/Bursts.lean ====
section
/-! DEFINITION. The bursts of the movers (R232 to R235, R237 to R242, R245, R246): grants, checks on both sides, reads at issue, writes at completion. Also CONVERTER_SCAN, whose streams raise request lines. -/

namespace Sys2Proof.Machine

/-! ### Rights (R141, R157) -/

/-- A channel's owner may read or write a word of a side (R157, R239); the steward reaches what it owns (R141). -/
def movMayRead (s : State) (p c a : Nat) : Bool :=
  if p = 0 then
    match regionOf a with
    | .imem => true
    | .flash => true
    | .calib => true
    | .unmapped => false
    | _ => s.mayRead c 0 a 4
  else s.mayRead c p a 4
def movMayWrite (s : State) (p c a : Nat) : Bool :=
  if p = 0 ∧ regionOf a = .imem then true else s.mayWrite c p a

/-! ### Grants (R235) -/

/-- Bytes of the burst at position b: BURST, the ends of both lines, what is left of the grant. -/
def burstLenAt (q : Chan) (b grant : Nat) : Nat :=
  Nat.min q.burst (Nat.min (q.src.len - b % q.src.len) (Nat.min (q.dst.len - b % q.dst.len) grant))

/-- Bytes of the next burst. -/
def burstLen (q : Chan) (grant : Nat) : Nat := burstLenAt q q.issued grant

/-- What serving one request grants (R235). -/
def grantOf (q : Chan) : Nat :=
  if q.reqsel < 0x40 ∨ q.grantSel = 0 then burstLen q q.burst
  else if q.grantSel = 1 then q.dst.len - q.issued % q.dst.len
  else q.total - q.issued

/-- The grant a channel may issue from: the rest of the one being served, or that of a counted request. The pattern that is issued
whole has nothing more to issue before its last write has committed (R245). -/
def granted (q : Chan) : Nat :=
  if !q.paced then q.total - q.issued
  else if q.issued = q.total then 0
  else if q.grant ≠ 0 then q.grant
  else if q.reqcnt ≠ 0 then grantOf q
  else 0

/-- The channel after n bytes of its grant are issued. -/
def spend (n : Nat) (q : Chan) : Chan :=
  if !q.paced then { q with issued := q.issued + n }
  else if q.grant ≠ 0 then { q with issued := q.issued + n, grant := q.grant - n }
  else { q with issued := q.issued + n, grant := grantOf q - n, reqcnt := q.reqcnt - 1 }

/-! ### The burst that is next -/

/-- A burst that touches local memory is held during its owner's hand-over (R246). -/
def heldBurst (s : State) (p : Nat) (addrs : List Nat) : Bool :=
  decide ((s.person p).run = .handover) && addrs.any localAddr

/-- A side meets an object that is being zeroed (R155). -/
def sideZeroing (s : State) (cs : List Nat) (addrs : List Nat) : Bool := addrs.any fun a => cs.any fun c => s.zeroing c a

/-- The check of a whole burst (R157, R239): the cause it fails with and, for CUSTODY, the address. -/
def burstCheck (s : State) (p : Nat) (q : Chan) (sa da : List Nat) : Option (Nat × Nat) :=
  let sc := sideCore s p q.src
  let dc := sideCore s p q.dst
  if sideOff s sc sa ∨ sideOff s dc da then some (2, 0)
  else match sa.find? fun a => (sideCores s p sc).any fun c => !movMayRead s p c a with
    | some a => some (1, a)
    | none => match da.find? fun a => (sideCores s p dc).any fun c => !movMayWrite s p c a with
      | some a => some (1, a)
      | none =>
        if da.any (fun a => localAddr a && (sideCores s p dc).any fun c => inSpill (s.ctx c p) (s.row p).rsMode a) then some (8, 0)
        else none

/-- A burst of n bytes at position b can go: not held by a hand-over (R246), nor, where it passes its check, by zeroing (R155, R239). -/
def burstFree (s : State) (ch b n : Nat) : Bool :=
  let q := s.chan ch
  let p := s.chanOwner ch
  let sa := burstAddrs q.src b n
  let da := burstAddrs q.dst b n
  !heldBurst s p (sa ++ da) &&
    ((burstCheck s p q sa da).isSome ||
      (!sideZeroing s (sideCores s p (sideCore s p q.src)) sa && !sideZeroing s (sideCores s p (sideCore s p q.dst)) da))

/-- The channel has a burst it can issue: granted, a place among its 16, not held (R233). -/
def hasBurst (s : State) (ch : Nat) : Bool :=
  let q := s.chan ch
  let n := burstLen q (granted q)
  decide (q.st = .running) && !q.failing && decide (q.out.length < 16) && decide (n ≠ 0) && burstFree s ch q.issued n

/-- The place of a channel in the round that begins after the one of its PRIO that issued last (R234). -/
def turnOf (s : State) (ch : Nat) : Nat := (ch + 15 - vget s.movTurn (bits (s.chan ch).cfg 9 8)) % 16

/-- A granted burst of a higher PRIO waits, or one of the same PRIO whose turn comes first (R234). -/
def outranked (s : State) (ch : Nat) : Bool :=
  let prio := fun n => bits (s.chan n).cfg 9 8
  (List.range 16).any fun k =>
    (decide (prio ch < prio k) || (decide (prio ch = prio k) && decide (turnOf s k < turnOf s ch))) && hasBurst s k

/-- A burst fails (R242): no further burst is issued; a CUSTODY failure is a foreign access of KIND 0b100 (R239). -/
def failBurst (ch cause a b : Nat) (s : State) : State :=
  let q := s.chan ch
  let s := if cause = 1 then foreignAccess 4 0 (s.chanOwner ch) a s else s
  setChan ch (fun z => { z with
    failing := true, ahead := [], cause := if q.failing then q.cause else cause,
    errSrc := if q.failing then q.errSrc else w32 (sideAddr q.src b),
    errDst := if q.failing then q.errDst else w32 (sideAddr q.dst b) }) s

/-! ### Reading (R162, R163, R178, R180, R192) -/

/-- The size of one access to a region: 16 bytes in shared SRAM, else 4 (R232). -/
def accessSize (a : Nat) : Nat := if regionKind a = 2 then 16 else 4

/-- The ECC space of an address. -/
def eccSpace (a : Nat) : Nat := match regionKind a with | 0 => 2 | 1 => 1 | _ => 0

/-- A word of memory that a mover reads on a core's side. -/
def movWord (s : State) (c a : Nat) : Word :=
  match regionOf a with
  | .imem => (s.core c).word a
  | .dmem _ => (s.core c).word a
  | .page _ => w32 (leNat (s.sramRead a 4))
  | .flash => w32 (leNat (cellsRead 0xFF s.mem.flash (a - 0x20000000) 4))
  | .calib => w32 (leNat ((List.range 4).map fun i => calibByte (a - 0x21000000 + i)))
  | _ => 0

/-- The access that holds an address meets an uncorrectable word, or a flash bank that is BUSY (R255). -/
def accessBad (s : State) (c a : Nat) : Bool :=
  match regionKind a with
  | 3 => (s.bank ((a - 0x20000000) / 0x200000)).busy.isSome || eccBad 3 0 (a / 16 * 16) 16 s
  | k => decide (k ≤ 2) && eccBad (eccSpace a) c (a / accessSize a * accessSize a) (accessSize a) s

/-- What reading an access does to the errors in it. -/
def accessSeen (c a : Nat) (s : State) : State :=
  if regionKind a ≤ 2 then eccRead (eccSpace a) c (a / accessSize a * accessSize a) (accessSize a) s else s

/-- Read words in order until an access cannot be read: the words, whether one could not be, the state after. -/
def readWords (p : Nat) (cs : List Nat) (as : List Nat) (got : List Word) (s : State) : List Word × Bool × State :=
  match as with
  | [] => (got, false, s)
  | a :: r =>
    if regionKind a = 5 then
      let v := devRead 4 p a (stampArrival s)
      readWords p cs r (got ++ [v.1]) v.2
    else
      let bad := cs.any fun c => accessBad s c a
      let s := forAll cs (fun c t => accessSeen c a t) s
      if bad then (got, true, s) else readWords p cs r (got ++ [movWord s (cs.headD 0) a]) s

/-- The first word in which the copies of a witness pair differ (R192). -/
def copiesDiffer (s : State) (cs : List Nat) (as : List Nat) : Option Nat :=
  match cs with
  | [c, d] => as.find? fun a => localAddr a && decide (movWord s c a ≠ movWord s d a)
  | _ => none

/-- The words of a failing access that were read before its first bad word are not written: whole accesses only (R242). -/
def wholeAccesses (da : List Nat) (ws : List Word) : List Word :=
  let k := ws.length
  match da[k]? with
  | none => ws
  | some a => ws.take (k - (a % accessSize a) / 4)

/-! ### MOV_BURST_ISSUE (R234, R237, R239) -/

/-- The cores a source is read on. -/
def readCores (s : State) (p : Nat) (q : Chan) (sa : List Nat) : List Nat :=
  if sa.any localAddr then sideCores s p (sideCore s p q.src) else [sideCore s p q.src]

/-- The checked burst takes what was read ahead for it, or reads its source, and becomes outstanding. -/
def issueBurst (ch n : Nat) (sa : List Nat) (s : State) : State :=
  let q := s.chan ch
  let p := s.chanOwner ch
  let b := q.issued
  let cs := readCores s p q sa
  match q.ahead, copiesDiffer s cs sa with
  | (_, data) :: r, _ => setChan ch (fun z => { spend n z with out := z.out ++ [{ dst := b, data := data }], ahead := r }) s
  | [], some a =>
    let pr := pairOf (cs.headD 0)
    let s := settleChan ch (failBurst ch 4 0 b (setChan ch (spend n) s))
    diverge pr p { info := divInfo 0 15 0 p 8, pc := (s.ctx (2 * pr) p).pc, lead := movWord s (2 * pr) a,
                   trail := movWord s (2 * pr + 1) a } s
  | [], none =>
    let r := readWords p cs sa [] s
    let bad := r.2.1
    let ws := if bad then wholeAccesses sa r.1 else r.1
    let u : Burst := { dst := b, data := ws.flatMap fun w => leBytes 4 w.toNat }
    let s := setChan ch (fun z => { spend n z with out := z.out ++ [u] }) r.2.2
    if bad then failBurst ch 3 0 b s else s

/-- Where the next read-ahead stands: behind the last granted byte and what is held already; past the pattern under REPEAT (R245). -/
def aheadAt (q : Chan) : Nat := q.issued + (q.ahead.map fun x => x.2.length).sum

/-- The channel may read ahead (R237): paced, PACED 0, a MEMORY source, no burst granted, at most 16 bursts and two source lines. -/
def mayReadAhead (s : State) (ch : Nat) : Bool :=
  let q := s.chan ch
  let b := aheadAt q
  let n := burstLenAt q (b % q.total) q.burst
  decide (q.st = .running) && !q.failing && q.paced && !q.cfg.getLsbD 12 && decide (granted q = 0) &&
    decide (q.out.length + q.ahead.length < 16) && decide (b + n ≤ q.issued + 2 * q.src.len) && (q.repeats || decide (b < q.total)) &&
    (burstAddrs q.src (b % q.total) n).all (fun a => decide (regionKind a ≤ 4)) && burstFree s ch (b % q.total) n

/-- A burst is read ahead of its grant (R237, R238): checked like any burst, it changes no data, custody or FIFO state. One that would
fail is left to be met when it is granted. -/
def readAhead (ch : Nat) (s : State) : State :=
  let q := s.chan ch
  let p := s.chanOwner ch
  let b := aheadAt q % q.total
  let n := burstLenAt q b q.burst
  let sa := burstAddrs q.src b n
  let cs := readCores s p q sa
  if (burstCheck s p q sa (burstAddrs q.dst b n)).isSome || (copiesDiffer s cs sa).isSome || cs.any (fun c => sa.any fun a => accessBad s c a)
  then s
  else
    let data := sa.flatMap fun a => leBytes 4 (movWord s (cs.headD 0) a).toNat
    setChan ch (fun z => { z with ahead := z.ahead ++ [(b, data)] }) s

/-- The engine issues the next burst of a channel: its PRIO's round goes on from it (R234); it fails its check or reads (R239). -/
def issueNext (ch : Nat) (s : State) : State :=
  let q := s.chan ch
  let n := burstLen q (granted q)
  let sa := burstAddrs q.src q.issued n
  let s := { s with movTurn := vset s.movTurn (bits q.cfg 9 8) ch }
  match burstCheck s (s.chanOwner ch) q sa (burstAddrs q.dst q.issued n) with
  | some (cause, a) => settleChan ch (failBurst ch cause a q.issued (setChan ch (spend n) s))
  | none => issueBurst ch n sa s

/-- MOV_BURST_ISSUE (R232 to R242). A channel with no granted burst reads ahead where it may: when it does is the sender's choice
(assumption 42). -/
def execMovBurstIssue (ch : Fin 16) (up : List Upset) (s : State) : Host.Outcome State Fault Refusal :=
  let s := addUpsets up s
  .next (if hasBurst s ch.val then (if outranked s ch.val then s else issueNext ch.val s)
    else if mayReadAhead s ch.val then readAhead ch.val s
    else s)

/-! ### MOV_BURST_COMPLETE (R175, R179, R181, R233, R241, R242, R245) -/

/-- Put a burst into its destination: registers word by word, or memory. -/
def putBurst (p : Nat) (cs : List Nat) (da : List Nat) (data : Bytes) (s : State) : State :=
  if regionKind (da.headD 0) = 5 then forAll (da.zip (wordsIn data)) (fun q t => devWrite 4 p q.1 q.2 t) s
  else putMem cs da data s

/-- Bytes of destination line l commit: LINE where the line is whole, since bursts end in the order of their places (R241). -/
def lineCommit (l n : Nat) (q : Chan) : Chan × Bool :=
  let now := if q.line = l then q.lineBytes + n else n
  if now = q.dst.len then ({ q with line := l + 1, lineBytes := 0, lines := q.lines + 1 }, true)
  else ({ q with line := l, lineBytes := now }, false)

/-- Events of n committed bytes of a burst at position b (R241, R245): LINE for a whole destination line, DONE at the end of the
pattern. -/
def burstEvents (ch b n : Nat) (s : State) : State :=
  let r := lineCommit (b / (s.chan ch).dst.len) n (s.chan ch)
  let s := setChan ch (fun _ => { r.1 with done := r.1.done + n }) s
  let q := s.chan ch
  let full := decide (q.done = q.total) && decide (q.st = .running) && !q.failing
  let s := if !full then s
    else if q.repeats then setChan ch (fun z => { z with issued := 0, done := 0, grant := 0, lines := 0, line := 0 }) s
    else setChan ch (fun z => { z with st := .done }) s
  let s := if r.2 then raiseEvent ch .line s else s
  if full then raiseEvent ch .done s else s

/-- The oldest outstanding burst writes what it holds, unless it has, and leaves. -/
def finishBurst (ch : Nat) (b : Burst) (rest : List Burst) (s : State) : State :=
  let q := s.chan ch
  let p := s.chanOwner ch
  let da := burstAddrs q.dst b.dst b.data.length
  let dc := sideCore s p q.dst
  let a := da.headD 0
  if b.lost then settleChan ch (failBurst ch 1 a b.dst (setChan ch (fun z => { z with out := rest }) s))
  else if b.put.isNone && sideOff s dc da then
    settleChan ch (failBurst ch 2 0 b.dst (setChan ch (fun z => { z with out := rest }) s))
  else
    let n := b.put.getD (writeRoom s q.dst.fixed a b.data.length)
    let s := if b.put.isSome then s else putBurst p (sideCores s p dc) (da.take (n / 4)) (b.data.take n) s
    let s := if n < b.data.length then accessSeen 0 (sideAddr q.dst (b.dst + n)) (failBurst ch 3 0 b.dst s) else s
    settleChan ch (burstEvents ch b.dst n (setChan ch (fun z => { z with out := rest }) s))

/-- MOV_BURST_COMPLETE: every write of the oldest burst has its response. -/
def execMovBurstComplete (ch : Fin 16) (s : State) : Host.Outcome State Fault Refusal :=
  let q := s.chan ch.val
  .next (match q.out with
    | [] => s
    | b :: r =>
      if b.put.isNone && heldBurst s (s.chanOwner ch.val) (burstAddrs q.dst b.dst b.data.length) then s else finishBurst ch.val b r s)

/-! ### ZEROING_DONE (R153, R154) -/

/-- An outstanding burst still writes to an object: it was accepted before the object left its owner, so the engine waits (R153). -/
def burstInto (s : State) (hit : Nat → Nat → Bool) : Bool :=
  (List.range 16).any fun n =>
    let q := s.chan n
    let p := s.chanOwner n
    let cs := sideCores s p (sideCore s p q.dst)
    q.out.any fun b => b.put.isNone && !b.lost && (burstAddrs q.dst b.dst b.data.length).any fun a => cs.any fun c => hit c a

/-- ZEROING_DONE: an engine finishes the object at the front of its queue (R154). -/
def execZeroingDone (obj : ZeroObj) (s : State) : Host.Outcome State Fault Refusal :=
  .next (match obj with
    | .page n =>
      if s.cus.pageZero.head? = some n.val ∧ !burstInto s (fun _ a => decide (regionOf a = .page n.val)) then
        pageZeroed n.val s
      else s
    | .bank c b =>
      if (vget s.cus.bankZero c.val).head? = some b.val ∧
          !burstInto s (fun d a => decide (d = c.val) && decide (regionOf a = .dmem b.val)) then
        bankZeroed c.val b.val s
      else s)

/-! ### CONVERTER_SCAN (R369, R385) -/

/-- CONVERTER_SCAN: streamed groups take an entry; one that reaches its level raises its request line. -/
def execConverterScan (vals : List Nat) (s : State) : Host.Outcome State Fault Refusal :=
  .next (if s.isl.port ≠ .run then s
    else
      let t := scanStore vals s
      forAll (newRequests s t) (fun g u => raiseLine (28 + g) u) t)

end Sys2Proof.Machine
end

