-- ==== Sys2Proof/Machine/CoreEvents.lean ====
section
/-! DEFINITION. The core's commands other than syllables: issue of a fetched sentence, interrupt entry, results that land, the divider, time slices, due stores (R64, R92, R67, R128, R95, R167, R183). -/

namespace Sys2Proof.Machine

/-- The sentence the core's person fetches at its pc; none where the fetch faults (R64, R81). -/
def fetchSentence (s : State) (c : Nat) : Option Sentence :=
  let p := (s.core c).cur
  match fetchWords s c p (s.ctx c p).pc.toNat 8 with
  | .fault => none
  | .words ws closed => some (decodeSentence ws closed)

/-- Under witness execution one core of the pair alone meets an uncorrectable word as it fetches: its FETCH entry is a divergence of
KIND 0xC (R193, R194). `lead`: it is the lead. What LEAD and TRAIL show is a choice (assumption 118). -/
def fetchDiffers (s : State) (c : Nat) : Option (Nat × Bool) :=
  let p := (s.core c).cur
  let bad := fun d => decide (fetchWords s d p (s.ctx c p).pc.toNat 8 = .fault)
  match s.witnessOn p with
  | some pr => if bad c != bad (c + 1) then some (pr, bad c) else none
  | none => none

/-- SENTENCE_ISSUE (R64): fetch at the pc, decode, and one attempt to issue. A core that waits for its custody operation, or has an
interrupt or a discarded store's fault to take, fetches nothing. -/
def execSentenceIssue (core : Fin 4) (up : List Upset) (s : State) : Host.Outcome State Fault Refusal :=
  let c := core.val
  let s := joinTrail c (addUpsets up s)
  let p := (s.core c).cur
  let x := s.ctx c p
  let a := x.pc.toNat
  .next (if !coreLive s c then s
    else if x.waiting then issue c none s
    else if x.cus.isSome || !x.storeFaults.isEmpty || irqDue s c then issue c none s
    else
      let sn := fetchSentence s c
      let t := forAll (twins s c p) (fun d t => fetchEcc d a (match sn with | some q => q.len | none => 1) t) s
      match fetchDiffers s c with
      | some (pr, lead) =>
        diverge pr p { info := divInfo 0 15 0 p 0xC, pc := x.pc, lead := w32 (bitN lead), trail := w32 (bitN (!lead)) } t
      | none => issue c sn t)

/-- INTERRUPT_ENTRY (R92, R215); with FP-pending set the FP fault is taken and the interrupt stays pending (R137). -/
def execInterruptEntry (core : Fin 4) (s : State) : Host.Outcome State Fault Refusal :=
  let c := core.val
  let s := joinTrail c s
  let p := (s.core c).cur
  .next (if !mayEnter s c then s else mirrorTrail c p (takeIrq c p s))

/-- RESULT_LAND (R67): the results the next sentence sees land. -/
def execResultLand (core : Fin 4) (s : State) : Host.Outcome State Fault Refusal :=
  let c := core.val
  let p := (s.core c).cur
  .next (mirrorTrail c p (setCtx c p landDue s))

/-- Land a running divide at the end of its time (R128). -/
def landDiv (x : Ctx) : Ctx :=
  match x.div with
  | none => x
  | some d =>
    { forAll d.writes (fun q => applyWr (.w q.1 q.2 false)) x with div := none, cycles := Nat.max x.cycles (d.lands + 1) }

/-- DIVIDE_RESULT (R128). -/
def execDivideResult (core : Fin 4) (s : State) : Host.Outcome State Fault Refusal :=
  let c := core.val
  let p := (s.core c).cur
  .next (mirrorTrail c p (setCtx c p landDiv s))

/-- TIMESLICE_EXPIRY (R95): a switch becomes due, the buffer drains, and the switch is made when it has. -/
def execTimesliceExpiry (core : Fin 4) (s : State) : Host.Outcome State Fault Refusal :=
  let c := core.val
  .next (if (nextRunnable s c).isNone || !coreLive s c then s
    else trySwitch c (drainAll c (setCore c (fun k => { k with switchDue := true }) s)))

/-- The oldest entry that is not due becomes due, with every older one (R167). -/
def dueOne (sb : List SbEntry) : List SbEntry :=
  match sb with
  | [] => []
  | e :: rest => if e.due then e :: dueOne rest else { e with due := true } :: rest

/-- STORE_BUFFER_DUE (R167): an entry reaches its 256 cycles; due entries go to the gate. -/
def execStoreBufferDue (core : Fin 4) (s : State) : Host.Outcome State Fault Refusal :=
  let c := core.val
  .next (trySwitch c (drain c (setCore c (fun k => { k with sb := dueOne k.sb }) s)))

/-- STORE_CUSTODY_FAULT (R183): the imprecise fault at the next sentence boundary. -/
def execStoreCustodyFault (core : Fin 4) (s : State) : Host.Outcome State Fault Refusal :=
  let c := core.val
  let p := (s.core c).cur
  .next (if coreLive s c then mirrorTrail c p (takeStoreFault c p s) else s)

end Sys2Proof.Machine
end

