-- ==== Sys2Proof/Machine/Start.lean ====
section
/-! DEFINITION. The start sequence (R51 to R56): its ten steps, the owners of the register frames (R145, R449), activations at a start (R288 to R293). -/

namespace Sys2Proof.Machine

/-! ### Causes (02) -/

/-- ISL_RESET_CAUSE from what the start collected, the start count and retention. -/
def causeWord (s : State) : Word :=
  let k := s.isl.next
  w32 (s.isl.startSeq * 0x10000 + bits (w32 k.glitchIsland) 2 0 * 0x200 + bitN s.isl.vstbyLostSeen * 0x80 + bitN (!s.isl.clean) * 0x40 +
    bitN k.glitch * 0x20 + bitN k.watchdog * 0x10 + bitN k.restart * 8 + bitN k.wake * 4 + bitN k.porst * 2 + bitN k.powerOn)

/-- The cause bits and their names. -/
def causeBits : List (Nat × String) :=
  [(0, "POWER_ON"), (1, "PORST"), (2, "WAKE"), (3, "RESTART"), (4, "WATCHDOG"), (5, "GLITCH"), (6, "UNCLEAN"), (7, "VSTBY_LOST")]

/-- The set cause names, each after a space (R299). -/
def causeNames (w : Word) : Text :=
  causeBits.flatMap fun q => if w.getLsbD q.1 then ' ' :: q.2.toList else []

/-- The present start has cause WAKE. -/
def wokenUp (s : State) : Bool := s.isl.causeReg.getLsbD 2

/-! ### Steps 1 to 5 -/

/-- Step 1: the arrival counter begins again. -/
def startStep1 (s : State) : State := setIsl (fun k => { k with arrival := 0 }) s

/-- Step 2 (R53, R388, R389, R399, R421): fuses, retention, causes; a zeroization cut short ends. -/
def startStep2 (env : StartEnv) (s : State) : State :=
  let s := if env.retentionBad then sentinelUp (vstbyLoss 2 s) else s
  let s := setIsl (fun k => { k with startSeq := (k.startSeq + 1) % 0x10000 }) s
  let s := if s.fuses.zeroize ∧ s.counter 0 < 4 then zeroizeEnd s else s
  let s := newChallenge s
  let w := causeWord s
  let lost := s.isl.vstbyLostSeen
  let s := setIsl (fun k => { k with
    causeReg := w, clean := false, vstbyLostSeen := false, next := {},
    wake := if k.next.wake then k.wakeLatch else 0, wakeLatch := 0 }) s
  let s := setSnt (fun q => { q with vstbyLostStart := lost }) s
  if lost then setLeaf 0 2 s else s

/-- Step 3: the window is live for identification, RSTOUT_N released (R344). -/
def startStep3 (s : State) : State :=
  setIsl (fun k => { k with rstoutLow := false }) (setWin (fun w => { w with state := 1 }) s)

/-- Step 4: the patch in FB0 is checked; without one, or with one that fails, the ROM runs alone. -/
def startStep4 (env : StartEnv) (s : State) : State :=
  { s with bun := { s.bun with patch := if (s.img 0).isSome then env.patch else none } }

/-- Step 5 (R52, R144, R201): memories scrubbed, every page and bank FREE, the pairs run, kept fences stand again. -/
def startStep5 (s : State) : State :=
  let clean := fun (c : Nat) (k : Core) =>
    { k with imem := [], dmem := [], cache := Vector.replicate 128 [], fenced := maskBit s.snt.fences c,
             byOrder := maskBit s.snt.fencesByOrder c }
  mapCores clean
    { s with
      mem := { s.mem with sram := [], ecc := s.mem.ecc.filter fun u => decide (u.space = 3) },
      cus := { s.cus with page := Vector.replicate 1024 0xF, bank := Vector.replicate 4 (Vector.replicate 8 0xF) },
      isl := { s.isl with pairSt := s.isl.pairSt.map fun q => if q = .starting then .run else q } }

/-! ### Step 6 (R19, R145, R449) -/

/-- The code of a person that owns a frame, if it has a right. -/
def frameFor (s : State) (p bit : Nat) : BitVec 4 := if s.right p bit then ownerCode p else 0

/-- The owner of frame f, counted over all blocks (R145, R449). -/
def frameOwner (s : State) (f : Nat) : BitVec 4 :=
  let n := f % 16
  let own := fun p => if s.present p then ownerCode p else (0 : BitVec 4)
  let src := fun k bit => frameFor s (s.srcOwner k) bit
  match f / 16 with
  | 0x0 => 0xE
  | 0xF => 0xE
  | 0x2 => ownerCode (s.chanOwner n)
  | 0xD => 0
  | b =>
    if n = 0 then 0xE
    else match b with
      | 0x1 => own n
      | 0x4 => own n
      | 0x10 => own n
      | 0x5 => if n = 1 then ownerCode (((List.range 7).find? fun p => s.right p 0).getD 0) else 0
      | 0x7 =>
        if n ≤ 2 then src (37 + 8 * (n - 1)) 4
        else if 4 ≤ n ∧ n ≤ 11 then src (33 + 8 * ((n - 4) / 4) + n % 4) 4
        else 0
      | 0x8 => if n ≤ 2 then src (50 + 4 * (n - 1)) 5 else 0
      | 0x9 =>
        if n ≤ 4 then own (s.srcOwner (57 + 2 * (n - 1)))
        else if n ≤ 6 then own (s.srcOwner (65 + 2 * (n - 5)))
        else 0
      | 0xA => if n ≤ 8 then own (s.srcOwner (16 + n)) else 0
      | 0xB =>
        if n ≤ 8 then frameFor s (match s.stw.charter with | some c => vget c.feedOwner (n - 1) | none => 0) 3 else 0
      | _ => 0

/-- Step 6: the charter; a replacement makes the CIC configuration of retention worthless (R228); frames; the persons named. -/
def startStep6 (s : State) : State :=
  let was := s.stw.chSlot
  let s := charterTake s
  let s := { s with cic := { s.cic with discarded := decide (s.stw.chSlot ≠ was) } }
  let s := { s with cus := { s.cus with frame := Vector.ofFn fun i : Fin 272 => frameOwner s i.val } }
  forNat 7 (fun p t => setPerson p (fun q =>
    if !t.present p then {} else if q.run = .dead then q else { q with run := .starting }) t) s

/-! ### Step 7 (R53, R227, R364, R466) -/

/-- The CIC configuration saved before STANDBY stands again (R227). -/
def cicRestore (v : Saved) (s : State) : State :=
  let put := fun (i : Fin 256) =>
    let q := s.src i.val
    let r := vget v.src i.val
    ({ q with priority := r.priority, target := r.target, filtered := r.filtered, fclk := r.fclk, fcount := r.fcount,
              holdoff := r.holdoff, bypass := r.bypass } : Src)
  cicUpdate { s with cic := { s.cic with src := Vector.ofFn put, thresh := v.thresh, restored := true } }

/-- The leaves that describe the start (R364). -/
def startLeaves (s : State) : State :=
  let s := setLeaf 14 3 s
  let s := if s.snt.rtcValid then s else setLeaf 13 0 s
  setSnt (fun q => { q with latched := [] }) (forAll s.snt.latched (fun l t => setLeaf 0 l t) s)

/-- Step 7: slots 0 to 7, the start leaves, the CIC, the outputs with FEED_SAFE, the window live, `! START`. -/
def startStep7 (s : State) : State :=
  let s := lifeCheck (startLeaves (forNat 8 pubAlways (setIsl (fun k => { k with step := 7 }) s)))
  let s := match wokenUp s && !s.cic.discarded, s.snt.saved with
    | true, some v => cicRestore v s
    | _, _ => s
  let safe := match s.stw.charter with | some c => c.feedSafe | none => 0
  let s := forNat 8 (fun n t => if maskBit safe n then feedSafe n t else t) s
  let s := forNat s.gates.gfH.length (fun _ t => gfHCross t) s
  let s := chainLevels (setWin (fun w => { w with state := 3 }) s)
  let line := tx "START" ++ causeNames s.isl.causeReg
  unsolicited .hst line (unsolicited .svc line s)

/-! ### Step 8 (R282, R284 to R293) -/

/-- The directory since the latest ACTIVATE. -/
def sinceActivate (d : List DirEnt) : List DirEnt :=
  d.foldl (fun l e => match e with | .activate _ => [] | e => l ++ [e]) []

/-- A part has its RESULT in this activation. -/
def hasResult (s : State) (t : Nat) : Bool :=
  (sinceActivate s.bun.dir).any fun e => match e with | .result u _ => decide (u = t) | _ => false
def hasBegin (s : State) (t : Nat) : Bool := (sinceActivate s.bun.dir).contains (.copyBegin t)
def hasEnd (s : State) (t : Nat) : Bool := (sinceActivate s.bun.dir).contains (.copyEnd t)

/-- A part is DEAD, at its copy (2) or its self-check (3); a patch that is DEAD leaves the ROM alone (R292). -/
def partDead (t code : Nat) (s : State) : State :=
  let s := partResult t code s
  if t = 0 then { s with bun := { s.bun with patch := none } } else becomeDead t s

/-- A part has passed (R285): its counter follows its SV, and the person may start; an ALL activation has made it alive (R23). -/
def partPassed (q : Part1) (s : State) : State :=
  let s := partResult q.target 1 (stepCounter (2 + q.target) q.sv s)
  let m := s.bun.allAlive
  let s := if bundleMode s = 1 ∧ !maskBit m q.target then { s with bun := { s.bun with allAlive := m + 2 ^ q.target } } else s
  if q.target = 0 then s else setRun q.target .starting (setPerson q.target (fun z => { z with failed := false }) s)

/-- What an activation cut short left (R293); a patch whose copy was whole has been checked at step 4 (R291). -/
def leftover (q : Part1) (s : State) : State :=
  let t := q.target
  if hasResult s t || !hasBegin s t then s
  else if !hasEnd s t then partDead t 2 s
  else if t = 0 ∧ s.bun.patch.isSome then partPassed q s
  else partDead t 3 s

/-- Copy one part and check it; true where the device restarts for a patch (R290, R291). -/
def copyOne (env : StartEnv) (ps : List Part1) (q : Part1) (s : State) : Bool × State :=
  let t := q.target
  match refusedCode s ps q with
  | some n => (false, partResult t n s)
  | none =>
    let s := setStage .activating s
    match copyPart q (env.copyFail.getLsbD t) s with
    | (false, s) => (false, partDead t 2 s)
    | (true, s) =>
      if t = 0 then (true, restartDevice s)
      else (false, if env.checkPass.getLsbD t then partPassed q s else partDead t 3 s)

/-- Copy the parts that have no RESULT yet, in order. -/
def copyParts (env : StartEnv) (ps : List Part1) (l : List Part1) (s : State) : Bool × State :=
  match l with
  | [] => (false, setBunDone s)
  | q :: r =>
    if hasResult s q.target then copyParts env ps r s
    else match copyOne env ps q s with
      | (true, s) => (true, s)
      | (false, s) => copyParts env ps r s

/-- The result code of an error of R283. -/
def errResult (e : Err) : Nat := if e.code = 502 then 4 else if e.code = 504 then 7 else 6

/-- No part of an ALL activation is copied: every RESULT records the refusal (R288). -/
def refuseAll (ps : List Part1) (code : Nat) (s : State) : State :=
  setBunDone (forAll ps (fun q t => partResult q.target code t) s)

/-- An ALL activation at step 8 (R288): every check again, then the copies. -/
def activateAll (env : StartEnv) (s : State) : Bool × State :=
  let ps := stagedParts s
  match bundleCheck s with
  | some (e, _) => (false, refuseAll ps (errResult e) s)
  | none =>
    if (unmet s ps).isSome then (false, refuseAll ps 5 s)
    else copyParts env ps ps s

/-- A patch in force that fails step 4 is shown DEAD, once. -/
def patchShown (s : State) : State :=
  if (s.img 0).isSome && s.bun.patch.isNone && decide (s.bun.st ≠ .activating) && decide (vget s.bun.result 0 ≠ 3) then
    noteResult 0 3 s
  else s

/-- Step 8: true where a patch was copied and the device restarts. -/
def startStep8 (env : StartEnv) (s : State) : Bool × State :=
  let s := patchShown s
  match s.bun.st with
  | .receiving =>
    let s := dirAdd .discard s
    (false, pubSlot 6 { s with bun := { s.bun with st := .empty } })
  | .activating =>
    let ps := stagedParts s
    copyParts env ps ps (forAll ps leftover s)
  | .pendingAll => activateAll env s
  | .pendingOne =>
    let ps := stagedParts s
    copyParts env ps ps s
  | _ => (false, s)

/-! ### Steps 9 and 10 (R41, R54, R55, R200, R269, R491) -/

/-- Step 9: the record store, the self-tests, the operating points, the persons where the lifecycle has them run. -/
def startStep9 (env : StartEnv) (s : State) : State :=
  let s := recoverStore s
  let test := fun (c : Nat) (t : State) =>
    if vget t.isl.pairSt (pairOf c) = .run then selftestDone c (!env.selftestFail.getLsbD c) t else t
  let s := opEval 1 (opEval 0 (forNat 4 test s))
  if personsRun s then placeAll (if wokenUp s then s.snt.saved else none) s
  else forNat 7 (fun p t => if (t.person p).run = .starting then setRun p .stopped t else t) s

/-- Step 10: the device runs, the lifecycle is evaluated. -/
def startStep10 (s : State) : State :=
  lifeCheck (setIsl (fun k => { k with step := 10, power := .run }) s)

/-- One step of the start; true where a new start has begun. -/
def startStep (env : StartEnv) (n : Nat) (s : State) : Bool × State :=
  match n with
  | 1 => (false, startStep1 s)
  | 2 => (false, startStep2 env s)
  | 3 => (false, startStep3 s)
  | 4 => (false, startStep4 env s)
  | 5 => (false, startStep5 s)
  | 6 => (false, startStep6 s)
  | 7 => (false, startStep7 s)
  | 8 => startStep8 env s
  | 9 => (false, startStep9 env s)
  | 10 => (false, startStep10 s)
  | _ => (false, s)

/-- Steps up to `last`, at most `fuel` of them. -/
def startRun (env : StartEnv) (last fuel : Nat) (s : State) : State :=
  match fuel with
  | 0 => s
  | m + 1 =>
    let n := s.isl.step + 1
    if last < n then s
    else match startStep env n s with
      | (true, s) => s
      | (false, s) => startRun env last m (setIsl (fun k => { k with step := n }) s)

/-- START (R53): the steps that are still to come, up to `last`. -/
def execStart (last : Fin 11) (env : StartEnv) (s : State) : Host.Outcome State Fault Refusal :=
  .next (if s.isl.power = .starting then startRun env last.val 10 s else s)

end Sys2Proof.Machine
end

