-- ==== Sys2Proof/Machine/SylA.lean ====
section
/-! DEFINITION. The A-unit syllables as commands: the core issues a sentence of the one syllable. -/

namespace Sys2Proof.Machine

/-- The unit of the operand type. -/
def aUnit (u : AUnit) : FUnit := match u with | .a0 => .a0 | .a1 => .a1

/-- NOP (R106). -/
def execNop (core : Fin 4) (u : AUnit) (g : Guard) (s : State) : Host.Outcome State Fault Refusal :=
  .next (issueOne core { unit := aUnit u, op := .nop, mode := .off, d := 0, s1 := 0, s2 := .reg 0, guard := g } s)

/-- MOVI (R109). -/
def execMovi (core : Fin 4) (u : AUnit) (d : BitVec 6) (im : Imm) (g : Guard) (s : State) : Host.Outcome State Fault Refusal :=
  .next (issueOne core { unit := aUnit u, op := .movi, mode := .off, d := d, s1 := 0, s2 := .imm im, guard := g } s)

/-- ADD (R106). -/
def execAdd (core : Fin 4) (u : AUnit) (d s1 : BitVec 6) (s2 : Src2) (g : Guard) (s : State) : Host.Outcome State Fault Refusal :=
  .next (issueOne core { unit := aUnit u, op := .add, mode := .off, d := d, s1 := s1, s2 := s2, guard := g } s)

/-- SUB (R106). -/
def execSub (core : Fin 4) (u : AUnit) (d s1 : BitVec 6) (s2 : Src2) (g : Guard) (s : State) : Host.Outcome State Fault Refusal :=
  .next (issueOne core { unit := aUnit u, op := .sub, mode := .off, d := d, s1 := s1, s2 := s2, guard := g } s)

/-- ADDS (R106). -/
def execAdds (core : Fin 4) (u : AUnit) (d s1 : BitVec 6) (s2 : Src2) (g : Guard) (s : State) : Host.Outcome State Fault Refusal :=
  .next (issueOne core { unit := aUnit u, op := .adds, mode := .off, d := d, s1 := s1, s2 := s2, guard := g } s)

/-- SUBS (R106). -/
def execSubs (core : Fin 4) (u : AUnit) (d s1 s2 : BitVec 6) (g : Guard) (s : State) : Host.Outcome State Fault Refusal :=
  .next (issueOne core { unit := aUnit u, op := .subs, mode := .off, d := d, s1 := s1, s2 := .reg s2, guard := g } s)

/-- AND (R106). -/
def execAndOp (core : Fin 4) (u : AUnit) (d s1 : BitVec 6) (s2 : Src2) (g : Guard) (s : State) : Host.Outcome State Fault Refusal :=
  .next (issueOne core { unit := aUnit u, op := .andOp, mode := .off, d := d, s1 := s1, s2 := s2, guard := g } s)

/-- OR (R106). -/
def execOrOp (core : Fin 4) (u : AUnit) (d s1 : BitVec 6) (s2 : Src2) (g : Guard) (s : State) : Host.Outcome State Fault Refusal :=
  .next (issueOne core { unit := aUnit u, op := .orOp, mode := .off, d := d, s1 := s1, s2 := s2, guard := g } s)

/-- XOR (R106). -/
def execXorOp (core : Fin 4) (u : AUnit) (d s1 : BitVec 6) (s2 : Src2) (g : Guard) (s : State) : Host.Outcome State Fault Refusal :=
  .next (issueOne core { unit := aUnit u, op := .xorOp, mode := .off, d := d, s1 := s1, s2 := s2, guard := g } s)

/-- ANDN (R106). -/
def execAndn (core : Fin 4) (u : AUnit) (d s1 s2 : BitVec 6) (g : Guard) (s : State) : Host.Outcome State Fault Refusal :=
  .next (issueOne core { unit := aUnit u, op := .andn, mode := .off, d := d, s1 := s1, s2 := .reg s2, guard := g } s)

/-- SHL (R107). -/
def execShl (core : Fin 4) (u : AUnit) (d s1 : BitVec 6) (s2 : Src2) (g : Guard) (s : State) : Host.Outcome State Fault Refusal :=
  .next (issueOne core { unit := aUnit u, op := .shl, mode := .off, d := d, s1 := s1, s2 := s2, guard := g } s)

/-- SHR (R107). -/
def execShr (core : Fin 4) (u : AUnit) (d s1 : BitVec 6) (s2 : Src2) (g : Guard) (s : State) : Host.Outcome State Fault Refusal :=
  .next (issueOne core { unit := aUnit u, op := .shr, mode := .off, d := d, s1 := s1, s2 := s2, guard := g } s)

/-- SRA (R107). -/
def execSra (core : Fin 4) (u : AUnit) (d s1 : BitVec 6) (s2 : Src2) (g : Guard) (s : State) : Host.Outcome State Fault Refusal :=
  .next (issueOne core { unit := aUnit u, op := .sra, mode := .off, d := d, s1 := s1, s2 := s2, guard := g } s)

/-- ROR (R107). -/
def execRor (core : Fin 4) (u : AUnit) (d s1 : BitVec 6) (s2 : Src2) (g : Guard) (s : State) : Host.Outcome State Fault Refusal :=
  .next (issueOne core { unit := aUnit u, op := .ror, mode := .off, d := d, s1 := s1, s2 := s2, guard := g } s)

/-- MIN (R106). -/
def execMin (core : Fin 4) (u : AUnit) (d s1 : BitVec 6) (s2 : Src2) (g : Guard) (s : State) : Host.Outcome State Fault Refusal :=
  .next (issueOne core { unit := aUnit u, op := .min, mode := .off, d := d, s1 := s1, s2 := s2, guard := g } s)

/-- MAX (R106). -/
def execMax (core : Fin 4) (u : AUnit) (d s1 : BitVec 6) (s2 : Src2) (g : Guard) (s : State) : Host.Outcome State Fault Refusal :=
  .next (issueOne core { unit := aUnit u, op := .max, mode := .off, d := d, s1 := s1, s2 := s2, guard := g } s)

/-- MINU (R106). -/
def execMinu (core : Fin 4) (u : AUnit) (d s1 s2 : BitVec 6) (g : Guard) (s : State) : Host.Outcome State Fault Refusal :=
  .next (issueOne core { unit := aUnit u, op := .minu, mode := .off, d := d, s1 := s1, s2 := .reg s2, guard := g } s)

/-- MAXU (R106). -/
def execMaxu (core : Fin 4) (u : AUnit) (d s1 s2 : BitVec 6) (g : Guard) (s : State) : Host.Outcome State Fault Refusal :=
  .next (issueOne core { unit := aUnit u, op := .maxu, mode := .off, d := d, s1 := s1, s2 := .reg s2, guard := g } s)

/-- ABS (R108). -/
def execAbs (core : Fin 4) (u : AUnit) (d s1 : BitVec 6) (g : Guard) (s : State) : Host.Outcome State Fault Refusal :=
  .next (issueOne core { unit := aUnit u, op := .abs, mode := .off, d := d, s1 := s1, s2 := .reg 0, guard := g } s)

/-- NEG (R108). -/
def execNeg (core : Fin 4) (u : AUnit) (d s1 : BitVec 6) (g : Guard) (s : State) : Host.Outcome State Fault Refusal :=
  .next (issueOne core { unit := aUnit u, op := .neg, mode := .off, d := d, s1 := s1, s2 := .reg 0, guard := g } s)

/-- CMPEQ (R106). -/
def execCmpeq (core : Fin 4) (u : AUnit) (d s1 : BitVec 6) (s2 : Src2) (g : Guard) (s : State) : Host.Outcome State Fault Refusal :=
  .next (issueOne core { unit := aUnit u, op := .cmpeq, mode := .off, d := d, s1 := s1, s2 := s2, guard := g } s)

/-- CMPNE (R106). -/
def execCmpne (core : Fin 4) (u : AUnit) (d s1 : BitVec 6) (s2 : Src2) (g : Guard) (s : State) : Host.Outcome State Fault Refusal :=
  .next (issueOne core { unit := aUnit u, op := .cmpne, mode := .off, d := d, s1 := s1, s2 := s2, guard := g } s)

/-- CMPLT (R106). -/
def execCmplt (core : Fin 4) (u : AUnit) (d s1 : BitVec 6) (s2 : Src2) (g : Guard) (s : State) : Host.Outcome State Fault Refusal :=
  .next (issueOne core { unit := aUnit u, op := .cmplt, mode := .off, d := d, s1 := s1, s2 := s2, guard := g } s)

/-- CMPLE (R106). -/
def execCmple (core : Fin 4) (u : AUnit) (d s1 : BitVec 6) (s2 : Src2) (g : Guard) (s : State) : Host.Outcome State Fault Refusal :=
  .next (issueOne core { unit := aUnit u, op := .cmple, mode := .off, d := d, s1 := s1, s2 := s2, guard := g } s)

/-- CMPLTU (R106). -/
def execCmpltu (core : Fin 4) (u : AUnit) (d s1 : BitVec 6) (s2 : Src2) (g : Guard) (s : State) : Host.Outcome State Fault Refusal :=
  .next (issueOne core { unit := aUnit u, op := .cmpltu, mode := .off, d := d, s1 := s1, s2 := s2, guard := g } s)

/-- CMPLEU (R106). -/
def execCmpleu (core : Fin 4) (u : AUnit) (d s1 : BitVec 6) (s2 : Src2) (g : Guard) (s : State) : Host.Outcome State Fault Refusal :=
  .next (issueOne core { unit := aUnit u, op := .cmpleu, mode := .off, d := d, s1 := s1, s2 := s2, guard := g } s)

/-- CMPGT (R106). -/
def execCmpgt (core : Fin 4) (u : AUnit) (d s1 : BitVec 6) (s2 : Src2) (g : Guard) (s : State) : Host.Outcome State Fault Refusal :=
  .next (issueOne core { unit := aUnit u, op := .cmpgt, mode := .off, d := d, s1 := s1, s2 := s2, guard := g } s)

/-- CMPGE (R106). -/
def execCmpge (core : Fin 4) (u : AUnit) (d s1 : BitVec 6) (s2 : Src2) (g : Guard) (s : State) : Host.Outcome State Fault Refusal :=
  .next (issueOne core { unit := aUnit u, op := .cmpge, mode := .off, d := d, s1 := s1, s2 := s2, guard := g } s)

/-- PAND (R106). -/
def execPand (core : Fin 4) (u : AUnit) (d s1 s2 : BitVec 6) (g : Guard) (s : State) : Host.Outcome State Fault Refusal :=
  .next (issueOne core { unit := aUnit u, op := .pand, mode := .off, d := d, s1 := s1, s2 := .reg s2, guard := g } s)

/-- POR (R106). -/
def execPor (core : Fin 4) (u : AUnit) (d s1 s2 : BitVec 6) (g : Guard) (s : State) : Host.Outcome State Fault Refusal :=
  .next (issueOne core { unit := aUnit u, op := .por, mode := .off, d := d, s1 := s1, s2 := .reg s2, guard := g } s)

/-- PANDN (R106). -/
def execPandn (core : Fin 4) (u : AUnit) (d s1 s2 : BitVec 6) (g : Guard) (s : State) : Host.Outcome State Fault Refusal :=
  .next (issueOne core { unit := aUnit u, op := .pandn, mode := .off, d := d, s1 := s1, s2 := .reg s2, guard := g } s)

/-- PNOT (R106). -/
def execPnot (core : Fin 4) (u : AUnit) (d s1 : BitVec 6) (g : Guard) (s : State) : Host.Outcome State Fault Refusal :=
  .next (issueOne core { unit := aUnit u, op := .pnot, mode := .off, d := d, s1 := s1, s2 := .reg 0, guard := g } s)

end Sys2Proof.Machine
end

