-- ==== Sys2Proof/Machine/SylB.lean ====
section
/-! DEFINITION. The B-unit syllables as commands: the core issues a sentence of the one syllable. -/

namespace Sys2Proof.Machine

/-- BR (R83). -/
def execBr (core : Fin 4) (im : Imm) (g : Guard) (s : State) : Host.Outcome State Fault Refusal :=
  .next (issueOne core { unit := .b, op := .br, mode := .off, d := 0, s1 := 0, s2 := .imm im, guard := g } s)

/-- BRR (R113). -/
def execBrr (core : Fin 4) (s1 : BitVec 6) (g : Guard) (s : State) : Host.Outcome State Fault Refusal :=
  .next (issueOne core { unit := .b, op := .brr, mode := .off, d := 0, s1 := s1, s2 := .reg 0, guard := g } s)

/-- CALL (R83). -/
def execCall (core : Fin 4) (im : Imm) (g : Guard) (s : State) : Host.Outcome State Fault Refusal :=
  .next (issueOne core { unit := .b, op := .call, mode := .off, d := 0, s1 := 0, s2 := .imm im, guard := g } s)

/-- CALLR (R113). -/
def execCallr (core : Fin 4) (s1 : BitVec 6) (g : Guard) (s : State) : Host.Outcome State Fault Refusal :=
  .next (issueOne core { unit := .b, op := .callr, mode := .off, d := 0, s1 := s1, s2 := .reg 0, guard := g } s)

/-- RET (R85). -/
def execRet (core : Fin 4) (g : Guard) (s : State) : Host.Outcome State Fault Refusal :=
  .next (issueOne core { unit := .b, op := .ret, mode := .off, d := 0, s1 := 0, s2 := .reg 0, guard := g } s)

/-- RETI (R93). -/
def execReti (core : Fin 4) (g : Guard) (s : State) : Host.Outcome State Fault Refusal :=
  .next (issueOne core { unit := .b, op := .reti, mode := .off, d := 0, s1 := 0, s2 := .reg 0, guard := g } s)

/-- LOOP (R88). -/
def execLoop (core : Fin 4) (s1 : BitVec 6) (im : Imm) (g : Guard) (s : State) : Host.Outcome State Fault Refusal :=
  .next (issueOne core { unit := .b, op := .loop, mode := .off, d := 0, s1 := s1, s2 := .imm im, guard := g } s)

/-- LPOP (R113). -/
def execLpop (core : Fin 4) (g : Guard) (s : State) : Host.Outcome State Fault Refusal :=
  .next (issueOne core { unit := .b, op := .lpop, mode := .off, d := 0, s1 := 0, s2 := .reg 0, guard := g } s)

/-- WAIT (R116). -/
def execWait (core : Fin 4) (g : Guard) (s : State) : Host.Outcome State Fault Refusal :=
  .next (issueOne core { unit := .b, op := .wait, mode := .off, d := 0, s1 := 0, s2 := .reg 0, guard := g } s)

/-- FENCE_SL (R117). -/
def execFenceSl (core : Fin 4) (g : Guard) (s : State) : Host.Outcome State Fault Refusal :=
  .next (issueOne core { unit := .b, op := .fenceSl, mode := .off, d := 0, s1 := 0, s2 := .reg 0, guard := g } s)

/-- PUBLISH (R118). -/
def execPublish (core : Fin 4) (s1 s2 : BitVec 6) (g : Guard) (s : State) : Host.Outcome State Fault Refusal :=
  .next (issueOne core { unit := .b, op := .publish, mode := .off, d := 0, s1 := s1, s2 := .reg s2, guard := g } s)

/-- MFC (R121). -/
def execMfc (core : Fin 4) (d s1 : BitVec 6) (g : Guard) (s : State) : Host.Outcome State Fault Refusal :=
  .next (issueOne core { unit := .b, op := .mfc, mode := .off, d := d, s1 := s1, s2 := .reg 0, guard := g } s)

/-- MTC (R121). -/
def execMtc (core : Fin 4) (d s1 : BitVec 6) (g : Guard) (s : State) : Host.Outcome State Fault Refusal :=
  .next (issueOne core { unit := .b, op := .mtc, mode := .off, d := d, s1 := s1, s2 := .reg 0, guard := g } s)

/-- CLAIM (R149). -/
def execClaim (core : Fin 4) (d s1 : BitVec 6) (g : Guard) (s : State) : Host.Outcome State Fault Refusal :=
  .next (issueOne core { unit := .b, op := .claim, mode := .off, d := d, s1 := s1, s2 := .reg 0, guard := g } s)

/-- GIVE (R149). -/
def execGive (core : Fin 4) (d s1 s2 : BitVec 6) (g : Guard) (s : State) : Host.Outcome State Fault Refusal :=
  .next (issueOne core { unit := .b, op := .give, mode := .off, d := d, s1 := s1, s2 := .reg s2, guard := g } s)

/-- FREE (R149). -/
def execFree (core : Fin 4) (d s1 : BitVec 6) (g : Guard) (s : State) : Host.Outcome State Fault Refusal :=
  .next (issueOne core { unit := .b, op := .free, mode := .off, d := d, s1 := s1, s2 := .reg 0, guard := g } s)

end Sys2Proof.Machine
end

