-- ==== Sys2Proof/Machine/SylC.lean ====
section
/-! DEFINITION. The C-unit syllables as commands: the core issues a sentence of the one syllable. -/

namespace Sys2Proof.Machine

/-- CRC_STEP (R111). -/
def execCrcStep (core : Fin 4) (p : CrcPoly) (refl : Bool) (ww : BitVec 2) (d s1 s2 : BitVec 6) (g : Guard) (s : State) : Host.Outcome State Fault Refusal :=
  .next (issueOne core { unit := .c, op := (.crc p refl ww), mode := .off, d := d, s1 := s1, s2 := .reg s2, guard := g } s)

/-- PAR (R110). -/
def execPar (core : Fin 4) (d s1 : BitVec 6) (g : Guard) (s : State) : Host.Outcome State Fault Refusal :=
  .next (issueOne core { unit := .c, op := .par, mode := .off, d := d, s1 := s1, s2 := .reg 0, guard := g } s)

/-- PARP (R110). -/
def execParp (core : Fin 4) (d s1 : BitVec 6) (g : Guard) (s : State) : Host.Outcome State Fault Refusal :=
  .next (issueOne core { unit := .c, op := .parp, mode := .off, d := d, s1 := s1, s2 := .reg 0, guard := g } s)

/-- BREV (R110). -/
def execBrev (core : Fin 4) (d s1 : BitVec 6) (g : Guard) (s : State) : Host.Outcome State Fault Refusal :=
  .next (issueOne core { unit := .c, op := .brev, mode := .off, d := d, s1 := s1, s2 := .reg 0, guard := g } s)

/-- BREVB (R110). -/
def execBrevb (core : Fin 4) (d s1 : BitVec 6) (g : Guard) (s : State) : Host.Outcome State Fault Refusal :=
  .next (issueOne core { unit := .c, op := .brevb, mode := .off, d := d, s1 := s1, s2 := .reg 0, guard := g } s)

/-- BSWAP (R110). -/
def execBswap (core : Fin 4) (d s1 : BitVec 6) (g : Guard) (s : State) : Host.Outcome State Fault Refusal :=
  .next (issueOne core { unit := .c, op := .bswap, mode := .off, d := d, s1 := s1, s2 := .reg 0, guard := g } s)

/-- CLZ (R110). -/
def execClz (core : Fin 4) (d s1 : BitVec 6) (g : Guard) (s : State) : Host.Outcome State Fault Refusal :=
  .next (issueOne core { unit := .c, op := .clz, mode := .off, d := d, s1 := s1, s2 := .reg 0, guard := g } s)

/-- CTZ (R110). -/
def execCtz (core : Fin 4) (d s1 : BitVec 6) (g : Guard) (s : State) : Host.Outcome State Fault Refusal :=
  .next (issueOne core { unit := .c, op := .ctz, mode := .off, d := d, s1 := s1, s2 := .reg 0, guard := g } s)

/-- POPC (R110). -/
def execPopc (core : Fin 4) (d s1 : BitVec 6) (g : Guard) (s : State) : Host.Outcome State Fault Refusal :=
  .next (issueOne core { unit := .c, op := .popc, mode := .off, d := d, s1 := s1, s2 := .reg 0, guard := g } s)

/-- EXTU (R112). -/
def execExtu (core : Fin 4) (d s1 s2 : BitVec 6) (g : Guard) (s : State) : Host.Outcome State Fault Refusal :=
  .next (issueOne core { unit := .c, op := .extu, mode := .off, d := d, s1 := s1, s2 := .reg s2, guard := g } s)

/-- EXTS (R112). -/
def execExts (core : Fin 4) (d s1 s2 : BitVec 6) (g : Guard) (s : State) : Host.Outcome State Fault Refusal :=
  .next (issueOne core { unit := .c, op := .exts, mode := .off, d := d, s1 := s1, s2 := .reg s2, guard := g } s)

/-- INS (R112). -/
def execIns (core : Fin 4) (d s1 s2 : BitVec 6) (g : Guard) (s : State) : Host.Outcome State Fault Refusal :=
  .next (issueOne core { unit := .c, op := .ins, mode := .off, d := d, s1 := s1, s2 := .reg s2, guard := g } s)

/-- BTST (R110). -/
def execBtst (core : Fin 4) (d s1 s2 : BitVec 6) (g : Guard) (s : State) : Host.Outcome State Fault Refusal :=
  .next (issueOne core { unit := .c, op := .btst, mode := .off, d := d, s1 := s1, s2 := .reg s2, guard := g } s)

/-- BTSTI (R110). -/
def execBtsti (core : Fin 4) (d s1 : BitVec 6) (im : Imm) (g : Guard) (s : State) : Host.Outcome State Fault Refusal :=
  .next (issueOne core { unit := .c, op := .btsti, mode := .off, d := d, s1 := s1, s2 := .imm im, guard := g } s)

/-- BSETI (R110). -/
def execBseti (core : Fin 4) (d s1 : BitVec 6) (im : Imm) (g : Guard) (s : State) : Host.Outcome State Fault Refusal :=
  .next (issueOne core { unit := .c, op := .bseti, mode := .off, d := d, s1 := s1, s2 := .imm im, guard := g } s)

/-- BCLRI (R110). -/
def execBclri (core : Fin 4) (d s1 : BitVec 6) (im : Imm) (g : Guard) (s : State) : Host.Outcome State Fault Refusal :=
  .next (issueOne core { unit := .c, op := .bclri, mode := .off, d := d, s1 := s1, s2 := .imm im, guard := g } s)

/-- TSTP (R77). -/
def execTstp (core : Fin 4) (d s1 : BitVec 6) (g : Guard) (s : State) : Host.Outcome State Fault Refusal :=
  .next (issueOne core { unit := .c, op := .tstp, mode := .off, d := d, s1 := s1, s2 := .reg 0, guard := g } s)

/-- CLMULL (R110). -/
def execClmull (core : Fin 4) (d s1 s2 : BitVec 6) (g : Guard) (s : State) : Host.Outcome State Fault Refusal :=
  .next (issueOne core { unit := .c, op := .clmull, mode := .off, d := d, s1 := s1, s2 := .reg s2, guard := g } s)

/-- CLMULH (R110). -/
def execClmulh (core : Fin 4) (d s1 s2 : BitVec 6) (g : Guard) (s : State) : Host.Outcome State Fault Refusal :=
  .next (issueOne core { unit := .c, op := .clmulh, mode := .off, d := d, s1 := s1, s2 := .reg s2, guard := g } s)

end Sys2Proof.Machine
end

