-- ==== Sys2Proof/Machine/SylL.lean ====
section
/-! DEFINITION. The L-unit syllables as commands: the core issues a sentence of the one syllable. -/

namespace Sys2Proof.Machine

/-- The unit, mode and second source of the operand types of the table. -/
def lUnit (u : LUnit) : FUnit := match u with | .l0 => .l0 | .l1 => .l1
def aModeMode (m : AMode) : LMode := match m with | .off _ => .off | .post _ => .post | .pre _ => .pre | .idx _ => .idx
def aModeSrc (m : AMode) : Src2 := match m with | .off k => .imm k | .post k => .imm k | .pre k => .imm k | .idx r => .reg r
def dModeMode (m : DMode) : LMode := match m with | .off _ => .off | .idx _ => .idx
def dModeSrc (m : DMode) : Src2 := match m with | .off k => .imm k | .idx r => .reg r

/-- LD_B (R102). -/
def execLdB (core : Fin 4) (u : LUnit) (m : AMode) (d s1 : BitVec 6) (g : Guard) (s : State) : Host.Outcome State Fault Refusal :=
  .next (issueOne core { unit := lUnit u, op := .ldB, mode := aModeMode m, d := d, s1 := s1, s2 := aModeSrc m, guard := g } s)

/-- LD_BU (R102). -/
def execLdBu (core : Fin 4) (u : LUnit) (m : AMode) (d s1 : BitVec 6) (g : Guard) (s : State) : Host.Outcome State Fault Refusal :=
  .next (issueOne core { unit := lUnit u, op := .ldBu, mode := aModeMode m, d := d, s1 := s1, s2 := aModeSrc m, guard := g } s)

/-- LD_H (R102). -/
def execLdH (core : Fin 4) (u : LUnit) (m : AMode) (d s1 : BitVec 6) (g : Guard) (s : State) : Host.Outcome State Fault Refusal :=
  .next (issueOne core { unit := lUnit u, op := .ldH, mode := aModeMode m, d := d, s1 := s1, s2 := aModeSrc m, guard := g } s)

/-- LD_HU (R102). -/
def execLdHu (core : Fin 4) (u : LUnit) (m : AMode) (d s1 : BitVec 6) (g : Guard) (s : State) : Host.Outcome State Fault Refusal :=
  .next (issueOne core { unit := lUnit u, op := .ldHu, mode := aModeMode m, d := d, s1 := s1, s2 := aModeSrc m, guard := g } s)

/-- LD_W (R102). -/
def execLdW (core : Fin 4) (u : LUnit) (m : AMode) (d s1 : BitVec 6) (g : Guard) (s : State) : Host.Outcome State Fault Refusal :=
  .next (issueOne core { unit := lUnit u, op := .ldW, mode := aModeMode m, d := d, s1 := s1, s2 := aModeSrc m, guard := g } s)

/-- LD_WP (R102). -/
def execLdWp (core : Fin 4) (u : LUnit) (m : AMode) (d s1 : BitVec 6) (g : Guard) (s : State) : Host.Outcome State Fault Refusal :=
  .next (issueOne core { unit := lUnit u, op := .ldWp, mode := aModeMode m, d := d, s1 := s1, s2 := aModeSrc m, guard := g } s)

/-- LDBR_H (R100). -/
def execLdbrH (core : Fin 4) (u : LUnit) (im : Imm) (d s1 : BitVec 6) (g : Guard) (s : State) : Host.Outcome State Fault Refusal :=
  .next (issueOne core { unit := lUnit u, op := .ldbrH, mode := .brev, d := d, s1 := s1, s2 := .imm im, guard := g } s)

/-- LDBR_W (R100). -/
def execLdbrW (core : Fin 4) (u : LUnit) (im : Imm) (d s1 : BitVec 6) (g : Guard) (s : State) : Host.Outcome State Fault Refusal :=
  .next (issueOne core { unit := lUnit u, op := .ldbrW, mode := .brev, d := d, s1 := s1, s2 := .imm im, guard := g } s)

/-- LDBR_WP (R100). -/
def execLdbrWp (core : Fin 4) (u : LUnit) (im : Imm) (d s1 : BitVec 6) (g : Guard) (s : State) : Host.Outcome State Fault Refusal :=
  .next (issueOne core { unit := lUnit u, op := .ldbrWp, mode := .brev, d := d, s1 := s1, s2 := .imm im, guard := g } s)

/-- LD_D_B (R74). -/
def execLdDB (core : Fin 4) (u : LUnit) (m : DMode) (d s1 : BitVec 6) (g : Guard) (s : State) : Host.Outcome State Fault Refusal :=
  .next (issueOne core { unit := lUnit u, op := .ldDB, mode := dModeMode m, d := d, s1 := s1, s2 := dModeSrc m, guard := g } s)

/-- LD_D_BU (R74). -/
def execLdDBu (core : Fin 4) (u : LUnit) (m : DMode) (d s1 : BitVec 6) (g : Guard) (s : State) : Host.Outcome State Fault Refusal :=
  .next (issueOne core { unit := lUnit u, op := .ldDBu, mode := dModeMode m, d := d, s1 := s1, s2 := dModeSrc m, guard := g } s)

/-- LD_D_H (R74). -/
def execLdDH (core : Fin 4) (u : LUnit) (m : DMode) (d s1 : BitVec 6) (g : Guard) (s : State) : Host.Outcome State Fault Refusal :=
  .next (issueOne core { unit := lUnit u, op := .ldDH, mode := dModeMode m, d := d, s1 := s1, s2 := dModeSrc m, guard := g } s)

/-- LD_D_HU (R74). -/
def execLdDHu (core : Fin 4) (u : LUnit) (m : DMode) (d s1 : BitVec 6) (g : Guard) (s : State) : Host.Outcome State Fault Refusal :=
  .next (issueOne core { unit := lUnit u, op := .ldDHu, mode := dModeMode m, d := d, s1 := s1, s2 := dModeSrc m, guard := g } s)

/-- LD_D_W (R74). -/
def execLdDW (core : Fin 4) (u : LUnit) (m : DMode) (d s1 : BitVec 6) (g : Guard) (s : State) : Host.Outcome State Fault Refusal :=
  .next (issueOne core { unit := lUnit u, op := .ldDW, mode := dModeMode m, d := d, s1 := s1, s2 := dModeSrc m, guard := g } s)

/-- LD_D_WP (R74). -/
def execLdDWp (core : Fin 4) (u : LUnit) (m : DMode) (d s1 : BitVec 6) (g : Guard) (s : State) : Host.Outcome State Fault Refusal :=
  .next (issueOne core { unit := lUnit u, op := .ldDWp, mode := dModeMode m, d := d, s1 := s1, s2 := dModeSrc m, guard := g } s)

/-- ST_B (R102). -/
def execStB (core : Fin 4) (u : LUnit) (m : AMode) (d s1 : BitVec 6) (g : Guard) (s : State) : Host.Outcome State Fault Refusal :=
  .next (issueOne core { unit := lUnit u, op := .stB, mode := aModeMode m, d := d, s1 := s1, s2 := aModeSrc m, guard := g } s)

/-- ST_H (R102). -/
def execStH (core : Fin 4) (u : LUnit) (m : AMode) (d s1 : BitVec 6) (g : Guard) (s : State) : Host.Outcome State Fault Refusal :=
  .next (issueOne core { unit := lUnit u, op := .stH, mode := aModeMode m, d := d, s1 := s1, s2 := aModeSrc m, guard := g } s)

/-- ST_W (R102). -/
def execStW (core : Fin 4) (u : LUnit) (m : AMode) (d s1 : BitVec 6) (g : Guard) (s : State) : Host.Outcome State Fault Refusal :=
  .next (issueOne core { unit := lUnit u, op := .stW, mode := aModeMode m, d := d, s1 := s1, s2 := aModeSrc m, guard := g } s)

/-- ST_WP (R102). -/
def execStWp (core : Fin 4) (u : LUnit) (m : AMode) (d s1 : BitVec 6) (g : Guard) (s : State) : Host.Outcome State Fault Refusal :=
  .next (issueOne core { unit := lUnit u, op := .stWp, mode := aModeMode m, d := d, s1 := s1, s2 := aModeSrc m, guard := g } s)

/-- STBR_H (R100). -/
def execStbrH (core : Fin 4) (u : LUnit) (im : Imm) (d s1 : BitVec 6) (g : Guard) (s : State) : Host.Outcome State Fault Refusal :=
  .next (issueOne core { unit := lUnit u, op := .stbrH, mode := .brev, d := d, s1 := s1, s2 := .imm im, guard := g } s)

/-- STBR_W (R100). -/
def execStbrW (core : Fin 4) (u : LUnit) (im : Imm) (d s1 : BitVec 6) (g : Guard) (s : State) : Host.Outcome State Fault Refusal :=
  .next (issueOne core { unit := lUnit u, op := .stbrW, mode := .brev, d := d, s1 := s1, s2 := .imm im, guard := g } s)

/-- STBR_WP (R100). -/
def execStbrWp (core : Fin 4) (u : LUnit) (im : Imm) (d s1 : BitVec 6) (g : Guard) (s : State) : Host.Outcome State Fault Refusal :=
  .next (issueOne core { unit := lUnit u, op := .stbrWp, mode := .brev, d := d, s1 := s1, s2 := .imm im, guard := g } s)

/-- ADDX (R105). -/
def execAddx (core : Fin 4) (u : LUnit) (im : Imm) (d s1 : BitVec 6) (g : Guard) (s : State) : Host.Outcome State Fault Refusal :=
  .next (issueOne core { unit := lUnit u, op := .addx, mode := .off, d := d, s1 := s1, s2 := .imm im, guard := g } s)

/-- ADDXR (R105). -/
def execAddxr (core : Fin 4) (u : LUnit) (d s1 s2 : BitVec 6) (g : Guard) (s : State) : Host.Outcome State Fault Refusal :=
  .next (issueOne core { unit := lUnit u, op := .addxr, mode := .off, d := d, s1 := s1, s2 := .reg s2, guard := g } s)

/-- MOVX (R105). -/
def execMovx (core : Fin 4) (u : LUnit) (d s1 : BitVec 6) (g : Guard) (s : State) : Host.Outcome State Fault Refusal :=
  .next (issueOne core { unit := lUnit u, op := .movx, mode := .off, d := d, s1 := s1, s2 := .reg 0, guard := g } s)

/-- MFX (R105). -/
def execMfx (core : Fin 4) (u : LUnit) (d s1 : BitVec 6) (g : Guard) (s : State) : Host.Outcome State Fault Refusal :=
  .next (issueOne core { unit := lUnit u, op := .mfx, mode := .off, d := d, s1 := s1, s2 := .reg 0, guard := g } s)

end Sys2Proof.Machine
end

