-- ==== Sys2Proof/Machine/SylM.lean ====
section
/-! DEFINITION. The M-unit syllables as commands: the core issues a sentence of the one syllable. -/

namespace Sys2Proof.Machine

/-- The unit of the operand type. -/
def mUnit (u : MUnit) : FUnit := match u with | .m0 => .m0 | .m1 => .m1

/-- MUL (R123). -/
def execMul (core : Fin 4) (u : MUnit) (d s1 s2 : BitVec 6) (g : Guard) (s : State) : Host.Outcome State Fault Refusal :=
  .next (issueOne core { unit := mUnit u, op := .mul, mode := .off, d := d, s1 := s1, s2 := .reg s2, guard := g } s)

/-- MULH (R123). -/
def execMulh (core : Fin 4) (u : MUnit) (d s1 s2 : BitVec 6) (g : Guard) (s : State) : Host.Outcome State Fault Refusal :=
  .next (issueOne core { unit := mUnit u, op := .mulh, mode := .off, d := d, s1 := s1, s2 := .reg s2, guard := g } s)

/-- MULHU (R123). -/
def execMulhu (core : Fin 4) (u : MUnit) (d s1 s2 : BitVec 6) (g : Guard) (s : State) : Host.Outcome State Fault Refusal :=
  .next (issueOne core { unit := mUnit u, op := .mulhu, mode := .off, d := d, s1 := s1, s2 := .reg s2, guard := g } s)

/-- MULI (R123). -/
def execMuli (core : Fin 4) (u : MUnit) (d s1 : BitVec 6) (im : Imm) (g : Guard) (s : State) : Host.Outcome State Fault Refusal :=
  .next (issueOne core { unit := mUnit u, op := .muli, mode := .off, d := d, s1 := s1, s2 := .imm im, guard := g } s)

/-- MULQ31 (R123). -/
def execMulq31 (core : Fin 4) (u : MUnit) (d s1 s2 : BitVec 6) (g : Guard) (s : State) : Host.Outcome State Fault Refusal :=
  .next (issueOne core { unit := mUnit u, op := .mulq31, mode := .off, d := d, s1 := s1, s2 := .reg s2, guard := g } s)

/-- MUL2HQ (R123). -/
def execMul2hq (core : Fin 4) (u : MUnit) (d s1 s2 : BitVec 6) (g : Guard) (s : State) : Host.Outcome State Fault Refusal :=
  .next (issueOne core { unit := mUnit u, op := .mul2hq, mode := .off, d := d, s1 := s1, s2 := .reg s2, guard := g } s)

/-- MAC (R124). -/
def execMac (core : Fin 4) (u : MUnit) (d s1 s2 : BitVec 6) (g : Guard) (s : State) : Host.Outcome State Fault Refusal :=
  .next (issueOne core { unit := mUnit u, op := .mac, mode := .off, d := d, s1 := s1, s2 := .reg s2, guard := g } s)

/-- MACU (R124). -/
def execMacu (core : Fin 4) (u : MUnit) (d s1 s2 : BitVec 6) (g : Guard) (s : State) : Host.Outcome State Fault Refusal :=
  .next (issueOne core { unit := mUnit u, op := .macu, mode := .off, d := d, s1 := s1, s2 := .reg s2, guard := g } s)

/-- MSU (R124). -/
def execMsu (core : Fin 4) (u : MUnit) (d s1 s2 : BitVec 6) (g : Guard) (s : State) : Host.Outcome State Fault Refusal :=
  .next (issueOne core { unit := mUnit u, op := .msu, mode := .off, d := d, s1 := s1, s2 := .reg s2, guard := g } s)

/-- MACS (R124). -/
def execMacs (core : Fin 4) (u : MUnit) (d s1 s2 : BitVec 6) (g : Guard) (s : State) : Host.Outcome State Fault Refusal :=
  .next (issueOne core { unit := mUnit u, op := .macs, mode := .off, d := d, s1 := s1, s2 := .reg s2, guard := g } s)

/-- MAC2H (R124). -/
def execMac2h (core : Fin 4) (u : MUnit) (d s1 s2 : BitVec 6) (g : Guard) (s : State) : Host.Outcome State Fault Refusal :=
  .next (issueOne core { unit := mUnit u, op := .mac2h, mode := .off, d := d, s1 := s1, s2 := .reg s2, guard := g } s)

/-- MAC2HQ (R124). -/
def execMac2hq (core : Fin 4) (u : MUnit) (d s1 s2 : BitVec 6) (g : Guard) (s : State) : Host.Outcome State Fault Refusal :=
  .next (issueOne core { unit := mUnit u, op := .mac2hq, mode := .off, d := d, s1 := s1, s2 := .reg s2, guard := g } s)

/-- MSU2H (R124). -/
def execMsu2h (core : Fin 4) (u : MUnit) (d s1 s2 : BitVec 6) (g : Guard) (s : State) : Host.Outcome State Fault Refusal :=
  .next (issueOne core { unit := mUnit u, op := .msu2h, mode := .off, d := d, s1 := s1, s2 := .reg s2, guard := g } s)

/-- CLR (R124). -/
def execClr (core : Fin 4) (u : MUnit) (d : BitVec 6) (g : Guard) (s : State) : Host.Outcome State Fault Refusal :=
  .next (issueOne core { unit := mUnit u, op := .clr, mode := .off, d := d, s1 := 0, s2 := .reg 0, guard := g } s)

/-- ACCW (R124). -/
def execAccw (core : Fin 4) (u : MUnit) (d s1 : BitVec 6) (g : Guard) (s : State) : Host.Outcome State Fault Refusal :=
  .next (issueOne core { unit := mUnit u, op := .accw, mode := .off, d := d, s1 := s1, s2 := .reg 0, guard := g } s)

/-- ACCP (R124). -/
def execAccp (core : Fin 4) (u : MUnit) (d s1 : BitVec 6) (g : Guard) (s : State) : Host.Outcome State Fault Refusal :=
  .next (issueOne core { unit := mUnit u, op := .accp, mode := .off, d := d, s1 := s1, s2 := .reg 0, guard := g } s)

/-- EXTR (R125). -/
def execExtr (core : Fin 4) (u : MUnit) (d s1 sh : BitVec 6) (g : Guard) (s : State) : Host.Outcome State Fault Refusal :=
  .next (issueOne core { unit := mUnit u, op := .extr, mode := .off, d := d, s1 := s1, s2 := .imm (.short sh), guard := g } s)

/-- EXTL (R125). -/
def execExtl (core : Fin 4) (u : MUnit) (d s1 : BitVec 6) (g : Guard) (s : State) : Host.Outcome State Fault Refusal :=
  .next (issueOne core { unit := mUnit u, op := .extl, mode := .off, d := d, s1 := s1, s2 := .reg 0, guard := g } s)

/-- EXTH (R125). -/
def execExth (core : Fin 4) (u : MUnit) (d s1 : BitVec 6) (g : Guard) (s : State) : Host.Outcome State Fault Refusal :=
  .next (issueOne core { unit := mUnit u, op := .exth, mode := .off, d := d, s1 := s1, s2 := .reg 0, guard := g } s)

/-- EXTG (R125). -/
def execExtg (core : Fin 4) (u : MUnit) (d s1 : BitVec 6) (g : Guard) (s : State) : Host.Outcome State Fault Refusal :=
  .next (issueOne core { unit := mUnit u, op := .extg, mode := .off, d := d, s1 := s1, s2 := .reg 0, guard := g } s)

/-- DIVS (R126). -/
def execDivs (core : Fin 4) (u : MUnit) (d s1 s2 : BitVec 6) (g : Guard) (s : State) : Host.Outcome State Fault Refusal :=
  .next (issueOne core { unit := mUnit u, op := .divs, mode := .off, d := d, s1 := s1, s2 := .reg s2, guard := g } s)

/-- DIVU (R126). -/
def execDivu (core : Fin 4) (u : MUnit) (d s1 s2 : BitVec 6) (g : Guard) (s : State) : Host.Outcome State Fault Refusal :=
  .next (issueOne core { unit := mUnit u, op := .divu, mode := .off, d := d, s1 := s1, s2 := .reg s2, guard := g } s)

/-- REMS (R126). -/
def execRems (core : Fin 4) (u : MUnit) (d s1 s2 : BitVec 6) (g : Guard) (s : State) : Host.Outcome State Fault Refusal :=
  .next (issueOne core { unit := mUnit u, op := .rems, mode := .off, d := d, s1 := s1, s2 := .reg s2, guard := g } s)

/-- REMU (R126). -/
def execRemu (core : Fin 4) (u : MUnit) (d s1 s2 : BitVec 6) (g : Guard) (s : State) : Host.Outcome State Fault Refusal :=
  .next (issueOne core { unit := mUnit u, op := .remu, mode := .off, d := d, s1 := s1, s2 := .reg s2, guard := g } s)

/-- DIVPS (R126). -/
def execDivps (core : Fin 4) (u : MUnit) (d s1 s2 : BitVec 6) (g : Guard) (s : State) : Host.Outcome State Fault Refusal :=
  .next (issueOne core { unit := mUnit u, op := .divps, mode := .off, d := d, s1 := s1, s2 := .reg s2, guard := g } s)

/-- DIVPU (R126). -/
def execDivpu (core : Fin 4) (u : MUnit) (d s1 s2 : BitVec 6) (g : Guard) (s : State) : Host.Outcome State Fault Refusal :=
  .next (issueOne core { unit := mUnit u, op := .divpu, mode := .off, d := d, s1 := s1, s2 := .reg s2, guard := g } s)

/-- FADD_S (R129). -/
def execFaddS (core : Fin 4) (u : MUnit) (d s1 s2 : BitVec 6) (g : Guard) (s : State) : Host.Outcome State Fault Refusal :=
  .next (issueOne core { unit := mUnit u, op := .faddS, mode := .off, d := d, s1 := s1, s2 := .reg s2, guard := g } s)

/-- FSUB_S (R129). -/
def execFsubS (core : Fin 4) (u : MUnit) (d s1 s2 : BitVec 6) (g : Guard) (s : State) : Host.Outcome State Fault Refusal :=
  .next (issueOne core { unit := mUnit u, op := .fsubS, mode := .off, d := d, s1 := s1, s2 := .reg s2, guard := g } s)

/-- FMUL_S (R129). -/
def execFmulS (core : Fin 4) (u : MUnit) (d s1 s2 : BitVec 6) (g : Guard) (s : State) : Host.Outcome State Fault Refusal :=
  .next (issueOne core { unit := mUnit u, op := .fmulS, mode := .off, d := d, s1 := s1, s2 := .reg s2, guard := g } s)

/-- FMA_S (R132). -/
def execFmaS (core : Fin 4) (u : MUnit) (d s1 s2 : BitVec 6) (g : Guard) (s : State) : Host.Outcome State Fault Refusal :=
  .next (issueOne core { unit := mUnit u, op := .fmaS, mode := .off, d := d, s1 := s1, s2 := .reg s2, guard := g } s)

/-- FMS_S (R132). -/
def execFmsS (core : Fin 4) (u : MUnit) (d s1 s2 : BitVec 6) (g : Guard) (s : State) : Host.Outcome State Fault Refusal :=
  .next (issueOne core { unit := mUnit u, op := .fmsS, mode := .off, d := d, s1 := s1, s2 := .reg s2, guard := g } s)

/-- FNMA_S (R132). -/
def execFnmaS (core : Fin 4) (u : MUnit) (d s1 s2 : BitVec 6) (g : Guard) (s : State) : Host.Outcome State Fault Refusal :=
  .next (issueOne core { unit := mUnit u, op := .fnmaS, mode := .off, d := d, s1 := s1, s2 := .reg s2, guard := g } s)

/-- FDIV_S (R140). -/
def execFdivS (core : Fin 4) (u : MUnit) (d s1 s2 : BitVec 6) (g : Guard) (s : State) : Host.Outcome State Fault Refusal :=
  .next (issueOne core { unit := mUnit u, op := .fdivS, mode := .off, d := d, s1 := s1, s2 := .reg s2, guard := g } s)

/-- FSQRT_S (R140). -/
def execFsqrtS (core : Fin 4) (u : MUnit) (d s1 : BitVec 6) (g : Guard) (s : State) : Host.Outcome State Fault Refusal :=
  .next (issueOne core { unit := mUnit u, op := .fsqrtS, mode := .off, d := d, s1 := s1, s2 := .reg 0, guard := g } s)

/-- FMIN_S (R133). -/
def execFminS (core : Fin 4) (u : MUnit) (d s1 s2 : BitVec 6) (g : Guard) (s : State) : Host.Outcome State Fault Refusal :=
  .next (issueOne core { unit := mUnit u, op := .fminS, mode := .off, d := d, s1 := s1, s2 := .reg s2, guard := g } s)

/-- FMAX_S (R133). -/
def execFmaxS (core : Fin 4) (u : MUnit) (d s1 s2 : BitVec 6) (g : Guard) (s : State) : Host.Outcome State Fault Refusal :=
  .next (issueOne core { unit := mUnit u, op := .fmaxS, mode := .off, d := d, s1 := s1, s2 := .reg s2, guard := g } s)

/-- FCMPEQ_S (R133). -/
def execFcmpeqS (core : Fin 4) (u : MUnit) (d s1 s2 : BitVec 6) (g : Guard) (s : State) : Host.Outcome State Fault Refusal :=
  .next (issueOne core { unit := mUnit u, op := .fcmpeqS, mode := .off, d := d, s1 := s1, s2 := .reg s2, guard := g } s)

/-- FCMPLT_S (R133). -/
def execFcmpltS (core : Fin 4) (u : MUnit) (d s1 s2 : BitVec 6) (g : Guard) (s : State) : Host.Outcome State Fault Refusal :=
  .next (issueOne core { unit := mUnit u, op := .fcmpltS, mode := .off, d := d, s1 := s1, s2 := .reg s2, guard := g } s)

/-- FCMPLE_S (R133). -/
def execFcmpleS (core : Fin 4) (u : MUnit) (d s1 s2 : BitVec 6) (g : Guard) (s : State) : Host.Outcome State Fault Refusal :=
  .next (issueOne core { unit := mUnit u, op := .fcmpleS, mode := .off, d := d, s1 := s1, s2 := .reg s2, guard := g } s)

/-- FCMPUN_S (R133). -/
def execFcmpunS (core : Fin 4) (u : MUnit) (d s1 s2 : BitVec 6) (g : Guard) (s : State) : Host.Outcome State Fault Refusal :=
  .next (issueOne core { unit := mUnit u, op := .fcmpunS, mode := .off, d := d, s1 := s1, s2 := .reg s2, guard := g } s)

/-- FCVT_S_W (R129). -/
def execFcvtSW (core : Fin 4) (u : MUnit) (d s1 : BitVec 6) (g : Guard) (s : State) : Host.Outcome State Fault Refusal :=
  .next (issueOne core { unit := mUnit u, op := .fcvtSW, mode := .off, d := d, s1 := s1, s2 := .reg 0, guard := g } s)

/-- FCVT_S_WU (R129). -/
def execFcvtSWu (core : Fin 4) (u : MUnit) (d s1 : BitVec 6) (g : Guard) (s : State) : Host.Outcome State Fault Refusal :=
  .next (issueOne core { unit := mUnit u, op := .fcvtSWu, mode := .off, d := d, s1 := s1, s2 := .reg 0, guard := g } s)

/-- FCVT_W_S (R133). -/
def execFcvtWS (core : Fin 4) (u : MUnit) (d s1 : BitVec 6) (g : Guard) (s : State) : Host.Outcome State Fault Refusal :=
  .next (issueOne core { unit := mUnit u, op := .fcvtWS, mode := .off, d := d, s1 := s1, s2 := .reg 0, guard := g } s)

/-- FCVT_WU_S (R133). -/
def execFcvtWuS (core : Fin 4) (u : MUnit) (d s1 : BitVec 6) (g : Guard) (s : State) : Host.Outcome State Fault Refusal :=
  .next (issueOne core { unit := mUnit u, op := .fcvtWuS, mode := .off, d := d, s1 := s1, s2 := .reg 0, guard := g } s)

/-- FRINT_S (R130). -/
def execFrintS (core : Fin 4) (u : MUnit) (d s1 : BitVec 6) (g : Guard) (s : State) : Host.Outcome State Fault Refusal :=
  .next (issueOne core { unit := mUnit u, op := .frintS, mode := .off, d := d, s1 := s1, s2 := .reg 0, guard := g } s)

/-- FABS_S (R133). -/
def execFabsS (core : Fin 4) (u : MUnit) (d s1 : BitVec 6) (g : Guard) (s : State) : Host.Outcome State Fault Refusal :=
  .next (issueOne core { unit := mUnit u, op := .fabsS, mode := .off, d := d, s1 := s1, s2 := .reg 0, guard := g } s)

/-- FNEG_S (R133). -/
def execFnegS (core : Fin 4) (u : MUnit) (d s1 : BitVec 6) (g : Guard) (s : State) : Host.Outcome State Fault Refusal :=
  .next (issueOne core { unit := mUnit u, op := .fnegS, mode := .off, d := d, s1 := s1, s2 := .reg 0, guard := g } s)

/-- FCVT_D_S (R133). -/
def execFcvtDS (core : Fin 4) (u : MUnit) (d s1 : BitVec 6) (g : Guard) (s : State) : Host.Outcome State Fault Refusal :=
  .next (issueOne core { unit := mUnit u, op := .fcvtDS, mode := .off, d := d, s1 := s1, s2 := .reg 0, guard := g } s)

/-- FCVT_S_D (R133). -/
def execFcvtSD (core : Fin 4) (u : MUnit) (d s1 : BitVec 6) (g : Guard) (s : State) : Host.Outcome State Fault Refusal :=
  .next (issueOne core { unit := mUnit u, op := .fcvtSD, mode := .off, d := d, s1 := s1, s2 := .reg 0, guard := g } s)

/-- FADD_D (R129). -/
def execFaddD (core : Fin 4) (u : MUnit) (d s1 s2 : BitVec 6) (g : Guard) (s : State) : Host.Outcome State Fault Refusal :=
  .next (issueOne core { unit := mUnit u, op := .faddD, mode := .off, d := d, s1 := s1, s2 := .reg s2, guard := g } s)

/-- FSUB_D (R129). -/
def execFsubD (core : Fin 4) (u : MUnit) (d s1 s2 : BitVec 6) (g : Guard) (s : State) : Host.Outcome State Fault Refusal :=
  .next (issueOne core { unit := mUnit u, op := .fsubD, mode := .off, d := d, s1 := s1, s2 := .reg s2, guard := g } s)

/-- FMUL_D (R129). -/
def execFmulD (core : Fin 4) (u : MUnit) (d s1 s2 : BitVec 6) (g : Guard) (s : State) : Host.Outcome State Fault Refusal :=
  .next (issueOne core { unit := mUnit u, op := .fmulD, mode := .off, d := d, s1 := s1, s2 := .reg s2, guard := g } s)

/-- FMA_D (R132). -/
def execFmaD (core : Fin 4) (u : MUnit) (d s1 s2 : BitVec 6) (g : Guard) (s : State) : Host.Outcome State Fault Refusal :=
  .next (issueOne core { unit := mUnit u, op := .fmaD, mode := .off, d := d, s1 := s1, s2 := .reg s2, guard := g } s)

/-- FDIV_D (R140). -/
def execFdivD (core : Fin 4) (u : MUnit) (d s1 s2 : BitVec 6) (g : Guard) (s : State) : Host.Outcome State Fault Refusal :=
  .next (issueOne core { unit := mUnit u, op := .fdivD, mode := .off, d := d, s1 := s1, s2 := .reg s2, guard := g } s)

/-- FSQRT_D (R140). -/
def execFsqrtD (core : Fin 4) (u : MUnit) (d s1 : BitVec 6) (g : Guard) (s : State) : Host.Outcome State Fault Refusal :=
  .next (issueOne core { unit := mUnit u, op := .fsqrtD, mode := .off, d := d, s1 := s1, s2 := .reg 0, guard := g } s)

/-- FBAR (R137). -/
def execFbar (core : Fin 4) (u : MUnit) (g : Guard) (s : State) : Host.Outcome State Fault Refusal :=
  .next (issueOne core { unit := mUnit u, op := .fbar, mode := .off, d := 0, s1 := 0, s2 := .reg 0, guard := g } s)

end Sys2Proof.Machine
end

