-- ==== Sys2Proof/Machine/Dispatch.lean ====
section
/-! DEFINITION. exec: one arm for each command of spec/opcode_table.json. -/

namespace Sys2Proof.Machine

/-- The effect of one command on everything but the queue. -/
def exec (i : Instr) (s : State) : Host.Outcome State Fault Refusal :=
  match i with
  | .mainRailsValid => Sys2Proof.Machine.execMainRailsValid s
  | .porstRelease => Sys2Proof.Machine.execPorstRelease s
  | .porstAssert => Sys2Proof.Machine.execPorstAssert s
  | .start last env => Sys2Proof.Machine.execStart last env s
  | .watchdogExpiry => Sys2Proof.Machine.execWatchdogExpiry s
  | .railFail rail => Sys2Proof.Machine.execRailFail rail s
  | .islandGlitch isl clock => Sys2Proof.Machine.execIslandGlitch isl clock s
  | .refFault => Sys2Proof.Machine.execRefFault s
  | .refCompare hz unbroken => Sys2Proof.Machine.execRefCompare hz unbroken s
  | .clockCheckArm present => Sys2Proof.Machine.execClockCheckArm present s
  | .islandPowerOff pr => Sys2Proof.Machine.execIslandPowerOff pr s
  | .islandDrainTimeout pr => Sys2Proof.Machine.execIslandDrainTimeout pr s
  | .gateTransfer g => Sys2Proof.Machine.execGateTransfer g s
  | .opChangeDone pr => Sys2Proof.Machine.execOpChangeDone pr s
  | .railBelowPoint pr mv => Sys2Proof.Machine.execRailBelowPoint pr mv s
  | .napEntry => Sys2Proof.Machine.execNapEntry s
  | .fabricRelock => Sys2Proof.Machine.execFabricRelock s
  | .standbyEntry => Sys2Proof.Machine.execStandbyEntry s
  | .wakeEvent w => Sys2Proof.Machine.execWakeEvent w s
  | .sentenceIssue core up => Sys2Proof.Machine.execSentenceIssue core up s
  | .interruptEntry core => Sys2Proof.Machine.execInterruptEntry core s
  | .resultLand core => Sys2Proof.Machine.execResultLand core s
  | .sharedLoadData core up => Sys2Proof.Machine.execSharedLoadData core up s
  | .divideResult core => Sys2Proof.Machine.execDivideResult core s
  | .timesliceExpiry core => Sys2Proof.Machine.execTimesliceExpiry core s
  | .ldB core u m d s1 g => Sys2Proof.Machine.execLdB core u m d s1 g s
  | .ldBu core u m d s1 g => Sys2Proof.Machine.execLdBu core u m d s1 g s
  | .ldH core u m d s1 g => Sys2Proof.Machine.execLdH core u m d s1 g s
  | .ldHu core u m d s1 g => Sys2Proof.Machine.execLdHu core u m d s1 g s
  | .ldW core u m d s1 g => Sys2Proof.Machine.execLdW core u m d s1 g s
  | .ldWp core u m d s1 g => Sys2Proof.Machine.execLdWp core u m d s1 g s
  | .ldbrH core u im d s1 g => Sys2Proof.Machine.execLdbrH core u im d s1 g s
  | .ldbrW core u im d s1 g => Sys2Proof.Machine.execLdbrW core u im d s1 g s
  | .ldbrWp core u im d s1 g => Sys2Proof.Machine.execLdbrWp core u im d s1 g s
  | .ldDB core u m d s1 g => Sys2Proof.Machine.execLdDB core u m d s1 g s
  | .ldDBu core u m d s1 g => Sys2Proof.Machine.execLdDBu core u m d s1 g s
  | .ldDH core u m d s1 g => Sys2Proof.Machine.execLdDH core u m d s1 g s
  | .ldDHu core u m d s1 g => Sys2Proof.Machine.execLdDHu core u m d s1 g s
  | .ldDW core u m d s1 g => Sys2Proof.Machine.execLdDW core u m d s1 g s
  | .ldDWp core u m d s1 g => Sys2Proof.Machine.execLdDWp core u m d s1 g s
  | .stB core u m d s1 g => Sys2Proof.Machine.execStB core u m d s1 g s
  | .stH core u m d s1 g => Sys2Proof.Machine.execStH core u m d s1 g s
  | .stW core u m d s1 g => Sys2Proof.Machine.execStW core u m d s1 g s
  | .stWp core u m d s1 g => Sys2Proof.Machine.execStWp core u m d s1 g s
  | .stbrH core u im d s1 g => Sys2Proof.Machine.execStbrH core u im d s1 g s
  | .stbrW core u im d s1 g => Sys2Proof.Machine.execStbrW core u im d s1 g s
  | .stbrWp core u im d s1 g => Sys2Proof.Machine.execStbrWp core u im d s1 g s
  | .addx core u im d s1 g => Sys2Proof.Machine.execAddx core u im d s1 g s
  | .addxr core u d s1 s2 g => Sys2Proof.Machine.execAddxr core u d s1 s2 g s
  | .movx core u d s1 g => Sys2Proof.Machine.execMovx core u d s1 g s
  | .mfx core u d s1 g => Sys2Proof.Machine.execMfx core u d s1 g s
  | .nop core u g => Sys2Proof.Machine.execNop core u g s
  | .movi core u d im g => Sys2Proof.Machine.execMovi core u d im g s
  | .add core u d s1 s2 g => Sys2Proof.Machine.execAdd core u d s1 s2 g s
  | .sub core u d s1 s2 g => Sys2Proof.Machine.execSub core u d s1 s2 g s
  | .adds core u d s1 s2 g => Sys2Proof.Machine.execAdds core u d s1 s2 g s
  | .subs core u d s1 s2 g => Sys2Proof.Machine.execSubs core u d s1 s2 g s
  | .andOp core u d s1 s2 g => Sys2Proof.Machine.execAndOp core u d s1 s2 g s
  | .orOp core u d s1 s2 g => Sys2Proof.Machine.execOrOp core u d s1 s2 g s
  | .xorOp core u d s1 s2 g => Sys2Proof.Machine.execXorOp core u d s1 s2 g s
  | .andn core u d s1 s2 g => Sys2Proof.Machine.execAndn core u d s1 s2 g s
  | .shl core u d s1 s2 g => Sys2Proof.Machine.execShl core u d s1 s2 g s
  | .shr core u d s1 s2 g => Sys2Proof.Machine.execShr core u d s1 s2 g s
  | .sra core u d s1 s2 g => Sys2Proof.Machine.execSra core u d s1 s2 g s
  | .ror core u d s1 s2 g => Sys2Proof.Machine.execRor core u d s1 s2 g s
  | .min core u d s1 s2 g => Sys2Proof.Machine.execMin core u d s1 s2 g s
  | .max core u d s1 s2 g => Sys2Proof.Machine.execMax core u d s1 s2 g s
  | .minu core u d s1 s2 g => Sys2Proof.Machine.execMinu core u d s1 s2 g s
  | .maxu core u d s1 s2 g => Sys2Proof.Machine.execMaxu core u d s1 s2 g s
  | .abs core u d s1 g => Sys2Proof.Machine.execAbs core u d s1 g s
  | .neg core u d s1 g => Sys2Proof.Machine.execNeg core u d s1 g s
  | .cmpeq core u d s1 s2 g => Sys2Proof.Machine.execCmpeq core u d s1 s2 g s
  | .cmpne core u d s1 s2 g => Sys2Proof.Machine.execCmpne core u d s1 s2 g s
  | .cmplt core u d s1 s2 g => Sys2Proof.Machine.execCmplt core u d s1 s2 g s
  | .cmple core u d s1 s2 g => Sys2Proof.Machine.execCmple core u d s1 s2 g s
  | .cmpltu core u d s1 s2 g => Sys2Proof.Machine.execCmpltu core u d s1 s2 g s
  | .cmpleu core u d s1 s2 g => Sys2Proof.Machine.execCmpleu core u d s1 s2 g s
  | .cmpgt core u d s1 s2 g => Sys2Proof.Machine.execCmpgt core u d s1 s2 g s
  | .cmpge core u d s1 s2 g => Sys2Proof.Machine.execCmpge core u d s1 s2 g s
  | .pand core u d s1 s2 g => Sys2Proof.Machine.execPand core u d s1 s2 g s
  | .por core u d s1 s2 g => Sys2Proof.Machine.execPor core u d s1 s2 g s
  | .pandn core u d s1 s2 g => Sys2Proof.Machine.execPandn core u d s1 s2 g s
  | .pnot core u d s1 g => Sys2Proof.Machine.execPnot core u d s1 g s
  | .crcStep core p refl ww d s1 s2 g => Sys2Proof.Machine.execCrcStep core p refl ww d s1 s2 g s
  | .par core d s1 g => Sys2Proof.Machine.execPar core d s1 g s
  | .parp core d s1 g => Sys2Proof.Machine.execParp core d s1 g s
  | .brev core d s1 g => Sys2Proof.Machine.execBrev core d s1 g s
  | .brevb core d s1 g => Sys2Proof.Machine.execBrevb core d s1 g s
  | .bswap core d s1 g => Sys2Proof.Machine.execBswap core d s1 g s
  | .clz core d s1 g => Sys2Proof.Machine.execClz core d s1 g s
  | .ctz core d s1 g => Sys2Proof.Machine.execCtz core d s1 g s
  | .popc core d s1 g => Sys2Proof.Machine.execPopc core d s1 g s
  | .extu core d s1 s2 g => Sys2Proof.Machine.execExtu core d s1 s2 g s
  | .exts core d s1 s2 g => Sys2Proof.Machine.execExts core d s1 s2 g s
  | .ins core d s1 s2 g => Sys2Proof.Machine.execIns core d s1 s2 g s
  | .btst core d s1 s2 g => Sys2Proof.Machine.execBtst core d s1 s2 g s
  | .btsti core d s1 im g => Sys2Proof.Machine.execBtsti core d s1 im g s
  | .bseti core d s1 im g => Sys2Proof.Machine.execBseti core d s1 im g s
  | .bclri core d s1 im g => Sys2Proof.Machine.execBclri core d s1 im g s
  | .tstp core d s1 g => Sys2Proof.Machine.execTstp core d s1 g s
  | .clmull core d s1 s2 g => Sys2Proof.Machine.execClmull core d s1 s2 g s
  | .clmulh core d s1 s2 g => Sys2Proof.Machine.execClmulh core d s1 s2 g s
  | .br core im g => Sys2Proof.Machine.execBr core im g s
  | .brr core s1 g => Sys2Proof.Machine.execBrr core s1 g s
  | .call core im g => Sys2Proof.Machine.execCall core im g s
  | .callr core s1 g => Sys2Proof.Machine.execCallr core s1 g s
  | .ret core g => Sys2Proof.Machine.execRet core g s
  | .reti core g => Sys2Proof.Machine.execReti core g s
  | .loop core s1 im g => Sys2Proof.Machine.execLoop core s1 im g s
  | .lpop core g => Sys2Proof.Machine.execLpop core g s
  | .wait core g => Sys2Proof.Machine.execWait core g s
  | .fenceSl core g => Sys2Proof.Machine.execFenceSl core g s
  | .publish core s1 s2 g => Sys2Proof.Machine.execPublish core s1 s2 g s
  | .mfc core d s1 g => Sys2Proof.Machine.execMfc core d s1 g s
  | .mtc core d s1 g => Sys2Proof.Machine.execMtc core d s1 g s
  | .claim core d s1 g => Sys2Proof.Machine.execClaim core d s1 g s
  | .give core d s1 s2 g => Sys2Proof.Machine.execGive core d s1 s2 g s
  | .free core d s1 g => Sys2Proof.Machine.execFree core d s1 g s
  | .mul core u d s1 s2 g => Sys2Proof.Machine.execMul core u d s1 s2 g s
  | .mulh core u d s1 s2 g => Sys2Proof.Machine.execMulh core u d s1 s2 g s
  | .mulhu core u d s1 s2 g => Sys2Proof.Machine.execMulhu core u d s1 s2 g s
  | .muli core u d s1 im g => Sys2Proof.Machine.execMuli core u d s1 im g s
  | .mulq31 core u d s1 s2 g => Sys2Proof.Machine.execMulq31 core u d s1 s2 g s
  | .mul2hq core u d s1 s2 g => Sys2Proof.Machine.execMul2hq core u d s1 s2 g s
  | .mac core u d s1 s2 g => Sys2Proof.Machine.execMac core u d s1 s2 g s
  | .macu core u d s1 s2 g => Sys2Proof.Machine.execMacu core u d s1 s2 g s
  | .msu core u d s1 s2 g => Sys2Proof.Machine.execMsu core u d s1 s2 g s
  | .macs core u d s1 s2 g => Sys2Proof.Machine.execMacs core u d s1 s2 g s
  | .mac2h core u d s1 s2 g => Sys2Proof.Machine.execMac2h core u d s1 s2 g s
  | .mac2hq core u d s1 s2 g => Sys2Proof.Machine.execMac2hq core u d s1 s2 g s
  | .msu2h core u d s1 s2 g => Sys2Proof.Machine.execMsu2h core u d s1 s2 g s
  | .clr core u d g => Sys2Proof.Machine.execClr core u d g s
  | .accw core u d s1 g => Sys2Proof.Machine.execAccw core u d s1 g s
  | .accp core u d s1 g => Sys2Proof.Machine.execAccp core u d s1 g s
  | .extr core u d s1 sh g => Sys2Proof.Machine.execExtr core u d s1 sh g s
  | .extl core u d s1 g => Sys2Proof.Machine.execExtl core u d s1 g s
  | .exth core u d s1 g => Sys2Proof.Machine.execExth core u d s1 g s
  | .extg core u d s1 g => Sys2Proof.Machine.execExtg core u d s1 g s
  | .divs core u d s1 s2 g => Sys2Proof.Machine.execDivs core u d s1 s2 g s
  | .divu core u d s1 s2 g => Sys2Proof.Machine.execDivu core u d s1 s2 g s
  | .rems core u d s1 s2 g => Sys2Proof.Machine.execRems core u d s1 s2 g s
  | .remu core u d s1 s2 g => Sys2Proof.Machine.execRemu core u d s1 s2 g s
  | .divps core u d s1 s2 g => Sys2Proof.Machine.execDivps core u d s1 s2 g s
  | .divpu core u d s1 s2 g => Sys2Proof.Machine.execDivpu core u d s1 s2 g s
  | .faddS core u d s1 s2 g => Sys2Proof.Machine.execFaddS core u d s1 s2 g s
  | .fsubS core u d s1 s2 g => Sys2Proof.Machine.execFsubS core u d s1 s2 g s
  | .fmulS core u d s1 s2 g => Sys2Proof.Machine.execFmulS core u d s1 s2 g s
  | .fmaS core u d s1 s2 g => Sys2Proof.Machine.execFmaS core u d s1 s2 g s
  | .fmsS core u d s1 s2 g => Sys2Proof.Machine.execFmsS core u d s1 s2 g s
  | .fnmaS core u d s1 s2 g => Sys2Proof.Machine.execFnmaS core u d s1 s2 g s
  | .fdivS core u d s1 s2 g => Sys2Proof.Machine.execFdivS core u d s1 s2 g s
  | .fsqrtS core u d s1 g => Sys2Proof.Machine.execFsqrtS core u d s1 g s
  | .fminS core u d s1 s2 g => Sys2Proof.Machine.execFminS core u d s1 s2 g s
  | .fmaxS core u d s1 s2 g => Sys2Proof.Machine.execFmaxS core u d s1 s2 g s
  | .fcmpeqS core u d s1 s2 g => Sys2Proof.Machine.execFcmpeqS core u d s1 s2 g s
  | .fcmpltS core u d s1 s2 g => Sys2Proof.Machine.execFcmpltS core u d s1 s2 g s
  | .fcmpleS core u d s1 s2 g => Sys2Proof.Machine.execFcmpleS core u d s1 s2 g s
  | .fcmpunS core u d s1 s2 g => Sys2Proof.Machine.execFcmpunS core u d s1 s2 g s
  | .fcvtSW core u d s1 g => Sys2Proof.Machine.execFcvtSW core u d s1 g s
  | .fcvtSWu core u d s1 g => Sys2Proof.Machine.execFcvtSWu core u d s1 g s
  | .fcvtWS core u d s1 g => Sys2Proof.Machine.execFcvtWS core u d s1 g s
  | .fcvtWuS core u d s1 g => Sys2Proof.Machine.execFcvtWuS core u d s1 g s
  | .frintS core u d s1 g => Sys2Proof.Machine.execFrintS core u d s1 g s
  | .fabsS core u d s1 g => Sys2Proof.Machine.execFabsS core u d s1 g s
  | .fnegS core u d s1 g => Sys2Proof.Machine.execFnegS core u d s1 g s
  | .fcvtDS core u d s1 g => Sys2Proof.Machine.execFcvtDS core u d s1 g s
  | .fcvtSD core u d s1 g => Sys2Proof.Machine.execFcvtSD core u d s1 g s
  | .faddD core u d s1 s2 g => Sys2Proof.Machine.execFaddD core u d s1 s2 g s
  | .fsubD core u d s1 s2 g => Sys2Proof.Machine.execFsubD core u d s1 s2 g s
  | .fmulD core u d s1 s2 g => Sys2Proof.Machine.execFmulD core u d s1 s2 g s
  | .fmaD core u d s1 s2 g => Sys2Proof.Machine.execFmaD core u d s1 s2 g s
  | .fdivD core u d s1 s2 g => Sys2Proof.Machine.execFdivD core u d s1 s2 g s
  | .fsqrtD core u d s1 g => Sys2Proof.Machine.execFsqrtD core u d s1 g s
  | .fbar core u g => Sys2Proof.Machine.execFbar core u g s
  | .stewardAnswer core => Sys2Proof.Machine.execStewardAnswer core s
  | .opRequest core arg => Sys2Proof.Machine.execOpRequest core arg s
  | .standbyConsent core arg => Sys2Proof.Machine.execStandbyConsent core arg s
  | .wakeCfg core arg => Sys2Proof.Machine.execWakeCfg core arg s
  | .zeroingDone obj => Sys2Proof.Machine.execZeroingDone obj s
  | .storeBufferDue core => Sys2Proof.Machine.execStoreBufferDue core s
  | .storeCommit pr up => Sys2Proof.Machine.execStoreCommit pr up s
  | .storeCustodyFault core => Sys2Proof.Machine.execStoreCustodyFault core s
  | .divergence pr r => Sys2Proof.Machine.execDivergence pr r s
  | .coreSelftestDone core pass => Sys2Proof.Machine.execCoreSelftestDone core pass s
  | .handover p => Sys2Proof.Machine.execHandover p s
  | .personDeferredStart p => Sys2Proof.Machine.execPersonDeferredStart p s
  | .witnessPromote core arg => Sys2Proof.Machine.execWitnessPromote core arg s
  | .witnessDemote core arg => Sys2Proof.Machine.execWitnessDemote core arg s
  | .witnessMigrate core arg => Sys2Proof.Machine.execWitnessMigrate core arg s
  | .witnessResume core arg => Sys2Proof.Machine.execWitnessResume core arg s
  | .fenceService core arg => Sys2Proof.Machine.execFenceService core arg s
  | .liftService core arg pass => Sys2Proof.Machine.execLiftService core arg pass s
  | .sourceEvent n e => Sys2Proof.Machine.execSourceEvent n e s
  | .filterLevelChange n level => Sys2Proof.Machine.execFilterLevelChange n level s
  | .cicClaim core => Sys2Proof.Machine.execCicClaim core s
  | .cicComplete core v => Sys2Proof.Machine.execCicComplete core v s
  | .cicSet core n => Sys2Proof.Machine.execCicSet core n s
  | .cicClear core n => Sys2Proof.Machine.execCicClear core n s
  | .holdoffExpiry n => Sys2Proof.Machine.execHoldoffExpiry n s
  | .movStart core ch => Sys2Proof.Machine.execMovStart core ch s
  | .movStop core ch => Sys2Proof.Machine.execMovStop core ch s
  | .movRequest r => Sys2Proof.Machine.execMovRequest r s
  | .movBurstIssue ch up => Sys2Proof.Machine.execMovBurstIssue ch up s
  | .movBurstComplete ch => Sys2Proof.Machine.execMovBurstComplete ch s
  | .flcKey bank v => Sys2Proof.Machine.execFlcKey bank v s
  | .program bank => Sys2Proof.Machine.execProgram bank s
  | .eraseSector bank => Sys2Proof.Machine.execEraseSector bank s
  | .blankCheck bank => Sys2Proof.Machine.execBlankCheck bank s
  | .eraseBank bank => Sys2Proof.Machine.execEraseBank bank s
  | .flashOpDone bank e => Sys2Proof.Machine.execFlashOpDone bank e s
  | .recordAppend core arg => Sys2Proof.Machine.execRecordAppend core arg s
  | .recordRead core arg => Sys2Proof.Machine.execRecordRead core arg s
  | .recordInfo core arg => Sys2Proof.Machine.execRecordInfo core arg s
  | .stageOpen core arg => Sys2Proof.Machine.execStageOpen core arg s
  | .stageWrite core arg => Sys2Proof.Machine.execStageWrite core arg s
  | .stageClose core arg => Sys2Proof.Machine.execStageClose core arg s
  | .activate core arg => Sys2Proof.Machine.execActivate core arg s
  | .stageDiscard core arg => Sys2Proof.Machine.execStageDiscard core arg s
  | .selftestResult core arg => Sys2Proof.Machine.execSelftestResult core arg s
  | .selftestBudgetExpiry => Sys2Proof.Machine.execSelftestBudgetExpiry s
  | .lineCharacter car ch => Sys2Proof.Machine.execLineCharacter car ch s
  | .lineReceived car text => Sys2Proof.Machine.execLineReceived car text s
  | .lineTimeout car => Sys2Proof.Machine.execLineTimeout car s
  | .lineBreak car => Sys2Proof.Machine.execLineBreak car s
  | .baudCr car div16 => Sys2Proof.Machine.execBaudCr car div16 s
  | .openSession ln k card => Sys2Proof.Machine.execOpenSession ln k card s
  | .proveSession ln proof => Sys2Proof.Machine.execProveSession ln proof s
  | .closeSession ln => Sys2Proof.Machine.execCloseSession ln s
  | .sessionIdleTimeout car => Sys2Proof.Machine.execSessionIdleTimeout car s
  | .lockoutExpiry car => Sys2Proof.Machine.execLockoutExpiry car s
  | .readIdentity ln => Sys2Proof.Machine.execReadIdentity ln s
  | .readChain ln => Sys2Proof.Machine.execReadChain ln s
  | .readTime ln => Sys2Proof.Machine.execReadTime ln s
  | .setTime ln sec digits => Sys2Proof.Machine.execSetTime ln sec digits s
  | .readLifecycle ln => Sys2Proof.Machine.execReadLifecycle ln s
  | .holdLifecycle ln reason => Sys2Proof.Machine.execHoldLifecycle ln reason s
  | .releaseLifecycle ln => Sys2Proof.Machine.execReleaseLifecycle ln s
  | .commissionLifecycle ln => Sys2Proof.Machine.execCommissionLifecycle ln s
  | .enrolLifecycle ln => Sys2Proof.Machine.execEnrolLifecycle ln s
  | .retireLifecycle ln => Sys2Proof.Machine.execRetireLifecycle ln s
  | .confirmLifecycle ln => Sys2Proof.Machine.execConfirmLifecycle ln s
  | .retireLapse => Sys2Proof.Machine.execRetireLapse s
  | .restartDevice ln => Sys2Proof.Machine.execRestartDevice ln s
  | .readPerson ln p => Sys2Proof.Machine.execReadPerson ln p s
  | .startPerson ln p => Sys2Proof.Machine.execStartPerson ln p s
  | .stopPerson ln p => Sys2Proof.Machine.execStopPerson ln p s
  | .restartPerson ln p => Sys2Proof.Machine.execRestartPerson ln p s
  | .resumePerson ln p => Sys2Proof.Machine.execResumePerson ln p s
  | .promotePerson ln p dest => Sys2Proof.Machine.execPromotePerson ln p dest s
  | .demotePerson ln p dest => Sys2Proof.Machine.execDemotePerson ln p dest s
  | .migratePerson ln p dest => Sys2Proof.Machine.execMigratePerson ln p dest s
  | .readCore ln c => Sys2Proof.Machine.execReadCore ln c s
  | .fenceCore ln c => Sys2Proof.Machine.execFenceCore ln c s
  | .liftCore ln c pass => Sys2Proof.Machine.execLiftCore ln c pass s
  | .readOppoint ln pr => Sys2Proof.Machine.execReadOppoint ln pr s
  | .setOppoint ln pr point => Sys2Proof.Machine.execSetOppoint ln pr point s
  | .readFeed ln n => Sys2Proof.Machine.execReadFeed ln n s
  | .setFeed ln n on => Sys2Proof.Machine.execSetFeed ln n on s
  | .measureSurvey ln ch => Sys2Proof.Machine.execMeasureSurvey ln ch s
  | .setBaseline ln ch tol => Sys2Proof.Machine.execSetBaseline ln ch tol s
  | .writeCharter ln at_ data => Sys2Proof.Machine.execWriteCharter ln at_ data s
  | .installCharter ln => Sys2Proof.Machine.execInstallCharter ln s
  | .readCharter ln => Sys2Proof.Machine.execReadCharter ln s
  | .openBundle ln len => Sys2Proof.Machine.execOpenBundle ln len s
  | .writeBundle ln at_ data => Sys2Proof.Machine.execWriteBundle ln at_ data s
  | .closeBundle ln => Sys2Proof.Machine.execCloseBundle ln s
  | .activateBundle ln now restart => Sys2Proof.Machine.execActivateBundle ln now restart s
  | .discardBundle ln => Sys2Proof.Machine.execDiscardBundle ln s
  | .readBundle ln => Sys2Proof.Machine.execReadBundle ln s
  | .readRecord ln => Sys2Proof.Machine.execReadRecord ln s
  | .readRecordSeq ln seq fb3 => Sys2Proof.Machine.execReadRecordSeq ln seq fb3 s
  | .readTamper ln from_ => Sys2Proof.Machine.execReadTamper ln from_ s
  | .readEvent ln from_ => Sys2Proof.Machine.execReadEvent ln from_ s
  | .personNounLine ln p text => Sys2Proof.Machine.execPersonNounLine ln p text s
  | .oruneSend core arg => Sys2Proof.Machine.execOruneSend core arg s
  | .oruneTake core arg => Sys2Proof.Machine.execOruneTake core arg s
  | .oruneReply core arg => Sys2Proof.Machine.execOruneReply core arg s
  | .mailboxReplyTimeout p ref => Sys2Proof.Machine.execMailboxReplyTimeout p ref s
  | .decisionSlotEnd => Sys2Proof.Machine.execDecisionSlotEnd s
  | .remoteKeepTimer => Sys2Proof.Machine.execRemoteKeepTimer s
  | .remoteLineTimeout car tag => Sys2Proof.Machine.execRemoteLineTimeout car tag s
  | .mirrorUpdate => Sys2Proof.Machine.execMirrorUpdate s
  | .mirrorSnapshot slot => Sys2Proof.Machine.execMirrorSnapshot slot s
  | .freeze => Sys2Proof.Machine.execFreeze s
  | .unfreeze => Sys2Proof.Machine.execUnfreeze s
  | .freezeTimeout => Sys2Proof.Machine.execFreezeTimeout s
  | .stewardSlotPeriod slot => Sys2Proof.Machine.execStewardSlotPeriod slot s
  | .cellWrite cell v => Sys2Proof.Machine.execCellWrite cell v s
  | .cellOrderTimeout cell => Sys2Proof.Machine.execCellOrderTimeout cell s
  | .treeSignal core arg => Sys2Proof.Machine.execTreeSignal core arg s
  | .cellBind core arg => Sys2Proof.Machine.execCellBind core arg s
  | .cellTake core arg => Sys2Proof.Machine.execCellTake core arg s
  | .cellAnswer core arg => Sys2Proof.Machine.execCellAnswer core arg s
  | .lbTx v => Sys2Proof.Machine.execLbTx v s
  | .rxRelease => Sys2Proof.Machine.execRxRelease s
  | .lbFlagClear v => Sys2Proof.Machine.execLbFlagClear v s
  | .treeLeafClear branch v => Sys2Proof.Machine.execTreeLeafClear branch v s
  | .windowIoRise mv => Sys2Proof.Machine.execWindowIoRise mv s
  | .surveyAverage avgs => Sys2Proof.Machine.execSurveyAverage avgs s
  | .feedOpen n => Sys2Proof.Machine.execFeedOpen n s
  | .feedOver n => Sys2Proof.Machine.execFeedOver n s
  | .feedShort n => Sys2Proof.Machine.execFeedShort n s
  | .signatureDone n samples => Sys2Proof.Machine.execSignatureDone n samples s
  | .tdrMeasureStart => Sys2Proof.Machine.execTdrMeasureStart s
  | .tdrAcquisition k kept => Sys2Proof.Machine.execTdrAcquisition k kept s
  | .tdrMeasurementDone k r => Sys2Proof.Machine.execTdrMeasurementDone k r s
  | .tdrMeasurementAbandon k => Sys2Proof.Machine.execTdrMeasurementAbandon k s
  | .starvedTimeout k => Sys2Proof.Machine.execStarvedTimeout k s
  | .canPartnerTimeout k => Sys2Proof.Machine.execCanPartnerTimeout k s
  | .srvFifoRead core g => Sys2Proof.Machine.execSrvFifoRead core g s
  | .rtcSecond => Sys2Proof.Machine.execRtcSecond s
  | .sntRtcSecLoad core => Sys2Proof.Machine.execSntRtcSecLoad core s
  | .sntRtcFracLoad core => Sys2Proof.Machine.execSntRtcFracLoad core s
  | .rcCheck count => Sys2Proof.Machine.execRcCheck count s
  | .x32Fault => Sys2Proof.Machine.execX32Fault s
  | .tempSample t => Sys2Proof.Machine.execTempSample t s
  | .caseChange n opened => Sys2Proof.Machine.execCaseChange n opened s
  | .meshEvent cls => Sys2Proof.Machine.execMeshEvent cls s
  | .vstbyLoss why => Sys2Proof.Machine.execVstbyLoss why s
  | .sentinelPowerUp => Sys2Proof.Machine.execSentinelPowerUp s
  | .tamperCopy => Sys2Proof.Machine.execTamperCopy s
  | .rtcAlarm core arg => Sys2Proof.Machine.execRtcAlarm core arg s
  | .scallSetTime core arg => Sys2Proof.Machine.execScallSetTime core arg s
  | .tamperRead core arg => Sys2Proof.Machine.execTamperRead core arg s
  | .aesEcbEncrypt p => Sys2Proof.Machine.execAesEcbEncrypt p s
  | .aesEcbDecrypt p => Sys2Proof.Machine.execAesEcbDecrypt p s
  | .aesCbcEncrypt p => Sys2Proof.Machine.execAesCbcEncrypt p s
  | .aesCbcDecrypt p => Sys2Proof.Machine.execAesCbcDecrypt p s
  | .aesCtr p => Sys2Proof.Machine.execAesCtr p s
  | .aesGcmEncrypt p => Sys2Proof.Machine.execAesGcmEncrypt p s
  | .aesGcmDecrypt p => Sys2Proof.Machine.execAesGcmDecrypt p s
  | .aesCmac p => Sys2Proof.Machine.execAesCmac p s
  | .sha256 p => Sys2Proof.Machine.execSha256 p s
  | .sha384 p => Sys2Proof.Machine.execSha384 p s
  | .hmacSha256 p => Sys2Proof.Machine.execHmacSha256 p s
  | .hmacSha384 p => Sys2Proof.Machine.execHmacSha384 p s
  | .ecdsaSign p => Sys2Proof.Machine.execEcdsaSign p s
  | .ecdsaVerify p => Sys2Proof.Machine.execEcdsaVerify p s
  | .ecdh p => Sys2Proof.Machine.execEcdh p s
  | .keyPublic p => Sys2Proof.Machine.execKeyPublic p s
  | .keyGenerate p => Sys2Proof.Machine.execKeyGenerate p s
  | .keyImport p => Sys2Proof.Machine.execKeyImport p s
  | .keyErase p => Sys2Proof.Machine.execKeyErase p s
  | .keyDerive p => Sys2Proof.Machine.execKeyDerive p s
  | .random p => Sys2Proof.Machine.execRandom p s
  | .sealJobDone p => Sys2Proof.Machine.execSealJobDone p s
  | .rngHealthFail => Sys2Proof.Machine.execRngHealthFail s
  | .rngHealthRecover => Sys2Proof.Machine.execRngHealthRecover s
  | .debugUnlock token => Sys2Proof.Machine.execDebugUnlock token s
  | .helloTimer pt => Sys2Proof.Machine.execHelloTimer pt s
  | .hello pt f => Sys2Proof.Machine.execHello pt f s
  | .cap pt f => Sys2Proof.Machine.execCap pt f s
  | .chainClaim pt f => Sys2Proof.Machine.execChainClaim pt f s
  | .claimTimer => Sys2Proof.Machine.execClaimTimer s
  | .headElectionTimeout => Sys2Proof.Machine.execHeadElectionTimeout s
  | .topo pt f => Sys2Proof.Machine.execTopo pt f s
  | .topoTimer => Sys2Proof.Machine.execTopoTimer s
  | .topoTimeout => Sys2Proof.Machine.execTopoTimeout s
  | .join pt f => Sys2Proof.Machine.execJoin pt f s
  | .assign pt f => Sys2Proof.Machine.execAssign pt f s
  | .refuse pt f => Sys2Proof.Machine.execRefuse pt f s
  | .loss pt f => Sys2Proof.Machine.execLoss pt f s
  | .oruneFrame pt f => Sys2Proof.Machine.execOruneFrame pt f s
  | .frameForward pt f free => Sys2Proof.Machine.execFrameForward pt f free s
  | .storedFrameSend pt => Sys2Proof.Machine.execStoredFrameSend pt s
  | .gapTimer => Sys2Proof.Machine.execGapTimer s
  | .gapReceived pt => Sys2Proof.Machine.execGapReceived pt s
  | .linkTimeout pt => Sys2Proof.Machine.execLinkTimeout pt s
  | .rekeyTimer => Sys2Proof.Machine.execRekeyTimer s
  | .keyRetryTimer pt => Sys2Proof.Machine.execKeyRetryTimer pt s
  | .canModeWrite core k v => Sys2Proof.Machine.execCanModeWrite core k v s
  | .canTxRequest core k buf => Sys2Proof.Machine.execCanTxRequest core k buf s
  | .canCancel core k buf => Sys2Proof.Machine.execCanCancel core k buf s
  | .canFrameReceived k f => Sys2Proof.Machine.execCanFrameReceived k f s
  | .canTxDone k e => Sys2Proof.Machine.execCanTxDone k e s
  | .canBusOff k => Sys2Proof.Machine.execCanBusOff k s
  | .canBusoffRecovery k => Sys2Proof.Machine.execCanBusoffRecovery k s
  | .canClockResume k => Sys2Proof.Machine.execCanClockResume k s
  | .crdActivate core sl => Sys2Proof.Machine.execCrdActivate core sl s
  | .crdDeactivate core sl => Sys2Proof.Machine.execCrdDeactivate core sl s
  | .crdSend core sl len => Sys2Proof.Machine.execCrdSend core sl len s
  | .crdCancel core sl => Sys2Proof.Machine.execCrdCancel core sl s
  | .crdTx core sl v => Sys2Proof.Machine.execCrdTx core sl v s
  | .crdRx core sl => Sys2Proof.Machine.execCrdRx core sl s
  | .cardByteRx sl v => Sys2Proof.Machine.execCardByteRx sl v s
  | .cardTransferDone sl e => Sys2Proof.Machine.execCardTransferDone sl e s
  | .cardTimeout sl => Sys2Proof.Machine.execCardTimeout sl s
  | .noAtr sl => Sys2Proof.Machine.execNoAtr sl s
  | .cardClassRetry sl => Sys2Proof.Machine.execCardClassRetry sl s
  | .cardOvercurrent sl => Sys2Proof.Machine.execCardOvercurrent sl s
  | .cardInsert sl => Sys2Proof.Machine.execCardInsert sl s
  | .cardRemove sl => Sys2Proof.Machine.execCardRemove sl s
  | .senseEdge n level cap => Sys2Proof.Machine.execSenseEdge n level cap s
  | .snsFifo core n => Sys2Proof.Machine.execSnsFifo core n s
  | .snsMarkSec core => Sys2Proof.Machine.execSnsMarkSec core s
  | .feedOn core n => Sys2Proof.Machine.execFeedOn core n s
  | .feedOff core n => Sys2Proof.Machine.execFeedOff core n s
  | .uartRxByte n b => Sys2Proof.Machine.execUartRxByte n b s
  | .uartBreak n => Sys2Proof.Machine.execUartBreak n s
  | .uartTx core n v => Sys2Proof.Machine.execUartTx core n v s
  | .uartRx core n => Sys2Proof.Machine.execUartRx core n s
  | .spiStart core m count => Sys2Proof.Machine.execSpiStart core m count s
  | .spiStop core m => Sys2Proof.Machine.execSpiStop core m s
  | .spiTx core m v => Sys2Proof.Machine.execSpiTx core m v s
  | .spiRx core m => Sys2Proof.Machine.execSpiRx core m s
  | .spiTransferDone m => Sys2Proof.Machine.execSpiTransferDone m s
  | .spiStallTimeout m => Sys2Proof.Machine.execSpiStallTimeout m s
  | .registerWrite w addr v => Sys2Proof.Machine.execRegisterWrite w addr v s
  | .oneMsAverage avgs => Sys2Proof.Machine.execOneMsAverage avgs s
  | .converterScan vals => Sys2Proof.Machine.execConverterScan vals s
  | .x32Return => Sys2Proof.Machine.execX32Return s
  | .meshRestored => Sys2Proof.Machine.execMeshRestored s
  | .windowIoFall => Sys2Proof.Machine.execWindowIoFall s
  | .restartWindowExpiry p => Sys2Proof.Machine.execRestartWindowExpiry p s
  | .cardSessionTimeout sl => Sys2Proof.Machine.execCardSessionTimeout sl s
  | .canPresenceLapse k => Sys2Proof.Machine.execCanPresenceLapse k s
  | .canBusError k tx => Sys2Proof.Machine.execCanBusError k tx s
  | .uartByteSent n => Sys2Proof.Machine.execUartByteSent n s
  | .spiFrameDone m rx => Sys2Proof.Machine.execSpiFrameDone m rx s

end Sys2Proof.Machine
end

