-- ==== Sys2Proof/Safety.lean ====
section
/-! DEFINITION. What claims about the device are stated in: a core free to issue, what it sees, and what a sentence leaves. -/

namespace Sys2Proof.Machine

/-- The command answers a next state, of which the property holds. -/
def yields (i : Instr) (s : State) (goal : State → Prop) : Prop := ∃ t, exec i s = .next t ∧ goal t

/-- A steward call of a person has been answered: STW_CALL shows its service and code (R119, R321). -/
def answered (p svc code : Nat) (s t : State) : Prop :=
  (t.mbox p).svc = svc ∧ (t.mbox p).res = code ∧ (t.mbox p).calls = (s.mbox p).calls + 1

/-- The descriptor of a call lies in the person's own shared SRAM and reads without a memory error (R159). -/
def descOk (p : Nat) (arg : Word) (s : State) : Bool :=
  !bufZeroing s arg.toNat 16 && decide (bufCheck s p arg.toNat 16 = .ok) && s.mem.ecc.isEmpty

/-- Word i of a descriptor. -/
def descWord (arg : Word) (i : Nat) (s : State) : Nat := leAt (s.sramRead arg.toNat 16) (4 * i) 4

/-- The device once the steward has taken up a call of a person (R37, R119). -/
def callTaken (c p : Nat) (s : State) : State := takeCall c p (stampArrival s)

/-- A line is heard, is for this node, and its tag is in order (R300, R309, R322). -/
def lineAccepted (ln : Ln) (s : State) : Bool := heard s ln.car && forHere s ln && (tagRefusal s ln).isNone

/-- The device once FABRIC has stamped a line that has come, whose first character ended NAP and whose suffix unsolicited lines follow
(R37, R46, R307). -/
def lineCome (ln : Ln) (s : State) : State := setCar ln.car (fun q => { q with lastSfx := ln.sfx }) (stampArrival (napEnd s))

/-- The device once a line has come and its tag is outstanding (R309). -/
def lineTaken (ln : Ln) (s : State) : State := openTag ln 0 (lineCome ln s)

/-- A party may give an order now: checks 9 and 10 pass (R312). -/
def mayOrder (party : Nat) (car : Option Carrier) (a : Act) (u : State) : Bool :=
  (actRight u party a).isNone && (actState u party car a).isNone

/-- The order has joined its decision slot (R325), and nothing else has happened. -/
def ordered (src party : Nat) (a : Act) (d : ReplyTo) (u t : State) : Prop :=
  t = { u with oru := { u.oru with orders := u.oru.orders ++
    [{ arr := u.isl.arrival, src := src, party := party, rank := partyRank u party, act := a, objs := objsOf u a, dest := d }] } }

/-- A person that starts on the cores of a mask gets a home bank on each of them, and on each other core or pair that needs one (R146). -/
def homed (s : State) (p m : Nat) : Bool :=
  let groups := homeGroups s p m false
  let t := homeBanks p groups s
  (groups.all fun cs => (homeBank t p cs).isSome) && (homeBank t p (maskCores m)).isSome

/-- The pc at which a person would start on a core, alone there, from a sound image (R61, R81, R146, R279): none where no start would
come of it, or a ONE activation of it waits. -/
def startPc (p d : Nat) (s : State) : Option Word :=
  if onePending s p || (s.person p).failed || !s.mem.ecc.isEmpty then none
  else (imageHead s p).bind fun h =>
    (placeCode p h (forAll (partCores s) zeroNow s)).bind fun v =>
      if homed v p (2 ^ d) then some (w32 ((vget (v.person p).win d).1 + h.entry)) else none

/-- A person runs on one core, at a pc, with nothing of earlier registers (R61, R160). -/
def startedAt (p d : Nat) (pc : Word) (t : State) : Prop :=
  (t.person p).run = .running ∧ (t.person p).cores = 2 ^ d ∧ (t.person p).deferred = false ∧ (t.person p).moveTo = 0 ∧
  (t.ctx d p).pc = pc ∧ (t.ctx d p).w = Vector.replicate 64 {} ∧ (t.ctx d p).faultOpen = false ∧ ∀ e < 4, e ≠ d → t.ctx e p = {}

/-- No person is on a core, leaves it or is on its way to it, and it has nothing buffered (R202). -/
def coreEmpty (c : Nat) (s : State) : Bool :=
  (s.core c).sb.isEmpty && (List.range 7).all fun q =>
    !((s.running q || decide ((s.person q).run = .handover)) && maskBit ((s.person q).cores ||| (s.person q).moveTo) c)

/-- What an order does when its slot ends with it alone, from the device that took the order up to the device after the slot (R22 to
R28, R200 to R205, R281 to R290, R331 to R335, R381). -/
def takesEffect (party : Nat) (a : Act) (u t : State) : Prop :=
  let moves := fun (p m : Nat) => (t.person p).run = .handover ∧ (t.person p).moveTo = m ∧ (t.person p).cores = (u.person p).cores
  match a with
  | .hold => t.snt.hold = { u.snt.hold with order := true } ∧ t.fuses = u.fuses
  | .release => t.snt.hold = {} ∧ t.fuses = u.fuses
  | .commission => t.counter 0 = 3
  | .enrol => t.counter 0 = 2 ∧ t.fuses.recPub = some recordPub
  | .retire => t.stw.retire.map (fun r => (r.party, r.slot, r.cancelled)) = some (party, u.isl.arrival, none) ∧ t.fuses = u.fuses
  | .confirm => t.counter 0 = 4 ∧ t.fuses.zeroize = true ∧ t.stw.retire = none ∧
      ∀ p < 7, u.present p = true → (t.person p).run = .stopped ∨ (t.person p).run = .dead
  | .start p => ∀ d < 4, choosePlace u p = some (2 ^ d) → ∀ pc, startPc p d u = some pc → startedAt p d pc t
  | .stop p => (t.person p).run = .stopped ∧ (t.person p).cores = 0
  | .restart p => ∀ d < 4, choosePlace (takeDown p u) p = some (2 ^ d) → ∀ pc, startPc p d (takeDown p u) = some pc → startedAt p d pc t
  | .resume p => ∀ d < 4, choosePlace (takeDown p u) p = some (2 ^ d) → ∀ pc, startPc p d (takeDown p u) = some pc → startedAt p d pc t
  | .promote p pr => evictPlan u p pr = [] → moves p (pairMask pr)
  | .demote p c => moves p (2 ^ c)
  | .fence c => coreEmpty c u = true → (t.core c).fenced = true ∧ (t.core c).byOrder = true ∧ maskBit t.snt.fences c = true
  | .lift c pass => match pass with
    | some true => (t.core c).fenced = false ∧ (t.core c).underTest = false ∧ maskBit t.snt.fences c = false
    | some false => coreEmpty c u = true → (t.core c).fenced = true ∧ (t.core c).underTest = false ∧ (t.core c).selftestFail = true
    | none => (t.core c).fenced = true ∧ (t.core c).underTest = true
  | .feed n on => n < 8 →
      if on then u.port.burst = none → u.port.heldOn = [] → (t.feed n).on = true
      else (t.feed n).on = false ∧ (t.feed n).latched = false
  | .discard => t.bun.st = .empty ∧ t.bun.total = 0
  | .openB len => t.bun.st = .receiving ∧ t.bun.stager = party ∧ t.bun.total = len ∧ t.bun.written = 0
  | .writeB at_ data => t.bun.st = .receiving ∧ t.bun.written = at_ + data.length
  | .closeB => t.bun.st = .staged
  | .activate now _ =>
      (bundleMode u = 1 → t.bun.st = .pendingAll) ∧
      (bundleMode u = 2 → now = false ∨ personsRun u = false → t.bun.st = .pendingOne) ∧
      (bundleMode u = 2 → now = true → personsRun u = true → ∀ p < 7, oneTargets u = [p] → ∀ d < 4, choosePlace (takeDown p u) p = some (2 ^ d) →
        t.bun.st = .activating ∧ t.bun.copying.isSome = true ∧ (t.person p).run = .restarting)
  | .setTime sec frac => t.snt.rtcSec = w32 sec ∧ t.snt.rtcFrac = frac % 32768 ∧ t.snt.rtcValid = true
  | .installCharter _ => t.stw.chPending = true ∧ t.stw.charter = u.stw.charter
  | .baseline chs _ _ =>
      ((∀ n ∈ chs, chKind n ≠ some .cable ∧ chKind n ≠ some .partner) → ∀ n ∈ chs, n < 46 →
        (t.sch n).base.map (fun b => b.value) = some (u.sch n).value) ∧
      ((∃ n ∈ chs, chKind n = some .cable) → t.srv.jobs.length = u.srv.jobs.length + 1)

/-- An order joins its slot, and takes its effect when the slot ends with it alone. -/
def gives (src party : Nat) (a : Act) (d : ReplyTo) (u t : State) : Prop :=
  ordered src party a d u t ∧ (u.isl.power = .run → u.oru.orders = [] → yields .decisionSlotEnd t (takesEffect party a u))

/-- An order contradicts no retirement that waits for its confirmation (R28). -/
def retireApart (a : Act) (u : State) : Bool := !contradicts a || u.stw.retire.isNone

/-- A line brings an order: accepted, with a session whose party may give it, it joins the slot, and takes its effect at its end. -/
def lineGives (i : Instr) (ln : Ln) (a : Act) (s : State) : Prop :=
  let u := lineTaken ln s
  lineAccepted ln s = true → (sessOf u ln.car).isSome = true → mayOrder (partyOf u ln.car) (some ln.car) a u = true →
    retireApart a u = true → yields i s (gives (carSrc ln.car) (partyOf u ln.car) a (.line ln) u)

/-- A steward call brings an order of its caller: taken up, and one its caller may give, it joins the slot, and takes its effect at
its end. -/
def callGives (i : Instr) (core : Fin 4) (svc p : Nat) (arg : Word) (a : Act) (s : State) : Prop :=
  let u := callTaken core.val p s
  callerOf s core.val svc arg = some p → mayOrder p none a u = true → yields i s (gives 5 p a (.call core.val p svc arg) u)

/-- The room a reply's text has on one line (R311). -/
def replyRoom (ln : Ln) : Nat := 250 - (replyHead ln '+').length - 4

/-- A line comes on SVC, where nothing is being typed, or on HST, and is accepted. -/
def serialLine (ln : Ln) (s : State) : Bool :=
  lineAccepted ln s && (decide (ln.car = .hst) || (decide (ln.car = .svc) && (s.car .svc).inp.isEmpty))

/-- Lines have left on the carrier a line came on, each with its mark and text, and its tag is free again (R307 to R311). -/
def told (ln : Ln) (ls : List (Char × Text)) (s t : State) : Prop :=
  (t.car ln.car).out = (s.car ln.car).out ++ (ls.flatMap fun q =>
    checked ln.car ln.sfx (replyHead ln q.1 ++ if q.2.isEmpty && ln.tag.isSome then [] else ' ' :: q.2) ++ crlf) ∧
  (t.car ln.car).tags = (s.car ln.car).tags ∧ t.isl.arrival = s.isl.arrival + 1

/-- A line a serial carrier brings is answered with these lines and has no other effect: given a session where the pair needs one,
the right it needs, and room for each line. -/
def lineTells (i : Instr) (ln : Ln) (session : Bool) (bit : Option Nat) (ls : List (Char × Text)) (s : State) : Prop :=
  serialLine ln s = true → (session = true → (sessOf s ln.car).isSome = true) →
  (match bit with | some b => partyRight s (partyOf s ln.car) b | none => true) = true →
  (ls.all fun q => decide (q.2.length ≤ replyRoom ln)) = true →
  yields i s fun t => told ln ls s t ∧
    t = { s with oru := { s.oru with cars := t.oru.cars }, isl := (lineCome ln s).isl }

/-- A person's seal job waits for an engine: its operation has this code, every buffer is the person's own and readable, and no page
of them is being zeroed (R415, R158). -/
def sealReady (p code : Nat) (j : SealRun) (s : State) : Bool :=
  decide (1 ≤ p) && decide (p ≤ 6) && decide ((s.sealOf p).job = some j) && j.res.isNone && decide (descW j 0 % 256 = code) &&
    !((jobBufs j).any fun b => bufZeroing s b.1 b.2) && decide (bufFails s p j = none) && s.mem.ecc.isEmpty

/-- The input and the auxiliary buffer of a seal job, and the key of its slot. -/
def sealInp (j : SealRun) (s : State) : Bytes := s.sramRead (descW j 1) (descW j 2)
def sealAux (j : SealRun) (s : State) : Bytes := s.sramRead (descW j 5) (descW j 6)
def sealKey (p : Nat) (j : SealRun) (s : State) : Key := vget (s.sealOf p).slot (descW j 0 / 256 % 4)

/-- A job has been served with a status and an output length, its key slots as they were. -/
def sealServed (p : Nat) (j : SealRun) (status len : Nat) (s t : State) : Prop :=
  t.sealOf p = { s.sealOf p with job := some { j with res := some (status, len) } }

/-- A job whose output fits is served: status 0, the output at the start of its buffer, every other byte and every key as before. -/
def sealGives (i : Instr) (p code : Nat) (j : SealRun) (ok : Bool) (out : Bytes) (s : State) : Prop :=
  sealReady p code j s = true → ok = true → Memory.wf 0 s.mem.sram = true → out.length ≤ descW j 4 → bufCheck s p (descW j 3) out.length = .ok →
  yields i s fun t => sealServed p j 0 out.length s t ∧ t.sramRead (descW j 3) out.length = out ∧
    ∀ a, (a < descW j 3 ∨ descW j 3 + out.length ≤ a) → t.sramRead a 1 = s.sramRead a 1

/-- A job that only changes a key slot is served. -/
def sealKeeps (i : Instr) (p code : Nat) (j : SealRun) (ok : Bool) (n : Nat) (k : Key) (s : State) : Prop :=
  sealReady p code j s = true → ok = true → (vget (s.sealOf p).slot n).ty ≠ .fixed →
  yields i s fun t => t.mem = s.mem ∧
    t.sealOf p = { s.sealOf p with slot := vset (s.sealOf p).slot n k, job := some { j with res := some (0, 0) } }

/-- The person a core runs. -/
def curOf (c : Nat) (s : State) : Nat := (s.core c).cur

/-- The registers the next sentence of a core sees: results due have landed (R67). -/
def seen (c : Nat) (s : State) : Ctx := landDue (s.ctx c (curOf c s))

/-- The device once the results due on a core have landed (R67). -/
def landed (c : Nat) (s : State) : State := setCtx c (curOf c s) (fun _ => seen c s) s

/-- The sentence at the pc is the last of no loop body: it is not the LE of the innermost level (R89). -/
def atNoLoopEnd (x : Ctx) : Bool := decide (x.ldepth = 0) || decide (vget x.le (x.ldepth - 1) ≠ x.pc)

/-- A core is free to issue: it runs a person that is no witness person, nothing it waits for is outstanding, no transfer, loop
end, fault, interrupt or switch is pending, and the `n` words at its pc lie in the person's code window. -/
def quiet (c : Nat) (n : Nat) (s : State) : Bool :=
  let x := s.ctx c (curOf c s)
  coreLive s c && !x.waiting && x.div.isNone && x.loads.isEmpty && x.calls.isEmpty && x.storeFaults.isEmpty &&
    x.br.isNone && !x.fpPending && atNoLoopEnd x && !(s.core c).switchDue && (s.witnessOn (curOf c s)).isNone &&
    s.cus.held.isNone && x.cus.isNone && !irqDue s c && s.inWindow c (curOf c s) x.pc.toNat (4 * n)

/-- The guard of a syllable holds for what the core sees (R72). -/
def guardHolds (c : Nat) (g : Guard) (s : State) : Bool := (seen c s).rp g.p.toNat != g.inv

/-- No listed w register is poisoned (R77). -/
def clean (c : Nat) (rs : List Nat) (s : State) : Bool := rs.all fun r => !(seen c s).poisoned r

/-- Put results in flight, each with its latency (R67). -/
def flights (n : Nat) (ws : List (Nat × Wr)) (l : List InFl) : List InFl :=
  ws.foldl (fun t q => insertFl { due := n + q.1, wr := q.2 } t) l

/-- What every sentence that issues does to its person's registers on its core: due results land, its own go in flight, its
sticky flags are entered, the counters and the pc move on (R62, R63, R67). -/
def nextCtx (x : Ctx) (len : Nat) (ws : List (Nat × Wr)) (fl : Sticky) : Ctx :=
  { x with infl := flights x.seq ws x.infl, flags := flagsOr x.flags fl, fpPending := x.fpPending || fl.trap,
           seq := x.seq + 1, sentences := x.sentences + 1, cycles := x.cycles + 1, pc := x.pc + w32 (4 * len) }

/-- The device after a core has issued a sentence of `len` words with these results, and nothing else has happened. -/
def issued (c len : Nat) (ws : List (Nat × Wr)) (fl : Sticky) (s : State) : State :=
  setCtx c (curOf c s) (fun _ => nextCtx (seen c s) len ws fl) s

/-! ### Second sources (R66) -/

/-- The value a second source gives. -/
def src2Word (zext : Bool) (x : Ctx) (q : Src2) : Word :=
  match q with
  | .reg r => x.rw r.toNat
  | .imm i => (immValue zext i).getD 0

/-- A second source that is legal: an immediate's widening mode is one of the three of R66. -/
def src2Ok (zext : Bool) (q : Src2) : Bool :=
  match q with
  | .reg _ => true
  | .imm i => (immValue zext i).isSome

/-- The words of a sentence of one syllable with this second source. -/
def src2Len (q : Src2) : Nat :=
  match q with
  | .imm (.ext _ _) => 2
  | _ => 1

/-- The w registers a second source reads. -/
def src2Regs (q : Src2) : List Nat :=
  match q with
  | .reg r => [r.toNat]
  | .imm _ => []

/-- A core is free to issue a sentence of `n` words, the guard holds and the listed source registers are clean. -/
def ready (c n : Nat) (g : Guard) (rs : List Nat) (s : State) : Bool :=
  quiet c n s && guardHolds c g s && clean c rs s

/-! ### Ranges (R108, R123) -/

/-- A value lies outside the signed range of n bits. -/
def outside (n : Nat) (v : Int) : Bool := decide (v < -(2 ^ (n - 1))) || decide (2 ^ (n - 1) - 1 < v)

/-- A value limited to the signed range of n bits. -/
def limit (n : Nat) (v : Int) : Int := max (-(2 ^ (n - 1))) (min v (2 ^ (n - 1) - 1))

/-- A signed number as a word, modulo 2^32. -/
def iw (v : Int) : Word := BitVec.ofInt 32 v

/-- How many of the numbers below n have a property. -/
def countBits (n : Nat) (f : Nat → Bool) : Nat := ((List.range n).filter f).length

/-- The first number below n that has a property; n where none has. -/
def firstBit (n : Nat) (f : Nat → Bool) : Nat := ((List.range n).find? f).getD n

/-- The polynomial table of R111. -/
def polyOf (p : CrcPoly) : Nat × Nat :=
  match p with
  | .p8 => (8, 0x07)
  | .p16 => (16, 0x1021)
  | .p32 => (32, 0x04C11DB7)
  | .p32c => (32, 0x1EDC6F41)

/-- The loops of R111: a check value fed with t data bits, the highest first, or reflected, the lowest first. -/
def crcLoop (p : CrcPoly) (reflected : Bool) (t crc data : Nat) : Nat :=
  let w := (polyOf p).1
  let g := (polyOf p).2
  if reflected then
    (List.range t).foldl (fun r i =>
      if r.testBit 0 != data.testBit i then (r / 2) ^^^ revBits w g else r / 2) (crc % 2 ^ w)
  else
    (List.range t).reverse.foldl (fun r i =>
      if r.testBit (w - 1) != data.testBit i then (r * 2 % 2 ^ w) ^^^ g else r * 2 % 2 ^ w) (crc % 2 ^ w)

/-- Leading zero bits of a 32-bit number; 32 for 0 (R128). -/
def lead32 (v : Nat) : Nat := firstBit 32 fun i => v.testBit (31 - i)

/-- The cycles of a divide (R128): 20 in constant-time mode, else by the leading zeros of the magnitudes. -/
def divideTime (constTime : Bool) (a b : Nat) : Nat :=
  if constTime then 20 else 3 + ((lead32 b - lead32 a + 1) + 1) / 2

/-- The device after a core has issued a divide that lands `t` cycles later (R128). -/
def divided (c : Nat) (ws : List (Nat × Word)) (t : Nat) (fl : Sticky) (s : State) : State :=
  setCtx c (curOf c s) (fun _ => { nextCtx (seen c s) 1 [] fl with
    div := some { writes := ws, lands := (seen c s).cycles + t } }) s

/-- A syllable with these flags takes no FP fault: the mode is IMPRECISE or it raises no trap-class exception (R136, R137). -/
def fpGoes (c : Nat) (fl : Sticky) (s : State) : Bool := !(s.row (curOf c s)).precise || !(fl.nv || fl.dz)

/-- The two w registers of a pair field (R60, R102). -/
def pairRegs (f : BitVec 6) : List Nat := [pairLow f, pairLow f + 1]

/-- The writes of a 64-bit result to a pair, low word first. -/
def pairOut (lat : Nat) (f : BitVec 6) (v : Nat) : List (Nat × Wr) :=
  [(lat, .w (pairLow f) (w32 v) false), (lat, .w (pairLow f + 1) (w32 (v / 2 ^ 32)) false)]

/-- The signed halfwords of a word (R123). -/
def half (hi : Bool) (a : Word) : Int := (a.extractLsb' (if hi then 16 else 0) 16).toInt

/-! ### Loads and stores by their size (R97, R98, R102) -/

/-- The six loads: byte and halfword, signed or not, word, pair. -/
inductive LdKind where
  | b | bu | h | hu | w | wp
  deriving DecidableEq, Repr

/-- Bytes of an access. -/
def LdKind.size (k : LdKind) : Nat := match k with | .b | .bu => 1 | .h | .hu => 2 | .w => 4 | .wp => 8

/-- The load rows by kind. -/
def ldCmd (k : LdKind) (c : Fin 4) (u : LUnit) (m : AMode) (d s1 : BitVec 6) (g : Guard) : Instr :=
  match k with
  | .b => .ldB c u m d s1 g
  | .bu => .ldBu c u m d s1 g
  | .h => .ldH c u m d s1 g
  | .hu => .ldHu c u m d s1 g
  | .w => .ldW c u m d s1 g
  | .wp => .ldWp c u m d s1 g

/-- The dismissible load rows by kind. -/
def lddCmd (k : LdKind) (c : Fin 4) (u : LUnit) (m : DMode) (d s1 : BitVec 6) (g : Guard) : Instr :=
  match k with
  | .b => .ldDB c u m d s1 g
  | .bu => .ldDBu c u m d s1 g
  | .h => .ldDH c u m d s1 g
  | .hu => .ldDHu c u m d s1 g
  | .w => .ldDW c u m d s1 g
  | .wp => .ldDWp c u m d s1 g

/-- The four store sizes. -/
inductive StKind where
  | b | h | w | wp
  deriving DecidableEq, Repr

/-- Bytes of a store. -/
def StKind.size (k : StKind) : Nat := match k with | .b => 1 | .h => 2 | .w => 4 | .wp => 8

/-- The store rows by kind. -/
def stCmd (k : StKind) (c : Fin 4) (u : LUnit) (m : AMode) (d s1 : BitVec 6) (g : Guard) : Instr :=
  match k with
  | .b => .stB c u m d s1 g
  | .h => .stH c u m d s1 g
  | .w => .stW c u m d s1 g
  | .wp => .stWp c u m d s1 g

/-- The second source of an addressing mode, and of a dismissible load's. -/
def modeSrc (m : AMode) : Src2 := match m with | .off k | .post k | .pre k => .imm k | .idx r => .reg r
def dmodeSrc (m : DMode) : Src2 := match m with | .off k => .imm k | .idx r => .reg r

/-- The addressing modes of R98: effective address and the update of the address register, with `upd` of R99. -/
def modeAddr (x : Ctx) (m : AMode) (r : BitVec 6) (size : Nat) : Word × List (Nat × Wr) :=
  let k := src2Word false x (modeSrc m)
  let n := r.toNat
  match m with
  | .off _ => (x.rx n + k, [])
  | .post _ => (x.rx n, [(1, .x n (upd x n k.toInt))])
  | .pre _ => (upd x n (-k.toInt), [(1, .x n (upd x n (-k.toInt)))])
  | .idx _ => (x.rx n + k * w32 size, [])

/-- The bit-reversed mode: the address is the register's value, `brupd` of R100 updates it. -/
def brevAddr (x : Ctx) (i : Imm) (r : BitVec 6) (size : Nat) : Word × List (Nat × Wr) :=
  (x.rx r.toNat, [(1, .x r.toNat (brupd x r.toNat (src2Word false x (.imm i)) size))])

/-- What a load of a kind writes from its bytes, lowest first (R102). -/
def loaded (k : LdKind) (lat : Nat) (d : BitVec 6) (bs : Bytes) : List (Nat × Wr) :=
  let v := leNat bs
  match k with
  | .b => [(lat, .w d.toNat (iw (if v < 2 ^ 7 then v else v - 2 ^ 8)) false)]
  | .h => [(lat, .w d.toNat (iw (if v < 2 ^ 15 then v else v - 2 ^ 16)) false)]
  | .bu | .hu | .w => [(lat, .w d.toNat (w32 v) false)]
  | .wp => pairOut lat d v

/-- The poisoned zeros a load that is not issued writes (R74). -/
def poisoned (k : LdKind) (d : BitVec 6) : List (Nat × Wr) :=
  match k with
  | .wp => [(3, .w (pairLow d) 0 true), (3, .w (pairLow d + 1) 0 true)]
  | _ => [(3, .w d.toNat 0 true)]

/-- The bytes a store of a kind writes, lowest first. -/
def stored (k : StKind) (x : Ctx) (d : BitVec 6) : Bytes :=
  match k with
  | .wp => leBytes 8 (x.rpair d)
  | _ => leBytes k.size (x.rw d.toNat).toNat

/-- The data registers of a store. -/
def dataRegs (k : StKind) (d : BitVec 6) : List Nat := match k with | .wp => pairRegs d | _ => [d.toNat]

/-- No memory error stands in the words of an access. -/
def noEcc (space c a n : Nat) (s : State) : Bool :=
  s.mem.ecc.all fun u => !(List.range n).any fun i => upsetHits u space c (a + i)

/-- A local read the core's person may make: aligned, its own code window or an own bank that is not being zeroed, no memory
error (R81, R97, R102, R155). -/
def localOk (c a n : Nat) (s : State) : Bool :=
  decide (a % n = 0) && s.mayRead c (curOf c s) a n && !s.zeroing c a &&
    match regionOf a with
    | .imem => noEcc 2 c a n s
    | .dmem _ => noEcc 1 c a n s
    | _ => false

/-- A local write the core's person may make: aligned, an own bank that is not being zeroed and not the spill area (R86). -/
def storeOk (c a n : Nat) (s : State) : Bool :=
  decide (a % n = 0) && s.mayWrite c (curOf c s) a && !s.zeroing c a && noEcc 1 c a n s &&
    !inSpill (seen c s) (s.row (curOf c s)).rsMode a &&
    match regionOf a with
    | .dmem _ => true
    | _ => false

/-- A shared access the core's person may make, with nothing of the core's still in its store buffer or on its way: aligned, to
an own page that is not being zeroed, to the calibration row, or a word of an own register frame (R91, R97). -/
def sharedOk (c a n : Nat) (write : Bool) (s : State) : Bool :=
  decide (a % n = 0) && (if write then s.mayWrite c (curOf c s) a else s.mayRead c (curOf c s) a n) && !s.zeroing c a &&
    (s.core c).sb.isEmpty && (ownInFlight s c).isEmpty &&
    match regionOf a with
    | .page _ => true
    | .calib => true
    | .device _ => decide (n = 4)
    | _ => false

/-- An address is a register's. -/
def inDevice (a : Nat) : Bool := match regionOf a with | .device _ => true | _ => false

/-- The device after a core took its shared load's place in program order, from the state its sentence leaves: the load is
outstanding and waits for no own store but one a FENCE.SL or, for a register, program order puts before it (R73, R117, R174). -/
def loadSent (c : Nat) (k : LdKind) (d : BitVec 6) (a : Nat) (dismiss : Bool) (s : State) : State :=
  let n := (s.core c).stamp
  let hold := if inDevice a then n else (s.core c).fence
  setCore c (fun q => { q with stamp := n + 1 }) (setCtx c (curOf c s) (fun x => { x with
    loads := x.loads ++ [{ stamp := n, dests := (match k with | .wp => pairRegs d | _ => [d.toNat]), addr := a, size := k.size,
                           signed := decide (k = .b ∨ k = .h), dismiss := dismiss, device := inDevice a,
                           hold := hold, fwd := none,
                           gate := if leavesCore s c a then some (arriveGate s c) else none }] }) s)

/-- The device after a shared store entered an empty store buffer (R165, R166). -/
def storeSent (c : Nat) (a : Nat) (bs : Bytes) (s : State) : State :=
  setCore c (fun q => { q with
    stamp := q.stamp + 1,
    sb := [{ person := q.cur, stamp := q.stamp, last := q.stamp, due := false, closed := false,
             what := if inDevice a then .dev a (w32 (leNat bs)) else .gran (a / 16) (bs.zipIdx.map fun b => (a + b.2, b.1)) }] }) s

/-! ### Entry (R92) -/

/-- The device after the person of a core entered its fault handler: pending results have landed, the place, the loop state and
STATUS.IE are saved, cause and information are recorded, and VEC issues next. -/
def faulted (c code : Nat) (info : Word) (s : State) : State :=
  setCtx c (curOf c s) (fun _ =>
    let x := landAll (seen c s)
    { x with epc := x.pc, ebt := 0, estat := x.ie, eldepth := x.ldepth, ldepth := 0, ie := false, ecause := w32 code,
             einfo := info, pc := x.vec, faultOpen := true,
             els := #v[vget x.ls 0, vget x.le 0, vget x.lc 0, vget x.ls 1, vget x.le 1, vget x.lc 1,
                       vget x.ls 2, vget x.le 2, vget x.lc 2] }) s

/-- A fault now is no double fault (R94). -/
def mayFault (c : Nat) (s : State) : Bool := !(seen c s).faultOpen || (seen c s).ie

/-! ### Frames: the blocks of the device -/

/-- The parts of the state, one for each field of State; of the islands, the arrival number (02 R37) and the wake noted in NAP (02 R45)
stand as parts of their own. -/
inductive Blk where
  | queue | free | secs | isl | gates | fuses | stw | wit | cores | mem | cus | win | snt | cic | mov | turn | port | srv | flc | store | seals
  | bun | oru | chn | stamp | nap
  deriving DecidableEq, Repr

/-- A part of the state is the same before and after. -/
def sameBlk (b : Blk) (s t : State) : Prop :=
  match b with
  | .queue => t.pending = s.pending | .free => t.free = s.free | .secs => t.secs = s.secs
  | .isl => t.isl = { s.isl with arrival := t.isl.arrival, napWake := t.isl.napWake }
  | .gates => t.gates = s.gates | .fuses => t.fuses = s.fuses | .stw => t.stw = s.stw | .wit => t.wit = s.wit
  | .cores => t.cores = s.cores | .mem => t.mem = s.mem | .cus => t.cus = s.cus | .win => t.win = s.win | .snt => t.snt = s.snt
  | .cic => t.cic = s.cic | .mov => t.mov = s.mov | .turn => t.movTurn = s.movTurn
  | .port => t.port = s.port | .srv => t.srv = s.srv | .flc => t.flc = s.flc
  | .store => t.store = s.store | .seals => t.seals = s.seals
  | .bun => t.bun = s.bun | .oru => t.oru = s.oru | .chn => t.chn = s.chn
  | .stamp => t.isl.arrival = s.isl.arrival | .nap => t.isl.napWake = s.isl.napWake

/-- Commands that change nothing outside these parts of the state. -/
def within (l : List Blk) (cmds : List Instr) (s : State) : Prop :=
  ∀ i ∈ cmds, ∀ t, exec i s = .next t → ∀ b, b ∉ l → sameBlk b s t

/-- Commands that change nothing in these parts of the state. -/
def keeps (l : List Blk) (cmds : List Instr) (s : State) : Prop :=
  ∀ i ∈ cmds, ∀ t, exec i s = .next t → ∀ b ∈ l, sameBlk b s t

/-- The four memories of bytes stand in canonical form: shared SRAM and flash, each core's instruction and data memory. -/
def memoriesCanonical (s : State) : Prop :=
  Memory.wf 0 s.mem.sram = true ∧ Memory.wf 0xFF s.mem.flash = true ∧
    ∀ c < 4, Memory.wf 0 (s.core c).imem = true ∧ Memory.wf 0 (s.core c).dmem = true

end Sys2Proof.Machine
end

