-- ==== Sys2Proof/Certificates/Slice0/Obligations.lean ====
section
/-! DEFINITION. The statements about the CG-4664, by part of the device. Each docstring names the rules of spec/ it speaks of. -/

open Sys2Proof Sys2Proof.Machine

/-! ### The queue, reset and memory -/

/-- A step takes the command in front of the queue and runs it on the device with the rest of the queue. With an empty queue
the block idles: that is the model's choice (log 2). -/
def Obligations.StepRunsTheFrontCommand : Prop :=
  (∀ (c : Instr) (s : State), step { s with pending := c :: s.pending } = exec c s) ∧
  (∀ s : State, s.pending = [] → step s = .next s)

/-- Every command of the table answers a next state in every state: none faults and none is refused. -/
def Obligations.EveryCommandAnswersANextState : Prop := ∀ (c : Instr) (s : State), ∃ t, exec c s = .next t

/-- The device at t0 of a power-on start, as far as the spec gives it: the queue empty, every page and bank FREE and every register
frame the steward's (06 R144, R145), RTC at 0 and invalid (17 R391), DOZE delay, mover, card, sense, flash and witness registers
at their Reset column (02, 08, 10, 11, 19), no key, no session, no output on, ports DOWN (18 R425), the chain unnumbered. -/
def Obligations.ResetLeavesTheTableValues : Prop :=
  let s := State.reset
  s.pending = [] ∧ (∀ n < 1024, s.pageOwner n = 0xF) ∧ (∀ c < 4, ∀ b < 8, vget (vget s.cus.bank c) b = 0xF) ∧
  (∀ f < 272, vget s.cus.frame f = 0) ∧ s.snt.rtcSec = 0 ∧ s.snt.rtcFrac = 0 ∧ s.snt.rtcValid = false ∧ s.isl.napDelay = 100 ∧
  (∀ n < 16, (vget s.mov n).st = .idle ∧ (vget s.mov n).src.shape = 0x00010003 ∧ (vget s.mov n).src.mode = 4 ∧
    (vget s.mov n).dst.shape = 0x00010003 ∧ (vget s.mov n).dst.mode = 4) ∧
  (∀ k < 2, (s.slot k).cfg = 0x01743F00 ∧ (s.can k).mode = 0 ∧ (s.cport k).st = .down) ∧
  (∀ n < 8, (s.sense n).cfg = 0x001E4004 ∧ (vget s.port.feed n).on = false) ∧
  (∀ b < 4, (vget s.flc.bank b).data = Vector.replicate 4 0xFFFFFFFF ∧ (vget s.flc.bank b).lock = Vector.replicate 4 0xFFFFFFFF) ∧
  (∀ k < 2, (vget s.wit.div k).info = 0x00F00000) ∧ (∀ p < 7, ∀ k < 4, (vget (s.sealOf p).slot k).ty = .empty) ∧
  s.oru.cars = [] ∧ s.chn.role = .unnumbered ∧ s.mem.sram = [] ∧ s.mem.flash = []

/-- The memories stand in their canonical form in the device at reset. -/
def Obligations.ResetMemoriesAreCanonical : Prop := memoriesCanonical State.reset

/-- Every step keeps the memories in their canonical form: addresses strictly rising, and no byte listed that an unlisted address
reads as. Equal contents are then equal data, whatever the stores, zeroings, erasures and copies that led to them. -/
def Obligations.EveryStepKeepsMemoriesCanonical : Prop :=
  ∀ s t : State, memoriesCanonical s → step s = .next t → memoriesCanonical t

/-- Syllables and their words (03 R64 to R66, 04, 05): every syllable its unit carries has words that decode to the sentence of that
one syllable, whatever its fields and its guard; and each host word with full-stop 1, and each host with its extension, is the
encoding of the syllable it decodes to. -/
def Obligations.SyllablesEncodeAndDecode : Prop :=
  (∀ (y : Syl) (k : Nat), k < 64 → opcodeOf y.unit k = some (y.op, y.mode, immForm y) →
    (y.op = .extr → ∃ r, y.s2 = .imm (.short r)) →
      ∃ ws, encodeSyl y = some ws ∧ decodeSentence ws true = oneSyllable y) ∧
  (∀ (w e : Word) (y : Syl),
    (decodeSyl w none = some y → wFullStop w = true → encodeSyl y = some [w]) ∧
    (decodeSyl w (some e) = some y → takesExt w = true → wFullStop w = false → wFullStop e = true → wIsExt e = true →
      wUnit e = wUnit w → encodeSyl y = some [w, e]))

/-! ### Syllables -/

/-- R106, R108, R109: NOP, MOVI, sums, differences, ABS, NEG, minima and maxima, with the flags each sets; nothing else of the
device changes.
R106, R107: the logic syllables and the shifts, with a count from 0 to 63 (ROR modulo 32); no flag.
R106: the compares write a predicate, signed or unsigned; no flag.
R106: the predicate syllables. -/
def Obligations.IntegerSyllablesCompute : Prop :=
  (∀ (c : Fin 4) (u : AUnit) (d s1 r : BitVec 6) (im : Imm) (s2 : Src2) (g : Guard) (s : State),
    let x := seen c s
    let n := src2Len s2
    let a := (x.rw s1.toNat).toInt
    let b := (src2Word false x s2).toInt
    let k := src2Len (.imm im)
    let j := (src2Word false x (.imm im)).toInt
    let v := (x.rw r.toNat).toInt
    (ready c 1 g [] s = true → exec (.nop c u g) s = .next (issued c 1 [] {} s)) ∧
    (ready c 1 g [s1.toNat] s = true →
      exec (.abs c u d s1 g) s = .next (issued c 1 [(1, .w d.toNat (iw (limit 32 |a|)) false)] { sat := outside 32 |a| } s) ∧
      exec (.neg c u d s1 g) s = .next (issued c 1 [(1, .w d.toNat (iw (-a)) false)] { ovf := outside 32 (-a) } s)) ∧
    (ready c n g (s1.toNat :: src2Regs s2) s = true → src2Ok false s2 = true →
      exec (.add c u d s1 s2 g) s = .next (issued c n [(1, .w d.toNat (iw (a + b)) false)] { ovf := outside 32 (a + b) } s) ∧
      exec (.adds c u d s1 s2 g) s =
        .next (issued c n [(1, .w d.toNat (iw (limit 32 (a + b))) false)] { sat := outside 32 (a + b) } s) ∧
      exec (.min c u d s1 s2 g) s = .next (issued c n [(1, .w d.toNat (iw (min a b)) false)] {} s) ∧
      exec (.max c u d s1 s2 g) s = .next (issued c n [(1, .w d.toNat (iw (max a b)) false)] {} s)) ∧
    (ready c k g [s1.toNat] s = true → src2Ok false (.imm im) = true →
      exec (.sub c u d s1 (.imm im) g) s =
        .next (issued c k [(1, .w d.toNat (iw (j - a)) false)] { ovf := outside 32 (j - a) } s)) ∧
    (ready c k g [] s = true → src2Ok false (.imm im) = true →
      exec (.movi c u d im g) s = .next (issued c k [(1, .w d.toNat (iw j) false)] {} s)) ∧
    (ready c 1 g [s1.toNat, r.toNat] s = true →
      exec (.sub c u d s1 (.reg r) g) s =
        .next (issued c 1 [(1, .w d.toNat (iw (a - v)) false)] { ovf := outside 32 (a - v) } s) ∧
      exec (.subs c u d s1 r g) s =
        .next (issued c 1 [(1, .w d.toNat (iw (limit 32 (a - v))) false)] { sat := outside 32 (a - v) } s) ∧
      exec (.minu c u d s1 r g) s =
        .next (issued c 1 [(1, .w d.toNat (w32 (min (x.rw s1.toNat).toNat (x.rw r.toNat).toNat)) false)] {} s) ∧
      exec (.maxu c u d s1 r g) s =
        .next (issued c 1 [(1, .w d.toNat (w32 (max (x.rw s1.toNat).toNat (x.rw r.toNat).toNat)) false)] {} s))) ∧
  (∀ (c : Fin 4) (u : AUnit) (d s1 q : BitVec 6) (s2 : Src2) (g : Guard) (s : State),
    let x := seen c s
    let n := src2Len s2
    let a := x.rw s1.toNat
    let b := src2Word true x s2
    let k := b.toNat % 64
    let r := k % 32
    (ready c n g (s1.toNat :: src2Regs s2) s = true → src2Ok true s2 = true →
      exec (.andOp c u d s1 s2 g) s = .next (issued c n [(1, .w d.toNat (a &&& b) false)] {} s) ∧
      exec (.orOp c u d s1 s2 g) s = .next (issued c n [(1, .w d.toNat (a ||| b) false)] {} s) ∧
      exec (.xorOp c u d s1 s2 g) s = .next (issued c n [(1, .w d.toNat (a ^^^ b) false)] {} s) ∧
      exec (.shl c u d s1 s2 g) s = .next (issued c n [(1, .w d.toNat (w32 (a.toNat * 2 ^ k)) false)] {} s) ∧
      exec (.shr c u d s1 s2 g) s = .next (issued c n [(1, .w d.toNat (w32 (a.toNat / 2 ^ k)) false)] {} s) ∧
      exec (.sra c u d s1 s2 g) s = .next (issued c n [(1, .w d.toNat (iw (a.toInt / 2 ^ k)) false)] {} s) ∧
      exec (.ror c u d s1 s2 g) s =
        .next (issued c n [(1, .w d.toNat (w32 (a.toNat / 2 ^ r + a.toNat % 2 ^ r * 2 ^ (32 - r))) false)] {} s)) ∧
    (ready c 1 g [s1.toNat, q.toNat] s = true →
      exec (.andn c u d s1 q g) s = .next (issued c 1 [(1, .w d.toNat (a &&& ~~~(x.rw q.toNat)) false)] {} s))) ∧
  (∀ (c : Fin 4) (u : AUnit) (d s1 : BitVec 6) (s2 : Src2) (g : Guard) (s : State),
    let x := seen c s
    let n := src2Len s2
    let a := x.rw s1.toNat
    let b := src2Word false x s2
    let z := src2Word true x s2
    ready c n g (s1.toNat :: src2Regs s2) s = true → d.toNat ≤ 7 →
    (src2Ok false s2 = true →
      exec (.cmpeq c u d s1 s2 g) s = .next (issued c n [(1, .p d.toNat (decide (a = b)))] {} s) ∧
      exec (.cmpne c u d s1 s2 g) s = .next (issued c n [(1, .p d.toNat (decide (a ≠ b)))] {} s) ∧
      exec (.cmplt c u d s1 s2 g) s = .next (issued c n [(1, .p d.toNat (decide (a.toInt < b.toInt)))] {} s) ∧
      exec (.cmple c u d s1 s2 g) s = .next (issued c n [(1, .p d.toNat (decide (a.toInt ≤ b.toInt)))] {} s) ∧
      exec (.cmpgt c u d s1 s2 g) s = .next (issued c n [(1, .p d.toNat (decide (b.toInt < a.toInt)))] {} s) ∧
      exec (.cmpge c u d s1 s2 g) s = .next (issued c n [(1, .p d.toNat (decide (b.toInt ≤ a.toInt)))] {} s)) ∧
    (src2Ok true s2 = true →
      exec (.cmpltu c u d s1 s2 g) s = .next (issued c n [(1, .p d.toNat (decide (a.toNat < z.toNat)))] {} s) ∧
      exec (.cmpleu c u d s1 s2 g) s = .next (issued c n [(1, .p d.toNat (decide (a.toNat ≤ z.toNat)))] {} s))) ∧
  (∀ (c : Fin 4) (u : AUnit) (d s1 s2 : BitVec 6) (g : Guard) (s : State),
    let a := (seen c s).rp s1.toNat
    let b := (seen c s).rp s2.toNat
    ready c 1 g [] s = true → d.toNat ≤ 7 → s1.toNat ≤ 7 →
      exec (.pnot c u d s1 g) s = .next (issued c 1 [(1, .p d.toNat (!a))] {} s) ∧
      (s2.toNat ≤ 7 →
        exec (.pand c u d s1 s2 g) s = .next (issued c 1 [(1, .p d.toNat (a && b))] {} s) ∧
        exec (.por c u d s1 s2 g) s = .next (issued c 1 [(1, .p d.toNat (a || b))] {} s) ∧
        exec (.pandn c u d s1 s2 g) s = .next (issued c 1 [(1, .p d.toNat (a && !b))] {} s)))

/-- R110: the bit syllables, bit by bit; none sets a flag.
R77, R110: TSTP gives the poison bit of its source and takes no fault for it.
R110, R112: field and single-bit syllables, with the control word's position and length cut to 32 − p; the carry-less
products bit by bit.
R110, R111: a cyclic-check step runs the loop of R111 over 8, 16 or 32 data bits; over 32 bits its latency is 2.
R111: in the reflected form a little-endian word fed at once gives what its four bytes fed in address order give. -/
def Obligations.CheckAndBitSyllablesCompute : Prop :=
  (∀ (c : Fin 4) (d s1 : BitVec 6) (g : Guard) (s : State),
    let x := seen c s
    let a := x.rw s1.toNat
    let ones := countBits 32 a.getLsbD
    ready c 1 g [s1.toNat] s = true →
      exec (.par c d s1 g) s = .next (issued c 1 [(1, .w d.toNat (w32 (ones % 2)) false)] {} s) ∧
      (d.toNat ≤ 7 → exec (.parp c d s1 g) s = .next (issued c 1 [(1, .p d.toNat (decide (ones % 2 = 1)))] {} s)) ∧
      exec (.popc c d s1 g) s = .next (issued c 1 [(1, .w d.toNat (w32 ones) false)] {} s) ∧
      exec (.clz c d s1 g) s = .next (issued c 1 [(1, .w d.toNat (w32 (firstBit 32 fun i => a.getLsbD (31 - i))) false)] {} s) ∧
      exec (.ctz c d s1 g) s = .next (issued c 1 [(1, .w d.toNat (w32 (firstBit 32 a.getLsbD)) false)] {} s) ∧
      (∃ v : Word, (∀ i < 32, v.getLsbD i = a.getLsbD (31 - i)) ∧
        exec (.brev c d s1 g) s = .next (issued c 1 [(1, .w d.toNat v false)] {} s)) ∧
      (∃ v : Word, (∀ i < 32, v.getLsbD i = a.getLsbD (i / 8 * 8 + (7 - i % 8))) ∧
        exec (.brevb c d s1 g) s = .next (issued c 1 [(1, .w d.toNat v false)] {} s)) ∧
      (∃ v : Word, (∀ i < 32, v.getLsbD i = a.getLsbD ((3 - i / 8) * 8 + i % 8)) ∧
        exec (.bswap c d s1 g) s = .next (issued c 1 [(1, .w d.toNat v false)] {} s))) ∧
  (∀ (c : Fin 4) (d s1 : BitVec 6) (g : Guard) (s : State),
    ready c 1 g [] s = true → d.toNat ≤ 7 →
      exec (.tstp c d s1 g) s = .next (issued c 1 [(1, .p d.toNat ((seen c s).poisoned s1.toNat))] {} s)) ∧
  (∀ (c : Fin 4) (d s1 s2 : BitVec 6) (im : Imm) (g : Guard) (s : State),
    let x := seen c s
    let a := x.rw s1.toNat
    let b := x.rw s2.toNat
    let k := b.toNat % 32
    let e := min (b.toNat / 32 % 64) (32 - k)
    let f := a.toNat / 2 ^ k % 2 ^ e
    let m := src2Len (.imm im)
    let i := (src2Word true x (.imm im)).toNat % 32
    (ready c 1 g [s1.toNat, s2.toNat] s = true →
      exec (.extu c d s1 s2 g) s = .next (issued c 1 [(1, .w d.toNat (w32 f) false)] {} s) ∧
      exec (.exts c d s1 s2 g) s =
        .next (issued c 1 [(1, .w d.toNat (iw (if e ≠ 0 ∧ f.testBit (e - 1) then (f : Int) - 2 ^ e else f)) false)] {} s) ∧
      (d.toNat ≤ 7 → exec (.btst c d s1 s2 g) s = .next (issued c 1 [(1, .p d.toNat (a.getLsbD k))] {} s)) ∧
      (∃ v : Word, (∀ j < 32, v.getLsbD j = decide (countBits 32 (fun t => a.getLsbD t && decide (t ≤ j) && b.getLsbD (j - t)) % 2 = 1)) ∧
        exec (.clmull c d s1 s2 g) s = .next (issued c 1 [(1, .w d.toNat v false)] {} s)) ∧
      (∃ v : Word, (∀ j < 32, v.getLsbD j = decide (countBits 32 (fun t => a.getLsbD t && b.getLsbD (32 + j - t)) % 2 = 1)) ∧
        exec (.clmulh c d s1 s2 g) s = .next (issued c 1 [(1, .w d.toNat v false)] {} s))) ∧
    (ready c 1 g [s1.toNat, s2.toNat, d.toNat] s = true →
      ∃ v : Word, (∀ j < 32, v.getLsbD j =
          if k ≤ j ∧ j < k + e then a.getLsbD (j - k) else (x.rw d.toNat).getLsbD j) ∧
        exec (.ins c d s1 s2 g) s = .next (issued c 1 [(1, .w d.toNat v false)] {} s)) ∧
    (ready c m g [s1.toNat] s = true → src2Ok true (.imm im) = true →
      (d.toNat ≤ 7 → exec (.btsti c d s1 im g) s = .next (issued c m [(1, .p d.toNat (a.getLsbD i))] {} s)) ∧
      (∃ v : Word, (∀ j < 32, v.getLsbD j = (a.getLsbD j || decide (j = i))) ∧
        exec (.bseti c d s1 im g) s = .next (issued c m [(1, .w d.toNat v false)] {} s)) ∧
      (∃ v : Word, (∀ j < 32, v.getLsbD j = (a.getLsbD j && decide (j ≠ i))) ∧
        exec (.bclri c d s1 im g) s = .next (issued c m [(1, .w d.toNat v false)] {} s)))) ∧
  (∀ (c : Fin 4) (p : CrcPoly) (refl : Bool) (ww : BitVec 2) (d s1 s2 : BitVec 6) (g : Guard) (s : State),
    let x := seen c s
    let t := 8 * 2 ^ ww.toNat
    ready c 1 g [s1.toNat, s2.toNat] s = true → ww ≠ 3 →
      exec (.crcStep c p refl ww d s1 s2 g) s =
        .next (issued c 1 [(if ww = 2 then 2 else 1,
          .w d.toNat (w32 (crcLoop p refl t (x.rw s1.toNat).toNat (x.rw s2.toNat).toNat)) false)] {} s)) ∧
  (∀ (p : CrcPoly) (a b : Word),
    cCrc p true 2 a b =
      cCrc p true 0 (cCrc p true 0 (cCrc p true 0 (cCrc p true 0 a (b &&& 0xFF)) (b >>> 8 &&& 0xFF)) (b >>> 16 &&& 0xFF)) (b >>> 24))

/-- R122, R123: the products, exact before they are cut, rounded or limited.
R69, R124: the accumulating syllables take the newest value of their accumulator, wrap at 72 bits with OVF (MACS limits to 64
bits with SAT), and set nothing else.
R124, R125: CLR, ACCW and ACCP set an accumulator; EXTR rounds, shifts and limits; EXTL, EXTH and EXTG read its parts. -/
def Obligations.ProductsAndAccumulatorsCompute : Prop :=
  (∀ (c : Fin 4) (u : MUnit) (d s1 s2 : BitVec 6) (im : Imm) (g : Guard) (s : State),
    let x := seen c s
    let a := x.rw s1.toNat
    let b := x.rw s2.toNat
    let q := (2 * a.toInt * b.toInt + 2 ^ 31) / 2 ^ 32
    let l := (2 * half false a * half false b + 2 ^ 15) / 2 ^ 16
    let h := (2 * half true a * half true b + 2 ^ 15) / 2 ^ 16
    (ready c 1 g [s1.toNat, s2.toNat] s = true →
      exec (.mul c u d s1 s2 g) s = .next (issued c 1 [(3, .w d.toNat (iw (a.toInt * b.toInt)) false)] {} s) ∧
      exec (.mulh c u d s1 s2 g) s = .next (issued c 1 [(3, .w d.toNat (iw (a.toInt * b.toInt / 2 ^ 32)) false)] {} s) ∧
      exec (.mulhu c u d s1 s2 g) s = .next (issued c 1 [(3, .w d.toNat (w32 (a.toNat * b.toNat / 2 ^ 32)) false)] {} s) ∧
      exec (.mulq31 c u d s1 s2 g) s = .next (issued c 1 [(3, .w d.toNat (iw (limit 32 q)) false)] { sat := outside 32 q } s) ∧
      exec (.mul2hq c u d s1 s2 g) s =
        .next (issued c 1 [(3, .w d.toNat (iw (limit 16 h * 65536 + limit 16 l % 65536)) false)]
          { sat := outside 16 l || outside 16 h } s)) ∧
    (ready c (src2Len (.imm im)) g [s1.toNat] s = true → src2Ok false (.imm im) = true →
      exec (.muli c u d s1 im g) s =
        .next (issued c (src2Len (.imm im)) [(3, .w d.toNat (iw (a.toInt * (src2Word false x (.imm im)).toInt)) false)] {} s))) ∧
  (∀ (c : Fin 4) (u : MUnit) (d s1 s2 : BitVec 6) (g : Guard) (s : State),
    let x := seen c s
    let acc := (x.newestAcc d.toNat).toInt
    let a := x.rw s1.toNat
    let b := x.rw s2.toNat
    let put := fun (v : Int) (fl : Sticky) => issued c 1 [(3, .acc d.toNat (BitVec.ofInt 72 v))] fl s
    let wrap := fun (v : Int) => put v { ovf := outside 72 v }
    let ll := half false a * half false b
    let hh := half true a * half true b
    ready c 1 g [s1.toNat, s2.toNat] s = true → d.toNat ≤ 7 →
      exec (.mac c u d s1 s2 g) s = .next (wrap (acc + a.toInt * b.toInt)) ∧
      exec (.macu c u d s1 s2 g) s = .next (wrap (acc + (a.toNat : Int) * (b.toNat : Int))) ∧
      exec (.msu c u d s1 s2 g) s = .next (wrap (acc - a.toInt * b.toInt)) ∧
      exec (.macs c u d s1 s2 g) s =
        .next (put (limit 64 (acc + a.toInt * b.toInt)) { sat := outside 64 (acc + a.toInt * b.toInt) }) ∧
      exec (.mac2h c u d s1 s2 g) s = .next (wrap (acc + ll + hh)) ∧
      exec (.msu2h c u d s1 s2 g) s = .next (wrap (acc - ll - hh)) ∧
      exec (.mac2hq c u d s1 s2 g) s =
        .next (put (acc + limit 32 (2 * ll) + limit 32 (2 * hh))
          { ovf := outside 72 (acc + limit 32 (2 * ll) + limit 32 (2 * hh)), sat := outside 32 (2 * ll) || outside 32 (2 * hh) })) ∧
  (∀ (c : Fin 4) (u : MUnit) (d s1 sh : BitVec 6) (g : Guard) (s : State),
    let x := seen c s
    let acc := x.ra s1.toNat
    let n := sh.toNat
    let e := (acc.toInt + (if n = 0 then 0 else 2 ^ (n - 1))) / 2 ^ n
    (ready c 1 g [] s = true → d.toNat ≤ 7 → exec (.clr c u d g) s = .next (issued c 1 [(3, .acc d.toNat 0)] {} s)) ∧
    (ready c 1 g [s1.toNat] s = true → d.toNat ≤ 7 →
      exec (.accw c u d s1 g) s = .next (issued c 1 [(3, .acc d.toNat (BitVec.ofInt 72 (x.rw s1.toNat).toInt))] {} s)) ∧
    (ready c 1 g (pairRegs s1) s = true → d.toNat ≤ 7 →
      exec (.accp c u d s1 g) s =
        .next (issued c 1 [(3, .acc d.toNat (BitVec.ofInt 72 (BitVec.ofNat 64 (x.rpair s1)).toInt))] {} s)) ∧
    (ready c 1 g [] s = true → s1.toNat ≤ 7 →
      exec (.extr c u d s1 sh g) s = .next (issued c 1 [(3, .w d.toNat (iw (limit 32 e)) false)] { sat := outside 32 e } s) ∧
      exec (.extl c u d s1 g) s = .next (issued c 1 [(3, .w d.toNat (w32 acc.toNat) false)] {} s) ∧
      exec (.exth c u d s1 g) s = .next (issued c 1 [(3, .w d.toNat (w32 (acc.toNat / 2 ^ 32)) false)] {} s) ∧
      exec (.extg c u d s1 g) s = .next (issued c 1 [(3, .w d.toNat (iw (acc.toInt / 2 ^ 64)) false)] {} s)))

/-- R126 to R128: the divides, their results at the edges, and the cycle their result lands. -/
def Obligations.DividesRunForTheirCycles : Prop :=
  ∀ (c : Fin 4) (d s1 s2 : BitVec 6) (g : Guard) (s : State),
    let x := seen c s
    let a := x.rw s1.toNat
    let b := x.rw s2.toNat
    let ct := (s.row (curOf c s)).constTime
    let q := if b = 0 then (if a.toInt < 0 then 0x80000000 else 0x7FFFFFFF) else iw (a.toInt.tdiv b.toInt)
    let r := if b = 0 then a else iw (a.toInt.tmod b.toInt)
    let qu := if b = 0 then 0xFFFFFFFF else w32 (a.toNat / b.toNat)
    let ru := if b = 0 then a else w32 (a.toNat % b.toNat)
    let fs : Sticky := { divz := decide (b = 0), ovf := decide (a = 0x80000000) && decide (b = 0xFFFFFFFF) }
    let fu : Sticky := { divz := decide (b = 0) }
    let ts := divideTime ct a.toInt.natAbs b.toInt.natAbs
    let tu := divideTime ct a.toNat b.toNat
    ready c 1 g [s1.toNat, s2.toNat] s = true → (x.flags.getLsbD 19 = false ∨ b ≠ 0) →
      exec (.divs c .m1 d s1 s2 g) s = .next (divided c [(d.toNat, q)] ts fs s) ∧
      exec (.rems c .m1 d s1 s2 g) s = .next (divided c [(d.toNat, r)] ts fs s) ∧
      exec (.divps c .m1 d s1 s2 g) s = .next (divided c [(pairLow d, q), (pairLow d + 1, r)] ts fs s) ∧
      exec (.divu c .m1 d s1 s2 g) s = .next (divided c [(d.toNat, qu)] tu fu s) ∧
      exec (.remu c .m1 d s1 s2 g) s = .next (divided c [(d.toNat, ru)] tu fu s) ∧
      exec (.divpu c .m1 d s1 s2 g) s = .next (divided c [(pairLow d, qu), (pairLow d + 1, ru)] tu fu s)

/-- R129 to R137, R140: the binary32 syllables that compute a value write what the format's operation gives under FLAGS.RM and
FLAGS.FTZ, with its latency and its sticky flags; a trap-class exception in IMPRECISE mode sets FP-pending.
R133: FABS.S and FNEG.S change bit 31 alone; the conversions from and to 32-bit integers, the compares, and their flags.
R133: a NaN or a value that rounds above the range converts to the greatest integer, one that rounds below to the least; NV is
raised for just these, and a value in range differs from its operand by less than 1. -/
def Obligations.SingleSyllablesCompute : Prop :=
  (∀ (c : Fin 4) (u : MUnit) (d s1 s2 : BitVec 6) (g : Guard) (s : State),
    let x := seen c s
    let rm := flagsRm x.flags
    let z := flagsFtz x.flags
    let a := (x.rw s1.toNat).toNat
    let b := (x.rw s2.toNat).toNat
    let e := (x.rw d.toNat).toNat
    let gives := fun (i : Instr) (lat : Nat) (r : Nat × Sticky) =>
      fpGoes c r.2 s = true → exec i s = .next (issued c 1 [(lat, .w d.toNat (w32 r.1) false)] r.2 s)
    (ready c 1 g [s1.toNat, s2.toNat] s = true →
      gives (.faddS c u d s1 s2 g) 4 (fAdd f32 rm z a b) ∧
      gives (.fsubS c u d s1 s2 g) 4 (fSub f32 rm z a b) ∧
      gives (.fmulS c u d s1 s2 g) 4 (fMul f32 rm z a b) ∧
      gives (.fminS c u d s1 s2 g) 4 (fMinMax f32 z false a b) ∧
      gives (.fmaxS c u d s1 s2 g) 4 (fMinMax f32 z true a b) ∧
      gives (.fdivS c .m1 d s1 s2 g) 12 (fDiv f32 rm z a b)) ∧
    (ready c 1 g [s1.toNat, s2.toNat, d.toNat] s = true →
      gives (.fmaS c u d s1 s2 g) 4 (fFma f32 rm z false false a b e) ∧
      gives (.fmsS c u d s1 s2 g) 4 (fFma f32 rm z false true a b e) ∧
      gives (.fnmaS c u d s1 s2 g) 4 (fFma f32 rm z true false a b e)) ∧
    (ready c 1 g [s1.toNat] s = true →
      gives (.fsqrtS c .m1 d s1 g) 14 (fSqrt f32 rm z a) ∧
      gives (.frintS c u d s1 g) 4 (fRint f32 rm z a)) ∧
    (ready c 1 g (pairRegs s1) s = true → gives (.fcvtSD c u d s1 g) 4 (fNarrow rm z (x.rpair s1)))) ∧
  (∀ (c : Fin 4) (u : MUnit) (d s1 s2 : BitVec 6) (g : Guard) (s : State),
    let x := seen c s
    let rm := flagsRm x.flags
    let z := flagsFtz x.flags
    let w := x.rw s1.toNat
    let a := w.toNat
    let b := (x.rw s2.toNat).toNat
    let ri := fToInt f32 rm z (-(2 ^ 31)) (2 ^ 31 - 1) a
    let ru := fToInt f32 rm z 0 (2 ^ 32 - 1) a
    let fi := fFromInt f32 rm w.toInt
    let fu := fFromInt f32 rm (a : Int)
    let sn := fun v => decide (v / 2 ^ 23 % 2 ^ 8 = 255) && decide (v % 2 ^ 23 ≠ 0) && decide (v / 2 ^ 22 % 2 = 0)
    let nan := fun v => decide (v / 2 ^ 23 % 2 ^ 8 = 255) && decide (v % 2 ^ 23 ≠ 0)
    let sig : Sticky := { nv := sn a || sn b }
    let any : Sticky := { nv := nan a || nan b }
    (ready c 1 g [s1.toNat] s = true →
      (∃ v : Word, (∀ i < 31, v.getLsbD i = w.getLsbD i) ∧ v.getLsbD 31 = false ∧
        exec (.fabsS c u d s1 g) s = .next (issued c 1 [(4, .w d.toNat v false)] {} s)) ∧
      (∃ v : Word, (∀ i < 31, v.getLsbD i = w.getLsbD i) ∧ v.getLsbD 31 = !w.getLsbD 31 ∧
        exec (.fnegS c u d s1 g) s = .next (issued c 1 [(4, .w d.toNat v false)] {} s)) ∧
      exec (.fcvtSW c u d s1 g) s = .next (issued c 1 [(4, .w d.toNat (w32 fi.1) false)] fi.2 s) ∧
      exec (.fcvtSWu c u d s1 g) s = .next (issued c 1 [(4, .w d.toNat (w32 fu.1) false)] fu.2 s) ∧
      (fpGoes c ri.2 s = true → exec (.fcvtWS c u d s1 g) s = .next (issued c 1 [(4, .w d.toNat (iw ri.1) false)] ri.2 s)) ∧
      (fpGoes c ru.2 s = true → exec (.fcvtWuS c u d s1 g) s = .next (issued c 1 [(4, .w d.toNat (iw ru.1) false)] ru.2 s))) ∧
    (ready c 1 g [s1.toNat, s2.toNat] s = true → d.toNat ≤ 7 →
      (fpGoes c sig s = true →
        exec (.fcmpunS c u d s1 s2 g) s = .next (issued c 1 [(1, .p d.toNat (nan a || nan b))] sig s) ∧
        (∃ e : Bool, (nan a || nan b → e = false) ∧ (a = b ∧ nan a = false → e = true) ∧
          exec (.fcmpeqS c u d s1 s2 g) s = .next (issued c 1 [(1, .p d.toNat e)] sig s))) ∧
      (fpGoes c any s = true →
        (∃ e : Bool, (nan a || nan b → e = false) ∧ (a = b → e = false) ∧
          exec (.fcmpltS c u d s1 s2 g) s = .next (issued c 1 [(1, .p d.toNat e)] any s)) ∧
        (∃ e : Bool, (nan a || nan b → e = false) ∧ (a = b ∧ nan a = false → e = true) ∧
          exec (.fcmpleS c u d s1 s2 g) s = .next (issued c 1 [(1, .p d.toNat e)] any s))))) ∧
  (∀ (rm : Rm) (z : Bool) (lo hi : Int) (a : Nat), lo ≤ hi →
    let r := fToInt f32 rm z lo hi a
    lo ≤ r.1 ∧ r.1 ≤ hi ∧
    match unpack f32 z a with
    | .nan _ _ _ => r = (hi, { nv := true })
    | .inf n => r = (if n then lo else hi, { nv := true })
    | .fin n m e => r.2.nv = false →
        |((if n then -(m : ℚ) else m) * (2 : ℚ) ^ e - (r.1 : ℚ))| < 1 ∧
          (r.2.nx = false ↔ (if n then -(m : ℚ) else m) * (2 : ℚ) ^ e = (r.1 : ℚ)))

/-- R129 to R137, R140: the binary64 syllables, on register pairs, low word first.
R134: an addition, subtraction, product or quotient with a NaN operand gives the first NaN made quiet, and NV where an operand
is a signalling NaN; no other flag. -/
def Obligations.DoubleSyllablesCompute : Prop :=
  (∀ (c : Fin 4) (u : MUnit) (d s1 s2 : BitVec 6) (g : Guard) (s : State),
    let x := seen c s
    let rm := flagsRm x.flags
    let z := flagsFtz x.flags
    let a := x.rpair s1
    let b := x.rpair s2
    let gives := fun (i : Instr) (lat : Nat) (r : Nat × Sticky) =>
      fpGoes c r.2 s = true → exec i s = .next (issued c 1 (pairOut lat d r.1) r.2 s)
    (ready c 1 g (pairRegs s1 ++ pairRegs s2) s = true →
      gives (.faddD c u d s1 s2 g) 6 (fAdd f64 rm z a b) ∧
      gives (.fsubD c u d s1 s2 g) 6 (fSub f64 rm z a b) ∧
      gives (.fmulD c u d s1 s2 g) 6 (fMul f64 rm z a b) ∧
      gives (.fdivD c .m1 d s1 s2 g) 22 (fDiv f64 rm z a b)) ∧
    (ready c 1 g (pairRegs s1 ++ pairRegs s2 ++ pairRegs d) s = true →
      gives (.fmaD c u d s1 s2 g) 6 (fFma f64 rm z false false a b (x.rpair d))) ∧
    (ready c 1 g (pairRegs s1) s = true → gives (.fsqrtD c .m1 d s1 g) 26 (fSqrt f64 rm z a)) ∧
    (ready c 1 g [s1.toNat] s = true → gives (.fcvtDS c u d s1 g) 6 (fWiden z (x.rw s1.toNat).toNat)) ∧
    (ready c 1 g [] s = true → exec (.fbar c u g) s = .next (issued c 1 [] {} s))) ∧
  (∀ (rm : Rm) (z : Bool) (a b : Nat), a < 2 ^ 32 → b < 2 ^ 32 →
    let nan := fun v => decide (v / 2 ^ 23 % 2 ^ 8 = 255) && decide (v % 2 ^ 23 ≠ 0)
    let sn := fun v => nan v && decide (v / 2 ^ 22 % 2 = 0)
    let q := (if nan a then a else b) ||| 0x00400000
    let fl : Sticky := { nv := sn a || sn b }
    (nan a || nan b) = true →
      fAdd f32 rm z a b = (q, fl) ∧ fSub f32 rm z a b = (q, fl) ∧ fMul f32 rm z a b = (q, fl) ∧ fDiv f32 rm z a b = (q, fl) ∧
      fMinMax f32 z false a b = (q, fl) ∧ fMinMax f32 z true a b = (q, fl))

/-- R102, R98: a load from own local memory, in every addressing mode, puts its value in flight with latency 3 and its address
update with latency 1; nothing else of the device changes.
R74, R75, R78, R103: a dismissible load to own memory is an ordinary read; one that is not issued writes a poisoned 0 and
records address and cause, the first of poisoned index, misaligned, DEVICE and not owned, and takes no fault. -/
def Obligations.LocalLoadsReadOrPoison : Prop :=
  (∀ (c : Fin 4) (u : LUnit) (k : LdKind) (m : AMode) (im : Imm) (d s1 : BitVec 6) (g : Guard) (s : State),
    let x := seen c s
    let q := modeAddr x m s1 k.size
    let r := brevAddr x im s1 k.size
    let n := src2Len (modeSrc m)
    let l := src2Len (.imm im)
    let at_ := fun (a : Word) => (s.core c).localRead a.toNat k.size
    s1.toNat ≤ 16 →
    (ready c n g (src2Regs (modeSrc m)) s = true → src2Ok false (modeSrc m) = true → localOk c q.1.toNat k.size s = true →
      exec (ldCmd k c u m d s1 g) s = .next (issued c n (q.2 ++ loaded k 3 d (at_ q.1)) {} s)) ∧
    (ready c l g [] s = true → src2Ok false (.imm im) = true → localOk c r.1.toNat k.size s = true →
      (k = .h → exec (.ldbrH c u im d s1 g) s = .next (issued c l (r.2 ++ loaded k 3 d (at_ r.1)) {} s)) ∧
      (k = .w → exec (.ldbrW c u im d s1 g) s = .next (issued c l (r.2 ++ loaded k 3 d (at_ r.1)) {} s)) ∧
      (k = .wp → exec (.ldbrWp c u im d s1 g) s = .next (issued c l (r.2 ++ loaded k 3 d (at_ r.1)) {} s)))) ∧
  (∀ (c : Fin 4) (u : LUnit) (k : LdKind) (m : DMode) (d s1 : BitVec 6) (g : Guard) (s : State),
    let x := seen c s
    let w := src2Word false x (dmodeSrc m)
    let a := x.rx s1.toNat + (match m with | .off _ => w | .idx _ => w * w32 k.size)
    let n := src2Len (dmodeSrc m)
    let bad := match m with | .off _ => false | .idx r => x.poisoned r.toNat
    let cause :=
      if bad then 5 else if a.toNat % k.size ≠ 0 then 3 else if inDevice a.toNat then 2
      else if s.mayRead c (curOf c s) a.toNat k.size = false then 1 else 0
    ready c n g [] s = true → src2Ok false (dmodeSrc m) = true → s1.toNat ≤ 16 →
      (cause ≠ 0 →
        exec (lddCmd k c u m d s1 g) s = .next (setCtx c (curOf c s) (fun _ =>
          { nextCtx x n (poisoned k d) {} with deferAddr := a, deferCause := w32 cause }) s)) ∧
      (cause = 0 → localOk c a.toNat k.size s = true →
        exec (lddCmd k c u m d s1 g) s =
          .next (issued c n (loaded k 3 d ((s.core c).localRead a.toNat k.size)) {} s)) ∧
      (cause = 0 → sharedOk c a.toNat k.size false s = true →
        exec (lddCmd k c u m d s1 g) s = .next (loadSent c k d a.toNat true (issued c n [] {} s))))

/-- R73, R102, R174: a load that is not local becomes outstanding; the sentence issues, its address update goes in flight.
R165, R166: a store to an own page or register enters the store buffer; no memory changes yet. -/
def Obligations.SharedAccessesLeaveTheSentence : Prop :=
  (∀ (c : Fin 4) (u : LUnit) (k : LdKind) (m : AMode) (im : Imm) (d s1 : BitVec 6) (g : Guard) (s : State),
    let x := seen c s
    let q := modeAddr x m s1 k.size
    let r := brevAddr x im s1 k.size
    let n := src2Len (modeSrc m)
    let l := src2Len (.imm im)
    let out := fun (a : Word) (t : State) => loadSent c k d a.toNat false t
    s1.toNat ≤ 16 →
    (ready c n g (src2Regs (modeSrc m)) s = true → src2Ok false (modeSrc m) = true → sharedOk c q.1.toNat k.size false s = true →
      exec (ldCmd k c u m d s1 g) s = .next (out q.1 (issued c n q.2 {} s))) ∧
    (ready c l g [] s = true → src2Ok false (.imm im) = true → sharedOk c r.1.toNat k.size false s = true →
      (k = .h → exec (.ldbrH c u im d s1 g) s = .next (out r.1 (issued c l r.2 {} s))) ∧
      (k = .w → exec (.ldbrW c u im d s1 g) s = .next (out r.1 (issued c l r.2 {} s))) ∧
      (k = .wp → exec (.ldbrWp c u im d s1 g) s = .next (out r.1 (issued c l r.2 {} s))))) ∧
  (∀ (c : Fin 4) (u : LUnit) (k : StKind) (m : AMode) (im : Imm) (d s1 : BitVec 6) (g : Guard) (s : State),
    let x := seen c s
    let q := modeAddr x m s1 k.size
    let r := brevAddr x im s1 k.size
    let n := src2Len (modeSrc m)
    let l := src2Len (.imm im)
    let wr := fun (a : Word) (t : State) => storeSent c a.toNat (stored k x d) t
    s1.toNat ≤ 16 →
    (ready c n g (src2Regs (modeSrc m) ++ dataRegs k d) s = true → src2Ok false (modeSrc m) = true →
      sharedOk c q.1.toNat k.size true s = true →
      exec (stCmd k c u m d s1 g) s = .next (wr q.1 (issued c n q.2 {} s))) ∧
    (ready c l g (dataRegs k d) s = true → src2Ok false (.imm im) = true → sharedOk c r.1.toNat k.size true s = true →
      (k = .h → exec (.stbrH c u im d s1 g) s = .next (wr r.1 (issued c l r.2 {} s))) ∧
      (k = .w → exec (.stbrW c u im d s1 g) s = .next (wr r.1 (issued c l r.2 {} s))) ∧
      (k = .wp → exec (.stbrWp c u im d s1 g) s = .next (wr r.1 (issued c l r.2 {} s)))))

/-- R102, R98: a store to an own local bank writes its bytes, lowest first, at once; its address update goes in flight; no other
byte of any memory changes.
R104, R490: a byte stored to local data memory reads back at its address, and every other byte of every core's data memory
reads as before. -/
def Obligations.LocalStoresWriteAndReadBack : Prop :=
  (∀ (c : Fin 4) (u : LUnit) (k : StKind) (m : AMode) (im : Imm) (d s1 : BitVec 6) (g : Guard) (s : State),
    let x := seen c s
    let q := modeAddr x m s1 k.size
    let r := brevAddr x im s1 k.size
    let n := src2Len (modeSrc m)
    let l := src2Len (.imm im)
    let wr := fun (a : Word) (t : State) => dmemWrite c a.toNat (stored k x d) t
    s1.toNat ≤ 16 →
    (ready c n g (src2Regs (modeSrc m) ++ dataRegs k d) s = true → src2Ok false (modeSrc m) = true →
      storeOk c q.1.toNat k.size s = true →
      exec (stCmd k c u m d s1 g) s = .next (wr q.1 (issued c n q.2 {} s))) ∧
    (ready c l g (dataRegs k d) s = true → src2Ok false (.imm im) = true → storeOk c r.1.toNat k.size s = true →
      (k = .h → exec (.stbrH c u im d s1 g) s = .next (wr r.1 (issued c l r.2 {} s))) ∧
      (k = .w → exec (.stbrW c u im d s1 g) s = .next (wr r.1 (issued c l r.2 {} s))) ∧
      (k = .wp → exec (.stbrWp c u im d s1 g) s = .next (wr r.1 (issued c l r.2 {} s))))) ∧
  (∀ (c : Nat) (a b : Nat) (bs : Bytes) (s : State), c < 4 → Memory.wf 0 (s.core c).dmem = true →
    let t := dmemWrite c a bs s
    (∀ i (h : i < bs.length), cellGet 0 (t.core c).dmem (a + i) = bs[i]) ∧
    (b < a ∨ a + bs.length ≤ b → cellGet 0 (t.core c).dmem b = cellGet 0 (s.core c).dmem b) ∧
    (∀ e, e ≠ c → (t.core e).dmem = (s.core e).dmem) ∧ t.mem = s.mem ∧ Memory.wf 0 (t.core c).dmem = true)

/-- R105: the address-register syllables, without modulo, with latency 1.
R99, R100: the modulo update lands in the buffer whatever the pointer and the step; without modulo it is a plain addition; the
bit-reversed update of a buffer of 2^b elements lands on an element. -/
def Obligations.AddressSyllablesAndUpdates : Prop :=
  (∀ (c : Fin 4) (u : LUnit) (im : Imm) (d s1 s2 : BitVec 6) (g : Guard) (s : State),
    let x := seen c s
    let n := src2Len (.imm im)
    (ready c n g [] s = true → src2Ok false (.imm im) = true → d.toNat ≤ 16 → s1.toNat ≤ 16 →
      exec (.addx c u im d s1 g) s =
        .next (issued c n [(1, .x d.toNat (x.rx s1.toNat + src2Word false x (.imm im)))] {} s)) ∧
    (ready c 1 g [s2.toNat] s = true → d.toNat ≤ 16 → s1.toNat ≤ 16 →
      exec (.addxr c u d s1 s2 g) s = .next (issued c 1 [(1, .x d.toNat (x.rx s1.toNat + x.rw s2.toNat))] {} s)) ∧
    (ready c 1 g [s1.toNat] s = true → d.toNat ≤ 16 →
      exec (.movx c u d s1 g) s = .next (issued c 1 [(1, .x d.toNat (x.rw s1.toNat))] {} s)) ∧
    (ready c 1 g [] s = true → s1.toNat ≤ 16 →
      exec (.mfx c u d s1 g) s = .next (issued c 1 [(1, .w d.toNat (x.rx s1.toNat) false)] {} s))) ∧
  (∀ (x : Ctx) (n : Nat) (k : Word) (m : Int) (sz : Nat),
    let base := vget x.mbase n
    let len := (vget x.mlen n).toNat
    (7 < n ∨ len = 0 → upd x n m = x.rx n + iw m) ∧
    (n ≤ 7 → len ≠ 0 → ∃ j < len, upd x n m = base + w32 j ∧
      (j : Int) % len = (((x.rx n).toNat : Int) - base.toNat + m) % len) ∧
    (7 < n ∨ len < 2 * sz → brupd x n k sz = x.rx n + k) ∧
    (n ≤ 7 → 0 < sz → 2 * sz ≤ len → ∃ i < 2 ^ Nat.log2 (len / sz), brupd x n k sz = base + w32 (i * sz)))

/-- R83, R85, R93, R113: a taken flow syllable sets the target and leaves two delay sentences to run; a call pushes the address of
the sentence after them, a return pops, both on the ring of 16.
R88, R90, R115: LOOP with a count activates a level whose body starts at the next sentence; with count 0 it skips the body and
costs two cycles; LPOP removes the innermost level.
R83, R89, R90: where the next sentence is: after a delay sentence the next one or the target; at the LE of the innermost level
its LS while LC is above 1, and past it with the level removed at LC 1; otherwise the sentence that follows. -/
def Obligations.FlowAndLoopsSteerTheCore : Prop :=
  (∀ (c : Fin 4) (im : Imm) (s1 : BitVec 6) (g : Guard) (s : State),
    let x := seen c s
    let n := src2Len (.imm im)
    let near := x.pc + src2Word false x (.imm im) * 4
    let far := x.rw s1.toNat &&& 0xFFFFFFFC
    let go := fun (l : Nat) (k : BrKind) (t : Word) (f : Ctx → Ctx) =>
      setCtx c (curOf c s) (fun _ => f { nextCtx x l [] {} with br := some { target := t, left := 2, kind := k } }) s
    let link := fun (l : Nat) => w32 (afterSentence (s.core c) (afterSentence (s.core c) (x.pc + w32 (4 * l)).toNat))
    let top := (x.rsp + 1) % 16
    let push := fun (l : Nat) (y : Ctx) => { y with rs := vset y.rs top (link l), rsp := top, rsdepth := min 16 (x.rsdepth + 1) }
    let wrap := (s.row (curOf c s)).rsMode
    (ready c n g [] s = true → src2Ok false (.imm im) = true →
      exec (.br c im g) s = .next (go n .flow near id) ∧
      (x.rsdepth < 16 ∨ wrap = 0 → exec (.call c im g) s = .next (go n .flow near (push n)))) ∧
    (ready c 1 g [s1.toNat] s = true →
      exec (.brr c s1 g) s = .next (go 1 .flow far id) ∧
      (x.rsdepth < 16 ∨ wrap = 0 → exec (.callr c s1 g) s = .next (go 1 .flow far (push 1)))) ∧
    (ready c 1 g [] s = true →
      exec (.reti c g) s = .next (go 1 .reti 0 id) ∧
      (0 < x.rsdepth ∨ wrap = 0 →
        exec (.ret c g) s = .next (go 1 .flow (vget x.rs x.rsp)
          (fun y => { y with rsp := (x.rsp + 15) % 16, rsdepth := x.rsdepth - 1 }))))) ∧
  (∀ (c : Fin 4) (im : Imm) (s1 : BitVec 6) (g : Guard) (s : State),
    let x := seen c s
    let n := src2Len (.imm im)
    let v := src2Word false x (.imm im)
    let y := nextCtx x n [] {}
    let le := y.pc + v * 4
    let cnt := x.rw s1.toNat
    (ready c n g [s1.toNat] s = true → src2Ok false (.imm im) = true → v.getLsbD 31 = false → x.ldepth < 3 →
      (cnt ≠ 0 → exec (.loop c s1 im g) s = .next (setCtx c (curOf c s) (fun _ =>
        { y with ls := vset x.ls x.ldepth y.pc, le := vset x.le x.ldepth le, lc := vset x.lc x.ldepth cnt,
                 ldepth := x.ldepth + 1 }) s)) ∧
      (cnt = 0 → exec (.loop c s1 im g) s = .next (setCtx c (curOf c s) (fun _ =>
        { y with cycles := x.cycles + 3, pc := w32 (afterSentence (s.core c) le.toNat) }) s))) ∧
    (ready c 1 g [] s = true → (x.ldepth ≤ 1 ∨ vget x.le (x.ldepth - 2) ≠ x.pc) →
      exec (.lpop c g) s = .next (setCtx c (curOf c s) (fun _ => { nextCtx x 1 [] {} with ldepth := x.ldepth - 1 }) s))) ∧
  (∀ (next : Word) (x : Ctx),
    (∀ b, x.br = some b → b.left = 2 → advance next x = { x with pc := next, br := some { b with left := 1 } }) ∧
    (∀ b, x.br = some b → b.left = 1 → b.kind = .flow → advance next x = { x with pc := b.target, br := none }) ∧
    (x.br = none → x.ldepth = 0 → advance next x = { x with pc := next }) ∧
    (x.br = none → 0 < x.ldepth → vget x.le (x.ldepth - 1) ≠ x.pc → advance next x = { x with pc := next }) ∧
    (x.br = none → 0 < x.ldepth → vget x.le (x.ldepth - 1) = x.pc → 1 < (vget x.lc (x.ldepth - 1)).toNat →
      advance next x = { x with pc := vget x.ls (x.ldepth - 1),
                                lc := vset x.lc (x.ldepth - 1) (vget x.lc (x.ldepth - 1) - 1) }) ∧
    (x.br = none → x.ldepth = 1 → vget x.le 0 = x.pc → (vget x.lc 0).toNat ≤ 1 →
      advance next x = { x with pc := next, ldepth := 0 }))

/-- R62, R121: MFC reads a listed control register with latency 1; MTC writes one that is RW and takes a PRIV fault for one that is
RO, with its number in EINFO.
R62: what the control registers read and what a write leaves, number by number; FLAGS, VEC and MBASE drop reserved bits. -/
def Obligations.ControlRegisterSyllables : Prop :=
  (∀ (c : Fin 4) (d s1 : BitVec 6) (g : Guard) (s : State),
    let x := seen c s
    let modes := (s.row (curOf c s)).modes
    (ready c 1 g [] s = true → ctlListed s1.toNat = true →
      exec (.mfc c d s1 g) s = .next (issued c 1 [(1, .w d.toNat (readCtl x modes s1.toNat) false)] {} s)) ∧
    (ready c 1 g [s1.toNat] s = true → ctlListed d.toNat = true → ctlReadOnly d.toNat = false →
      exec (.mtc c d s1 g) s =
        .next (setCtx c (curOf c s) (fun _ => writeCtl (nextCtx x 1 [] {}) d.toNat (x.rw s1.toNat)) s)) ∧
    (ready c 1 g [] s = true → mayFault c s = true → ctlListed d.toNat = true → ctlReadOnly d.toNat = true →
      exec (.mtc c d s1 g) s = .next (faulted c 3 (w32 d.toNat) s))) ∧
  (∀ (x : Ctx) (m : Nat) (v : Word) (i : Nat),
    readCtl x m 0x00 = x.pc ∧ readCtl x m 0x01 = x.flags ∧ readCtl x m 0x02 = w32 m ∧ readCtl x m 0x03 = x.vec ∧
    readCtl x m 0x04 = x.epc ∧ readCtl x m 0x05 = x.ecause ∧ readCtl x m 0x06 = x.einfo ∧ readCtl x m 0x07 = x.ebt ∧
    readCtl x m 0x08 = w32 (bitN x.estat) ∧ readCtl x m 0x09 = w32 (bitN x.ie) ∧ readCtl x m 0x0A = x.deferAddr ∧
    readCtl x m 0x0B = x.deferCause ∧ readCtl x m 0x0C = x.codeBase ∧ readCtl x m 0x0D = x.codeLimit ∧
    readCtl x m 0x0E = x.spillBase ∧ readCtl x m 0x0F = w32 x.spillCount ∧ readCtl x m 0x19 = w32 x.ldepth ∧
    readCtl x m 0x23 = w32 x.eldepth ∧ readCtl x m 0x24 = w32 x.rsdepth ∧ readCtl x m 0x3C = w32 x.cycles ∧
    readCtl x m 0x3D = w32 x.sentences ∧ readCtl x m 0x3E = w32 x.shmiss ∧ readCtl x m 0x3F = w32 x.stalls ∧
    (i < 3 → readCtl x m (0x10 + 3 * i) = vget x.ls i ∧ readCtl x m (0x11 + 3 * i) = vget x.le i ∧
      readCtl x m (0x12 + 3 * i) = vget x.lc i) ∧
    (i < 9 → readCtl x m (0x1A + i) = vget x.els i ∧ (writeCtl x (0x1A + i) v).els = vset x.els i v) ∧
    (i < 8 → readCtl x m (0x28 + i) = vget x.mbase i ∧ readCtl x m (0x30 + i) = vget x.mlen i ∧
      (writeCtl x (0x28 + i) v).mbase = vset x.mbase i (v &&& 0xFFFFFFFC) ∧ (writeCtl x (0x30 + i) v).mlen = vset x.mlen i v) ∧
    (writeCtl x 0x01 v).flags = v &&& 0x000F1F07 ∧ (writeCtl x 0x03 v).vec = v &&& 0xFFFFFFC0 ∧
    (writeCtl x 0x04 v).epc = v ∧ (writeCtl x 0x07 v).ebt = v ∧ (writeCtl x 0x08 v).estat = v.getLsbD 0 ∧
    (writeCtl x 0x09 v).ie = v.getLsbD 0)

/-- R116 to R118: WAIT with a delivery pending lets execution go on, and otherwise stops issue where nothing new is delivered and
no other person can run; FENCE.SL marks the stores buffered before it; PUBLISH sends the pair's 64 bits to its slot behind the
buffered stores, and outside the charter range takes a CUSTODY fault with the slot's window address. -/
def Obligations.WaitFenceAndPublish : Prop :=
  ∀ (c : Fin 4) (s1 s2 : BitVec 6) (g : Guard) (s : State),
    let x := seen c s
    let p := curOf c s
    let t := issued c 1 [] {} s
    let stamp := (s.core c).stamp
    let n := (x.rw s2.toNat).toNat % 128
    let w := setCtx c p (fun _ => { nextCtx x 1 [] {} with waiting := true }) s
    let q : StTxn := { core := c, person := p, stamp := stamp, what := .slot n (BitVec.ofNat 64 (x.rpair s1)) }
    (ready c 1 g [] s = true → (s.core c).sb = [] →
      (vget (s.core c).cand p ≠ 0 → exec (.wait c g) s = .next t) ∧
      (vget (s.core c).cand p = 0 → cicUpdate w = w → nextRunnable w c = none → exec (.wait c g) s = .next w) ∧
      exec (.fenceSl c g) s = .next (setCore c (fun k => { k with fence := stamp }) t)) ∧
    (ready c 1 g (pairRegs s1 ++ [s2.toNat]) s = true →
      (slotOwned (s.row p) n = true → (s.core c).sb = [] → vget s.gates.closed (pairOf c) = false →
        (vget s.gates.pairF (pairOf c)).length < 8 → loadBefore (s.core c) stamp = false →
        exec (.publish c s1 s2 g) s = .next { setCore c (fun k => { k with stamp := stamp + 1 }) t with
          gates := { s.gates with pairF := vset s.gates.pairF (pairOf c) (vget s.gates.pairF (pairOf c) ++ [q]) } }) ∧
      (mayFault c s = true → slotOwned (s.row p) n = false →
        exec (.publish c s1 s2 g) s = .next (faulted c 9 (w32 (4 * n)) s)))

/-- R148 to R152: CLAIM, GIVE and FREE of a page: who owns it afterwards, the status in wd, what is queued for zeroing, and the
counters; the page's bytes and every other page's owner are as before.
R149, R150: a FREE or GIVE of a page another party owns takes a CUSTODY fault with the address, is counted, and leaves the page
its owner and its bytes; an address that names no object gives status 6. R37: each takes the next arrival number. -/
def Obligations.CustodySyllablesMovePages : Prop :=
  (∀ (c : Fin 4) (d s1 s2 : BitVec 6) (g : Guard) (s : State),
    let x := seen c s
    let p := curOf c s
    let a := (x.rw s1.toNat).toNat
    let n := (a - 0x10000000) / 4096
    let q := (x.rw s2.toNat).toNat
    let own := s.pageOwner n
    let me := ownerCode p
    let ends := fun (i : Instr) (st : Nat) (o : BitVec 4) (queued : Bool) (frees : Nat) =>
      ∃ t, exec i s = .next t ∧ t.ctx c p = nextCtx x 1 [(1, .w d.toNat (w32 st) false)] {} ∧ t.pageOwner n = o ∧
        t.cus.page = vset s.cus.page n o ∧ t.mem = s.mem ∧ t.cus.bank = s.cus.bank ∧ t.isl.arrival = s.isl.arrival + 1 ∧
        t.cus.pageZero = (if queued then s.cus.pageZero ++ [n] else s.cus.pageZero) ∧
        t.cus.doubleFree = min (s.cus.doubleFree + frees) 0xFFFF ∧ t.cus.foreignFree = s.cus.foreignFree
    ready c 1 g [s1.toNat, s2.toNat] s = true → 0x10000000 ≤ a → a < 0x10400000 →
    (s.core c).sb = [] → ownInFlight s c = [] → s.cus.pageZero.length < 16 → s.cus.pageZero.contains n = false →
    s.cus.doubleFree ≤ 0xFFFF →
      (own = me → ends (.claim c d s1 g) 2 own false 0) ∧
      (own ≠ me → own ≠ 0xF → ends (.claim c d s1 g) 3 own false 0) ∧
      (own = 0xF → (s.row p).pageQuota < s.pagesHeld p + 1 → ends (.claim c d s1 g) 4 own false 0) ∧
      (own = 0xF → s.pagesHeld p + 1 ≤ (s.row p).pageQuota → ends (.claim c d s1 g) 0 me false 0) ∧
      (own = 0xF → ends (.free c d s1 g) 1 own false 1) ∧
      (own = me → ends (.free c d s1 g) 0 0xF true 0) ∧
      (own = me → q = p → ends (.give c d s1 s2 g) 2 own false 0) ∧
      (own = me → q ≠ p → (q = 0 ∨ 6 < q ∨ s.present q = false ∨ (s.person q).run = .dead) →
        ends (.give c d s1 s2 g) 5 own false 0) ∧
      (own = me → q ≠ p → 1 ≤ q → q ≤ 6 → s.present q = true → (s.person q).run ≠ .dead →
        ((s.row q).pageQuota < s.pagesHeld q + 1 → ends (.give c d s1 s2 g) 4 own false 0) ∧
        (s.pagesHeld q + 1 ≤ (s.row q).pageQuota → ends (.give c d s1 s2 g) 0 (ownerCode q) true 0))) ∧
  (∀ (c : Fin 4) (d s1 s2 : BitVec 6) (g : Guard) (s : State),
    let x := seen c s
    let p := curOf c s
    let a := (x.rw s1.toNat).toNat
    let n := (a - 0x10000000) / 4096
    let own := s.pageOwner n
    let refused := fun (i : Instr) =>
      ∃ t, exec i s = .next t ∧ t.ctx c p = (faulted c 9 (x.rw s1.toNat) s).ctx c p ∧ t.mem = s.mem ∧
        t.cus.page = s.cus.page ∧ t.cus.pageZero = s.cus.pageZero ∧ t.cus.foreignFree = satInc s.cus.foreignFree 0xFFFF ∧
        t.stw.elogNext = s.stw.elogNext + 1 ∧ t.isl.arrival = s.isl.arrival + 1
    let none6 := issued c 1 [(1, .w d.toNat 6 false)] {} (stampArrival s)
    ready c 1 g [s1.toNat, s2.toNat] s = true → (s.core c).sb = [] → ownInFlight s c = [] →
      (cusObj a = none → exec (.claim c d s1 g) s = .next none6 ∧ exec (.free c d s1 g) s = .next none6 ∧
        exec (.give c d s1 s2 g) s = .next none6) ∧
      (mayFault c s = true → 0x10000000 ≤ a → a < 0x10400000 → own ≠ ownerCode p →
        refused (.give c d s1 s2 g) ∧ (own ≠ 0xF → refused (.free c d s1 g))))

/-- R72: a syllable whose guard is false writes nothing, sets no flag, accesses no memory, changes no flow and takes no fault: where
nothing it names makes it wait, its sentence only passes.
R77, R91, R92: a syllable other than LD.D and TSTP that reads a poisoned register takes a POISON_USE fault with the register's
number, unless a fault of higher priority comes first.
R60, R65, R66, R91: a syllable with a field outside R60, a reserved widening mode or a negative loop length is ILLEGAL whatever
its guard: the fault names its address.
R80, R85, R86, R88, R91, R97, R127, R136: the faults of one syllable: ALIGN, CODE_WRITE, CUSTODY, STACK_GUARD with the data
address; LOOP_DEPTH, RSTACK, DIVZ and FP with the syllable's.
R94: a fault in a fault handler that has made no RETI, with STATUS.IE 0, stops the person. -/
def Obligations.GuardsPoisonAndFaults : Prop :=
  (∀ (i : Instr) (c : Fin 4) (y : Syl), (∀ s, exec i s = .next (issueOne c y s)) → ∀ s : State,
    (oneSyllable y).bad = none → memStall (landed c s) c (curOf c s) (seen c s) (oneSyllable y).syls = false →
    cusHeld (landed c s) c (curOf c s) (seen c s) (oneSyllable y).syls = false →
    quiet c (src2Len y.s2) s = true → guardHolds c y.guard s = false →
      exec i s = .next (issued c (src2Len y.s2) [] {} s)) ∧
  (∀ (i : Instr) (c : Fin 4) (y : Syl), (∀ s, exec i s = .next (issueOne c y s)) → ∀ (s : State) (r : Reg) (k : BitVec 6),
    let x := seen c s
    (oneSyllable y).bad = none → isDismissible y.op = false → y.op ≠ .tstp → (y.op = .mtc → ctlReadOnly y.d.toNat = false) →
    quiet c (src2Len y.s2) s = true → guardHolds c y.guard s = true → mayFault c s = true →
    (sourcesOf y).find? (fun q => match q with | .w j => x.poisoned j.toNat | _ => false) = some r → r = .w k →
      exec i s = .next (faulted c 4 (w32 k.toNat) s)) ∧
  (∀ (i : Instr) (c : Fin 4) (y : Syl), (∀ s, exec i s = .next (issueOne c y s)) → ∀ s : State,
    sylOk y = false → quiet c (src2Len y.s2) s = true → mayFault c s = true →
      exec i s = .next (faulted c 2 (seen c s).pc s)) ∧
  (∀ (c : Fin 4) (u : LUnit) (k : LdKind) (j : StKind) (m : AMode) (im : Imm) (d s1 s2 : BitVec 6) (g : Guard) (s : State),
    let x := seen c s
    let p := curOf c s
    let n := src2Len (modeSrc m)
    let a := (modeAddr x m s1 k.size).1
    let b := (modeAddr x m s1 j.size).1
    let pc := x.pc
    let div := fAdd f32 (flagsRm x.flags) (flagsFtz x.flags) (x.rw s1.toNat).toNat (x.rw s2.toNat).toNat
    mayFault c s = true →
    (ready c n g (src2Regs (modeSrc m)) s = true → src2Ok false (modeSrc m) = true → s1.toNat ≤ 16 →
      (a.toNat % k.size ≠ 0 ∨ inDevice a.toNat = true ∧ k.size ≠ 4 → exec (ldCmd k c u m d s1 g) s = .next (faulted c 7 a s)) ∧
      (a.toNat % k.size = 0 → inDevice a.toNat = false → s.mayRead c p a.toNat k.size = false →
        exec (ldCmd k c u m d s1 g) s = .next (faulted c 9 a s))) ∧
    (ready c n g (src2Regs (modeSrc m) ++ dataRegs j d) s = true → src2Ok false (modeSrc m) = true → s1.toNat ≤ 16 →
      (b.toNat % j.size ≠ 0 ∨ inDevice b.toNat = true ∧ j.size ≠ 4 → exec (stCmd j c u m d s1 g) s = .next (faulted c 7 b s)) ∧
      (b.toNat % j.size = 0 → b.toNat < 0x20000 → exec (stCmd j c u m d s1 g) s = .next (faulted c 8 b s)) ∧
      (b.toNat % j.size = 0 → 0x20000 ≤ b.toNat → inDevice b.toNat = false → s.mayWrite c p b.toNat = false →
        exec (stCmd j c u m d s1 g) s = .next (faulted c 9 b s)) ∧
      (b.toNat % j.size = 0 → inDevice b.toNat = false → s.mayWrite c p b.toNat = true →
        inSpill x (s.row p).rsMode b.toNat = true → exec (stCmd j c u m d s1 g) s = .next (faulted c 10 b s))) ∧
    (ready c (src2Len (.imm im)) g [s1.toNat] s = true → src2Ok false (.imm im) = true →
      (src2Word false x (.imm im)).getLsbD 31 = false → 3 ≤ x.ldepth →
        exec (.loop c s1 im g) s = .next (faulted c 5 pc s)) ∧
    (ready c 1 g [] s = true → (s.row p).rsMode = 1 → x.rsdepth = 0 → exec (.ret c g) s = .next (faulted c 6 pc s)) ∧
    (ready c 1 g [s1.toNat] s = true → (s.row p).rsMode = 1 → x.rsdepth = 16 →
      exec (.callr c s1 g) s = .next (faulted c 6 pc s)) ∧
    (ready c 1 g [s1.toNat, s2.toNat] s = true → x.flags.getLsbD 19 = true → x.rw s2.toNat = 0 →
      exec (.divs c .m1 d s1 s2 g) s = .next (faulted c 11 pc s)) ∧
    (ready c 1 g [s1.toNat, s2.toNat] s = true → (s.row p).precise = true → (div.2.nv || div.2.dz) = true →
      exec (.faddS c .m0 d s1 s2 g) s = .next (faulted c 12 pc s))) ∧
  (∀ (c : Fin 4) (d s1 : BitVec 6) (g : Guard) (s : State),
    ready c 1 g [] s = true → mayFault c s = false → ctlListed d.toNat = true → ctlReadOnly d.toNat = true →
    s.bun.check = none →
      ∃ t, exec (.mtc c d s1 g) s = .next t ∧ (t.person (curOf c s)).run = .stopped ∧ (t.person (curOf c s)).cores = 0)

/-- R67, R59: a result of latency 1 is what the next sentence reads; writes to w0 and p0 are discarded.
R67: a result of latency L is seen by sentence n + L and later; until then the register keeps what earlier results left in it. -/
def Obligations.ResultsAreSeenAtTheirLatency : Prop :=
  (∀ (c : Fin 4) (n r : Nat) (v : Word) (po b : Bool) (fl : Sticky) (s : State), quiet c n s = true → r < 64 →
    (seen c (issued c n [(1, .w r v po)] fl s)).rw r = (if r = 0 then 0 else v) ∧
    (seen c (issued c n [(1, .w r v po)] fl s)).poisoned r = (if r = 0 then false else po) ∧
    (r < 8 → (seen c (issued c n [(1, .p r b)] fl s)).rp r = (if r = 0 then true else b)) ∧
    (r < 17 → (seen c (issued c n [(1, .x r v)] fl s)).rx r = v)) ∧
  (∀ (x : Ctx) (n L r : Nat) (v : Word),
    let y := { x with infl := insertFl { due := n + L, wr := .w r v false } x.infl }
    (2 ≤ L → n ≤ x.seq → x.seq < n + L → (landDue y).w = (landDue x).w) ∧
    (x.infl = [] → n + L ≤ x.seq → r < 64 → (landDue y).rw r = (if r = 0 then 0 else v) ∧ (landDue y).poisoned r = false))

/-! ### Start, power and cores -/

/-- Starts and what begins them (02 R51, R57; 20 R474, R477): the causes are collected, every island but the sentinel loses
its power, fuses and retention stay. That MAIN_RAILS_VALID is the event that lets OFF be left is the model's (log 4). -/
def Obligations.StartEventsBeginStarts : Prop :=
  ∀ (s : State) (rail : Rail),
    let kept := fun (t : State) => t.fuses = s.fuses ∧ t.snt = s.snt ∧ t.secs = s.secs ∧ t.pending = s.pending ∧ t.isl.clean = s.isl.clean
    let lost := fun (t : State) => t.mem.sram = [] ∧ (∀ c < 4, t.core c = {}) ∧ t.cic = {} ∧ t.oru.orders = []
    let begins := fun (k : Causes) (t : State) => kept t ∧ lost t ∧ t.isl.power = .starting ∧ t.isl.step = 0 ∧ t.isl.next = k
    (s.isl.power = .off → s.isl.porstLow = false → s.snt.vstbyOk = true →
      yields .mainRailsValid s (begins { s.isl.next with powerOn := true })) ∧
    (s.isl.power = .off → s.isl.porstLow = true → s.isl.railsValid = true → s.snt.vstbyOk = true →
      yields .porstRelease s fun t => begins s.isl.next t ∧ t.isl.porstLow = false) ∧
    (yields .porstAssert s fun t => kept t ∧ lost t ∧ t.isl.power = .off ∧ t.isl.porstLow = true ∧ t.isl.next = { s.isl.next with porst := true }) ∧
    (awake s = true ∨ s.isl.power = .starting → yields .watchdogExpiry s (begins { s.isl.next with watchdog := true })) ∧
    (yields (.railFail rail) s fun t => kept t ∧ lost t ∧ t.isl.power = .off ∧ t.isl.railsValid = false ∧
      t.isl.next = { s.isl.next with powerOn := true })

/-- The start sequence (02 R52, R53, 15 R344, 06 R144, 08 R201): what steps 1 to 3, step 5 and step 7 leave. -/
def Obligations.StartStepsPrepareTheDevice : Prop :=
  ∀ (s : State) (env : StartEnv),
    s.isl.power = .starting →
    (s.isl.step = 0 → env.retentionBad = false → s.fuses.zeroize = false →
      yields (.start 3 env) s fun t =>
        t.isl.step = 3 ∧ t.isl.arrival = 0 ∧ t.win.state = 1 ∧ t.isl.rstoutLow = false ∧ t.isl.next = {} ∧ t.isl.clean = false ∧
        t.isl.startSeq = (s.isl.startSeq + 1) % 65536 ∧ t.isl.causeReg.toNat / 65536 = t.isl.startSeq ∧
        (t.isl.causeReg.toNat / 128 % 2 = 1 ↔ s.isl.vstbyLostSeen = true) ∧ (t.isl.causeReg.toNat / 64 % 2 = 1 ↔ s.isl.clean = false) ∧
        (t.isl.causeReg.toNat / 32 % 2 = 1 ↔ s.isl.next.glitch = true) ∧ (t.isl.causeReg.toNat / 16 % 2 = 1 ↔ s.isl.next.watchdog = true) ∧
        (t.isl.causeReg.toNat / 8 % 2 = 1 ↔ s.isl.next.restart = true) ∧ (t.isl.causeReg.toNat / 4 % 2 = 1 ↔ s.isl.next.wake = true) ∧
        (t.isl.causeReg.toNat / 2 % 2 = 1 ↔ s.isl.next.porst = true) ∧ (t.isl.causeReg.toNat % 2 = 1 ↔ s.isl.next.powerOn = true)) ∧
    (s.isl.step = 4 → yields (.start 5 env) s fun t =>
        t.isl.step = 5 ∧ t.mem.sram = [] ∧ t.mem.flash = s.mem.flash ∧ (∀ n < 1024, t.pageOwner n = 0xF) ∧
        (∀ c < 4, (∀ b < 8, t.bankOwner c b = 0xF) ∧ (t.core c).imem = [] ∧ (t.core c).dmem = [] ∧
          (t.core c).fenced = maskBit s.snt.fences c)) ∧
    (s.isl.step = 6 → yields (.start 7 env) s fun t => t.isl.step = 7 ∧ t.win.state = 3) ∧
    (yields (.start 0 env) s fun t => t = s)

/-- The reference (02 R32, R33, R56, 20 R484, 19 R452): once the check is armed, a missing reference or one more than 0.5 % off frees
the oscillators and holds the CAN controllers that are in NORMAL; one back in range and unbroken locks the loops of the islands that
have power.
Operating points (02 R40 to R43): a change that is done sets the point; a rail below its point's minimum halves the frequency
and permits what R40's table gives. -/
def Obligations.ReferenceAndOperatingPoints : Prop :=
  (∀ (s : State) (hz : Nat) (unbroken present : Bool),
    let gone := fun (t : State) => t.isl.refFault = true ∧ t.isl.refOk = false ∧ t.isl.fllLock = 0 ∧
      (∀ k < 2, (vget s.port.can k).mode = 1 → (vget t.port.can k).hold = true)
    let on := fun pr => decide (vget s.isl.pairSt pr ≠ .off) && decide (vget s.isl.pairSt pr ≠ .fusedOff)
    let back := fun (t : State) => t.isl.refFault = false ∧ t.isl.refOk = true ∧
      t.isl.fllLock = 0x1C + bitN (on 0) + 2 * bitN (on 1) ∧ t.port.can = s.port.can
    (s.isl.refArmed = true → s.isl.refFault = false → yields .refFault s gone) ∧
    (s.isl.refArmed = false → yields .refFault s fun t => t = s) ∧
    (s.isl.refFault = false → s.isl.refArmed = true → (hz < 24875000 ∨ 25125000 < hz) → yields (.refCompare hz unbroken) s gone) ∧
    (24875000 ≤ hz → hz ≤ 25125000 → unbroken = true → yields (.refCompare hz unbroken) s back) ∧
    (s.isl.refFault = false → present = true → yields (.clockCheckArm present) s fun t => t.isl.refArmed = true ∧ back t) ∧
    (s.isl.refFault = false → present = false → yields (.clockCheckArm present) s fun t => t.isl.refArmed = true ∧ gone t)) ∧
  (∀ (s : State) (pr : Pair) (p mv t : Nat) (core : Fin 4) (arg : Word),
    let n := pairNo pr
    let permit := if 860 ≤ mv then 4 else if 810 ≤ mv then 3 else if 760 ≤ mv then 2 else if 730 ≤ mv then 1 else 0
    let least := fun q => if q ≤ 1 then 730 else if q = 2 then 760 else if q = 3 then 810 else 860
    (vget s.isl.opTarget n = some t → yields (.opChangeDone pr) s fun u =>
      vget u.isl.opCur n = t ∧ vget u.isl.opTarget n = none ∧ vget u.isl.opHalved n = false ∧ u = { s with isl := u.isl }) ∧
    (mv < least (vget s.isl.opCur n) → yields (.railBelowPoint pr mv) s fun u =>
      vget u.isl.opHalved n = true ∧ vget u.isl.opMax n = permit ∧ vget u.isl.railAvg n = mv ∧
      vget u.isl.opCur n = vget s.isl.opCur n ∧ (∀ q, vget u.isl.opTarget n = some q → q ≤ permit)) ∧
    (callerOf s core.val 0x01 arg = some p → p < 7 → arg.toNat % 8 ≠ 5 → arg.toNat % 8 ≠ 6 → yields (.opRequest core arg) s fun u =>
      vget (vget u.isl.opReq (core.val / 2)) p = arg.toNat % 8 ∧ answered p 0x01 0 s u) ∧
    (callerOf s core.val 0x01 arg = some p → p < 7 → arg.toNat % 8 = 5 ∨ arg.toNat % 8 = 6 →
      yields (.opRequest core arg) s fun u => u.isl.opReq = s.isl.opReq ∧ answered p 0x01 302 s u))

/-- NAP and STANDBY (02 R45 to R50): the device enters them where it may; a wake source ends NAP, one the wake configuration selects ends
STANDBY with a start, and one that comes after it is latched until step 2 of that start; persons give their consent and person 1 sets
the configuration. The window's supply (20 R476) makes the window answer above 1.55 V.
Pair islands (02 R39, R44, 08 R209, 06 R161, 17 R399): a pair its persons and their stores have left closes its gates and loses power
once nothing is open, or when the drain time is over; a glitch of FABRIC, PORT or HOST begins a start, one of a pair halts its cores and
takes its persons off it, one of SENTINEL is a loss of VSTBY. -/
def Obligations.SleepAndIslands : Prop :=
  (∀ (s : State) (w : WakeSrc) (p mv : Nat) (core : Fin 4) (arg : Word),
    let picked := match w with
      | .rtc => some 0 | .can => some 3 | .svc => some 4 | .hst => some 5 | .tamper => some 6
      | .sns0 r => if s.isl.wakeCfg.getLsbD (if r then 0 else 1) then some 1 else none
      | .sns1 r => if s.isl.wakeCfg.getLsbD (if r then 2 else 3) then some 2 else none
    (deviceDoze s = true → s.isl.napDelay ≠ 0 → napBusy s = false →
      yields .napEntry s fun t => t = { s with isl := { s.isl with power := .nap, fabricFast := false, napWake := false } }) ∧
    (s.isl.power = .nap → s.isl.napWake = true → s.gates.ghTaken = [] → yields .fabricRelock s fun t =>
      t = { s with isl := { s.isl with power := .run, fabricFast := true, napWake := false } }) ∧
    (s.isl.power = .nap → s.isl.napWake = false → yields .fabricRelock s fun t => t = s) ∧
    (mayStandby s = true → yields .standbyEntry s fun t =>
      t.isl.power = .standby ∧ t.isl.clean = true ∧ t.isl.wakeLatch = 0 ∧ t.fuses = s.fuses ∧ t.mem.sram = [] ∧ (∀ c < 4, t.core c = {}) ∧
      t.isl.wakeCfg = s.isl.wakeCfg ∧
      t.snt = { s.snt with saved := some { src := s.cic.src, thresh := s.cic.thresh, op := s.isl.opCur,
                                           pairing := Vector.ofFn fun i : Fin 2 => s.pairPerson i.val } }) ∧
    (∀ b, picked = some b → s.isl.power = .standby → s.isl.railsValid = true → s.isl.porstLow = false → s.snt.vstbyOk = true →
      yields (.wakeEvent w) s fun t => t.isl.power = .starting ∧ t.isl.next = { s.isl.next with wake := true } ∧
        t.isl.wakeLatch.getLsbD b = true ∧ (∀ i < 32, i ≠ b → t.isl.wakeLatch.getLsbD i = s.isl.wakeLatch.getLsbD i) ∧ t.snt = s.snt) ∧
    (∀ b, picked = some b → s.isl.power = .starting → s.isl.step < 2 → s.isl.next.wake = true → yields (.wakeEvent w) s fun t =>
      t = { s with isl := { s.isl with wakeLatch := t.isl.wakeLatch } } ∧ t.isl.wakeLatch.getLsbD b = true ∧
      ∀ i < 32, i ≠ b → t.isl.wakeLatch.getLsbD i = s.isl.wakeLatch.getLsbD i) ∧
    (picked = none ∨ (s.isl.power ≠ .standby ∧ s.isl.power ≠ .starting) → yields (.wakeEvent w) s fun t => t = s) ∧
    (callerOf s core.val 0x02 arg = some p → p < 7 → arg.toNat ≤ 1 → yields (.standbyConsent core arg) s fun t =>
      (t.person p).consent = decide (arg = 1) ∧ answered p 0x02 0 s t) ∧
    (callerOf s core.val 0x02 arg = some p → p < 7 → 1 < arg.toNat → yields (.standbyConsent core arg) s fun t =>
      (t.person p).consent = (s.person p).consent ∧ answered p 0x02 302 s t) ∧
    (callerOf s core.val 0x03 arg = some p → p = 1 → yields (.wakeCfg core arg) s fun t =>
      t.isl.wakeCfg = arg.setWidth 4 ∧ answered p 0x03 0 s t) ∧
    (callerOf s core.val 0x03 arg = some p → p < 7 → p ≠ 1 → yields (.wakeCfg core arg) s fun t =>
      t.isl.wakeCfg = s.isl.wakeCfg ∧ answered p 0x03 201 s t) ∧
    (1550 < mv → yields (.windowIoRise mv) s fun t =>
      t = { s with isl := { s.isl with vioW := true, vioW33 := decide (2400 ≤ mv) } }) ∧
    (mv ≤ 1550 → yields (.windowIoRise mv) s fun t => t = s) ∧
    (yields .windowIoFall s fun t => t = { s with isl := { s.isl with vioW := false } })) ∧
  (∀ (s : State) (pr : Pair) (clock : Bool),
    let n := pairNo pr
    let off := fun (t : State) => vget t.isl.pairSt n = .off ∧ vget t.isl.draining n = false ∧ vget t.gates.pairF n = [] ∧
      vget t.gates.commitQ n = [] ∧ (∀ c < 4, c / 2 = n → (t.core c).halted = true ∧ (t.core c).sb = [] ∧ (t.core c).imem = [] ∧
        (t.core c).fenced = (s.core c).fenced)
    let left := fun (c : Nat) => (s.core c).sb = [] ∧ ∀ p < 7, maskBit (s.person p).cores c = true →
      (s.person p).run ≠ .running ∧ (s.person p).run ≠ .handover
    (vget s.isl.pairSt n = .run → vget s.isl.draining n = false → left (2 * n) → left (2 * n + 1) → islandOpen s n = false →
      yields (.islandPowerOff pr) s fun t => vget t.gates.closed n = true ∧ off t) ∧
    (vget s.isl.pairSt n = .run → vget s.isl.draining n = false → left (2 * n) → left (2 * n + 1) → islandOpen s n = true →
      yields (.islandPowerOff pr) s fun t => vget t.gates.closed n = true ∧ vget t.isl.draining n = true ∧ vget t.isl.pairSt n = .run) ∧
    (vget s.isl.pairSt n = .run → vget s.isl.draining n = true → islandOpen s n = false → yields (.islandPowerOff pr) s off) ∧
    (vget s.isl.pairSt n = .run → vget s.isl.draining n = true → yields (.islandDrainTimeout pr) s off) ∧
    (vget s.isl.pairSt n = .run ∨ vget s.isl.pairSt n = .starting →
      yields (.islandGlitch (match pr with | .a => .pairA | .b => .pairB) clock) s fun t =>
        (∀ c < 4, c / 2 = n → (t.core c).halted = true ∧ (t.core c).selftestFail = true ∧ (t.core c).sb = []) ∧
        vget t.gates.closed n = true ∧ (vget t.isl.pairSt n = .off ∨ vget t.isl.draining n = true) ∧
        ∀ p < 7, s.present p = true → ∀ c < 4, c / 2 = n → t.placedOn p c = false) ∧
    (yields (.islandGlitch .sentinel clock) s fun t =>
      t.snt.vstbyOk = false ∧ t.snt.rtcValid = false ∧ t.snt.tlog = Vector.replicate 64 none) ∧
    (s.isl.fabric = .run → yields (.islandGlitch .fabric clock) s fun t =>
      t.isl.power = .starting ∧ t.isl.next = { s.isl.next with glitch := true, glitchIsland := 2 } ∧ t.isl.clean = s.isl.clean) ∧
    (s.isl.port = .run → yields (.islandGlitch .port clock) s fun t =>
      t.isl.power = .starting ∧ t.isl.next = { s.isl.next with glitch := true, glitchIsland := 3 } ∧ t.isl.clean = s.isl.clean) ∧
    (s.isl.host = .run → yields (.islandGlitch .host clock) s fun t =>
      t.isl.power = .starting ∧ t.isl.next = { s.isl.next with glitch := true, glitchIsland := 4 } ∧ t.isl.clean = s.isl.clean))

/-- What a core does besides its syllables (05 R64, R67, R92, R95, R128, 07 R183, 09 R215): a fetched sentence issues, an interrupt
is entered, results and a divide land, the time slice passes to the next person, a discarded store faults. -/
def Obligations.CoreEventsActBetweenSentences : Prop :=
  ∀ (core : Fin 4) (u : AUnit) (d s1 : BitVec 6) (r q : Nat) (v a : Word) (due lands : Nat) (rest : List InFl) (late : List Word) (f : Syl) (s : State),
    let c := core.val
    let p := curOf c s
    let x := s.ctx c p
    let y : Syl := { unit := (if u = .a0 then .a0 else .a1), op := .abs, mode := .off, d := d, s1 := s1, s2 := .reg 0, guard := ⟨0, false⟩ }
    let alone := (s.witnessOn p).isNone && decide (p < 7)
    let same := fun (z : Ctx) => z.w = x.w ∧ z.x = x.x ∧ z.p = x.p ∧ z.acc = x.acc
    (s.mem.ecc = [] → ready c 1 ⟨0, false⟩ [s1.toNat] s = true → fetchSentence s c = some (oneSyllable y) → (oneSyllable y).bad = none →
      yields (.sentenceIssue core []) s fun t =>
        t = issued c 1 [(1, .w d.toNat (iw (limit 32 |((seen c s).rw s1.toNat).toInt|)) false)]
          { sat := outside 32 |((seen c s).rw s1.toNat).toInt| } s) ∧
    (s.mem.ecc = [] → quiet c (src2Len f.s2) s = true → fetchSentence s c = some (oneSyllable f) →
      exec (.sentenceIssue core []) s = .next (issueOne core f s)) ∧
    (alone = true → mayEnter s c = true → x.fpPending = false → x.infl = [] → x.div = none → yields (.interruptEntry core) s fun t =>
      let z := t.ctx c p
      z.epc = x.pc ∧ z.pc = x.vec + 0x40 ∧ z.ecause = 0x10 ∧ z.einfo = w32 (vget (s.core c).cand p) ∧ z.estat = true ∧ z.ie = false ∧
      z.ldepth = 0 ∧ z.eldepth = x.ldepth ∧ z.br = none ∧ same z) ∧
    (alone = true → x.infl = ⟨due, .w r v false⟩ :: rest → due ≤ x.seq → (∀ f ∈ rest, x.seq < f.due) → 0 < r → r < 64 →
      yields (.resultLand core) s fun t =>
        t = setCtx c p (fun k => { k with w := vset k.w r { v := v, poison := false }, infl := rest }) s) ∧
    (alone = true → x.div = some { writes := [(r, v)], lands := lands } → 0 < r → r < 64 → yields (.divideResult core) s fun t =>
      t = setCtx c p (fun k => { k with w := vset k.w r { v := v, poison := false }, div := none, cycles := Nat.max x.cycles (lands + 1) }) s) ∧
    (coreLive s c = true → nextRunnable s c = some q → alone = true → (s.witnessOn q).isNone = true → settled x = true → x.fpPending = false →
      x.br = none → (s.core c).sb = [] → s.cus.held ≠ some c → yields (.timesliceExpiry core) s fun t => curOf c t = q ∧ (t.core c).switchDue = false) ∧
    (coreLive s c = true → nextRunnable s c = none → yields (.timesliceExpiry core) s fun t => t = s) ∧
    (coreLive s c = true → alone = true → x.storeFaults = a :: late → settled x = true → x.fpPending = false → isDouble x = false →
      yields (.storeCustodyFault core) s fun t =>
        let z := t.ctx c p
        z.epc = x.pc ∧ z.pc = x.vec ∧ z.ecause = 9 ∧ z.einfo = a ∧ z.estat = x.ie ∧ z.ie = false ∧ z.faultOpen = true ∧ z.storeFaults = late)

/-- Answers that come to a core (03 R73, R78, 04 R119, R143, 07 R168, R173): the oldest load takes its bytes, or is poisoned on another's
page; one that leaves its core behind what stands on the gate only takes its place there;
a call's result lands in its register; a service that no chapter assigns answers 302. -/
def Obligations.AnswersLandInTheirRegisters : Prop :=
  ∀ (core : Fin 4) (p n v : Nat) (l : ShLoad) (k : SCallRec) (more : List ShLoad) (s : State),
    let c := core.val
    let x := s.ctx c p
    let calm := decide (p < 7) && (s.witnessOn p).isNone && x.infl.isEmpty && x.div.isNone && x.cus.isNone
    let known := [0x01, 0x02, 0x03, 0x10, 0x11, 0x12, 0x18, 0x19, 0x20, 0x21, 0x22, 0x28, 0x29, 0x2A, 0x2B, 0x2C, 0x2D, 0x30, 0x31, 0x32,
      0x38, 0x39, 0x3A, 0x3B]
    let word := fun (m : Nat) => if l.signed then (BitVec.ofNat (8 * l.size) m).signExtend 32 else BitVec.ofNat 32 m
    (loaderOf s c = some p → calm = true → x.loads = l :: more → 0 < n → n < 64 → l.dests = [n] → l.fwd = none → l.size ∈ [1, 2, 4] →
      regionOf l.addr = .page ((l.addr - 0x10000000) / 4096) → loadGoes s c l = false →
      (s.mayRead c p l.addr l.size = true → s.mem.ecc = [] → yields (.sharedLoadData core []) s fun t =>
        vget (t.ctx c p).w n = { v := word (leNat (s.sramRead l.addr l.size)), poison := false } ∧ (t.ctx c p).loads = more) ∧
      (s.mayRead c p l.addr l.size = false → yields (.sharedLoadData core []) s fun t =>
        (vget (t.ctx c p).w n).poison = true ∧ (t.ctx c p).loads = more ∧ (t.ctx c p).deferAddr = w32 l.addr ∧ (t.ctx c p).deferCause = 1)) ∧
    (loaderOf s c = some p → calm = true → x.loads = l :: more → loadGoes s c l = true → yields (.sharedLoadData core []) s fun t =>
      t = setCtx c p (fun z => { z with loads := { l with gate := some (arriveGate s c) } :: more }) s) ∧
    (loaderOf s c = none → yields (.sharedLoadData core []) s fun t => t = s) ∧
    (calm = true → p = curOf c s → 0 < k.dest → k.dest < 64 → (∀ q < 7, (s.ctx c q).calls.all (fun z => z.taken) = true) →
      x.calls = [k] → k.result = some v → yields (.stewardAnswer core) s fun t =>
        vget (t.ctx c p).w k.dest = { v := w32 v, poison := false } ∧ (t.ctx c p).calls = []) ∧
    (calm = true → p = curOf c s → 0 < k.dest → k.dest < 64 → (∀ q < 7, q ≠ p → (s.ctx c q).calls = []) →
      x.calls = [k] → k.taken = false → k.result = none → k.svc ∉ known → storesBefore s c k.hold = false → yields (.stewardAnswer core) s fun t =>
        vget (t.ctx c p).w k.dest = { v := 302, poison := false } ∧ (t.ctx c p).calls = [] ∧ answered p k.svc 302 s t)

/-- A store's way from the buffer to its memory (02 R35, R37, 04 R143, 06 R156, 07 R167, R168, R183, 09 R213, 15 R346). -/
def Obligations.StoresAndCandidatesCrossTheGates : Prop :=
  ∀ (core : Fin 4) (pr : Pair) (e : SbEntry) (t : StTxn) (later : List StTxn) (k : CandTxn) (ks : List CandTxn)
      (n w q a : Nat) (v : BitVec 64) (b : Byte) (hs : List HTxn) (gs : List GTxn) (s : State),
    let c := core.val
    let m := pairNo pr
    let gate : GateId := match pr with | .a => .gaF | .b => .gbF
    let down : GateId := match pr with | .a => .gfA | .b => .gfB
    let still := fun (d : Nat) => (s.core d).sb.isEmpty && !(s.core d).switchDue && !(s.ctx d (curOf d s)).waiting &&
      (s.ctx d (curOf d s)).cus.isNone
    let calm := (∀ i < 4, vget s.wit.fencing i = false) ∧ ∀ i < 7, (s.person i).run ≠ .restarting
    ((s.core c).sb = [e] ∧ e.due = false ∧ (s.witnessOn e.person).isNone = true ∧ (vget s.gates.pairF (c / 2)).length < 8 ∧ vget s.gates.closed (c / 2) = false ∧
      loadBefore (s.core c) e.last = false ∧ (s.core c).switchDue = false ∧ (s.ctx c (curOf c s)).waiting = false →
      yields (.storeBufferDue core) s fun u => (u.core c).sb = [] ∧
        vget u.gates.pairF (c / 2) = vget s.gates.pairF (c / 2) ++ [{ core := c, person := e.person, stamp := e.stamp, what := e.what }] ∧
        u.mem = s.mem) ∧
    (vget s.gates.pairF m = t :: later ∧ t.what = .gran (a / 16) [(a, b)] ∧ vget s.gates.commitQ m = [] ∧ still (2 * m) = true ∧ still (2 * m + 1) = true →
      calm → yields (.gateTransfer gate) s fun u => vget u.gates.pairF m = later ∧ vget u.gates.commitQ m = [t] ∧
        u.isl.arrival = s.isl.arrival + 1 ∧ u.mem = s.mem) ∧
    (vget s.gates.commitQ m = t :: later ∧ t.what = .gran (a / 16) [(a, b)] ∧ later = [] ∧ still (2 * m) = true ∧ still (2 * m + 1) = true ∧
      s.zeroing t.core a = false ∧ regionOf a = .page ((a - 0x10000000) / 4096) ∧ Memory.wf 0 s.mem.sram = true ∧ s.mem.ecc = [] → calm →
      (s.mayWrite t.core t.person a = true → yields (.storeCommit pr []) s fun u => vget u.gates.commitQ m = [] ∧
        ∀ z, cellGet 0 u.mem.sram z = if z = a then b else cellGet 0 s.mem.sram z) ∧
      (s.mayWrite t.core t.person a = false → s.placedOn t.person t.core = true → (s.witnessOn t.person).isNone = true → t.core < 4 → t.person < 7 →
        yields (.storeCommit pr []) s fun u => vget u.gates.commitQ m = [] ∧ u.mem.sram = s.mem.sram ∧
          (u.ctx t.core t.person).storeFaults = (s.ctx t.core t.person).storeFaults ++ [w32 a])) ∧
    (vget s.gates.fPair m = k :: ks ∧ vget s.gates.closed m = false ∧ vget s.isl.pairSt m = .run ∧ s.isl.power = .run ∧
      (s.ctx k.core k.person).waiting = false ∧ k.core < 4 ∧ k.person < 7 →
      yields (.gateTransfer down) s fun u => vget u.gates.fPair m = ks ∧ vget (u.core k.core).cand k.person = k.src) ∧
    (s.gates.gfH = .slot n v q :: hs ∧ n < 128 → yields (.gateTransfer .gfH) s fun u => u.gates.gfH = hs ∧ vget u.win.live n = (v, q)) ∧
    (s.gates.ghF = .leafClear n w :: gs ∧ s.gates.ghTaken = [] ∧ s.isl.power = .run → yields (.gateTransfer .ghF) s fun u =>
      u = { s with gates := { s.gates with ghF := gs }, isl := { s.isl with arrival := s.isl.arrival + 1 } })

/-- Zeroing (06 R152 to R154, R160): an object that its engine finishes reads zero, nothing else changes, and one that was being
reclaimed becomes FREE.
Writes to registers (02 R7, R37, 06 R143, R145, 15 R343): a person's write of its CIC threshold, the steward's of the DOZE delay, of the
wake configuration and of a flash address, the host's of a leaf mask each reach their register; a core that does not own the frame
writes nothing. That the last has no effect is the model's choice (log 39). -/
def Obligations.ZeroingAndRegisterWrites : Prop :=
  (∀ (n : Fin 1024) (c : Fin 4) (b : Fin 8) (s : State),
    let page := fun (a : Nat) => 0x10000000 + n.val * 4096 ≤ a ∧ a < 0x10000000 + (n.val + 1) * 4096
    let bank := fun (a : Nat) => 0x100000 + b.val * 0x8000 ≤ a ∧ a < 0x100000 + (b.val + 1) * 0x8000
    (s.cus.pageZero.head? = some n.val → (∀ ch < 16, (s.chan ch).out = []) → yields (.zeroingDone (.page n)) s fun t =>
      (∀ a, cellGet 0 t.mem.sram a = if page a then 0 else cellGet 0 s.mem.sram a) ∧ n.val ∉ t.cus.pageZero ∧
      t.pageOwner n.val = (if s.pageOwner n.val = 0 then 0xF else s.pageOwner n.val) ∧
      (∀ k < 1024, k ≠ n.val → t.pageOwner k = s.pageOwner k) ∧ t.cus.bank = s.cus.bank ∧ t.cores = s.cores) ∧
    ((vget s.cus.bankZero c.val).head? = some b.val → (∀ ch < 16, (s.chan ch).out = []) → yields (.zeroingDone (.bank c b)) s fun t =>
      (∀ a, cellGet 0 (t.core c.val).dmem a = if bank a then 0 else cellGet 0 (s.core c.val).dmem a) ∧ b.val ∉ vget t.cus.bankZero c.val ∧
      t.bankOwner c.val b.val = (if s.bankOwner c.val b.val = 0 then 0xF else s.bankOwner c.val b.val) ∧
      (∀ k < 4, k ≠ c.val → t.core k = s.core k) ∧ t.cus.page = s.cus.page ∧ t.mem.sram = s.mem.sram)) ∧
  (∀ (c : Fin 4) (v : Word) (n : Fin 16) (k : Fin 4) (a : Nat) (s : State),
    let p := curOf c.val s
    (ownsFrame s c.val ((a - 0x30000000) / 0x1000) = false → yields (.registerWrite (.core c) a v) s fun t => t = s) ∧
    (p < 7 → ownsFrame s c.val (0x10 + p) = true → (s.witnessOn p).isNone = true →
      yields (.registerWrite (.core c) (0x30010008 + p * 0x1000) v) s fun t =>
        vget (vget t.cic.thresh p) c.val = v.toNat % 16 ∧ t.isl.arrival = s.isl.arrival + 1) ∧
    (yields (.registerWrite .steward 0x300E0018 v) s fun t =>
      t = { s with isl := { s.isl with arrival := s.isl.arrival + 1, napDelay := v.toNat % 65536 } }) ∧
    (yields (.registerWrite .steward 0x300E0008 v) s fun t =>
      t = { s with isl := { s.isl with arrival := s.isl.arrival + 1, wakeCfg := v.setWidth 4 } }) ∧
    (yields (.registerWrite .steward (0x30031004 + k.val * 0x1000) v) s fun t =>
      (t.bank k.val).addr = v &&& 0x001FFFF0 ∧ (t.bank k.val).keyed = false) ∧
    (winLive s = true → yields (.registerWrite .host (0x211 + n.val) v) s fun t =>
      t = { napStir s with win := { s.win with mask := vset s.win.mask n.val (v.setWidth 16) } }))

/-! ### Orders -/

/-- Orders by line (13 R312, R325, 14 R331 to R335): an accepted line whose session may give its order joins the decision slot that
is open, with the objects the order acts on, and nothing else happens yet; when the slot ends with it alone, it takes its effect
(`takesEffect`). A RELEASE that contradicts a pending retirement cancels that at once (01 R28). CLOSE BUNDLE is judged as it comes: a
bundle that passes joins the slot and is then STAGED, one that fails is answered and spoiled; so is the charter of INSTALL CHARTER, whose
answer discards the carrier's buffer. Whether signatures pass rests on the vendor's key, a free constant (log 16).
Orders by steward call, by a cell and by OUT_CTRL (08 R200, R203, 12 R281, R287, 15 R356, 17 R390, 19 R464): each joins the slot as
one of its caller, with the call, the cell or the register as the place of its answer, and takes its effect at the slot's end. -/
def Obligations.OrdersJoinTheirSlot : Prop :=
  (∀ (ln : Ln) (p len at_ : Nat) (c : Fin 4) (n : Fin 8) (on pass now rst : Bool) (data : Bytes) (sec : Int) (ds : List (Fin 10))
      (pl : Place) (ch : ChanArg) (chs : List Nat) (tol : Option Nat) (r : Retire) (s : State),
    let u := lineTaken ln s
    let f := fracSteps ds
    let who := partyOf u ln.car
    let src := carSrc ln.car
    let v := setCar ln.car (fun q => { q with
      tags := q.tags.map fun k => if k.tag = ln.tag ∧ k.node = 0 then { k with installs := true } else k }) u
    let raw := (u.car ln.car).chBuf
    lineGives (.holdLifecycle ln []) ln .hold s ∧ lineGives (.releaseLifecycle ln) ln .release s ∧
    lineGives (.commissionLifecycle ln) ln .commission s ∧ lineGives (.enrolLifecycle ln) ln .enrol s ∧
    lineGives (.retireLifecycle ln) ln .retire s ∧ lineGives (.confirmLifecycle ln) ln .confirm s ∧
    (lineAccepted ln s = true → (sessOf u ln.car).isSome = true → mayOrder who (some ln.car) .release u = true →
      (∀ q ∈ u.oru.orders, q.act ≠ .confirm) → u.stw.retire = some r → r.cancelled = none → yields (.releaseLifecycle ln) s fun t =>
        t.stw.retire = some { r with cancelled := some (src, who) }) ∧
    (1 ≤ p → p ≤ 6 →
      lineGives (.startPerson ln p) ln (.start p) s ∧ lineGives (.stopPerson ln p) ln (.stop p) s ∧
      lineGives (.restartPerson ln p) ln (.restart p) s ∧ lineGives (.resumePerson ln p) ln (.resume p) s ∧
      lineGives (.promotePerson ln p none) ln (.promote p (leadCore u p / 2)) s ∧
      lineGives (.promotePerson ln p (some .pairA)) ln (.promote p 0) s ∧ lineGives (.promotePerson ln p (some .pairB)) ln (.promote p 1) s ∧
      lineGives (.demotePerson ln p none) ln (.demote p (leadCore u p)) s ∧
      lineGives (.demotePerson ln p (some .c0)) ln (.demote p 0) s ∧ lineGives (.demotePerson ln p (some .c2)) ln (.demote p 2) s ∧
      lineGives (.migratePerson ln p pl) ln
        (match pl with | .c0 => .demote p 0 | .c2 => .demote p 2 | .pairA => .promote p 0 | .pairB => .promote p 1) s) ∧
    lineGives (.fenceCore ln c) ln (.fence c.val) s ∧ lineGives (.liftCore ln c pass) ln (.lift c.val (some pass)) s ∧
    lineGives (.setFeed ln n on) ln (.feed n.val on) s ∧
    lineGives (.openBundle ln len) ln (.openB len) s ∧
    (lineAccepted ln s = true → (sessOf u ln.car).isSome = true → actRight u who .closeB = none → u.bun.st = .receiving →
      u.bun.stager = who → u.bun.spoiled = false → yields (.closeBundle ln) s fun t =>
        (bundleCheck u = none → gives src who .closeB (.line ln) u t) ∧
        (bundleCheck u ≠ none → t.bun.st = .receiving ∧ t.bun.spoiled = true ∧ t.oru.orders = u.oru.orders ∧ tagOpen t ln = false)) ∧
    (16 ≤ data.length → data.length ≤ 96 → lineGives (.writeBundle ln at_ data) ln (.writeB at_ data) s) ∧
    lineGives (.activateBundle ln now rst) ln (.activate now rst) s ∧ lineGives (.discardBundle ln) ln .discard s ∧
    (ds.length ≤ 5 → lineGives (.setTime ln sec ds) ln (.setTime (sec + (f / 32768 : Nat)).toNat (f % 32768)) s) ∧
    (tolBad s ch tol = false → baseChans u ch = some chs → lineGives (.setBaseline ln ch tol) ln (.baseline chs (decide (ch = .all)) tol) s) ∧
    (lineAccepted ln s = true → (sessOf u ln.car).isSome = true → actRight v who (.installCharter raw) = none →
      yields (.installCharter ln) s fun t =>
        (actState v who (some ln.car) (.installCharter raw) = none → gives src who (.installCharter raw) (.line ln) v t) ∧
        (actState v who (some ln.car) (.installCharter raw) ≠ none →
          t.oru.orders = u.oru.orders ∧ t.stw.charter = s.stw.charter ∧ tagOpen t ln = false ∧ (t.car ln.car).chBuf = []))) ∧
  (∀ (core : Fin 4) (arg : Word) (p q m k v : Nat) (n : Fin 8) (a : Act) (gs : List GTxn) (pass : Bool) (s : State),
    let u := callTaken core.val p s
    let who := if arg.toNat % 8 = 0 then p else arg.toNat % 8
    let kind := arg.toNat / 16 % 4
    let w := fun (i : Nat) => descWord arg i s
    let x := stampArrival s
    let z := { x with gates := { x.gates with ghF := gs } }
    (kind = 0 → callGives (.witnessPromote core arg) core 0x18 p arg (.promote who (leadCore u who / 2)) s) ∧
    (kind = 1 → callGives (.witnessDemote core arg) core 0x18 p arg (.demote who (leadCore u who)) s) ∧
    (kind = 2 → callGives (.witnessMigrate core arg) core 0x18 p arg
      (match arg.toNat / 256 % 4 with | 0 => .demote who 0 | 1 => .demote who 2 | 2 => .promote who 0 | _ => .promote who 1) s) ∧
    (kind = 3 → callGives (.witnessResume core arg) core 0x18 p arg (.resume who) s) ∧
    (arg.getLsbD 4 = true → callGives (.fenceService core arg) core 0x19 p arg (.fence (arg.toNat % 4)) s) ∧
    (arg.getLsbD 4 = false → callGives (.liftService core arg pass) core 0x19 p arg (.lift (arg.toNat % 4) (some pass)) s) ∧
    (callerOf s core.val 0x2A arg = some p → p < 7 → actRight u p .closeB = none → u.bun.st = .receiving → u.bun.stager = p → u.bun.spoiled = false →
      yields (.stageClose core arg) s fun t =>
        (bundleCheck u = none → gives 5 p .closeB (.call core.val p 0x2A arg) u t) ∧
        (∀ e, bundleCheck u = some e → t.bun.st = .receiving ∧ t.bun.spoiled = true ∧ answered p 0x2A e.1.code s t)) ∧
    callGives (.activate core arg) core 0x2B p arg (.activate (arg.getLsbD 0) (arg.getLsbD 1)) s ∧
    callGives (.stageDiscard core arg) core 0x2C p arg .discard s ∧
    (descOk p arg s = true →
      callGives (.stageOpen core arg) core 0x28 p arg (.openB (w 0)) s ∧
      callGives (.scallSetTime core arg) core 0x11 p arg (.setTime (w 0) (w 1 / 2 % 32768)) s ∧
      (16 ≤ w 2 → w 2 ≤ 16384 → bufCheck s p (w 0) (w 2) = .ok →
        callGives (.stageWrite core arg) core 0x29 p arg (.writeB (w 1) (s.sramRead (w 0) (w 2))) s)) ∧
    (ownsFrame s core.val (0xB1 + n.val) = true → q = curOf core.val s →
      (mayOrder q none (.feed n.val true) x = true → yields (.feedOn core n) s (gives 5 q (.feed n.val true) (.out n.val) x)) ∧
      (mayOrder q none (.feed n.val false) x = true → yields (.feedOff core n) s (gives 5 q (.feed n.val false) (.out n.val) x))) ∧
    (s.gates.ghF = .cellOrder m v k :: gs → s.gates.ghTaken = [] → s.isl.power = .run → cellOwner s m = p → cellAct (s.cell m).bind v = some a →
      mayOrder p none a z = true → retireApart a z = true → yields (.gateTransfer .ghF) s (gives 4 p a (.cell m) z)))

/-- The end of a decision slot (13 R324, R326, R327): the number counts on, an order that stands alone takes its effect, the safe
direction beats the other whatever the ranks, and in NAP no order is resolved. -/
def Obligations.SlotEndResolvesItsOrders : Prop :=
  ∀ (q r : Order) (len sec frac n m : Nat) (s : State),
    let safe := match s.stw.charter with | some ch => maskBit ch.feedSafe n | none => false
    (s.isl.power = .run → s.oru.orders = [] → yields .decisionSlotEnd s fun t => t = { s with oru := { s.oru with slot := s.oru.slot + 1 } }) ∧
    (s.isl.power = .nap → yields .decisionSlotEnd s fun t => t = { s with oru := { s.oru with slot := s.oru.slot + 1 } }) ∧
    (s.isl.power = .run → s.oru.orders = [q] → q.objs = objsOf s q.act → mayOrder q.party (carOf q.dest) q.act s = true →
      (q.act = .openB len → yields .decisionSlotEnd s fun t => t.oru.slot = s.oru.slot + 1 ∧ t.oru.orders = [] ∧
        t.bun.st = .receiving ∧ t.bun.stager = q.party ∧ t.bun.total = len ∧ t.bun.written = 0) ∧
      (q.act = .discard → yields .decisionSlotEnd s fun t => t.bun.st = .empty ∧ t.oru.orders = []) ∧
      (q.act = .setTime sec frac → yields .decisionSlotEnd s fun t => t.snt.rtcSec = w32 sec ∧ t.snt.rtcFrac = frac % 32768 ∧ t.snt.rtcValid = true) ∧
      (q.act = .hold → yields .decisionSlotEnd s fun t => if s.counter 0 < 2 then t.snt.hold = s.snt.hold else t.snt.hold.order = true)) ∧
    (s.isl.power = .run → s.oru.orders = [q, r] → q.act = .feed n safe → r.act = .feed n (!safe) → q.objs = [.feed n] → r.objs = [.feed n] → n < 8 →
      q.dest = .out n → r.dest = .out m → m < 8 → m ≠ n → mayOrder q.party none q.act s = true → yields .decisionSlotEnd s fun t =>
        (t.feed n).result = 1 ∧ (t.feed m).result = 2 ∧ t.oru.orders = [] ∧
        (safe = false → (t.feed n).on = false) ∧ (safe = true → s.port.burst = none → s.port.heldOn = [] → (t.feed n).on = true))

/-! ### Interrupts, movers, flash and records -/

/-- The interrupt controller (09 R212, R213, R216, R218, R219, R220, R221, R223, R224): pulses, levels and filters set sources pending, a
claim takes the candidate at the priority it has then, a completion ends it, a core sets its person's soft sources and clears its own; a
witness pair's trailer sends none of these and receives its lead's word. -/
def Obligations.InterruptSourcesFollowTheirEvents : Prop :=
  ∀ (core : Fin 4) (n : Byte) (v : Word) (b : Bool) (s : State),
    let c := core.val
    let p := curOf c s
    let d := leadOf s c p
    let q := s.src n.toNat
    let top := candidate s d p
    let m := v.toNat % 256
    let there := srcExists s.fuses.part n.toNat
    let apart := !trails s c
    let sets := fun (t : State) => (t.src n.toNat).pend = true ∧
      (t.src n.toNat).edges = (if q.pend || q.active.isSome then min 255 (q.edges + 1) else q.edges) ∧ (t.src n.toNat).active = q.active
    (there = true → srcLevel n.toNat = false → q.edges ≤ 255 → yields (.sourceEvent n .pulse) s sets) ∧
    (there = true → srcLevel n.toNat = true → q.raw = false → q.filtered = false → q.edges ≤ 255 →
      yields (.sourceEvent n .rise) s fun t => sets t ∧ (t.src n.toNat).raw = true) ∧
    (there = true → srcLevel n.toNat = true → yields (.sourceEvent n .fall) s fun t =>
      (t.src n.toNat).raw = false ∧ (t.src n.toNat).pend = q.pend ∧ (t.src n.toNat).edges = q.edges) ∧
    (there = true → srcLevel n.toNat = true → q.level ≠ b → q.moved = true → q.edges ≤ 255 → yields (.filterLevelChange n b) s fun t =>
      (t.src n.toNat).level = b ∧ (t.src n.toNat).moved = (q.raw != b) ∧
      (t.src n.toNat).pend = (if q.filtered && q.active.isNone then b else q.pend) ∧
      (t.src n.toNat).edges = (if b && q.filtered && (q.pend || q.active.isSome) then min 255 (q.edges + 1) else q.edges)) ∧
    (q.level = b ∨ q.moved = false → yields (.filterLevelChange n b) s fun t => t = s) ∧
    (s.isl.power ≠ .nap → apart = true → top ≠ 0 → yields (.cicClaim core) s fun t =>
      (t.core c).lastDev = w32 ((s.src top).edges * 65536 + (s.src top).priority * 256 + top) ∧
      ((s.witnessOn p).isSome = true → (t.core (c + 1)).lastDev = (t.core c).lastDev) ∧ (t.src top).actPri = (s.src top).priority ∧
      (t.src top).active = some d ∧ (t.src top).pend = false ∧ (t.src top).edges = 0) ∧
    (s.isl.power ≠ .nap → apart = true → top = 0 → yields (.cicClaim core) s fun t => (t.core c).lastDev = 0 ∧ t.cic = s.cic) ∧
    (apart = false → yields (.cicClaim core) s (fun t => t = s) ∧ yields (.cicComplete core v) s (fun t => t = s) ∧
      yields (.cicSet core n) s (fun t => t = s) ∧ yields (.cicClear core n) s (fun t => t = s)) ∧
    (apart = true → m ≠ 0 → s.srcOwner m = p → (s.src m).active = some d → yields (.cicComplete core v) s fun t =>
      (t.src m).active = none ∧ (t.src m).pend = (if (s.src m).filtered then (s.src m).level else (s.src m).pend)) ∧
    (apart = true → m ≠ 0 → s.srcOwner m ≠ p ∨ (s.src m).active ≠ some d → p < 7 → yields (.cicComplete core v) s fun t => t.cic.src = s.cic.src ∧
      vget (vget t.cic.stray p) d = min 0xFFFF (vget (vget s.cic.stray p) d + 1)) ∧
    (apart = true → 128 ≤ n.toNat → s.srcOwner n.toNat = p → there = true → q.edges ≤ 255 → yields (.cicSet core n) s sets) ∧
    (apart = true → n ≠ 0 → s.srcOwner n.toNat = p → yields (.cicClear core n) s fun t =>
      (t.src n.toNat).pend = (q.filtered && q.level && q.active.isNone) ∧ (t.src n.toNat).active = q.active) ∧
    (yields (.holdoffExpiry n) s fun t => (t.src n.toNat).holding = false ∧ (t.src n.toNat).pend = q.pend)

/-- The movers (10 R229, R231, R234, R235, R237 to R239, R241, R244): a channel starts when its configuration is legal, stops, counts its
requests, issues a burst within its owner's objects or reads one ahead of its grant, and writes it when it completes. -/
def Obligations.MoversMoveTheirBursts : Prop :=
  ∀ (core : Fin 4) (ch : Fin 16) (line : Fin 48) (b : Burst) (a z : Nat) (held : Nat × Bytes) (later : List (Nat × Bytes)) (s : State),
    let n := ch.val
    let q := s.chan n
    let k := burstLen q (granted q)
    let sa := burstAddrs q.src q.issued k
    let da := burstAddrs q.dst q.issued k
    let wa := burstAddrs q.dst b.dst 4
    let e := aheadAt q % q.total
    let ea := burstAddrs q.src e (burstLenAt q e q.burst)
    let read := fun (l : List Nat) => l.flatMap fun i => s.sramRead i 4
    let p := s.chanOwner n
    let run (r : List Nat) := decide (r ≠ []) && r.all fun i => decide (0x10000000 ≤ i ∧ i + 4 ≤ 0x10400000)
    (ownsChan s core.val n = true → q.active = false → shapeOk q = true → requestOk s q p = true →
      yields (.movStart core ch) s fun t => (t.chan n).st = .running ∧ (t.chan n).issued = 0 ∧ (t.chan n).done = 0 ∧ (t.chan n).out = [] ∧
        (t.chan n).reqcnt = 0 ∧ (t.chan n).cause = 0 ∧ (∀ m < 16, m ≠ n → t.chan m = s.chan m)) ∧
    (ownsChan s core.val n = true → q.active = false → shapeOk q = false → q.evtErr = 0 → (∀ m < 16, (s.chan m).evtErr = 0) →
      yields (.movStart core ch) s fun t => (t.chan n).st = .error ∧ (t.chan n).cause = 5) ∧
    (ownsChan s core.val n = true → q.st = .running → q.dying = false → yields (.movStop core ch) s fun t =>
      (t.chan n).st = (if q.out.isEmpty then .aborted else .stopping) ∧ (t.chan n).ahead = [] ∧ (∀ m < 16, m ≠ n → t.chan m = s.chan m)) ∧
    (line.val < 24 → q.reqsel = line.val + 1 → (∀ m < 16, m ≠ n → (s.chan m).reqsel ≠ line.val + 1) → q.st = .running → q.reqcnt < 255 →
      yields (.movRequest (.line line)) s fun t => t = setChan n (fun r => { r with reqcnt := q.reqcnt + 1 }) (stampArrival s)) ∧
    (hasBurst s n = true → outranked s n = false → s.mem.ecc = [] → (s.witnessOn p).isNone = true → run sa = true → run da = true →
      (burstCheck s p q sa da = none → q.ahead = [] → yields (.movBurstIssue ch []) s fun t =>
        (t.chan n).issued = q.issued + k ∧ (t.chan n).out = q.out ++ [{ dst := q.issued, data := read sa }] ∧
        vget t.movTurn (q.cfg.toNat / 256 % 4) = n ∧ t.mem = s.mem ∧ t.cus = s.cus) ∧
      (burstCheck s p q sa da = none → q.ahead = held :: later → yields (.movBurstIssue ch []) s fun t =>
        (t.chan n).issued = q.issued + k ∧ (t.chan n).out = q.out ++ [{ dst := q.issued, data := held.2 }] ∧ (t.chan n).ahead = later ∧
        t.mem = s.mem ∧ t.cus = s.cus) ∧
      (burstCheck s p q sa da = some (1, a) → q.out ≠ [] → yields (.movBurstIssue ch []) s fun t =>
        (t.chan n).failing = true ∧ (t.chan n).cause = 1 ∧ (t.chan n).out = q.out ∧ t.mem = s.mem ∧
        t.cus.foreignAccess = min 0xFFFF (s.cus.foreignAccess + 1) ∧ t.cus.lastAddr = w32 a)) ∧
    (hasBurst s n = false → mayReadAhead s n = true → s.mem.ecc = [] → (s.witnessOn p).isNone = true → run ea = true →
      burstCheck s p q ea (burstAddrs q.dst e (burstLenAt q e q.burst)) = none → yields (.movBurstIssue ch []) s fun t =>
        t = setChan n (fun r => { r with ahead := q.ahead ++ [(e, read ea)] }) s) ∧
    (q.out = [b] → b.put = none → b.lost = false → b.data.length = 4 → heldBurst s p wa = false → (∀ m < 16, (s.chan m).evtDL = 0 ∧ (s.chan m).evtErr = 0) → s.mem.ecc = [] →
      q.dst.fixed = false → run wa = true → Memory.wf 0 s.mem.sram = true → yields (.movBurstComplete ch) s fun t =>
        (t.chan n).out = [] ∧
        cellGet 0 t.mem.sram z = (if wa.headD 0 ≤ z ∧ z < wa.headD 0 + 4 then b.data.getD (z - wa.headD 0) 0 else cellGet 0 s.mem.sram z))

/-- Flash commands (11 R249 to R253): the key sequence unlocks one command, which the bank runs until it ends, with its effect or with a
verify that failed; a locked bank, sector or place refuses by its ERR code. -/
def Obligations.FlashCommandsRunInTheirBank : Prop :=
  ∀ (bank : Fin 4) (v : Word) (z a : Nat) (d : Bytes) (o : FlashOp) (s : State),
    let b := bank.val
    let k := s.bank b
    let mine := fun (o : FlashOp) (t : State) => t = setBank b (fun r => { r with keyed := false, unlocked := false, err := 0, busy := some o, own := false }) s
    let refused := fun (e : Nat) (t : State) => t = setBank b (fun r => { r with keyed := false, unlocked := false, err := e }) s
    let free := k.unlocked && k.busy.isNone
    let base := 0x20000000 + b * 0x200000
    let alone := decide (k.own = false) && s.store.run.isNone && s.store.queue.isEmpty
    let place := k.addr.toNat / 16 * 16 % 0x200000
    let sector := k.addr.toNat / 0x4000 % 128
    (yields (.flcKey bank v) s fun t => t = setBank b (fun r =>
      if !k.keyed && !k.unlocked && decide (v.toNat % 65536 = 0x71C4) then { r with keyed := true }
      else if k.keyed && decide (v.toNat % 65536 = 0x8E3B) then { r with keyed := false, unlocked := true }
      else { r with keyed := false, unlocked := false, err := 1 }) s) ∧
    (k.unlocked = false → yields (.program bank) s (refused 8) ∧ yields (.eraseSector bank) s (refused 8) ∧ yields (.blankCheck bank) s (refused 8) ∧
      yields (.eraseBank bank) s (refused 8)) ∧
    (k.unlocked = true → k.busy.isSome = true → yields (.program bank) s (refused 3) ∧ yields (.eraseSector bank) s (refused 3) ∧
      yields (.blankCheck bank) s (refused 3) ∧ yields (.eraseBank bank) s (refused 3)) ∧
    (free = true → k.locked sector = true → yields (.program bank) s (refused 2) ∧ yields (.eraseSector bank) s (refused 2) ∧
      yields (.blankCheck bank) s (refused 2)) ∧
    (free = true → k.locked sector = false →
      yields (.program bank) s (fun t => if flashBlank s b place 16 then mine (.program place (k.data.toList.flatMap fun w => leBytes 4 w.toNat)) t else refused 4 t) ∧
      yields (.eraseSector bank) s (mine (.erase sector)) ∧ yields (.blankCheck bank) s (mine (.blank sector))) ∧
    (free = true → vget s.fuses.counters 0 = 0 → (∀ i < 128, k.locked i = false) → yields (.eraseBank bank) s (mine .eraseAll)) ∧
    (free = true → vget s.fuses.counters 0 ≠ 0 → yields (.eraseBank bank) s (refused 6)) ∧
    (alone = true → k.busy = some (.erase sector) → yields (.flashOpDone bank .ok) s fun t => (t.bank b).busy = none ∧ (t.bank b).failed = false ∧
      cellGet 0xFF t.mem.flash z =
        (if base + sector * 0x4000 ≤ z ∧ z < base + (sector + 1) * 0x4000 then 0xFF else cellGet 0xFF s.mem.flash z)) ∧
    (alone = true → k.busy = some (.program a d) → d.length = 16 → Memory.wf 0xFF s.mem.flash = true → yields (.flashOpDone bank .ok) s fun t =>
      (t.bank b).busy = none ∧ (t.bank b).failed = false ∧
      cellGet 0xFF t.mem.flash z = (if base + a ≤ z ∧ z < base + a + 16 then d.getD (z - (base + a)) 0 else cellGet 0xFF s.mem.flash z)) ∧
    (alone = true → k.busy = some (.blank a) → yields (.flashOpDone bank .ok) s fun t => (t.bank b).busy = none ∧ (t.bank b).failed = false ∧
      (t.bank b).blank = flashBlank s b (a * 0x4000) 0x4000 ∧ t.mem.flash = s.mem.flash) ∧
    (alone = true → k.busy = some o → yields (.flashOpDone bank .verify) s fun t =>
      (t.bank b).busy = none ∧ (t.bank b).failed = true ∧ (t.bank b).err = 5)

/-- The record store as steward calls see it (11 R272, R273): an append that may be made joins the queue or begins, a read answers with
the record's bytes, the information is the store's own; without the right each is refused. -/
def Obligations.RecordCallsServeTheStore : Prop :=
  ∀ (core : Fin 4) (arg : Word) (p : Nat) (s : State),
    let c := core.val
    let w := fun (i : Nat) => descWord arg i s
    let d : RecDue := { kind := 1, payload := if w 1 % 512 = 0 then [] else s.sramRead (w 0) (w 1 % 512), who := .call c p arg }
    let old := (s.store.index.head?.map fun q => q.seq).getD 0
    let new := (s.store.index.getLast?.map fun q => q.seq).getD 0
    let u := callTaken c p s
    p < 7 → descOk p arg s = true → arg.toNat % 16 = 0 →
    (callerOf s c 0x20 arg = some p →
      (s.right p 0 = false → yields (.recordAppend core arg) s fun t => answered p 0x20 201 s t ∧ t.store = s.store) ∧
      (s.right p 0 = true → 448 < w 1 % 512 → yields (.recordAppend core arg) s fun t => answered p 0x20 302 s t ∧ t.store = s.store) ∧
      (s.right p 0 = true → w 1 % 512 ≤ 448 → (s.life ≤ 2 ∨ 5 ≤ s.life ∨ s.snt.rtcSet = false) → yields (.recordAppend core arg) s fun t => answered p 0x20 301 s t ∧ t.store = s.store) ∧
      (s.right p 0 = true → w 1 % 512 ≤ 448 → (s.life = 3 ∨ s.life = 4) → s.snt.rtcSet = true → bufCheck s p (w 0) (w 1 % 512) = .ok →
        yields (.recordAppend core arg) s fun t => t = recPump (setStore (fun r => { r with queue := r.queue ++ [d] }) u))) ∧
    (storeBusy s = true → yields (.recordRead core arg) s fun t => t = s) ∧
    (callerOf s c 0x21 arg = some p → storeBusy s = false →
      (s.right p 1 = false → yields (.recordRead core arg) s (answered p 0x21 201 s)) ∧
      (s.right p 1 = true → bufCheck s p (w 0) 560 = .ok → recFind s (w 1) = none → yields (.recordRead core arg) s (answered p 0x21 300 s)) ∧
      (∀ r, recFind s (w 1) = some r → s.right p 1 = true → bufCheck s p (w 0) 560 = .ok → yields (.recordRead core arg) s (answered p 0x21 0 s)) ∧
      (∀ r, recFind s (w 1) = some r → s.right p 1 = true → bufCheck s p (w 0) 560 = .ok → r.units ≤ 35 → Memory.wf 0 s.mem.sram = true →
        (w 0 + 560 ≤ arg.toNat ∨ arg.toNat + 16 ≤ w 0) → yields (.recordRead core arg) s fun t =>
          t.sramRead (w 0) (16 * r.units) = recBytes s (if w 2 % 2 = 1 then 3 else 2) r)) ∧
    (callerOf s c 0x22 arg = some p →
      (s.right p 0 = false → s.right p 1 = false → yields (.recordInfo core arg) s (answered p 0x22 201 s)) ∧
      (s.right p 0 = true ∨ s.right p 1 = true → Memory.wf 0 s.mem.sram = true → yields (.recordInfo core arg) s fun t => answered p 0x22 0 s t ∧
        t.sramRead arg.toNat 16 = leBytes 4 old ++ leBytes 4 new ++ leBytes 4 s.store.lap ++ leBytes 4 (s.store.l + 256 * bitN s.store.recovered)))

/-! ### Window, survey, sentinel -/

/-- The mirror (15 R346, R348, R351 to R353): a slot enters the latches whole, reads see one image while FREEZE lasts, a snapshot keeps
the rest of its slot, and slots 0, 3, 4 and 5 are published by time.
The host's side of the window (15 R355, R357, R359 to R361, R363, R364): an order to a cell goes its way once, characters go while
there is room, lines are released one by one, leaves are cleared where they are written 1. What the host writes wakes the device from
NAP (02 R45). -/
def Obligations.MirrorAndHostWindow : Prop :=
  (∀ (slot : Fin 128) (m : Fin 8) (n q : Nat) (v : BitVec 64) (hs : List HTxn) (s : State),
    let on := decide (1 ≤ s.win.state) && s.isl.vioW
    let image := s.win.frozen.getD s.win.live
    (s.gates.gfH = .slot n v q :: hs → yields .mirrorUpdate s fun t => t = { s with
      gates := { s.gates with gfH := hs },
      win := { s.win with live := vset s.win.live n (v, q), stale := s.win.stale || s.win.frozen.isSome } }) ∧
    (winLive s = true → yields (.mirrorSnapshot slot) s fun t => t = { s with win := { s.win with
      shadow := vset s.win.shadow slot.val ((vget image slot.val).1.extractLsb' 16 48), snapSeq := (vget image slot.val).2, snapSlot := 0x8000 + slot.val } }) ∧
    (on = true → yields .freeze s fun t => t = { napStir s with win := { s.win with frozen := some s.win.live, stale := false } }) ∧
    (on = true → yields .unfreeze s fun t => t = { napStir s with win := { s.win with frozen := none, stale := false } }) ∧
    (s.win.frozen.isSome = true → yields .freezeTimeout s fun t => t.win = { s.win with frozen := none, stale := false } ∧
      (7 ≤ s.isl.step → t.gates.gfH = s.gates.gfH ++ [.leaf 6 5 []])) ∧
    (7 ≤ s.isl.step → m.val = 0 ∨ m.val = 3 ∨ m.val = 4 ∨ m.val = 5 → yields (.stewardSlotPeriod m) s fun t =>
      let k := if vget s.win.seqs m.val = 0xFFFF then 1 else vget s.win.seqs m.val + 1
      t.gates.gfH = s.gates.gfH ++ [.slot m.val (slotValue s m.val) k] ∧ vget t.win.seqs m.val = k ∧ t.win.live = s.win.live)) ∧
  (∀ (cell : Fin 128) (v : BitVec 16) (b : Fin 16) (l : Text) (f : Bool) (rest : List (Bool × Text)) (s : State),
    let n := cell.val
    let c := s.cell n
    let cs := [v.setWidth 8, (v >>> 8).setWidth 8].filter fun x : Byte => decide (x ≠ 0)
    let k := (c.wseq + 1) % 16
    (winLive s = true → cellOwner s n ≠ 0 → c.st ≠ 0 → c.st ≠ 2 → yields (.cellWrite cell v) s fun t =>
      t.cell n = { c with st := 2, code := 0, wseq := k } ∧ t.gates.ghF = s.gates.ghF ++ [.cellOrder n v.toNat k] ∧
      (∀ m < 128, m ≠ n → t.cell m = s.cell m)) ∧
    (winLive s = true → cellOwner s n ≠ 0 → c.st = 2 → 7 ≤ s.isl.step → yields (.cellWrite cell v) s fun t =>
      t = { napStir s with gates := { s.gates with gfH := s.gates.gfH ++ [.leaf 6 1 []] } }) ∧
    (c.bind = .person → c.order.isSome = true → yields (.cellOrderTimeout cell) s fun t =>
      (t.cell n).order = none ∧ (t.cell n).taken = false ∧ n ∉ t.win.cellQ) ∧
    (winLive s = true → cs.length ≤ 256 - s.win.txFifo.length → cs ≠ [] → yields (.lbTx v) s fun t =>
      t = { napStir s with win := { s.win with txFifo := s.win.txFifo ++ cs }, gates := { s.gates with ghF := s.gates.ghF ++ [.chars cs] } }) ∧
    (winLive s = true → s.win.txFifo.length = 256 → cs ≠ [] → yields (.lbTx v) s fun t =>
      t.win = { s.win with txOverflow := true } ∧ t.gates.ghF = s.gates.ghF ++ [.lost]) ∧
    (winLive s = true → s.win.rx = some l → s.win.rxQ = (f, l) :: rest → yields .rxRelease s fun t =>
      t.win = { s.win with rx := none, rxQ := rest } ∧ (7 ≤ s.isl.step → t.gates.gfH = s.gates.gfH ++ [.line l, .leaf 6 2 []])) ∧
    (winLive s = true → s.win.rx = some l → s.win.rxQ = [] → yields .rxRelease s fun t => t = { napStir s with win := { s.win with rx := none } }) ∧
    (winLive s = true → yields (.lbFlagClear v) s fun t => t = { napStir s with win := { s.win with
      txOverflow := s.win.txOverflow && !v.getLsbD 14, lineLost := s.win.lineLost && !v.getLsbD 13 } }) ∧
    (winLive s = true → b.val < 15 → yields (.treeLeafClear b v) s fun t =>
      t = { napStir s with
            win := { s.win with branch := vset s.win.branch b.val (vget s.win.branch b.val &&& ~~~v) },
            gates := { s.gates with ghF := s.gates.ghF ++ [.leafClear b.val v.toNat] } }))

/-- What a person calls of the window (15 R356 to R358): its signal leaf, the binding of a cell, the oldest waiting order, and its answer;
a cell of another is refused. -/
def Obligations.CellCallsServeTheirOwner : Prop :=
  ∀ (core : Fin 4) (arg : Word) (p m : Nat) (s : State),
    let n := arg.toNat % 128
    let c := s.cell n
    let kind := arg.toNat / 256 % 8
    let code := arg.toNat / 256 % 32
    let waits := s.win.cellQ.find? fun k => decide (cellOwner s k = p)
    let no := arg.getLsbD 7
    p < 7 →
    (callerOf s core.val 0x38 arg = some p → 7 ≤ s.isl.step → yields (.treeSignal core arg) s fun t =>
      t.gates.gfH = s.gates.gfH ++ [.leaf 5 (p - 1) []] ∧ answered p 0x38 0 s t) ∧
    (callerOf s core.val 0x39 arg = some p →
      (cellOwner s n ≠ p → yields (.cellBind core arg) s fun t => answered p 0x39 201 s t ∧ t.win = s.win) ∧
      (cellOwner s n = p → 6 ≤ kind → yields (.cellBind core arg) s fun t => answered p 0x39 302 s t ∧ t.win = s.win) ∧
      (cellOwner s n = p → kind = 1 → c.st ≠ 2 → yields (.cellBind core arg) s fun t => answered p 0x39 0 s t ∧
        (t.cell n).bind = .person ∧ t.gates.gfH = s.gates.gfH ++ [.cell n 1 0 0]) ∧
      (cellOwner s n = p → kind = 1 → c.st = 2 → yields (.cellBind core arg) s fun t => answered p 0x39 301 s t ∧ t.win = s.win)) ∧
    (callerOf s core.val 0x3A arg = some p → descOk p arg s = true →
      (waits = none → yields (.cellTake core arg) s fun t => answered p 0x3A 300 s t ∧ t.win = s.win) ∧
      (waits = some m → m < 128 → yields (.cellTake core arg) s fun t => answered p 0x3A 0 s t ∧ (t.cell m).taken = true ∧ m ∉ t.win.cellQ)) ∧
    (callerOf s core.val 0x3B arg = some p →
      (no = true → code < 0x10 → yields (.cellAnswer core arg) s fun t => answered p 0x3B 302 s t ∧ t.win = s.win) ∧
      (no = false → cellOwner s n ≠ p → yields (.cellAnswer core arg) s fun t => answered p 0x3B 301 s t ∧ t.win = s.win) ∧
      (no = false → cellOwner s n = p → c.bind = .person → c.order.isSome = true → c.taken = true → yields (.cellAnswer core arg) s fun t =>
        answered p 0x3B 0 s t ∧ (t.cell n).order = none ∧ .cell n 3 0 (arg.toNat / 65536 % 16) ∈ t.gates.gfH))

/-- Survey measurements (16 R369, R372 to R374, R376 to R378, R383, 02 R40, 19 R465): averages become values, an overloaded or shorted output
is switched off and latched, an open one only shows it, bursts and reflectometers report, a CAN partner that differs from its baseline for
the time of R378 is a deviation, streamed groups fill their FIFOs. -/
def Obligations.SurveyRecordsWhatItMeasures : Prop :=
  ∀ (core : Fin 4) (n g : Fin 8) (k : Fin 10) (c : Fin 2) (av sm vals : List Nat) (r : Tdr) (e : Word) (rest : List Word) (b : Baseline) (kept : Bool) (s : State),
    let v := fun i => av.getD i 0
    let bad := decide (v 23 < 990) || decide (1010 < v 23)
    let st := if bad then 4 else 1
    let num := (List.zipWith (fun x y => if x < y then y - x else x - y) sm b.sig).sum
    let den := b.sig.sum
    let z := 24 + k.val
    let y := 42 + c.val
    let u := vget s.srv.tdr k.val
    let entry := fun (i : Nat) => w32 (0x80000000 + (3 * g.val + i) * 0x10000 + vals.getD (3 * g.val + i) 0 % 0x10000)
    (av.length = 24 → yields (.surveyAverage av) s fun t => t.srv.refBad = bad ∧
      (∀ i < 14, (t.sch i).value = v (if i ≤ 9 then i else i + 8) ∧ (t.sch i).status = st) ∧
      (∀ i < 8, (t.sch (16 + i)).value = v (10 + i) ∧ (t.sch (16 + i)).status = st)) ∧
    (av.length = 24 → yields (.oneMsAverage av) s fun t => vget t.isl.railAvg 0 = v 1 ∧ t.snt.vstbyMv = v 8 ∧
      vget t.isl.railAvg 1 = (if s.fuses.part = .an then vget s.isl.railAvg 1 else v 2) ∧ (∀ i < 8, (t.feed i).cur = v (10 + i))) ∧
    ((s.feed n.val).on = true → (s.feed n.val).fault = 0 → yields (.feedOpen n) s fun t => (t.feed n.val).fault = 1 ∧ (t.feed n.val).on = true) ∧
    ((s.feed n.val).on = true → yields (.feedOver n) s fun t =>
      (t.feed n.val).fault = 2 ∧ (t.feed n.val).on = false ∧ (t.feed n.val).latched = true) ∧
    ((s.feed n.val).on = true → yields (.feedShort n) s fun t =>
      (t.feed n.val).fault = 3 ∧ (t.feed n.val).on = false ∧ (t.feed n.val).latched = true) ∧
    (s.port.burst = some n.val → sm.length = 64 → yields (.signatureDone n sm) s fun t => vget t.srv.sig n.val = some sm ∧
      (s.port.heldOn = [] → t.port.burst = none) ∧
      ((s.sch (16 + n.val)).base = some b → den ≠ 0 → n.val ∉ s.port.heldOn → vget t.srv.dist n.val = min 255 ((200 * num + den) / (2 * den)))) ∧
    (yields .tdrMeasureStart s fun t => ∀ i < 10, (vget t.srv.tdr i).running = true ∧
      (vget t.srv.tdr i).kept = (if (vget s.srv.tdr i).running then (vget s.srv.tdr i).kept else 0)) ∧
    (u.running = true → yields (.tdrAcquisition k kept) s fun t =>
      t = if kept then { s with srv := { s.srv with tdr := vset s.srv.tdr k.val { u with kept := u.kept + 1 } } } else s) ∧
    (u.running = true → s.srv.jobs = [] → yields (.tdrMeasurementDone k r) s fun t =>
      vget t.srv.tdr k.val = { last := some (tdrNorm r), running := false, kept := 0 } ∧ (t.sch z).value = r.len ∧
      (t.sch z).status = (if (tdrNorm r).cls = 3 then 2 else 1)) ∧
    (u.running = true → yields (.tdrMeasurementAbandon k) s fun t => (vget t.srv.tdr k.val).running = false ∧ (t.sch z).status = 3) ∧
    ((s.sch z).status = 3 → (s.sch z).base = some b → (s.sch z).dev = false → yields (.starvedTimeout k) s fun t =>
      (t.sch z).dev = true ∧ (t.sch z).cause = 12) ∧
    ((s.sch y).base = some b → b.value ≠ bitN (vget s.port.can c.val).present → (vget s.port.can c.val).busOff = false → (s.sch y).dev = false →
      yields (.canPartnerTimeout c) s fun t => (t.sch y).dev = true ∧ (t.sch y).cause = 14) ∧
    ((vget s.port.can c.val).busOff = false → yields (.canPresenceLapse c) s fun t => (vget t.port.can c.val).present = false ∧ (t.sch y).value = 0) ∧
    (ownsFrame s core.val 0x51 = true → vget s.srv.fifo g.val = e :: rest → yields (.srvFifoRead core g) s fun t =>
      (t.core core.val).lastDev = e ∧ vget t.srv.fifo g.val = rest) ∧
    (s.isl.port = .run → vals.length = 24 → s.srv.decim ≤ s.srv.scans → s.srv.en.getLsbD g.val = true → (vget s.srv.fifo g.val).length ≤ 13 →
      yields (.converterScan vals) s fun t => vget t.srv.fifo g.val = vget s.srv.fifo g.val ++ [entry 0, entry 1, entry 2] ∧ t.srv.scans = 0)

/-- The sentinel (17 R390 to R399, R403, R404, R424): its seconds and alarm, its monitors and switches with the tamper entry each makes, the
loss of VSTBY and what follows it, the copies and the calls of the persons. -/
def Obligations.SentinelKeepsTimeAndWatch : Prop :=
  ∀ (core : Fin 4) (n : Fin 4) (cnt i p : Nat) (tc : Int) (opened : Bool) (cls : MeshClass) (why : VstbyCause) (arg : Word) (s : State),
    let q := s.snt
    let entry := fun (cause detail : Nat) (t : State) => tamperSlot s = some i → i < 64 → t.snt.tindex = i ∧ vget t.snt.tlog i =
      some { cause := cause, detail := detail, count := 1, sec := q.rtcSec, frac := rtcFracWord s, start := s.isl.startSeq, seq := q.tseq + 1 }
    let code := match cls with | .opened => 1 | .shorted => 2 | .mismatch => 3
    let high := decide (130 < tc)
    let gone := high || decide (tc < -45)
    let fr := (vget q.fracShadow core.val).getD q.rtcFrac
    let l := (uncopiedSlots s).take 28
    let ent := (tamperFrom s (descWord arg 1 s)).take (descWord arg 2 s)
    (q.vstbyOk = true → yields .rtcSecond s fun t => t.snt.rtcSec = q.rtcSec + 1 ∧ t.snt.rtcFrac = 0 ∧ t.secs = s.secs + 1 ∧ t.snt.rtcValid = q.rtcValid ∧
      t.snt.alarm = (if q.alarm.toNat ≤ (q.rtcSec + 1).toNat then 0 else q.alarm)) ∧
    (yields (.sntRtcSecLoad core) s fun t => (t.core core.val).lastDev = q.rtcSec ∧ vget t.snt.fracShadow core.val = some q.rtcFrac) ∧
    (q.rtcFrac < 32768 → fr < 32768 → yields (.sntRtcFracLoad core) s fun t =>
      (t.core core.val).lastDev.toNat = bitN q.rtcValid * 2147483648 + fr * 2 ∧ vget t.snt.fracShadow core.val = none) ∧
    (q.vstbyOk = true → (cnt < 7840000 ∨ 8160000 < cnt) → q.rcFault = false → yields (.rcCheck cnt) s fun t => t.snt.rcFault = true ∧ entry 7 2 t) ∧
    (q.vstbyOk = true → 7840000 ≤ cnt → cnt ≤ 8160000 → yields (.rcCheck cnt) s fun t => t.snt = { q with rcFault := false }) ∧
    (q.vstbyOk = true → q.x32Fault = false → yields .x32Fault s fun t => t.snt.x32Fault = true ∧ t.snt.rtcValid = false ∧ t.snt.rtcSec = q.rtcSec ∧ entry 7 1 t) ∧
    (q.vstbyOk = true → yields .x32Return s fun t => t.snt = { q with x32Fault := false }) ∧
    (q.vstbyOk = true → yields (.tempSample tc) s fun t => t.snt.temp = tc ∧
      (gone = true → q.tempRun = 2 → q.tempRunHigh = high → q.tempOut = false → t.snt.tempOut = true ∧ entry 8 (if high then 2 else 1) t) ∧
      (-40 ≤ tc → tc ≤ 125 → t.snt.tempOut = false ∧ t.snt.tlog = q.tlog)) ∧
    (q.vstbyOk = true → q.tmpOpen.getLsbD n.val ≠ opened → yields (.caseChange n opened) s fun t => t.snt.tmpOpen.getLsbD n.val = opened ∧
      (∀ j < 4, j ≠ n.val → t.snt.tmpOpen.getLsbD j = q.tmpOpen.getLsbD j) ∧ entry (if opened then 1 else 2) n.val t ∧
      t.snt.hold.case_ = (q.hold.case_ || (opened && decide (2 ≤ s.counter 0)))) ∧
    (q.vstbyOk = true → q.mesh ≠ code → yields (.meshEvent cls) s fun t => t.snt.mesh = code ∧ entry 3 code t ∧
      t.snt.hold.mesh = (q.hold.mesh || decide (2 ≤ s.counter 0))) ∧
    (q.vstbyOk = true → yields .meshRestored s fun t => t.snt = { q with mesh := 0 }) ∧
    (yields (.vstbyLoss why) s fun t => t.snt.vstbyOk = false ∧ t.snt.rtcValid = false ∧ t.snt.hold = {} ∧ t.snt.tlog = Vector.replicate 64 none ∧
      t.snt.fences = 0 ∧ t.isl.startSeq = 0 ∧ (∀ j < 46, (t.sch j).base = none)) ∧
    (q.vstbyOk = false → yields .sentinelPowerUp s fun t => t.snt.vstbyOk = true ∧ t.snt.rtcValid = false ∧ t.snt.rtcSec = 0 ∧ t.isl.vstbyLostSeen = true ∧
      t.snt.hold.vstby = (q.hold.vstby || decide (2 ≤ s.counter 0))) ∧
    (s.up1 = true → l ≠ [] → copying s = false → s.counter 0 < 4 → s.store.run.isSome = true → yields .tamperCopy s fun t =>
      t = { s with store := { s.store with queue := s.store.queue ++
        [{ kind := 6, payload := l.flatMap (fun j => entryBytes ((vget q.tlog j).getD {})), who := .tamper l }] } }) ∧
    (callerOf s core.val 0x10 arg = some p → p < 7 → yields (.rtcAlarm core arg) s fun t =>
      if s.srcOwner 91 = p then answered p 0x10 0 s t ∧ t.snt = { q with alarm := arg } else answered p 0x10 201 s t ∧ t.snt = q) ∧
    (callerOf s core.val 0x12 arg = some p → p < 7 → descOk p arg s = true →
      (s.right p 15 = false → yields (.tamperRead core arg) s (answered p 0x12 201 s)) ∧
      (s.right p 15 = true → bufCheck s p (descWord arg 0 s) (16 * ((tamperFrom s (descWord arg 1 s)).take (descWord arg 2 s)).length) = .ok →
        yields (.tamperRead core arg) s (answered p 0x12 0 s)) ∧
      (s.right p 15 = true → ent ≠ [] → bufCheck s p (descWord arg 0 s) (16 * ent.length) = .ok → Memory.wf 0 s.mem.sram = true →
        (descWord arg 0 s + 16 * ent.length ≤ arg.toNat ∨ arg.toNat + 16 ≤ descWord arg 0 s) → yields (.tamperRead core arg) s fun t =>
          t.sramRead (descWord arg 0 s) (16 * ent.length) = ent.flatMap fun e => entryBytes e.2))

/-! ### Orune -/

/-- Pairs that read (14 R331): each answers its line with the text of the vocabulary table and changes nothing else. READ IDENTITY,
READ TIME and READ LIFECYCLE are open, the logs need their rights, the others any session. -/
def Obligations.ReadPairsAnswerTheirLine : Prop :=
  ∀ (ln : Ln) (p seq i : Nat) (c : Fin 4) (pr : Pair) (n : Fin 8) (fb3 : Bool) (from_ : Option Nat) (ch : Charter) (r : RecPos) (s : State),
    let q := s.person p
    let img := (s.img p).getD {}
    let z := pairNo pr
    let x := tx
    let yn := fun b => decText (bitN b)
    let bit := fun m k => if m / 2 ^ k % 2 = 1 then '1' else '0'
    let bs := recBytes s (if fb3 then 3 else 2) r
    let fin := fun t => [('+', spaced t)]
    let logs := s.stw.elog.filter fun e => decide (from_.getD 0 ≤ e.idx)
    lineTells (.readIdentity ln) ln false none
      [('~', x "RECKEY=" ++ (match s.fuses.recPub with | some k => hexGroups k | none => x "NONE")),
       ('+', spaced [x "IDENTITY", x (if s.fuses.part = .an then "CG-4664-AN" else "CG-4664-AH"), x "DEVICE_ID=" ++ hexGroups deviceId,
         x "ROM=" ++ dotted Config.romVersion, x "PATCH=" ++ (match s.bun.patch with | some v => dotted v.toNat | none => x "NONE"),
         x "POS=" ++ decText s.chn.pos])] s ∧
    lineTells (.readChain ln) ln true none
      (fin [x "CHAIN", x "NODES=" ++ decText s.chn.members.length, x "POS=" ++ decText s.chn.pos, x "RING=" ++ yn s.chn.ring]) s ∧
    lineTells (.readTime ln) ln false none
      (fin [x "TIME", if s.snt.rtcValid then timeText s.snt.rtcSec.toNat s.snt.rtcFrac else x "INVALID"]) s ∧
    lineTells (.readLifecycle ln) ln false none
      (fin ([x "LIFECYCLE", lifeName s.life] ++ (if s.snt.hold.any then [x "HOLD=OPEN"] else []) ++
        (if s.snt.rtcValid then [] else [x "RTC=INVALID"]))) s ∧
    (1 ≤ p → p ≤ 6 → q.run = .running → s.checking p = false → lineTells (.readPerson ln p) ln true none
      (fin [x "PERSON", decText p, x "RUNNING", x "EXEC=" ++ x (if (s.witnessOn p).isSome then "WITNESS" else "SINGLE"),
        x "CORES=0b" ++ [bit q.cores 3, bit q.cores 2, bit q.cores 1, bit q.cores 0], x "SV=" ++ decText img.sv,
        x "DISPLAY=" ++ dotted img.display]) s) ∧
    ((partCores s).contains c.val = true → lineTells (.readCore ln c) ln true none
      (fin [x "CORE", decText c.val, x (if (s.core c.val).fenced then "FENCED" else if vget s.isl.pairSt (c.val / 2) = .run then "RUN" else "OFF"),
        x (if (s.core c.val).selftestFail then "SELFTEST=FAIL" else "SELFTEST=PASS")]) s) ∧
    lineTells (.readOppoint ln pr) ln true none
      (fin [x "OPPOINT", x (match pr with | .a => "A" | .b => "B"), x "REQ=" ++ (match opRequests s z with | [] => x "NONE" | l => decText (l.foldl Nat.max 0)),
        x "MAX=" ++ decText (vget s.isl.opMax z), x "CUR=" ++ decText (vget s.isl.opCur z)]) s ∧
    lineTells (.readFeed ln n) ln true none
      (fin [x "FEED", decText n.val, x (if (s.feed n.val).on then "ON" else "OFF"), x "I=" ++ decText ((s.feed n.val).cur / 100),
        x "FAULT=" ++ x (match (s.feed n.val).fault with | 0 => "NONE" | 1 => "OPEN" | 2 => "OVER" | 3 => "SHORT" | _ => "")]) s ∧
    (i < 10 → lineTells (.measureSurvey ln (chanName i)) ln true none
      (fin [x "SURVEY", chanName i, x "VALUE=" ++ decText (s.sch i).value,
        x "BASE=" ++ (match (s.sch i).base with | some b => decText b.value | none => x "NONE"),
        x "TOL=" ++ (match (s.sch i).base with | some b => decText b.win | none => x "NONE"),
        x (if (s.sch i).dev then "STATE=DEVIATION" else "STATE=OK")]) s) ∧
    (s.stw.charter = some ch → lineTells (.readCharter ln) ln true none
      (fin [x "CHARTER", x "SV=" ++ decText ch.sv, x "FORMAT=1", x "PENDING=" ++ yn s.stw.chPending]) s) ∧
    lineTells (.readBundle ln) ln true none
      (fin ([x "BUNDLE", stageName s.bun.st, x "ID=" ++ hexWord s.bun.id] ++
        ((List.range 7).filter fun t => decide (vget s.bun.result t ≠ 0)).map fun t => 'P' :: decText t ++ '=' :: resultName (vget s.bun.result t))) s ∧
    lineTells (.readRecord ln) ln true (some 1)
      (fin [x "RECORD", x "OLDEST=" ++ decText ((s.store.index.head?.map (·.seq)).getD 0),
        x "NEWEST=" ++ decText ((s.store.index.getLast?.map (·.seq)).getD 0), x "LAP=" ++ decText s.store.lap, x "L=" ++ decText s.store.l,
        x "RECOVERED=" ++ yn s.store.recovered]) s ∧
    (recFind s seq = some r → recSplit s r = false → storeBusy s = false → recBad s 2 r = false → recBad s 3 r = false → lineTells (.readRecordSeq ln seq fb3) ln true (some 1)
      (((List.range r.units).map fun k => ('~', spaced [x "U=" ++ decText k, hexGroups (slice bs (16 * k) 16)])) ++
        fin [x "RECORD", x "SEQ=" ++ decText seq, x "UNITS=" ++ decText r.units, x "SPLIT=0",
          x "FB2=" ++ x (if recVerifies s 2 r then "OK" else "BAD"), x "FB3=" ++ x (if recVerifies s 3 r then "OK" else "BAD")]) s) ∧
    lineTells (.readTamper ln i) ln true (some 15)
      ((tamperFrom s i).map (fun e => ('~', tamperText e.1 e.2)) ++ fin [x "TAMPER", x "COUNT=" ++ decText (tamperFrom s i).length]) s ∧
    lineTells (.readEvent ln from_) ln true (some 15)
      (logs.map (fun e => ('~', eventText e)) ++ fin [x "EVENT", x "NEXT=" ++ decText s.stw.elogNext]) s

/-- Pairs that act at once, being on no control object (02 R41, 13 R332, 14 R331): SET OPPOINT changes the request its session's party makes,
WRITE CHARTER appends to the carrier's buffer, RESTART DEVICE begins a start after its reply, and a reason given to HOLD LIFECYCLE is
entered in the event log ahead of its order. -/
def Obligations.PairsActAtOnce : Prop :=
  ∀ (ln : Ln) (pr : Pair) (v : Option (Fin 5)) (at_ : Nat) (data : Bytes) (reason : Text) (s : State),
    let u := lineTaken ln s
    let who := partyOf s ln.car
    let buf := (s.car ln.car).chBuf
    let n := pairNo pr
    lineAccepted ln s = true → (sessOf s ln.car).isSome = true →
      (partyRight s who 10 = true → (n = 0 ∨ s.fuses.part = .ah) → yields (.setOppoint ln pr v) s fun t =>
        vget t.isl.opReq n = vset (vget s.isl.opReq n) (8 + who) (match v with | some k => k.val | none => 7)) ∧
      ((s.life = 1 ∨ partyRight s who 12 = true) → at_ = buf.length → at_ + data.length ≤ 792 →
        (data.length % 16 = 0 ∨ at_ + data.length = 792) → 16 ≤ data.length → data.length ≤ 96 →
        yields (.writeCharter ln at_ data) s fun t => (t.car ln.car).chBuf = buf ++ data ∧ t.stw = s.stw) ∧
      ((s.life = 1 ∨ partyRight s who 13 = true) → s.life ≠ 5 → yields (.restartDevice ln) s fun t =>
        t.isl.power = .starting ∧ t.isl.next.restart = true ∧ t.isl.clean = true ∧
        (serialLine ln s = true → (t.car ln.car).out = (s.car ln.car).out ++ checked ln.car ln.sfx (replyHead ln '+' ++ tx " DEVICE RESTART") ++ crlf)) ∧
      (reason ≠ [] → mayOrder who (some ln.car) .hold u = true → yields (.holdLifecycle ln reason) s fun t =>
        t.oru.orders = u.oru.orders ++ [{ arr := u.isl.arrival, src := carSrc ln.car, party := who, rank := partyRank s who,
                                          act := .hold, objs := [.lifecycle], dest := .line ln }] ∧
        t.stw.elogNext = s.stw.elogNext + 1 ∧
        t.stw.elog.getLast?.map (fun e => (e.code, e.data)) =
          some (tx "HOLD_REASON", (List.range 5).map fun i => w32 (leAt (textBytes reason) (4 * i) 4)))

/-- Sessions (13 R313 to R317): a challenge of 16 bytes, a proof that opens the session or counts as failed, the lock after five failures
and its end, a card whose proof stays away, and sessions that end by CLOSE, by idle time on HST, or with the card taken out. -/
def Obligations.SessionsOpenProveAndEnd : Prop :=
  ∀ (ln : Ln) (k : SessArg) (proof chal : Bytes) (car : Carrier) (sl : Fin 2) (q : Sess) (w : CardWait) (s : State),
    let c := s.car ln.car
    let rnd := (randomBytes 16 (lineTaken ln s)).1
    let n := sl.val
    let room := fun (t : Text) => t.length ≤ replyRoom ln
    let known := match k with
      | .person p => decide (1 ≤ p) && decide (p ≤ 6) && s.present p
      | .workshop => true
      | .blank => decide (s.life = 1)
      | .card _ => false
    let opened := match k with
      | .person p => "SESSION P" ++ toString p ++ " PERSON"
      | .workshop => "SESSION WS WORKSHOP"
      | _ => "SESSION BK BLANK"
    (serialLine ln s = true → known = true → c.locked = false → room (tx "CHALLENGE " ++ hexGroups rnd) →
      yields (.openSession ln k none) s fun t =>
        told ln [('+', tx "CHALLENGE " ++ hexGroups rnd)] s t ∧ rnd.length = 16 ∧ (t.car ln.car).chal = some (k, rnd) ∧
        (t.car ln.car).chalAt = s.secs ∧ (t.car ln.car).sess = c.sess) ∧
    (serialLine ln s = true → known = true → c.locked = true → room (tx "E202 BAD_PROOF") →
      yields (.openSession ln k none) s (told ln [('-', tx "E202 BAD_PROOF")] s)) ∧
    (serialLine ln s = true → known = true → c.chal = some (k, chal) → s.secs < c.chalAt + 30 → proofOk s k ln.car chal proof = true →
      room opened.toList → yields (.proveSession ln proof) s fun t =>
        told ln [('+', opened.toList)] s t ∧ (t.car ln.car).sess = some { party := sessParty k } ∧ (t.car ln.car).fails = 0 ∧
        (t.car ln.car).chal = none) ∧
    (serialLine ln s = true → room (tx "E202 BAD_PROOF") →
      (c.chal = none ∨ (c.chal = some (k, chal) ∧ (c.chalAt + 30 ≤ s.secs ∨ proofOk s k ln.car chal proof = false))) →
      yields (.proveSession ln proof) s fun t =>
        told ln [('-', tx "E202 BAD_PROOF")] s t ∧ (t.car ln.car).sess = c.sess ∧ (t.car ln.car).chal = none ∧
        (t.car ln.car).fails = c.fails + 1 ∧ (t.car ln.car).locked = (c.locked || decide (5 ≤ c.fails + 1))) ∧
    (serialLine ln s = true → c.sess = some q → q.card = none → yields (.closeSession ln) s fun t =>
      told ln [('+', [])] s t ∧ (t.car ln.car).sess = none ∧ (t.car ln.car).chBuf = []) ∧
    ((s.car .hst).sess = some q → q.card = none → yields (.sessionIdleTimeout .hst) s fun t =>
      (t.car .hst).sess = none ∧ (t.car .hst).out = (s.car .hst).out ++ withCheck (tx "! SESSION END IDLE") ++ crlf) ∧
    ((s.car car).locked = true → yields (.lockoutExpiry car) s fun t => (t.car car).locked = false ∧ (t.car car).fails = 0) ∧
    ((s.slot n).wait = some w → yields (.cardSessionTimeout sl) s fun t =>
      (t.slot n).wait = none ∧ (t.car w.ln.car).fails = (s.car w.ln.car).fails + 1 ∧ (t.car w.ln.car).chal = none) ∧
    (cardsOn s = true → (s.slot n).present = true → (s.slot n).wait = none → yields (.cardRemove sl) s fun t =>
      (t.slot n).present = false ∧ ((s.car car).sess = some q → q.card = some n → (t.car car).sess = none))

/-- Lines by character and whole (13 R299 to R312, 19 R469): printable characters join a line and are echoed on SVC, editing
characters change it, its end brings it in whole; READ TIME in full or shortened words does what its pair does, and words that are no
pair have their answer. Breaks and the CR after them, lines of other nodes, and lines that name a person. -/
def Obligations.CharactersMakeLines : Prop :=
  ∀ (ch : Byte) (car : Carrier) (div16 : Nat) (ts : List OutTag) (p : Nat) (ln : Ln) (text : Text) (s : State),
    let c := s.car .svc
    let h := s.car .hst
    let k := s.car car
    let sv := fun (sfx : Bool) => ({ car := .svc, tag := some 7, sfx := sfx, pos := none } : Ln)
    let plain := setCar .svc (fun q => { q with lastSfx := false }) s
    let free := lineAccepted (sv false) s
    (heard s .svc = true → c.broken = false → c.long = false → c.inp.length < 250 → printable (Char.ofNat ch.toNat) = true →
      yields (.lineCharacter .svc ch) s fun t =>
        (t.car .svc).inp = c.inp ++ [Char.ofNat ch.toNat] ∧ (t.car .svc).out = c.out ++ [Char.ofNat ch.toNat]) ∧
    ((car = .hst ∨ car = .win) → heard s car = true → k.broken = false → k.long = false → k.inp.length < 250 →
      printable (Char.ofNat ch.toNat) = true → yields (.lineCharacter car ch) s fun t =>
        (t.car car).inp = k.inp ++ [Char.ofNat ch.toNat] ∧ (t.car car).out = k.out) ∧
    ((car = .svc ∨ car = .hst ∨ car = .win) → heard s car = true → k.broken = false → k.long = false → k.bad = false → k.lost = false → ch = 0x0D →
      exec (.lineCharacter car ch) s = exec (.lineReceived car k.inp)
        (setCar car (fun q => { q with inp := [], afterCr := true, out := q.out ++ (if car = .svc then crlf else []) }) (napStir s))) ∧
    (heard s .svc = true → c.broken = false → c.long = false → suffixOf c.inp = none → c.inp ≠ [] → (ch = 0x08 ∨ ch = 0x7F) →
      yields (.lineCharacter .svc ch) s fun t =>
        (t.car .svc).inp = c.inp.dropLast ∧ (t.car .svc).out = c.out ++ [Char.ofNat 8, ' ', Char.ofNat 8]) ∧
    (heard s .svc = true → c.broken = false → c.long = false → suffixOf c.inp = none → (ch = 0x15 ∨ ch = 0x03) →
      yields (.lineCharacter .svc ch) s fun t => (t.car .svc).inp = [] ∧ (t.car .svc).out = c.out ++ crlf) ∧
    (heard s .svc = true → c.broken = false → c.long = false → c.bad = false → c.lost = false → (c.inp.all fun x => decide (x = ' ')) = true → ch = 0x0D →
      yields (.lineCharacter .svc ch) s fun t =>
        (t.car .svc).inp = [] ∧ (t.car .svc).out = c.out ++ crlf ∧ (t.car .svc).tags = c.tags ∧ t.isl.arrival = s.isl.arrival + 1) ∧
    (heard s .svc = true → (text = tx "7 READ TIME" ∨ text = tx "7 rea tim" ∨ text = tx "7  Read  TIME") →
      exec (.lineReceived .svc text) s = exec (.readTime (sv false)) plain) ∧
    (free = true → c.inp = [] → text = tx "7 FROB TIME" → yields (.lineReceived .svc text) s (told (sv false) [('-', tx "E104 UNKNOWN FROB")] s)) ∧
    (free = true → c.inp = [] → text = tx "7 RE TIME" → yields (.lineReceived .svc text) s (told (sv false) [('-', tx "E104 UNKNOWN RE")] s)) ∧
    (free = true → c.inp = [] → text = tx "7 CLOSE SURVEY" → yields (.lineReceived .svc text) s (told (sv false) [('-', tx "E106 NOT_VALID SURVEY")] s)) ∧
    (h.begun = true → yields (.lineTimeout .hst) s fun t => (t.car .hst).inp = [] ∧ (t.car .hst).begun = false ∧ (h.long = false → h.bad = false →
      (t.car .hst).out = h.out ++ withCheck (tx "- E103 SYNTAX") ++ crlf)) ∧
    (heard s car = true → (car = .svc ∨ car = .hst) → yields (.lineBreak car) s fun t =>
      (t.car car).sess = none ∧ (t.car car).broken = true ∧ (t.car car).inp = []) ∧
    ((s.car car).broken = true → (car = .svc ∨ car = .hst) → (if car = .svc then 4340 else 667) ≤ div16 → div16 ≤ 416667 → yields (.baudCr car div16) s fun t =>
      (t.car car).broken = false ∧ (t.car car).inp = (s.car car).inp ∧ (if car = .svc then t.port.svcDiv = div16 else t.port.hstDiv = div16)) ∧
    (s.oru.cars = [{ car := .svc, tags := ts }] → yields .remoteKeepTimer s fun t => t = s) ∧
    (s.oru.cars = [{ car := .chain 2 1, tags := ts }] → s.chn.pos = 1 → s.chn.members = [{ pos := 1 }, { pos := 2 }] → s.chn.ring = false →
      s.chn.rerouted = false → (s.cport 1).st = .up → yields .remoteKeepTimer s fun t => (t.cport 1).tx = (s.cport 1).tx + ts.length) ∧
    ((h.tags.map (·.tag)).Nodup → h.tags.any (fun q => decide (q.tag = some 7) && decide (q.node = p)) = true → p ≠ 0 →
      yields (.remoteLineTimeout .hst (some 7)) s fun t =>
        (t.car .hst).tags = h.tags.filter (fun q => decide (q.tag ≠ some 7)) ∧
        (t.car .hst).out = h.out ++ withCheck ('@' :: decText p ++ tx " -7 E600 NO_ROUTE") ++ crlf) ∧
    (lineAccepted ln s = true → (sessOf s ln.car).isSome = true → 1 ≤ p → p ≤ 6 → s.present p = true → (s.person p).run ≠ .dead →
      mailOrders (s.mbox p) < 16 → (s.mbox p).refs = [] → (s.mbox p).nextRef ≤ 255 → 1 ≤ (s.mbox p).nextRef → yields (.personNounLine ln p text) s fun t =>
        (t.mbox p).mail = (s.mbox p).mail ++ [{ kind := 2, car := carCode ln.car, sender := partyOf s ln.car, ref := (s.mbox p).nextRef, text := text }] ∧
        (t.mbox p).refs = [((s.mbox p).nextRef, ln)])

/-- A person's mailbox (04 R119, 13 R319, R320, 01 R28): its lines go in by ORUNE_SEND, the oldest entry comes out by ORUNE_TAKE, an
answer goes back under its originator's tag, and one that stays away 2 s is answered for it. A RETIRE order that nobody confirms lapses,
which the event log shows. -/
def Obligations.MailboxesServeTheirPerson : Prop :=
  ∀ (core : Fin 4) (arg : Word) (p r : Nat) (m : Mail) (rest : List Mail) (ln : Ln) (t0 : Text) (rt : Retire) (s : State),
    let w := fun (i : Nat) => descWord arg i s
    let time7 := tx "+7 TIME " ++ (if s.snt.rtcValid then timeText s.snt.rtcSec.toNat s.snt.rtcFrac else tx "INVALID")
    let ln0 : Ln := { car := .core p, tag := some 7, sfx := false, pos := none }
    (callerOf s core.val 0x30 arg = some p → descOk p arg s = true → (w 1 = 0 ∨ 250 < w 1) →
      yields (.oruneSend core arg) s (answered p 0x30 302 s)) ∧
    (callerOf s core.val 0x30 arg = some p → descOk p arg s = true → w 1 = 11 → bufCheck s p (w 0) 11 = .ok → bytesText (s.sramRead (w 0) 11) = tx "7 READ TIME" →
      tagRefusal s ln0 = none → mailReplies (s.mbox p) < 64 → yields (.oruneSend core arg) s fun t =>
        answered p 0x30 0 s t ∧ (t.mbox p).mail = (s.mbox p).mail ++ [{ kind := 1, car := 5, sender := 0, ref := 0, text := time7 }]) ∧
    (callerOf s core.val 0x31 arg = some p → descOk p arg s = true → (s.mbox p).mail = [] → yields (.oruneTake core arg) s (answered p 0x31 300 s)) ∧
    (callerOf s core.val 0x31 arg = some p → descOk p arg s = true → (s.mbox p).mail = m :: rest → bufCheck s p (w 0) 256 = .ok → m.text.length ≤ 256 → Memory.wf 0 s.mem.sram = true →
      (w 0 + 256 ≤ arg.toNat ∨ arg.toNat + 16 ≤ w 0) → yields (.oruneTake core arg) s fun t =>
        answered p 0x31 0 s t ∧ (t.mbox p).mail = rest ∧ t.sramRead (w 0) m.text.length = textBytes m.text ∧ leAt (t.sramRead arg.toNat 16) 4 4 = m.text.length) ∧
    (callerOf s core.val 0x32 arg = some p → descOk p arg s = true → (s.mbox p).refs.any (fun q => decide (q.1 = w 2)) = false →
      yields (.oruneReply core arg) s (answered p 0x32 300 s)) ∧
    (callerOf s core.val 0x32 arg = some p → descOk p arg s = true → (s.mbox p).refs = [(w 2, ln)] → ln.car = .hst → tagOpen s ln = true → 2 ≤ w 1 → w 1 ≤ 250 →
      bufCheck s p (w 0) (w 1) = .ok → bytesText (s.sramRead (w 0) (w 1)) = tx "+ " ++ t0 → t0.length ≤ replyRoom ln → t0.all printable = true → t0 ≠ [] →
      yields (.oruneReply core arg) s fun t =>
        answered p 0x32 0 s t ∧ (t.mbox p).refs = [] ∧ tagOpen t ln = false ∧
        (t.car .hst).out = (s.car .hst).out ++ withCheck (replyHead ln '+' ++ ' ' :: t0) ++ crlf) ∧
    ((s.mbox p).refs = [(r, ln)] → p < 7 → ln.car = .hst → tagOpen s ln = true → yields (.mailboxReplyTimeout p r) s fun t =>
      (t.mbox p).refs = [] ∧ tagOpen t ln = false ∧
      (t.car .hst).out = (s.car .hst).out ++ withCheck (replyHead ln '-' ++ tx " E301 WRONG_STATE NO_REPLY") ++ crlf) ∧
    (s.stw.retire = some rt → yields .retireLapse s fun t => t.stw.retire = none ∧ t.stw.elogNext = s.stw.elogNext + 1 ∧ t.fuses = s.fuses ∧
      t.stw.persons = s.stw.persons ∧ t.cores = s.cores) ∧
    (s.stw.retire = none → yields .retireLapse s fun t => t = s)

/-! ### Seal -/

/-- Seal jobs that compute (17 R411, R414 to R416, R420): given buffers of its own and a key whose type the operation admits, a job is
served with status 0 and its output, touches no other byte and no key; a wrong key, tag or signature has its own status. -/
def Obligations.SealJobsComputeTheirOutput : Prop :=
  ∀ (p : Nat) (j : SealRun) (pt : Bytes) (q : Nat × Nat) (s : State),
    let inp := sealInp j s
    let aux := sealAux j s
    let k := sealKey p j s
    let cap := descW j 4
    let out := descW j 3
    let c := curveOf k.ty
    let blocks := decide (inp.length % 16 = 0) && decide (inp.length ≤ cap)
    let iv := decide (aux.length = 16)
    let digest := decide (inp.length = 32) || decide (inp.length = 48)
    let g := gcmEnc k.key (aux.take 12) (aux.drop 28) inp
    let vc := if aux.length = 193 then p384 else p256
    let canWrite := fun n => decide (n ≤ cap) && decide (bufCheck s p out n = .ok) && Memory.wf 0 s.mem.sram
    sealGives (.aesEcbEncrypt p) p 0x01 j (isAes k.ty && blocks) (ecbEnc k.key inp) s ∧
    sealGives (.aesEcbDecrypt p) p 0x02 j (isAes k.ty && blocks) (ecbDec k.key inp) s ∧
    sealGives (.aesCbcEncrypt p) p 0x03 j (isAes k.ty && blocks && iv) (cbcEnc k.key aux inp) s ∧
    sealGives (.aesCbcDecrypt p) p 0x04 j (isAes k.ty && blocks && iv) (cbcDec k.key aux inp) s ∧
    sealGives (.aesCtr p) p 0x05 j (isAes k.ty && decide (inp.length ≤ cap) && iv) (ctrEnc k.key aux inp) s ∧
    (sealReady p 0x06 j s = true → isAes k.ty = true → 28 ≤ aux.length → inp.length ≤ cap → g.1.length ≤ cap → canWrite g.1.length = true →
      (out + g.1.length ≤ descW j 5 ∨ descW j 5 + descW j 6 ≤ out) → g.2.length = 16 → bufCheck s p (descW j 5 + 12) 16 = .ok →
      yields (.aesGcmEncrypt p) s fun t => sealServed p j 0 g.1.length s t ∧ t.sramRead out g.1.length = g.1 ∧ t.sramRead (descW j 5 + 12) 16 = g.2) ∧
    (28 ≤ aux.length → gcmDec k.key (aux.take 12) (aux.drop 28) inp (slice aux 12 16) = some pt →
      sealGives (.aesGcmDecrypt p) p 0x07 j (isAes k.ty && decide (inp.length ≤ cap)) pt s) ∧
    (sealReady p 0x07 j s = true → isAes k.ty = true → 28 ≤ aux.length → inp.length ≤ cap → canWrite inp.length = true →
      gcmDec k.key (aux.take 12) (aux.drop 28) inp (slice aux 12 16) = none → yields (.aesGcmDecrypt p) s fun t =>
        sealServed p j 7 0 s t ∧ t.sramRead out inp.length = List.replicate inp.length 0) ∧
    sealGives (.aesCmac p) p 0x08 j (isAes k.ty && decide (16 ≤ cap)) (cmac k.key inp) s ∧
    sealGives (.sha256 p) p 0x10 j (decide (32 ≤ cap)) (sha256 inp) s ∧
    sealGives (.sha384 p) p 0x11 j (decide (48 ≤ cap)) (sha384 inp) s ∧
    sealGives (.hmacSha256 p) p 0x12 j (isHmac k.ty && decide (32 ≤ cap)) (hmac sha256P k.key inp) s ∧
    sealGives (.hmacSha384 p) p 0x13 j (isHmac k.ty && decide (48 ≤ cap)) (hmac sha384P k.key inp) s ∧
    sealGives (.ecdsaSign p) p 0x20 j (isEc k.ty && digest && decide (2 * c.len ≤ cap) && !s.seals.rngFail)
      (ecdsaWith c (beNat k.key) (scalarOf c (randomBytes 64 s).1) inp) s ∧
    (sealReady p 0x20 j s = true → isEc k.ty = true → digest = true → 2 * c.len ≤ cap → s.seals.rngFail = true →
      yields (.ecdsaSign p) s fun t => sealServed p j 10 0 s t ∧ t.mem = s.mem) ∧
    (sealReady p 0x21 j s = true → digest = true → aux.length = 4 * vc.len + 1 → ptRead vc (aux.take (2 * vc.len + 1)) = some q →
      yields (.ecdsaVerify p) s fun t => t.mem = s.mem ∧
        sealServed p j (if ecdsaOk vc q inp (aux.drop (2 * vc.len + 1)) then 0 else 7) 0 s t) ∧
    sealGives (.keyPublic p) p 0x23 j ((isEc k.ty || decide (k.ty = .fixed)) && decide (2 * c.len + 1 ≤ cap)) (ptBytes c (pubOf c (beNat k.key))) s ∧
    (sealReady p 0x01 j s = true → blocks = true → isAes k.ty = false → yields (.aesEcbEncrypt p) s fun t => t.mem = s.mem ∧
      sealServed p j (if k.ty = .empty then 5 else if k.ty = .fixed then 6 else 4) 0 s t) ∧
    sealGives (.random p) p 0x40 j (!s.seals.rngFail && decide (cap ≤ 0x100000)) (randomBytes cap s).1 s

/-- Seal jobs that change a key slot, the end of a job, the random source and the debug unlock (17 R411, R413, R415 to R417, R419, R421,
R423, 01 R30): a derived or generated key stands only in its slot. The type a derived key is kept as, AES256 or HMAC, is open. -/
def Obligations.SealKeysAndJobEnds : Prop :=
  ∀ (p n st len : Nat) (j : SealRun) (ty : KeyType) (q : Nat × Nat) (z token : Bytes) (s : State),
    let inp := sealInp j s
    let aux := sealAux j s
    let k := sealKey p j s
    let slot := descW j 0 / 256 % 4
    let dest := descW j 0 / 4096 % 4
    let c := curveOf k.ty
    let m := 2 * c.len + 1
    let rnd := (randomBytes 64 s).1
    let f := fun (i : Nat) => leAt aux i 1
    let tkey := transportKey s (aux.take 97) "SEAL import"
    let plain := tkey.bind fun key => gcmDec key (slice aux 100 12) (deviceId ++ slice aux 97 3) (slice aux 112 n) (aux.drop (112 + n))
    let good := fun (pt : Bytes) => !isEc ty || (decide (beNat pt ≠ 0) && decide (beNat pt < (curveOf ty).n))
    let derived := fun (key : Bytes) (t : State) => t.mem = s.mem ∧
      t.sealOf p = { s.sealOf p with slot := (t.sealOf p).slot, job := some { j with res := some (0, 0) } } ∧
      (vget (t.sealOf p).slot dest).key = key ∧ (vget (t.sealOf p).slot dest).origin = 3 ∧
      ((vget (t.sealOf p).slot dest).ty = .aes256 ∨ (vget (t.sealOf p).slot dest).ty = .hmac) ∧
      (∀ i < 4, i ≠ dest → vget (t.sealOf p).slot i = vget (s.sealOf p).slot i)
    let into := sealReady p 0x31 j s = true ∧ keyTypeOf (f 97) = some (ty, n) ∧ aux.length = 128 + n ∧ f 98 = slot ∧ f 99 = p
    (sealReady p 0x22 j s = true → isEc k.ty = true → inp.length ≤ 64 → m ≤ aux.length → aux.length ≤ m + 255 → ptRead c (aux.take m) = some q →
      ecdhX c (beNat k.key) q = some z → (vget (s.sealOf p).slot dest).ty ≠ .fixed →
      yields (.ecdh p) s (derived (hkdf sha256P inp z (aux.drop m) 32))) ∧
    (sealReady p 0x33 j s = true → k.ty = .hmac → inp.length ≤ 255 → aux.length ≤ 64 → (vget (s.sealOf p).slot dest).ty ≠ .fixed →
      yields (.keyDerive p) s (derived (hkdf sha256P aux k.key inp 32))) ∧
    (keyTypeOf (leAt inp 0 4) = some (ty, n) → sealKeeps (.keyGenerate p) p 0x30 j (decide (4 ≤ inp.length) && !s.seals.rngFail) slot
      { ty := ty, origin := 1, key := if isEc ty then beBytes n (scalarOf (curveOf ty) rnd) else rnd.take n } s) ∧
    sealKeeps (.keyErase p) p 0x32 j true slot {} s ∧
    (into → s.fuses.zeroize = false → k.ty ≠ .fixed → yields (.keyImport p) s fun t => t.mem = s.mem ∧
      t.sealOf p = (match plain with
        | some pt =>
          if good pt then { s.sealOf p with slot := vset (s.sealOf p).slot slot { ty := ty, origin := 2, key := pt }, job := some { j with res := some (0, 0) } }
          else { s.sealOf p with job := some { j with res := some (2, 0) } }
        | none => { s.sealOf p with job := some { j with res := some (if tkey.isSome then 7 else 2, 0) } })) ∧
    (into → s.fuses.zeroize = true → yields (.keyImport p) s (sealServed p j 9 0 s)) ∧
    (1 ≤ p → p ≤ 6 → (s.sealOf p).job = some j → j.res = some (st, len) → Memory.wf 0 s.mem.sram = true → j.desc % 16 = 0 → bufCheck s p j.desc 64 = .ok →
      bufZeroing s j.desc 64 = false → s.mem.ecc = [] → yields (.sealJobDone p) s fun t => t.sealOf p = { s.sealOf p with job := none, done := ((s.sealOf p).done + 1) % 65536, last := st } ∧
        t.sramRead (j.desc + 32) 8 = leBytes 4 len ++ leBytes 4 st) ∧
    yields .rngHealthFail s (fun t => t.seals = { s.seals with rngFail := true } ∧ t.stw.elogNext = s.stw.elogNext + 1 ∧ t.mem = s.mem) ∧
    yields .rngHealthRecover s (fun t => t = { s with seals := { s.seals with rngFail := false } }) ∧
    (awake s = true → s.counter 0 ≠ 0 → yields (.debugUnlock token) s fun t =>
      if s.seals.challenge ≠ [] ∧ sigOk384 vendorKey (deviceId ++ s.seals.challenge) token = true then
        t.fuses.zeroize = true ∧ t.seals.debugOpen = true ∧ t.seals.challenge = [] ∧ t.seals.zeroized = true
      else t.seals.challenge = (randomBytes 16 s).1 ∧ t.fuses = s.fuses ∧ t.seals.debugOpen = s.seals.debugOpen ∧ t.stw.elogNext = s.stw.elogNext + 1)

/-! ### Chain and ports -/

/-- A segment comes up, is kept and fails (18 R425, R428, R432, R433, R435): HELLO with a fresh nonce, CAP in answer, the port UP under new
keys once both CAPs are verified or in FAULT, GAPs, the exchange for new keys on a link that is up, and a link that is silent for 1 ms. -/
def Obligations.ChainSegmentsKeyAndFail : Prop :=
  ∀ (pt : Port) (f : Frame) (s : State),
    let d := portNo pt
    let q := s.cport d
    let rnd := (randomBytes 16 s).1
    let last := fun (t : State) (e : Nat) => (t.cport e).sent.getLast?.map (fun g => (g.type, g.payload))
    let pl := f.payload
    let heard := { q with peer := some (sha256 (pl.take 97), leAt pl 97 1), peerRole := leAt pl 100 1, peerEph := slice pl 128 65 }
    let failed := fun (n : Nat) => { q with st := .fault, cause := n, nonce := [], capSent := false, peer := none, peerEph := [] }
    let upper := s.cport 1
    7 ≤ s.isl.step → s.fuses.zeroize = false →
    ((q.st = .down ∨ q.st = .hello) → yields (.helloTimer pt) s fun t =>
      (t.cport d).st = .hello ∧ (t.cport d).nonce = rnd ∧ rnd.length = 16 ∧ (t.cport d).tx = q.tx + 1 ∧ last t d = some (1, rnd)) ∧
    (q.st = .fault → q.cause = 2 → yields (.keyRetryTimer pt) s fun t =>
      (t.cport d).st = .hello ∧ (t.cport d).nonce = rnd ∧ last t d = some (1, rnd)) ∧
    (plainOk f 1 = true → pl.length = 16 → (q.st = .hello ∨ q.st = .keying) → q.nonce ≠ [] → q.peerEph = [] → yields (.hello pt f) s fun t =>
      (t.cport d).st = .keying ∧ (t.cport d).peerNonce = pl ∧ (t.cport d).capSent = true ∧ (t.cport d).tx = q.tx + 1 ∧
      (last t d).map (·.1) = some 2) ∧
    (plainOk f 1 = false → yields (.hello pt f) s fun t => t = s) ∧
    (plainOk f 2 = true → (q.st = .hello ∨ q.st = .keying) → q.capSent = false → yields (.cap pt f) s fun t =>
      t.cport d = (match capCheck q d pl with | none => heard | some 1 => failed 1 | some _ => failed 2) ∧
      t.chn.keyFails = (match capCheck q d pl with | none => s.chn.keyFails | some 1 => s.chn.keyFails | some _ => satInc s.chn.keyFails 255)) ∧
    (plainOk f 2 = true → q.st = .keying → q.capSent = true → pl.length = 292 → yields (.cap pt f) s fun t =>
      (t.cport d).st = (if capCheck q d pl = none ∧ (segmentKeys heard d).isSome then .up else .fault) ∧
      ((t.cport d).st = .up → (t.cport d).epoch = 1 ∧ some ((t.cport d).keyDown, (t.cport d).keyUp) = segmentKeys heard d ∧ (t.cport d).rxLast = none)) ∧
    (q.st = .up → s.chn.role = .unnumbered → yields (.linkTimeout pt) s fun t =>
      t.cport d = { tx := q.tx, sent := q.sent, gaps := q.gaps } ∧ (t.cport (1 - d)).st = (s.cport (1 - d)).st) ∧
    ((q.st = .up ∨ (q.st = .fault ∧ q.cause = 1)) → yields (.linkTimeout pt) s fun t => (t.cport d).st = .down) ∧
    ((q.st = .hello ∨ q.st = .keying) → s.chn.role ≠ .refused → yields (.linkTimeout pt) s fun t => (t.cport d).st = .down) ∧
    ((q.st = .hello ∨ q.st = .keying) → s.chn.role = .refused → yields (.linkTimeout pt) s fun t =>
      (t.cport d).st = .fault ∧ (t.cport d).cause = 3) ∧
    (upper.st = .up → yields .rekeyTimer s fun t =>
      (t.cport 1).st = .up ∧ (t.cport 1).keyUp = upper.keyUp ∧ (t.cport 1).nonce = rnd ∧ (t.cport 1).tx = upper.tx + 1 ∧ last t 1 = some (1, rnd)) ∧
    (upper.st = .up → rekeyDue upper = false → yields .gapTimer s fun t => t = setCport 1 (fun z => { z with gaps := z.gaps + 1 }) s) ∧
    (upper.st = .up → rekeyDue upper = true → upper.nonce = [] → yields .gapTimer s fun t => (t.cport 1).nonce = rnd ∧ (t.cport 1).tx = upper.tx + 1) ∧
    (q.st = .down → yields (.gapReceived pt) s fun t => (t.cport d).st = .hello ∧ last t d = some (1, rnd)) ∧
    (pt = .chu → q.st = .up → yields (.gapReceived pt) s fun t => t = setCport 0 (fun z => { z with gaps := z.gaps + 1 }) s)

/-- A chain forms (18 R439 to R442, R444): claims, the head, its members by JOIN and ASSIGN, TOPO and its absence, the node refused and the
part of a line that is lost. A frame counts as accepted where its tag proves good under the keys of its segment. -/
def Obligations.ChainsForm : Prop :=
  ∀ (pt : Port) (f : Frame) (pl b : Bytes) (p : Nat) (m : ChMem) (s : State),
    let d := portNo pt
    let o := 1 - d
    let c := s.chn
    let others := fun (t : State) => t.chn.role = c.role ∧ t.chn.pos = c.pos ∧ t.chn.members = c.members
    let lastTy := fun (t : State) (e : Nat) => (t.cport e).sent.getLast?.map (·.type)
    let now := leAt pl 32 1
    let got := fun (ty : BitVec 4) => f.type = ty ∧ f.ending = .whole ∧ frameIs s d f = .good pl
    7 ≤ s.isl.step → s.fuses.zeroize = false →
    (c.role = .unnumbered → yields .claimTimer s fun t => others t ∧
      ∀ e < 2, if (s.cport e).st = .up then (t.cport e).tx = (s.cport e).tx + 1 ∧ lastTy t e = some 3 else t.cport e = s.cport e) ∧
    (got 3 → c.role = .unnumbered → c.best = some b → pl ≠ ownKey s → yields (.chainClaim pt f) s fun t =>
      t.chn.best = some (if beatsKey pl b then pl else b) ∧ t.chn.frames = satInc c.frames 0xFFFFFFFF ∧ others t) ∧
    (c.role = .unnumbered → anyUp s = true → yields .headElectionTimeout s fun t =>
      t.chn.role = .head ∧ t.chn.pos = 1 ∧ t.chn.members = [{ pos := 1, id := some (deviceId, fuseCode s) }] ∧
      t.chn.topoSeq = (c.topoSeq + 1) % 65536 ∧ t.chn.best = some (ownKey s)) ∧
    (c.role = .head → yields .topoTimer s fun t => others t ∧
      ∀ e < 2, if (s.cport e).st = .up then (t.cport e).tx = (s.cport e).tx + 1 ∧ lastTy t e = some 4 else t.cport e = s.cport e) ∧
    (got 4 → c.role = .node → ((pl.drop 6).take (leAt pl 2 1)).any (fun x => decide (x.toNat = c.pos)) = true → yields (.topo pt f) s fun t =>
      t.chn.role = .node ∧ t.chn.pos = c.pos ∧ t.chn.topoSeq = leAt pl 0 2 ∧ t.chn.ring = decide (leAt pl 3 1 % 2 = 1) ∧
      t.chn.members.map (·.pos) = ((pl.drop 6).take (leAt pl 2 1)).map (·.toNat)) ∧
    (c.role = .node → yields .topoTimeout s fun t => t.chn.role = .unnumbered ∧ t.chn.pos = 0 ∧ t.chn.members = []) ∧
    (got 5 → c.role = .head → pl.length = 33 → c.members = [m] → m.pos = 1 → m.id = none → (c.looped = false ∨ d = 1) →
      (s.cport o).peer.map (·.1) ≠ some (pl.take 32) → yields (.join pt f) s fun t =>
      t.chn.members = [m, { pos := 2, dist := 65 - f.hops.toNat, down := decide (d = 1), id := some (pl.take 32, now) }] ∧
      t.chn.topoSeq = (c.topoSeq + 1) % 65536) ∧
    (got 6 → c.role = .unnumbered → yields (.assign pt f) s fun t =>
      if pl.take 32 = deviceId ∧ 2 ≤ now ∧ now ≤ 64 then t.chn.role = .node ∧ t.chn.pos = now ∧ t.chn.best = some (pl.drop 33)
      else others t) ∧
    (got 7 → c.role = .unnumbered → leAt pl 32 2 = 601 → yields (.refuse pt f) s fun t =>
      if pl.take 32 = deviceId then t.chn.role = .refused ∧ t.chn.pos = 0 ∧ (t.cport 0).st = .fault ∧ (t.cport 1).st = .fault ∧
        (t.cport 0).cause = 3 ∧ (t.cport 1).cause = 3
      else others t) ∧
    (got 8 → c.role = .head → c.ring = false → c.rerouted = false → pl = [BitVec.ofNat 8 p, 1] → p < 256 → p ≠ 1 → (c.members.map (·.pos)).Nodup →
      c.members.find? (fun x => decide (x.pos = p)) = some m → m.down = true → yields (.loss pt f) s fun t =>
        t.chn.role = .head ∧ t.chn.members = c.members.filter (fun x => decide (x.pos = 1) || !x.down || decide (x.dist ≤ m.dist)))

/-- Frames along a chain (18 R436 to R438, R445, 13 R322): a line for this node is taken, a reply leaves on the carrier its line came on,
a passing frame goes on with one hop less, is stored while its segment is taken, and is dropped where four are stored. -/
def Obligations.ChainCarriesFrames : Prop :=
  ∀ (pt : Port) (f : Frame) (pl : Bytes) (free : Bool) (g : Frame) (r : List Frame) (s : State),
    let d := portNo pt
    let o := 1 - d
    let out := s.cport o
    let q := s.cport d
    let good := f.ending = .whole ∧ frameIs s d f = .good pl
    let h := s.car .hst
    7 ≤ s.isl.step → s.fuses.zeroize = false →
    (good → f.type = 9 → s.chn.pos ≠ 0 → f.dst.toNat = s.chn.pos → 4 ≤ pl.length → leAt pl 0 1 = 0 →
      exec (.oruneFrame pt f) s = exec (.lineReceived (.chain (leAt pl 2 1) (leAt pl 1 1)) (bytesText (pl.drop 4))) (frameTaken d f s)) ∧
    (good → f.type = 9 → s.chn.pos ≠ 0 → f.dst.toNat = s.chn.pos → pl = [2, 2, f.dst, 0] ++ textBytes (tx "@3 +7 TIME INVALID") → f.src = 3 →
      h.tags = [{ tag := some 7, node := 3, sfx := false }] → yields (.oruneFrame pt f) s fun t =>
        (t.car .hst).out = h.out ++ withCheck (tx "@3 +7 TIME INVALID") ++ crlf ∧ (t.car .hst).tags = []) ∧
    (good → passing s f = true → out.st = .up → mayCross s o f.type = true →
      (free = true → yields (.frameForward pt f free) s fun t =>
        (t.cport o).tx = out.tx + 1 ∧ (t.cport o).stored = out.stored ∧
        (t.cport o).sent.getLast?.map (fun x => (x.type, x.dst, x.src, x.hops, x.ending)) = some (f.type, f.dst, f.src, f.hops - 1, .whole) ∧
        t.chn.frames = satInc s.chn.frames 0xFFFFFFFF) ∧
      (free = false → out.stored.length < 4 → yields (.frameForward pt f free) s fun t =>
        (t.cport o).tx = out.tx ∧ (t.cport o).stored = out.stored ++ [{ f with hops := f.hops - 1, payload := pl }]) ∧
      (free = false → 4 ≤ out.stored.length → yields (.frameForward pt f free) s fun t =>
        t.cport o = out ∧ t.chn.drop = satInc s.chn.drop 0xFFFFFFFF)) ∧
    (f.ending = .whole → frameIs s d f = .replayed → passing s f = true → yields (.frameForward pt f free) s fun t =>
      t = { s with chn := { s.chn with replay := satInc s.chn.replay 0xFFFFFFFF } }) ∧
    (q.stored = g :: r → q.st = .up → yields (.storedFrameSend pt) s fun t =>
      (t.cport d).stored = r ∧ (t.cport d).tx = q.tx + 1 ∧
      (t.cport d).sent.getLast?.map (fun x => (x.type, x.dst, x.src, x.hops)) = some (g.type, g.dst, g.src, g.hops))

/-- CAN controllers (19 R452 to R454, R378): modes, requests and cancels of buffers, reception into the buffer whose filter takes the
frame, the end of a transmission, and the error counters up to bus-off and back. -/
def Obligations.CanControllersMoveFrames : Prop :=
  ∀ (core : Fin 4) (k : Fin 2) (buf : Fin 64) (v : Word) (f : CanFrame) (tx : Bool) (s : State),
    let q := s.can k.val
    let b := vget q.buf buf.val
    let group := ownsFrame s core.val (0x74 + 4 * k.val + buf.val / 16)
    let at_ := fun (t : State) => vget (t.can k.val).buf buf.val
    let counts := fun (t : State) (a r : Nat) => (t.can k.val).tec = a ∧ (t.can k.val).rxErr = r
    (ownsFrame s core.val (0x71 + k.val) = true → yields (.canModeWrite core k v) s fun t =>
      (t.can k.val).mode = v.toNat % 4 ∧ (t.can k.val).autorec = v.getLsbD 4 ∧
      (t.can k.val).hold = (decide (v.toNat % 4 = 1) && !s.isl.refOk) ∧ (v.toNat % 4 = 0 → (t.can k.val).onBus = none)) ∧
    (ownsFrame s core.val (0x71 + k.val) = false → yields (.canModeWrite core k v) s fun t => t = s) ∧
    (group = true → b.tx = true → q.sends = true → q.onBus = none → canNext q = none → yields (.canTxRequest core k buf) s fun t =>
      (at_ t).pending = true ∧ (t.can k.val).onBus = some buf.val) ∧
    (group = true → b.tx = true → b.pending = true → yields (.canCancel core k buf) s fun t =>
      if q.onBus = some buf.val then (at_ t).pending = true ∧ (at_ t).cancel = true else (at_ t).pending = false) ∧
    (portOn s = true → q.mode ≠ 0 → q.busOff = false → f.data.length ≤ 64 → b.takes f = true →
      (∀ j < 64, j ≠ buf.val → (vget q.buf j).takes f = false) → yields (.canFrameReceived k f) s fun t =>
        if b.done then at_ t = { b with lost := true }
        else (at_ t).done = true ∧ (at_ t).id = BitVec.setWidth 32 f.id ∧ (at_ t).fmt.getLsbD 31 = f.ide ∧ (at_ t).fmt.toNat % 16 = f.dlc.toNat ∧
          ((at_ t).data.toList.flatMap fun w => leBytes 4 w.toNat).take f.data.length = f.data) ∧
    (q.onBus = some buf.val →
      (yields (.canTxDone k .success) s fun t => (at_ t).pending = false ∧ (at_ t).done = true ∧ (t.can k.val).tec = q.tec - 1 ∧ (t.can k.val).present = true) ∧
      (yields (.canTxDone k .error) s fun t => (at_ t).pending = (b.pending && !b.oneshot && !b.cancel) ∧ (at_ t).done = b.done) ∧
      (yields (.canTxDone k .lostArbitration) s fun t => (at_ t).pending = (b.pending && !b.oneshot && !b.cancel) ∧ (at_ t).done = b.done)) ∧
    (portOn s = true → q.mode = 1 → q.hold = false → q.busOff = false →
      (yields (.canBusError k tx) s fun t =>
        if tx = true ∧ 255 < q.tec + 8 then (t.can k.val).busOff = true
        else (t.can k.val).busOff = false ∧ if tx then counts t (q.tec + 8) q.rxErr else counts t q.tec (Nat.min 255 (q.rxErr + 1))) ∧
      (yields (.canBusOff k) s fun t => (t.can k.val).busOff = true ∧ (t.can k.val).onBus = none ∧ (t.can k.val).state = 2)) ∧
    (q.autorec = true → q.busOff = true → yields (.canBusoffRecovery k) s fun t => (t.can k.val).busOff = false ∧ counts t 0 0) ∧
    (s.isl.refOk = true → q.hold = true → yields (.canClockResume k) s fun t => (t.can k.val).hold = false ∧ (t.can k.val).mode = q.mode)

/-- Card slots (19 R455 to R458): activation, deactivation, transfers with their ends, insertion. The steward's hold on a slot refuses the
owner's ACTIVATE. -/
def Obligations.CardSlotsRunTheirTransfers : Prop :=
  ∀ (core : Fin 4) (sl : Fin 2) (len v : Byte) (rest : List Byte) (s : State),
    let n := sl.val
    let q := s.slot n
    let mine := cardsOn s && ownsFrame s core.val (0x81 + n)
    let running := decide (q.st = 3) && q.xfer == some .recv
    let auto := decide (q.cfg.toNat % 4 = 0)
    let off := fun (t : State) (status : Nat) => (t.slot n).st = 4 ∧ (t.slot n).xfer = none ∧ (t.slot n).status = status
    (mine = true → q.steward = true → yields (.crdActivate core sl) s fun t => t.slot n = { q with status := 6 }) ∧
    (mine = true → q.steward = false → q.present = true → q.inUse = false → yields (.crdActivate core sl) s fun t =>
      (t.slot n).st = 2 ∧ (t.slot n).xfer = some .atr ∧ (t.slot n).classC = decide (q.cfg.toNat % 4 ≠ 1) ∧ (t.slot n).status = 0) ∧
    (mine = true → q.steward = false → q.inUse = true → q.retry = false → yields (.crdDeactivate core sl) s fun t => off t q.status) ∧
    (mine = true → q.steward = false → q.st = 3 → q.xfer = none →
      (len ≠ 0 → yields (.crdSend core sl len) s fun t => (t.slot n).xfer = some (.send len.toNat) ∧ (t.slot n).sent = 0 ∧ (t.slot n).status = 0) ∧
      (len = 0 → yields (.crdSend core sl len) s fun t => (t.slot n).xfer = some .recv)) ∧
    (mine = true → q.steward = false → running = true → yields (.crdCancel core sl) s fun t => t.slot n = { q with xfer := none }) ∧
    (mine = true → q.tx.length < 32 → yields (.crdTx core sl v) s fun t => t.slot n = { q with tx := q.tx ++ [v] }) ∧
    (mine = true → q.tx.length ≥ 32 → yields (.crdTx core sl v) s fun t => t = s) ∧
    (mine = true → q.rx = v :: rest → yields (.crdRx core sl) s fun t => t.slot n = { q with rx := rest } ∧ (t.core core.val).lastDev = w32 (0x8000 + v.toNat)) ∧
    (mine = true → q.rx = [] → yields (.crdRx core sl) s fun t => t.slot n = q ∧ (t.core core.val).lastDev = 0) ∧
    (cardsOn s = true → q.wait = none → q.xfer = some .recv → q.rx.length < 32 → yields (.cardByteRx sl v) s fun t => t.slot n = { q with rx := q.rx ++ [v] }) ∧
    (cardsOn s = true → q.wait = none → q.xfer = some .recv → 32 ≤ q.rx.length → yields (.cardByteRx sl v) s fun t => t.slot n = { q with xfer := none, status := 7 }) ∧
    (cardsOn s = true → q.wait = none → q.xfer = some .atr → q.rx.length < 32 → yields (.cardByteRx sl v) s fun t =>
      t.slot n = { q with st := 3, atr := (q.atr ++ [v]).take 33, rx := q.rx ++ [v] }) ∧
    (cardsOn s = true → running = true →
      (yields (.cardTransferDone sl .ok) s fun t => t.slot n = { q with xfer := none, status := 0 }) ∧
      (yields (.cardTransferDone sl .parity) s fun t => t.slot n = { q with xfer := none, status := 2 }) ∧
      (yields (.cardTimeout sl) s fun t => t.slot n = { q with xfer := none, status := 3 })) ∧
    (cardsOn s = true → q.st = 2 → yields (.noAtr sl) s fun t => off t 1 ∧ (t.slot n).retry = (auto && q.classC)) ∧
    (cardsOn s = true → q.retry = true → q.present = true → yields (.cardClassRetry sl) s fun t =>
      (t.slot n).st = 2 ∧ (t.slot n).classC = false ∧ (t.slot n).retry = false ∧ (t.slot n).xfer = some .atr) ∧
    (cardsOn s = true → (q.st = 2 ∨ q.st = 3) → yields (.cardOvercurrent sl) s fun t => off t 4) ∧
    (cardsOn s = true → q.present = false → yields (.cardInsert sl) s fun t => t.slot n = { q with present := true, st := 1, status := 0 })

/-- Sense lines, UARTs and SPI masters (19 R460, R461, R467, R468): accepted edges are counted and stored, bytes and frames pass
their FIFOs, and what finds no room is counted or dropped. -/
def Obligations.SenseAndSerialPortsKeepTheirFifos : Prop :=
  ∀ (core n4 : Fin 4) (n : Fin 8) (m : Fin 2) (level : Bool) (cap : BitVec 31) (b : UartByte) (v : Byte) (w : Word) (count : BitVec 16)
      (rest : List Word) (s : State),
    let q := s.sense n.val
    let u := s.uart n4.val
    let p := s.spi m.val
    let width := p.cfg.toNat / 256 % 32 + 1
    let d := if u.cfg.getLsbD 0 then b.data.toNat else b.data.toNat % 128
    let entry := w32 (bitN b.framingErr * 512 + bitN b.parityErr * 256 + d)
    let uown := ownsFrame s core.val (0x91 + n4.val)
    let sown := ownsFrame s core.val (0x95 + m.val)
    let paused := p.tx.isEmpty || decide (16 ≤ p.rx.length)
    let got := fun (t : State) (x : Word) => (t.core core.val).lastDev = x
    (portOn s = true → q.cfg.getLsbD (if level then 8 else 9) = true → yields (.senseEdge n level cap) s fun t =>
      t.port.sns.cap = cap ∧ t.sense n.val = (if q.fifo.length < 64 then
          { q with count := q.count + 1, fifo := q.fifo ++ [w32 (cap.toNat * 2 + bitN level)] }
        else { q with count := q.count + 1, lost := satInc q.lost 0xFFFF })) ∧
    (portOn s = true → q.cfg.getLsbD (if level then 8 else 9) = false → yields (.senseEdge n level cap) s fun t => t.sense n.val = q ∧ t.cic = s.cic) ∧
    (ownsFrame s core.val (0xA1 + n.val) = true → q.fifo = w :: rest → yields (.snsFifo core n) s fun t => t.sense n.val = { q with fifo := rest } ∧ got t w) ∧
    (ownsFrame s core.val (0xA1 + n.val) = true → q.fifo = [] → yields (.snsFifo core n) s fun t => t.sense n.val = q ∧ got t 0) ∧
    (yields (.snsMarkSec core) s fun t => got t s.port.sns.markSec ∧ vget t.port.sns.shadow core.val = some s.port.sns.markCap) ∧
    (portOn s = true → u.cfg.getLsbD 31 = true →
      (u.rx.length < 64 → yields (.uartRxByte n4 b) s fun t => t.uart n4.val = { u with rx := u.rx ++ [entry] }) ∧
      (64 ≤ u.rx.length → yields (.uartRxByte n4 b) s fun t => t.uart n4.val = { u with ovr := true }) ∧
      (yields (.uartBreak n4) s fun t => t.uart n4.val = { u with brk := true }) ∧
      (yields (.uartByteSent n4) s fun t => t.uart n4.val = { u with tx := u.tx.drop 1 })) ∧
    (uown = true → u.tx.length < 64 → yields (.uartTx core n4 v) s fun t => t.uart n4.val = { u with tx := u.tx ++ [v] }) ∧
    (uown = true → 64 ≤ u.tx.length → yields (.uartTx core n4 v) s fun t => t = s) ∧
    (uown = true → u.rx = w :: rest → yields (.uartRx core n4) s fun t => t.uart n4.val = { u with rx := rest } ∧ got t (w ||| 0x8000)) ∧
    (uown = true → u.rx = [] → yields (.uartRx core n4) s fun t => t.uart n4.val = u ∧ got t 0) ∧
    (sown = true → p.busy = false → yields (.spiStart core m count) s fun t => t.spi m.val = { p with busy := true, left := count.toNat + 1, ended := false }) ∧
    (sown = true → p.busy = true → yields (.spiStart core m count) s fun t => t = s) ∧
    (sown = true → yields (.spiStop core m) s fun t => t.spi m.val = { p with busy := false, left := 0 }) ∧
    (sown = true → p.tx.length < 16 → yields (.spiTx core m w) s fun t => t.spi m.val = { p with tx := p.tx ++ [w32 (w.toNat % 2 ^ width)] }) ∧
    (sown = true → p.rx = w :: rest → yields (.spiRx core m) s fun t => t.spi m.val = { p with rx := rest } ∧ got t w) ∧
    (portOn s = true → p.busy = true → p.left ≠ 0 → paused = false → yields (.spiFrameDone m w) s fun t =>
      t.spi m.val = { p with tx := p.tx.drop 1, rx := p.rx ++ [w32 (w.toNat % 2 ^ width)], left := p.left - 1 }) ∧
    (p.busy = true → p.left = 0 → yields (.spiTransferDone m) s fun t => t.spi m.val = { p with busy := false }) ∧
    (p.busy = true → p.left ≠ 0 → paused = true → p.stall ≠ 0 → yields (.spiStallTimeout m) s fun t =>
      t.spi m.val = { p with busy := false, left := 0, ended := true })

/-! ### Witness pairs and activations -/

/-- Witness pairs and cores under test (08 R194 to R196, R199 to R202): a divergence stops the person, records it and tests both cores; a
test that passes frees the core, lifts its fence where that was asked, and one that fails fences it; the restart counter falls
an hour later.
The end of a self-check (12 R285, R291, R292): argument 0 passes the part and steps its counter, another argument or an exhausted
budget makes the person DEAD; outside a self-check the call is E301. -/
def Obligations.DivergenceAndChecks : Prop :=
  (∀ (pr : Pair) (r : DivRec) (core : Fin 4) (p : Nat) (s : State),
    let n := pairNo pr
    let c := core.val
    let k := s.core c
    let still := ∀ q < 7, (s.person q).run ≠ .restarting
    (s.pairPerson n = p → p ≠ 0 → yields (.divergence pr r) s fun t =>
      (vget t.wit.div n).pc = r.pc ∧ (vget t.wit.div n).lead = r.lead ∧ (vget t.wit.div n).trail = r.trail ∧
      (vget t.wit.div n).info.toNat = r.reg.toNat * 2 ^ 24 + r.unit.toNat * 2 ^ 20 + r.part.toNat * 2 ^ 16 + p * 2 ^ 8 + r.kind.toNat ∧
      (t.core (2 * n)).underTest = true ∧ (t.core (2 * n + 1)).underTest = true ∧ vget t.wit.waiting n = p ∧
      (t.person p).run = .restarting ∧ (t.person p).cores = 0 ∧ (t.person p).divTotal = satInc (s.person p).divTotal 255) ∧
    (k.underTest = true → vget s.wit.why c = none → vget s.wit.waiting (c / 2) = 0 →
      (yields (.coreSelftestDone core true) s fun t => t.core c = { k with underTest := false, selftestFail := false }) ∧
      (k.fenced = false → s.placed c = [] → yields (.coreSelftestDone core false) s fun t =>
        (t.core c).underTest = false ∧ (t.core c).selftestFail = true ∧ (t.core c).fenced = true ∧ (t.core c).byOrder = false ∧
        maskBit t.snt.fences c = true)) ∧
    (k.underTest = true → vget s.wit.why c = some .lift → still → s.oru.awaitCore = [] →
      (yields (.coreSelftestDone core true) s fun t =>
        t.core c = { k with underTest := false, selftestFail := false, fenced := false, byOrder := false }) ∧
      (k.fenced = true → s.placed c = [] → yields (.coreSelftestDone core false) s fun t =>
        t.core c = { k with underTest := false, selftestFail := true })) ∧
    (p < 7 → yields (.restartWindowExpiry p) s fun t => t = setPerson p (fun q => { q with restarts := (s.person p).restarts - 1 }) s)) ∧
  (∀ (core : Fin 4) (arg : Word) (p c : Nat) (i : Img) (s : State),
    let ended := fun (t : State) (code : Nat) => t.bun.check = none ∧ t.bun.st = .done ∧ vget t.bun.result p = code
    1 ≤ p → p ≤ 6 →
    (callerOf s core.val 0x2D arg = some p → s.checking p = false → yields (.selftestResult core arg) s (answered p 0x2D 301 s)) ∧
    (callerOf s core.val 0x2D arg = some p → s.bun.check = some (p, c) → arg ≠ 0 → yields (.selftestResult core arg) s fun t =>
      ended t 3 ∧ (t.person p).run = .dead ∧ t.fuses = s.fuses) ∧
    (callerOf s core.val 0x2D arg = some p → s.bun.check = some (p, c) → arg = 0 → s.img p = some i → i.sv ≤ 1022 →
      yields (.selftestResult core arg) s fun t => ended t 1 ∧ t.counter (2 + p) = Nat.max (s.counter (2 + p)) i.sv) ∧
    (s.bun.check = some (p, c) → yields .selftestBudgetExpiry s fun t => ended t 3 ∧ (t.person p).run = .dead ∧ t.fuses = s.fuses))

/-- A person changes core or starts again (08 R197, R202, R205, 04 R81): a hand-over lands what is on its way to its registers
and carries them to the new core; a person stopped for want of a core starts afresh on the place chosen for it, at its entry, with nothing of its old registers. -/
def Obligations.PersonsMoveAndStartLater : Prop :=
  ∀ (c d p m base : Nat) (h : ImgHead) (v : State) (s : State),
    let q := s.person p
    let x := s.ctx c p
    let u := takeDown p s
    let z := forAll (partCores u) zeroNow u
    let still := (∀ i < 7, (s.person i).run ≠ .restarting) ∧ s.oru.awaitMove = [] ∧ (∀ i < 4, vget s.wit.fencing i = false)
    1 ≤ p → p ≤ 6 → c < 4 → d < 4 →
    (c ≠ d → q.cores = 2 ^ c → q.moveTo = 2 ^ d → (s.core c).sb = [] → moveReady s p = true → still → x.fpPending = false →
      (s.core d).fenced = false → (s.core d).halted = false → vget s.isl.pairSt (d / 2) = .run → vget s.isl.draining (d / 2) = false →
      yields (.handover p) s fun t =>
      (t.person p).run = .running ∧ (t.person p).cores = 2 ^ d ∧ (t.person p).lastCores = 2 ^ d ∧ (t.person p).moveTo = 0 ∧
      t.ctx d p = landAll x ∧ t.ctx c p = {}) ∧
    (q.deferred = true → q.run = .stopped → q.failed = false → s.mem.ecc = [] → choosePlace s p = some m → m = 2 ^ d →
      onePending u p = false → imageHead u p = some h → placeCode p h z = some v → vget (v.person p).win d = (base, base + h.code) →
      homed v p m = true →
      yields (.personDeferredStart p) s fun t =>
        (t.person p).run = .running ∧ (t.person p).cores = 2 ^ d ∧ (t.person p).deferred = false ∧ (t.person p).moveTo = 0 ∧
        (t.ctx d p).pc = w32 (base + h.entry) ∧ (t.ctx d p).w = Vector.replicate 64 {} ∧ (t.ctx d p).faultOpen = false ∧
        (∀ e < 4, e ≠ d → t.ctx e p = {}))

/-! ### Frames -/

/-- Frame of the port blocks (19): what CAN controllers, card slots, sense lines, UARTs and SPI masters do changes their own registers,
interrupt sources and mover requests, and at a register read the reading core; nothing else, and never a memory. -/
def Obligations.PortCommandsKeepToTheirBlocks : Prop :=
  ∀ (h : Fin 2) (c c2 : Fin 4) (b : Byte) (z : BitVec 16) (v : Word) (fl : Bool) (buf : Fin 64) (cf : CanFrame) (n : Fin 8)
      (ke : CardEnd) (cap : BitVec 31) (ub : UartByte) (s : State),
    within [.port]
      [.canClockResume h, .crdTx c h b, .spiStop c h, .spiTx c h v] s ∧
    within [.stamp, .nap, .gates, .cic, .mov, .port]
      [.spiStart c h z, .crdSend c h b, .senseEdge n fl cap, .uartRxByte c ub, .uartBreak c, .uartTx c c2 b, .uartByteSent c,
      .spiFrameDone h v] s ∧
    within [.stamp, .nap, .gates, .snt, .cic, .port]
      [.canModeWrite c h v, .canBusoffRecovery h, .canBusOff h, .canBusError h fl] s ∧
    within [.stamp, .nap, .gates, .cic, .port]
      [.canTxRequest c h buf, .canCancel c h buf, .crdActivate c h, .cardClassRetry h, .spiTransferDone h, .spiStallTimeout h] s ∧
    within [.free, .stamp, .nap, .gates, .snt, .cic, .mov, .port]
      [.canFrameReceived h cf] s ∧
    within [.cores, .port]
      [.crdRx c h, .snsFifo c n] s ∧
    within [.free, .stamp, .nap, .gates, .cic, .port]
      [.crdCancel c h, .crdDeactivate c h, .cardTimeout h] s ∧
    within [.free, .stamp, .nap, .gates, .cic, .mov, .port]
      [.cardTransferDone h ke] s ∧
    within [.free, .stamp, .nap, .gates, .snt, .cic, .port]
      [.noAtr h, .cardOvercurrent h] s ∧
    within [.free, .cores, .port]
      [.snsMarkSec c, .spiRx c h] s ∧
    within [.stamp, .nap, .gates, .cores, .cic, .mov, .port]
      [.uartRx c c2] s

/-- Frame of the units that act by themselves (02, 05, 06, 09, 10, 15 to 18): each changes the parts named with it and nothing else. -/
def Obligations.SmallUnitsKeepToTheirBlocks : Prop :=
  ∀ (b : Byte) (ed : SrcEdge) (fl : Bool) (c : Fin 4) (v : Word) (ch : Fin 16) (rq : ReqSrc) (cell : Fin 128) (z : BitVec 16)
      (n : Fin 8) (k : Fin 10) (ns : List Nat) (a : Nat) (j : Int) (pr : Pair) (zo : ZeroObj) (car : Carrier) (s : State),
    within [.stamp, .nap, .gates, .cic]
      [.sourceEvent b ed] s ∧
    within [.nap, .gates, .cic]
      [.filterLevelChange b fl, .cicSet c b, .cicClear c b] s ∧
    within [.gates, .cic]
      [.holdoffExpiry b] s ∧
    within [.gates, .cores, .cic]
      [.cicClaim c] s ∧
    within [.gates, .stw, .cic]
      [.cicComplete c v] s ∧
    within [.stamp, .nap, .gates, .cic, .mov]
      [.movStart c ch, .movStop c ch, .movRequest rq] s ∧
    within [.win]
      [.mirrorSnapshot cell] s ∧
    within [.nap, .win]
      [.freeze, .unfreeze, .lbFlagClear z] s ∧
    within [.gates, .win]
      [.mirrorUpdate, .stewardSlotPeriod n] s ∧
    within [.nap, .gates, .win]
      [.treeLeafClear ch z] s ∧
    within [.gates, .win, .snt]
      [.freezeTimeout, .x32Return, .meshRestored] s ∧
    within [.nap, .gates, .win, .snt]
      [.cellWrite cell z, .lbTx z, .rxRelease] s ∧
    within [.stamp, .nap, .gates, .win, .snt, .cic]
      [.cellOrderTimeout cell] s ∧
    within [.srv]
      [.tdrMeasureStart, .tdrAcquisition k fl] s ∧
    within [.stamp, .nap, .gates, .cores, .cic, .srv]
      [.srvFifoRead c n] s ∧
    within [.stamp, .nap, .gates, .cic, .mov, .srv]
      [.converterScan ns] s ∧
    within [.gates, .win, .srv]
      [.tdrMeasurementAbandon k] s ∧
    within [.seals]
      [.rngHealthRecover] s ∧
    within [.stw, .seals]
      [.rngHealthFail] s ∧
    within [.gates, .stw, .win, .snt]
      [.rcCheck a, .tempSample j] s ∧
    within [.cores, .snt]
      [.sntRtcSecLoad c, .sntRtcFracLoad c] s ∧
    within [.isl]
      [.windowIoRise a, .windowIoFall, .opChangeDone pr, .napEntry] s ∧
    within [.isl, .gates, .snt]
      [.railBelowPoint pr a] s ∧
    within [.gates, .stw, .win]
      [.retireLapse] s ∧
    within [.stw]
      [.restartWindowExpiry a] s ∧
    within [.gates, .cores]
      [.resultLand c, .divideResult c] s ∧
    within [.cores, .mem, .cus]
      [.zeroingDone zo] s ∧
    within [.port, .oru]
      [.baudCr car a] s ∧
    within [.chn]
      [.remoteKeepTimer, .claimTimer, .topoTimer] s ∧
    within [.isl, .gates, .stw, .win, .snt, .port]
      [.refFault, .refCompare a fl, .clockCheckArm fl] s ∧
    within [.isl, .gates, .wit, .cores, .mem, .cus, .cic]
      [.islandPowerOff pr, .islandDrainTimeout pr] s

/-- Frame of the seal (17 R415): a job changes its person's side of the seal, its output buffer and what a refused access leaves in the
custody block and the event log; the fuses, the flash, the records, the ports and the persons of Orune are as before. -/
def Obligations.SealJobsKeepToTheirBlocks : Prop :=
  ∀ (a : Nat) (s : State),
    within [.gates, .stw, .cores, .mem, .cus, .snt, .cic, .seals]
      [.aesEcbEncrypt a, .aesEcbDecrypt a, .aesCbcEncrypt a, .aesCbcDecrypt a, .aesCtr a, .aesGcmEncrypt a, .aesGcmDecrypt a, .aesCmac a,
      .sha256 a, .sha384 a, .hmacSha256 a, .hmacSha384 a, .ecdsaSign a, .ecdsaVerify a, .keyPublic a, .keyGenerate a, .keyImport a,
      .keyErase a, .random a] s ∧
    within [.free, .gates, .stw, .cores, .mem, .cus, .snt, .cic, .seals]
      [.ecdh a, .keyDerive a] s ∧
    within [.stamp, .nap, .gates, .cores, .mem, .cus, .snt, .cic, .seals]
      [.sealJobDone a] s

/-- Frame of Orune lines and sessions (13, 14): no line, answer or end of a session changes a memory, custody, a mover, a witness pair or
the fuses; a pair that reads changes no record, no staging and no seal either. -/
def Obligations.LinesKeepMemoryAndRecords : Prop :=
  ∀ (ln : Ln) (a a2 : Nat) (c : Fin 4) (pr : Pair) (op : Option (Fin 5)) (n : Fin 8) (tx : Text) (bs : Bytes) (fl fl2 : Bool)
      (tag : Option Nat) (car : Carrier) (h : Fin 2) (sa : SessArg) (ca : Option CardAnswer) (j : Int) (ds : List (Fin 10))
      (pl : Option Place) (dp : Place) (ck : ChanArg) (s : State),
    keeps [.queue, .free, .secs, .fuses, .wit, .cores, .mem, .cus, .mov, .turn, .srv, .flc, .store, .seals, .bun]
      [.readIdentity ln, .readChain ln, .readTime ln, .readLifecycle ln, .readPerson ln a, .readCore ln c, .readOppoint ln pr,
      .setOppoint ln pr op, .readFeed ln n, .measureSurvey ln tx, .writeCharter ln a bs, .readCharter ln, .readBundle ln, .readRecord ln,
      .readRecordSeq ln a fl, .readTamper ln a, .readEvent ln tag, .personNounLine ln a tx] s ∧
    keeps [.queue, .free, .secs, .isl, .fuses, .stw, .wit, .cores, .mem, .cus, .mov, .turn, .srv, .flc, .store, .seals, .bun]
      [.lineTimeout car, .remoteLineTimeout car tag] s ∧
    keeps [.queue, .secs, .isl, .fuses, .wit, .cores, .mem, .cus, .mov, .turn, .srv, .flc, .store, .seals, .bun]
      [.lineBreak car, .sessionIdleTimeout car, .cardSessionTimeout h] s ∧
    keeps [.queue, .free, .secs, .isl, .fuses, .wit, .cores, .mem, .cus, .mov, .turn, .srv, .flc, .store, .seals, .bun]
      [.mailboxReplyTimeout a a2] s ∧
    keeps [.queue, .secs, .fuses, .wit, .cores, .mem, .cus, .mov, .turn, .srv, .flc, .store, .seals, .bun]
      [.proveSession ln bs, .closeSession ln] s ∧
    keeps [.queue, .secs, .fuses, .wit, .cores, .mem, .cus, .mov, .turn, .bun]
      [.openSession ln sa ca] s ∧
    keeps [.queue, .secs, .fuses, .wit, .mem, .cus, .mov, .turn]
      [.setTime ln j ds, .holdLifecycle ln tx, .releaseLifecycle ln, .commissionLifecycle ln, .enrolLifecycle ln, .retireLifecycle ln,
      .confirmLifecycle ln, .startPerson ln a, .stopPerson ln a, .restartPerson ln a, .resumePerson ln a, .promotePerson ln a pl,
      .demotePerson ln a pl, .migratePerson ln a dp, .fenceCore ln c, .liftCore ln c fl, .setFeed ln n fl, .setBaseline ln ck tag,
      .installCharter ln, .openBundle ln a, .writeBundle ln a bs, .closeBundle ln, .activateBundle ln fl fl2, .discardBundle ln] s

/-- Frame of steward calls, the chain, the survey and the flash registers (08, 11, 13, 16 to 18): none of them changes a memory, custody, a
mover, a witness pair or the fuses; those of the chain and the survey leave the cores as they are. -/
def Obligations.CallsChainAndSurveyKeepMemory : Prop :=
  ∀ (c : Fin 4) (v : Word) (fl : Bool) (n : Fin 8) (pt : Port) (f : Frame) (ns : List Nat) (k : Fin 10) (td : Tdr) (h : Fin 2)
      (vc : VstbyCause) (car : Carrier) (s : State),
    keeps [.queue, .secs, .fuses, .wit, .mem, .cus, .mov, .turn]
      [.witnessPromote c v, .witnessDemote c v, .witnessMigrate c v, .witnessResume c v, .fenceService c v, .liftService c v fl,
      .stageClose c v, .activate c v, .stageDiscard c v, .feedOn c n, .feedOff c n] s ∧
    keeps [.queue, .free, .secs, .fuses, .wit, .mem, .cus, .mov, .turn, .srv, .flc, .store, .seals, .bun]
      [.opRequest c v, .standbyConsent c v, .wakeCfg c v, .treeSignal c v, .cellBind c v, .cellAnswer c v, .rtcAlarm c v] s ∧
    keeps [.queue, .secs, .isl, .fuses, .wit, .cores, .mem, .cus, .mov, .turn, .bun]
      [.helloTimer pt, .hello pt f, .cap pt f, .chainClaim pt f, .topo pt f, .join pt f, .assign pt f, .refuse pt f, .loss pt f,
      .frameForward pt f fl, .storedFrameSend pt, .gapTimer, .gapReceived pt, .linkTimeout pt, .rekeyTimer, .keyRetryTimer pt,
      .flcKey c v, .program c, .eraseSector c, .blankCheck c, .eraseBank c, .surveyAverage ns, .feedOpen n, .feedOver n, .feedShort n,
      .signatureDone n ns, .starvedTimeout k, .canPartnerTimeout h, .x32Fault, .tamperCopy, .canPresenceLapse h, .lockoutExpiry car] s ∧
    keeps [.queue, .secs, .isl, .fuses, .wit, .mem, .cus, .mov, .turn, .bun]
      [.tdrMeasurementDone k td] s ∧
    keeps [.queue, .secs, .fuses, .wit, .cores, .mem, .cus, .mov, .turn, .bun]
      [.vstbyLoss vc, .oneMsAverage ns] s ∧
    keeps [.queue, .secs, .isl, .fuses, .wit, .cores, .mem, .cus, .mov, .turn, .srv, .flc, .store, .seals, .bun]
      [.topoTimeout, .headElectionTimeout] s ∧
    keeps [.queue, .free, .secs, .isl, .fuses, .wit, .cores, .mem, .cus, .mov, .turn, .flc, .store, .seals, .bun, .oru, .chn]
      [.cardInsert h] s ∧
    keeps [.queue, .secs, .isl, .fuses, .wit, .cores, .mem, .cus, .mov, .turn, .flc, .store, .seals, .bun]
      [.cardRemove h] s
end

