-- ==== Sys2Proof/Laws/Bounds.lean ====
section
/-! SUPPORT. Lengths that hold whatever the device's secrets are, when the CIC has nothing to send, and a proof that its own key gives. -/

namespace Sys2Proof.Machine

theorem hexFixed_length (k n : Nat) : (hexFixed k n).length = k := by
  induction k generalizing n with
  | zero => rfl
  | succ j ih => simp [hexFixed, ih]

theorem hexBytes_length (bs : Bytes) : (hexBytes bs).length = 2 * bs.length := by
  induction bs with
  | nil => rfl
  | cons b r ih =>
    have h : hexBytes (b :: r) = hexFixed 2 b.toNat ++ hexBytes r := by simp [hexBytes]
    simp [h, ih, hexFixed_length]; omega

theorem joinText_cons_length (sep a : Text) (l : List Text) :
    (joinText sep (a :: l)).length ≤ a.length + sep.length + (joinText sep l).length := by
  cases l with
  | nil => simp [joinText]
  | cons b r => simp [joinText]; omega

theorem groupsAux_length (k : Nat) (bs : Bytes) : (joinText ['-'] (groupsAux k bs)).length ≤ 3 * bs.length := by
  induction k generalizing bs with
  | zero => simp [groupsAux, joinText]
  | succ j ih =>
    cases bs with
    | nil => simp [groupsAux, joinText]
    | cons b r =>
      have h1 := joinText_cons_length ['-'] (hexBytes ((b :: r).take 4)) (groupsAux j ((b :: r).drop 4))
      have h2 := ih ((b :: r).drop 4)
      have h3 : groupsAux (j + 1) (b :: r) = hexBytes ((b :: r).take 4) :: groupsAux j ((b :: r).drop 4) := by simp [groupsAux]
      rw [h3]
      rw [hexBytes_length] at h1
      simp only [List.length_take, List.length_drop, List.length_cons, List.length_nil] at h1 h2 ⊢
      omega

/-- The written form of n bytes takes at most 3 n characters. -/
theorem hexGroups_length (bs : Bytes) : (hexGroups bs).length ≤ 3 * bs.length := groupsAux_length _ _

theorem shaHash_length (h : Sha) (bs : Bytes) : (shaHash h bs).length ≤ h.out := by simp [shaHash]

/-- DEVICE_ID takes at most 96 characters, whatever the device root is. -/
theorem deviceId_text_length : (hexGroups deviceId).length ≤ 96 := by
  have h1 := hexGroups_length deviceId
  have h2 : deviceId.length ≤ 32 := shaHash_length sha256P identityPub
  omega

theorem byteText_length : ∀ n < 256, (decText n).length ≤ 3 := by decide +kernel

/-- A version takes at most 15 characters. -/
theorem dotted_length (n : Nat) : (dotted n).length ≤ 15 := by
  have h := fun k => byteText_length (n / 2 ^ k % 256) (Nat.mod_lt _ (by decide))
  have h0 := h 24
  have h1 := h 16
  have h2 := h 8
  have h3 := byteText_length (n % 256) (Nat.mod_lt _ (by decide))
  simp only [dotted, joinText, List.length_append, List.length_cons, List.length_nil]
  omega

theorem leBytes_length (n v : Nat) : (leBytes n v).length = n := by
  induction n generalizing v with
  | zero => rfl
  | succ k ih => simp [leBytes, ih]

/-- A signature has two numbers of the curve's length, or none where the nonce gives no point. -/
theorem ecdsaWith_length (c : Curve) (d k : Nat) (h : Bytes) :
    (ecdsaWith c d k h).length = 0 ∨ (ecdsaWith c d k h).length = 2 * c.len := by
  unfold ecdsaWith
  split
  · exact .inl rfl
  · right; simp [beBytes, leBytes_length]; omega

theorem foldl_id {α σ : Type} (l : List α) (f : σ → α → σ) (s : σ) (h : ∀ a ∈ l, f s a = s) : l.foldl f s = s := by
  induction l with
  | nil => rfl
  | cons a r ih =>
    rw [List.foldl_cons, h a (by simp)]
    exact ih fun b hb => h b (by simp [hb])

/-- Every candidate of every core is the one it was sent last, and no source has passed HOLDOFF. -/
def nothingToSend (s : State) : Bool :=
  ((List.range 256).all fun n => decide ((s.src n).passed = 0)) &&
  (List.range 4).all fun c => [1, 2, 3, 4, 5, 6].all fun p =>
    decide (vget (vget s.cic.sent c) p = if deliverable s c && s.placedOn p c && decide ((s.core c).cur = p) then candidate s c p else 0)

/-- The CIC changes nothing where it has nothing to send. -/
theorem cicUpdate_quiet (s : State) (h : nothingToSend s = true) : cicUpdate s = s := by
  rw [nothingToSend, Bool.and_eq_true] at h
  have he : endPassed s = s := foldl_id _ _ _ fun n hn => if_pos (of_decide_eq_true (List.all_eq_true.mp h.1 n hn))
  unfold cicUpdate
  rw [he]
  exact foldl_id _ _ _ fun c hc => foldl_id _ _ _ fun p hp =>
    if_pos (of_decide_eq_true (List.all_eq_true.mp (List.all_eq_true.mp h.2 c hc) p hp))

/-- A person owns no page and no bank. -/
def holdsNothing (p : Nat) (s : State) : Bool :=
  (s.cus.page.toList.all fun o => decide (o ≠ ownerCode p)) &&
    (List.range 4).all fun c => (List.range 8).all fun b => decide (s.bankOwner c b ≠ ownerCode p)

theorem vget_of_all {α : Type} [Inhabited α] {n : Nat} (v : Vector α n) (q : α → Bool) (h : v.toList.all q = true) (i : Nat) (hi : i < n) :
    q (vget v i) = true := by
  have e : vget v i = v[i] := by simp [vget, hi]
  rw [e]
  exact List.all_eq_true.mp h _ (by simp)

/-- Nothing is reclaimed of a person that holds nothing. -/
theorem reclaim_nothing (p : Nat) (s : State) (h : holdsNothing p s = true) : reclaim p s = s := by
  simp only [holdsNothing, Bool.and_eq_true] at h
  have hp : ∀ n ∈ List.range 1024, s.pageOwner n ≠ ownerCode p := fun n hn =>
    of_decide_eq_true (vget_of_all s.cus.page (fun o => decide (o ≠ ownerCode p)) h.1 n (List.mem_range.mp hn))
  have hbk : ∀ c ∈ List.range 4, ∀ b ∈ List.range 8, s.bankOwner c b ≠ ownerCode p := by
    simpa only [List.all_eq_true, decide_eq_true_eq] using h.2
  have h1 : (forNat 1024 (fun n t => if t.pageOwner n = ownerCode p then cusMove (.page n) [] 0 true t else t) s) = s :=
    foldl_id _ _ _ fun n hn => if_neg (hp n hn)
  have h2 : (forNat 4 (fun c t => forNat 8 (fun b u => if u.bankOwner c b = ownerCode p then cusMove (.bank b) [c] 0 true u else u) t) s) = s :=
    foldl_id _ _ _ fun c hc => foldl_id _ _ _ fun b hb => if_neg (hbk c hc b hb)
  show forNat 4 _ (forNat 1024 _ s) = s
  rw [h1, h2]

/-- A person owns no interrupt source. -/
def noSource (p : Nat) (s : State) : Bool := (List.range 256).all fun n => decide (n = 0) || decide (s.srcOwner n ≠ p)

/-- The reset of the CIC for a person that owns no source. -/
def cicResetBare (p : Nat) (s : State) : State :=
  { s with cic := { s.cic with thresh := vset s.cic.thresh p (Vector.replicate 4 0),
                               stray := vset s.cic.stray p (Vector.replicate 4 0) } }

theorem cicReset_bare (p : Nat) (s : State) (h : noSource p s = true) (g : nothingToSend (cicResetBare p s) = true) :
    cicReset p s = cicResetBare p s := by
  have h1 : (forNat 256 (fun n t => if n ≠ 0 ∧ t.srcOwner n = p then setSrc n srcReset t else t) s) = s :=
    foldl_id _ _ _ fun n hn => if_neg (by
      have h2 := List.all_eq_true.mp h n hn
      simp only [Bool.or_eq_true, decide_eq_true_eq] at h2
      rintro ⟨a, b⟩
      exact h2.elim a (fun c => c b))
  show cicUpdate _ = _
  rw [h1]
  exact cicUpdate_quiet _ g

/-- A person's cores run another, before the CIC sends anything. -/
def leftPicked (p : Nat) (s : State) : State :=
  let test := s.checking p
  let m := (s.person p).cores
  let s := setPerson p (fun q => { q with cores := 0, lastCores := if q.cores = 0 ∨ test then q.lastCores else q.cores }) s
  forNat 4 (fun c t => if maskBit m c then pickPerson c (dropCus c p t) else t) s

theorem leaveCores_quiet (p : Nat) (s : State) (h : nothingToSend (leftPicked p s) = true) :
    leaveCores p s = opEval 1 (opEval 0 (leftPicked p s)) := by
  show opEval 1 (opEval 0 (cicUpdate (leftPicked p s))) = _
  rw [cicUpdate_quiet _ h]

/-- A person that is to leave its cores. -/
def leavingNow (p : Nat) (s : State) : State :=
  let m := (s.person p).cores
  let drop := fun c t => setCore c (fun k => { k with sb := k.sb.filter fun e => decide (e.person ≠ p) }) t
  setRun p .restarting (setPerson p (fun q => { q with moveTo := 0, deferred := false }) (forAll (maskCores m) drop s))

/-- A person has left its cores, and its seal jobs, movers and ports are reset. -/
def leftCores (p : Nat) (s : State) : State :=
  portReset p (movReset p (sealAbort p (opEval 1 (opEval 0 (leftPicked p (leavingNow p s))))))

/-- And its sources, cells and mirror slots. -/
def leftAll (p : Nat) (s : State) : State := zeroSlots p (cellsUnbind p (cicResetBare p (leftCores p s)))

/-- A person owns no source, page or bank, and no core has a candidate for it, so that leaving its cores reclaims and sends nothing. -/
def leavesNothing (p : Nat) (s : State) : Bool :=
  nothingToSend (leftPicked p (leavingNow p s)) && noSource p (leftCores p s) && nothingToSend (cicResetBare p (leftCores p s)) &&
    holdsNothing p (leftAll p s)

/-- All there is to leaving its cores for a person that leaves nothing. -/
theorem takeDown_nothing (p : Nat) (s : State) (h : leavesNothing p s = true) : takeDown p s = leftAll p s := by
  simp only [leavesNothing, Bool.and_eq_true] at h
  show reclaim p (zeroSlots p (cellsUnbind p (cicReset p (portReset p (movReset p (sealAbort p (leaveCores p (leavingNow p s)))))))) = _
  rw [leaveCores_quiet _ _ h.1.1.1]
  show reclaim p (zeroSlots p (cellsUnbind p (cicReset p (leftCores p s)))) = _
  rw [cicReset_bare p _ h.1.1.2 h.1.2]
  exact reclaim_nothing p _ h.2

/-- A core fetches one word, which ends its sentence. -/
def fetchesWord (s : State) (c : Nat) (w : Word) : Bool :=
  match fetchWords s c (s.core c).cur (s.ctx c (s.core c).cur).pc.toNat 8 with
  | .words ws closed => decide (ws = [w]) && closed
  | .fault => false

theorem fetchSentence_one (s : State) (c : Nat) (w : Word) (h : fetchesWord s c w = true) :
    fetchSentence s c = some (decodeSentence [w] true) := by
  unfold fetchesWord at h
  show (match fetchWords s c (s.core c).cur (s.ctx c (s.core c).cur).pc.toNat 8 with
    | .fault => none
    | .words ws closed => some (decodeSentence ws closed)) = _
  cases e : fetchWords s c (s.core c).cur (s.ctx c (s.core c).cur).pc.toNat 8 with
  | fault => simp [e] at h
  | words ws closed =>
    simp only [e, Bool.and_eq_true, decide_eq_true_eq] at h
    obtain ⟨rfl, rfl⟩ := h
    rfl

/-- The proof that a person's own key gives is accepted. -/
theorem personProof_ok (s : State) (p : Nat) (c : Carrier) (chal key : Bytes) (h : personKey s p = some key) :
    proofOk s (.person p) c chal (hmac sha256P key (sessionMsg (sessCode (.person p)) c chal)) = true := by
  simp [proofOk, hmacProof, h]

end Sys2Proof.Machine
end

