-- ==== Sys2Proof/Laws/State.lean ====
section
/-! SUPPORT. What each named update of the state leaves and writes: one lemma per field, true by definition. -/

namespace Sys2Proof.Machine

variable (s : State)

/-! ### setIsl -/

@[simp] theorem setIsl_pending (f : Isl → Isl) : (setIsl f s).pending = s.pending := rfl
@[simp] theorem setIsl_free (f : Isl → Isl) : (setIsl f s).free = s.free := rfl
@[simp] theorem setIsl_secs (f : Isl → Isl) : (setIsl f s).secs = s.secs := rfl
@[simp] theorem setIsl_isl (f : Isl → Isl) : (setIsl f s).isl = f s.isl := rfl
@[simp] theorem setIsl_gates (f : Isl → Isl) : (setIsl f s).gates = s.gates := rfl
@[simp] theorem setIsl_fuses (f : Isl → Isl) : (setIsl f s).fuses = s.fuses := rfl
@[simp] theorem setIsl_stw (f : Isl → Isl) : (setIsl f s).stw = s.stw := rfl
@[simp] theorem setIsl_wit (f : Isl → Isl) : (setIsl f s).wit = s.wit := rfl
@[simp] theorem setIsl_cores (f : Isl → Isl) : (setIsl f s).cores = s.cores := rfl
@[simp] theorem setIsl_mem (f : Isl → Isl) : (setIsl f s).mem = s.mem := rfl
@[simp] theorem setIsl_cus (f : Isl → Isl) : (setIsl f s).cus = s.cus := rfl
@[simp] theorem setIsl_win (f : Isl → Isl) : (setIsl f s).win = s.win := rfl
@[simp] theorem setIsl_snt (f : Isl → Isl) : (setIsl f s).snt = s.snt := rfl
@[simp] theorem setIsl_cic (f : Isl → Isl) : (setIsl f s).cic = s.cic := rfl
@[simp] theorem setIsl_mov (f : Isl → Isl) : (setIsl f s).mov = s.mov := rfl
@[simp] theorem setIsl_movTurn (f : Isl → Isl) : (setIsl f s).movTurn = s.movTurn := rfl
@[simp] theorem setIsl_port (f : Isl → Isl) : (setIsl f s).port = s.port := rfl
@[simp] theorem setIsl_srv (f : Isl → Isl) : (setIsl f s).srv = s.srv := rfl
@[simp] theorem setIsl_flc (f : Isl → Isl) : (setIsl f s).flc = s.flc := rfl
@[simp] theorem setIsl_store (f : Isl → Isl) : (setIsl f s).store = s.store := rfl
@[simp] theorem setIsl_seals (f : Isl → Isl) : (setIsl f s).seals = s.seals := rfl
@[simp] theorem setIsl_bun (f : Isl → Isl) : (setIsl f s).bun = s.bun := rfl
@[simp] theorem setIsl_oru (f : Isl → Isl) : (setIsl f s).oru = s.oru := rfl
@[simp] theorem setIsl_chn (f : Isl → Isl) : (setIsl f s).chn = s.chn := rfl

/-! ### setSnt -/

@[simp] theorem setSnt_pending (f : Snt → Snt) : (setSnt f s).pending = s.pending := rfl
@[simp] theorem setSnt_free (f : Snt → Snt) : (setSnt f s).free = s.free := rfl
@[simp] theorem setSnt_secs (f : Snt → Snt) : (setSnt f s).secs = s.secs := rfl
@[simp] theorem setSnt_isl (f : Snt → Snt) : (setSnt f s).isl = s.isl := rfl
@[simp] theorem setSnt_gates (f : Snt → Snt) : (setSnt f s).gates = s.gates := rfl
@[simp] theorem setSnt_fuses (f : Snt → Snt) : (setSnt f s).fuses = s.fuses := rfl
@[simp] theorem setSnt_stw (f : Snt → Snt) : (setSnt f s).stw = s.stw := rfl
@[simp] theorem setSnt_wit (f : Snt → Snt) : (setSnt f s).wit = s.wit := rfl
@[simp] theorem setSnt_cores (f : Snt → Snt) : (setSnt f s).cores = s.cores := rfl
@[simp] theorem setSnt_mem (f : Snt → Snt) : (setSnt f s).mem = s.mem := rfl
@[simp] theorem setSnt_cus (f : Snt → Snt) : (setSnt f s).cus = s.cus := rfl
@[simp] theorem setSnt_win (f : Snt → Snt) : (setSnt f s).win = s.win := rfl
@[simp] theorem setSnt_snt (f : Snt → Snt) : (setSnt f s).snt = f s.snt := rfl
@[simp] theorem setSnt_cic (f : Snt → Snt) : (setSnt f s).cic = s.cic := rfl
@[simp] theorem setSnt_mov (f : Snt → Snt) : (setSnt f s).mov = s.mov := rfl
@[simp] theorem setSnt_movTurn (f : Snt → Snt) : (setSnt f s).movTurn = s.movTurn := rfl
@[simp] theorem setSnt_port (f : Snt → Snt) : (setSnt f s).port = s.port := rfl
@[simp] theorem setSnt_srv (f : Snt → Snt) : (setSnt f s).srv = s.srv := rfl
@[simp] theorem setSnt_flc (f : Snt → Snt) : (setSnt f s).flc = s.flc := rfl
@[simp] theorem setSnt_store (f : Snt → Snt) : (setSnt f s).store = s.store := rfl
@[simp] theorem setSnt_seals (f : Snt → Snt) : (setSnt f s).seals = s.seals := rfl
@[simp] theorem setSnt_bun (f : Snt → Snt) : (setSnt f s).bun = s.bun := rfl
@[simp] theorem setSnt_oru (f : Snt → Snt) : (setSnt f s).oru = s.oru := rfl
@[simp] theorem setSnt_chn (f : Snt → Snt) : (setSnt f s).chn = s.chn := rfl

/-! ### setWin -/

@[simp] theorem setWin_pending (f : Win → Win) : (setWin f s).pending = s.pending := rfl
@[simp] theorem setWin_free (f : Win → Win) : (setWin f s).free = s.free := rfl
@[simp] theorem setWin_secs (f : Win → Win) : (setWin f s).secs = s.secs := rfl
@[simp] theorem setWin_isl (f : Win → Win) : (setWin f s).isl = s.isl := rfl
@[simp] theorem setWin_gates (f : Win → Win) : (setWin f s).gates = s.gates := rfl
@[simp] theorem setWin_fuses (f : Win → Win) : (setWin f s).fuses = s.fuses := rfl
@[simp] theorem setWin_stw (f : Win → Win) : (setWin f s).stw = s.stw := rfl
@[simp] theorem setWin_wit (f : Win → Win) : (setWin f s).wit = s.wit := rfl
@[simp] theorem setWin_cores (f : Win → Win) : (setWin f s).cores = s.cores := rfl
@[simp] theorem setWin_mem (f : Win → Win) : (setWin f s).mem = s.mem := rfl
@[simp] theorem setWin_cus (f : Win → Win) : (setWin f s).cus = s.cus := rfl
@[simp] theorem setWin_win (f : Win → Win) : (setWin f s).win = f s.win := rfl
@[simp] theorem setWin_snt (f : Win → Win) : (setWin f s).snt = s.snt := rfl
@[simp] theorem setWin_cic (f : Win → Win) : (setWin f s).cic = s.cic := rfl
@[simp] theorem setWin_mov (f : Win → Win) : (setWin f s).mov = s.mov := rfl
@[simp] theorem setWin_movTurn (f : Win → Win) : (setWin f s).movTurn = s.movTurn := rfl
@[simp] theorem setWin_port (f : Win → Win) : (setWin f s).port = s.port := rfl
@[simp] theorem setWin_srv (f : Win → Win) : (setWin f s).srv = s.srv := rfl
@[simp] theorem setWin_flc (f : Win → Win) : (setWin f s).flc = s.flc := rfl
@[simp] theorem setWin_store (f : Win → Win) : (setWin f s).store = s.store := rfl
@[simp] theorem setWin_seals (f : Win → Win) : (setWin f s).seals = s.seals := rfl
@[simp] theorem setWin_bun (f : Win → Win) : (setWin f s).bun = s.bun := rfl
@[simp] theorem setWin_oru (f : Win → Win) : (setWin f s).oru = s.oru := rfl
@[simp] theorem setWin_chn (f : Win → Win) : (setWin f s).chn = s.chn := rfl

/-! ### setStore -/

@[simp] theorem setStore_pending (f : Rec → Rec) : (setStore f s).pending = s.pending := rfl
@[simp] theorem setStore_free (f : Rec → Rec) : (setStore f s).free = s.free := rfl
@[simp] theorem setStore_secs (f : Rec → Rec) : (setStore f s).secs = s.secs := rfl
@[simp] theorem setStore_isl (f : Rec → Rec) : (setStore f s).isl = s.isl := rfl
@[simp] theorem setStore_gates (f : Rec → Rec) : (setStore f s).gates = s.gates := rfl
@[simp] theorem setStore_fuses (f : Rec → Rec) : (setStore f s).fuses = s.fuses := rfl
@[simp] theorem setStore_stw (f : Rec → Rec) : (setStore f s).stw = s.stw := rfl
@[simp] theorem setStore_wit (f : Rec → Rec) : (setStore f s).wit = s.wit := rfl
@[simp] theorem setStore_cores (f : Rec → Rec) : (setStore f s).cores = s.cores := rfl
@[simp] theorem setStore_mem (f : Rec → Rec) : (setStore f s).mem = s.mem := rfl
@[simp] theorem setStore_cus (f : Rec → Rec) : (setStore f s).cus = s.cus := rfl
@[simp] theorem setStore_win (f : Rec → Rec) : (setStore f s).win = s.win := rfl
@[simp] theorem setStore_snt (f : Rec → Rec) : (setStore f s).snt = s.snt := rfl
@[simp] theorem setStore_cic (f : Rec → Rec) : (setStore f s).cic = s.cic := rfl
@[simp] theorem setStore_mov (f : Rec → Rec) : (setStore f s).mov = s.mov := rfl
@[simp] theorem setStore_movTurn (f : Rec → Rec) : (setStore f s).movTurn = s.movTurn := rfl
@[simp] theorem setStore_port (f : Rec → Rec) : (setStore f s).port = s.port := rfl
@[simp] theorem setStore_srv (f : Rec → Rec) : (setStore f s).srv = s.srv := rfl
@[simp] theorem setStore_flc (f : Rec → Rec) : (setStore f s).flc = s.flc := rfl
@[simp] theorem setStore_store (f : Rec → Rec) : (setStore f s).store = f s.store := rfl
@[simp] theorem setStore_seals (f : Rec → Rec) : (setStore f s).seals = s.seals := rfl
@[simp] theorem setStore_bun (f : Rec → Rec) : (setStore f s).bun = s.bun := rfl
@[simp] theorem setStore_oru (f : Rec → Rec) : (setStore f s).oru = s.oru := rfl
@[simp] theorem setStore_chn (f : Rec → Rec) : (setStore f s).chn = s.chn := rfl

/-! ### setOru -/

@[simp] theorem setOru_pending (f : Oru → Oru) : (setOru f s).pending = s.pending := rfl
@[simp] theorem setOru_free (f : Oru → Oru) : (setOru f s).free = s.free := rfl
@[simp] theorem setOru_secs (f : Oru → Oru) : (setOru f s).secs = s.secs := rfl
@[simp] theorem setOru_isl (f : Oru → Oru) : (setOru f s).isl = s.isl := rfl
@[simp] theorem setOru_gates (f : Oru → Oru) : (setOru f s).gates = s.gates := rfl
@[simp] theorem setOru_fuses (f : Oru → Oru) : (setOru f s).fuses = s.fuses := rfl
@[simp] theorem setOru_stw (f : Oru → Oru) : (setOru f s).stw = s.stw := rfl
@[simp] theorem setOru_wit (f : Oru → Oru) : (setOru f s).wit = s.wit := rfl
@[simp] theorem setOru_cores (f : Oru → Oru) : (setOru f s).cores = s.cores := rfl
@[simp] theorem setOru_mem (f : Oru → Oru) : (setOru f s).mem = s.mem := rfl
@[simp] theorem setOru_cus (f : Oru → Oru) : (setOru f s).cus = s.cus := rfl
@[simp] theorem setOru_win (f : Oru → Oru) : (setOru f s).win = s.win := rfl
@[simp] theorem setOru_snt (f : Oru → Oru) : (setOru f s).snt = s.snt := rfl
@[simp] theorem setOru_cic (f : Oru → Oru) : (setOru f s).cic = s.cic := rfl
@[simp] theorem setOru_mov (f : Oru → Oru) : (setOru f s).mov = s.mov := rfl
@[simp] theorem setOru_movTurn (f : Oru → Oru) : (setOru f s).movTurn = s.movTurn := rfl
@[simp] theorem setOru_port (f : Oru → Oru) : (setOru f s).port = s.port := rfl
@[simp] theorem setOru_srv (f : Oru → Oru) : (setOru f s).srv = s.srv := rfl
@[simp] theorem setOru_flc (f : Oru → Oru) : (setOru f s).flc = s.flc := rfl
@[simp] theorem setOru_store (f : Oru → Oru) : (setOru f s).store = s.store := rfl
@[simp] theorem setOru_seals (f : Oru → Oru) : (setOru f s).seals = s.seals := rfl
@[simp] theorem setOru_bun (f : Oru → Oru) : (setOru f s).bun = s.bun := rfl
@[simp] theorem setOru_oru (f : Oru → Oru) : (setOru f s).oru = f s.oru := rfl
@[simp] theorem setOru_chn (f : Oru → Oru) : (setOru f s).chn = s.chn := rfl

/-! ### setChn -/

@[simp] theorem setChn_pending (f : Chn → Chn) : (setChn f s).pending = s.pending := rfl
@[simp] theorem setChn_free (f : Chn → Chn) : (setChn f s).free = s.free := rfl
@[simp] theorem setChn_secs (f : Chn → Chn) : (setChn f s).secs = s.secs := rfl
@[simp] theorem setChn_isl (f : Chn → Chn) : (setChn f s).isl = s.isl := rfl
@[simp] theorem setChn_gates (f : Chn → Chn) : (setChn f s).gates = s.gates := rfl
@[simp] theorem setChn_fuses (f : Chn → Chn) : (setChn f s).fuses = s.fuses := rfl
@[simp] theorem setChn_stw (f : Chn → Chn) : (setChn f s).stw = s.stw := rfl
@[simp] theorem setChn_wit (f : Chn → Chn) : (setChn f s).wit = s.wit := rfl
@[simp] theorem setChn_cores (f : Chn → Chn) : (setChn f s).cores = s.cores := rfl
@[simp] theorem setChn_mem (f : Chn → Chn) : (setChn f s).mem = s.mem := rfl
@[simp] theorem setChn_cus (f : Chn → Chn) : (setChn f s).cus = s.cus := rfl
@[simp] theorem setChn_win (f : Chn → Chn) : (setChn f s).win = s.win := rfl
@[simp] theorem setChn_snt (f : Chn → Chn) : (setChn f s).snt = s.snt := rfl
@[simp] theorem setChn_cic (f : Chn → Chn) : (setChn f s).cic = s.cic := rfl
@[simp] theorem setChn_mov (f : Chn → Chn) : (setChn f s).mov = s.mov := rfl
@[simp] theorem setChn_movTurn (f : Chn → Chn) : (setChn f s).movTurn = s.movTurn := rfl
@[simp] theorem setChn_port (f : Chn → Chn) : (setChn f s).port = s.port := rfl
@[simp] theorem setChn_srv (f : Chn → Chn) : (setChn f s).srv = s.srv := rfl
@[simp] theorem setChn_flc (f : Chn → Chn) : (setChn f s).flc = s.flc := rfl
@[simp] theorem setChn_store (f : Chn → Chn) : (setChn f s).store = s.store := rfl
@[simp] theorem setChn_seals (f : Chn → Chn) : (setChn f s).seals = s.seals := rfl
@[simp] theorem setChn_bun (f : Chn → Chn) : (setChn f s).bun = s.bun := rfl
@[simp] theorem setChn_oru (f : Chn → Chn) : (setChn f s).oru = s.oru := rfl
@[simp] theorem setChn_chn (f : Chn → Chn) : (setChn f s).chn = f s.chn := rfl

/-! ### setCore -/

@[simp] theorem setCore_pending (c : Nat) (f : Core → Core) : (setCore c f s).pending = s.pending := rfl
@[simp] theorem setCore_free (c : Nat) (f : Core → Core) : (setCore c f s).free = s.free := rfl
@[simp] theorem setCore_secs (c : Nat) (f : Core → Core) : (setCore c f s).secs = s.secs := rfl
@[simp] theorem setCore_isl (c : Nat) (f : Core → Core) : (setCore c f s).isl = s.isl := rfl
@[simp] theorem setCore_gates (c : Nat) (f : Core → Core) : (setCore c f s).gates = s.gates := rfl
@[simp] theorem setCore_fuses (c : Nat) (f : Core → Core) : (setCore c f s).fuses = s.fuses := rfl
@[simp] theorem setCore_stw (c : Nat) (f : Core → Core) : (setCore c f s).stw = s.stw := rfl
@[simp] theorem setCore_wit (c : Nat) (f : Core → Core) : (setCore c f s).wit = s.wit := rfl
@[simp] theorem setCore_cores (c : Nat) (f : Core → Core) : (setCore c f s).cores = vmod s.cores c f := rfl
@[simp] theorem setCore_mem (c : Nat) (f : Core → Core) : (setCore c f s).mem = s.mem := rfl
@[simp] theorem setCore_cus (c : Nat) (f : Core → Core) : (setCore c f s).cus = s.cus := rfl
@[simp] theorem setCore_win (c : Nat) (f : Core → Core) : (setCore c f s).win = s.win := rfl
@[simp] theorem setCore_snt (c : Nat) (f : Core → Core) : (setCore c f s).snt = s.snt := rfl
@[simp] theorem setCore_cic (c : Nat) (f : Core → Core) : (setCore c f s).cic = s.cic := rfl
@[simp] theorem setCore_mov (c : Nat) (f : Core → Core) : (setCore c f s).mov = s.mov := rfl
@[simp] theorem setCore_movTurn (c : Nat) (f : Core → Core) : (setCore c f s).movTurn = s.movTurn := rfl
@[simp] theorem setCore_port (c : Nat) (f : Core → Core) : (setCore c f s).port = s.port := rfl
@[simp] theorem setCore_srv (c : Nat) (f : Core → Core) : (setCore c f s).srv = s.srv := rfl
@[simp] theorem setCore_flc (c : Nat) (f : Core → Core) : (setCore c f s).flc = s.flc := rfl
@[simp] theorem setCore_store (c : Nat) (f : Core → Core) : (setCore c f s).store = s.store := rfl
@[simp] theorem setCore_seals (c : Nat) (f : Core → Core) : (setCore c f s).seals = s.seals := rfl
@[simp] theorem setCore_bun (c : Nat) (f : Core → Core) : (setCore c f s).bun = s.bun := rfl
@[simp] theorem setCore_oru (c : Nat) (f : Core → Core) : (setCore c f s).oru = s.oru := rfl
@[simp] theorem setCore_chn (c : Nat) (f : Core → Core) : (setCore c f s).chn = s.chn := rfl

/-! ### setCtx -/

@[simp] theorem setCtx_pending (c p : Nat) (f : Ctx → Ctx) : (setCtx c p f s).pending = s.pending := rfl
@[simp] theorem setCtx_free (c p : Nat) (f : Ctx → Ctx) : (setCtx c p f s).free = s.free := rfl
@[simp] theorem setCtx_secs (c p : Nat) (f : Ctx → Ctx) : (setCtx c p f s).secs = s.secs := rfl
@[simp] theorem setCtx_isl (c p : Nat) (f : Ctx → Ctx) : (setCtx c p f s).isl = s.isl := rfl
@[simp] theorem setCtx_gates (c p : Nat) (f : Ctx → Ctx) : (setCtx c p f s).gates = s.gates := rfl
@[simp] theorem setCtx_fuses (c p : Nat) (f : Ctx → Ctx) : (setCtx c p f s).fuses = s.fuses := rfl
@[simp] theorem setCtx_stw (c p : Nat) (f : Ctx → Ctx) : (setCtx c p f s).stw = s.stw := rfl
@[simp] theorem setCtx_wit (c p : Nat) (f : Ctx → Ctx) : (setCtx c p f s).wit = s.wit := rfl
@[simp] theorem setCtx_cores (c p : Nat) (f : Ctx → Ctx) : (setCtx c p f s).cores = vmod s.cores c fun k => { k with ctx := vmod k.ctx p f } := rfl
@[simp] theorem setCtx_mem (c p : Nat) (f : Ctx → Ctx) : (setCtx c p f s).mem = s.mem := rfl
@[simp] theorem setCtx_cus (c p : Nat) (f : Ctx → Ctx) : (setCtx c p f s).cus = s.cus := rfl
@[simp] theorem setCtx_win (c p : Nat) (f : Ctx → Ctx) : (setCtx c p f s).win = s.win := rfl
@[simp] theorem setCtx_snt (c p : Nat) (f : Ctx → Ctx) : (setCtx c p f s).snt = s.snt := rfl
@[simp] theorem setCtx_cic (c p : Nat) (f : Ctx → Ctx) : (setCtx c p f s).cic = s.cic := rfl
@[simp] theorem setCtx_mov (c p : Nat) (f : Ctx → Ctx) : (setCtx c p f s).mov = s.mov := rfl
@[simp] theorem setCtx_movTurn (c p : Nat) (f : Ctx → Ctx) : (setCtx c p f s).movTurn = s.movTurn := rfl
@[simp] theorem setCtx_port (c p : Nat) (f : Ctx → Ctx) : (setCtx c p f s).port = s.port := rfl
@[simp] theorem setCtx_srv (c p : Nat) (f : Ctx → Ctx) : (setCtx c p f s).srv = s.srv := rfl
@[simp] theorem setCtx_flc (c p : Nat) (f : Ctx → Ctx) : (setCtx c p f s).flc = s.flc := rfl
@[simp] theorem setCtx_store (c p : Nat) (f : Ctx → Ctx) : (setCtx c p f s).store = s.store := rfl
@[simp] theorem setCtx_seals (c p : Nat) (f : Ctx → Ctx) : (setCtx c p f s).seals = s.seals := rfl
@[simp] theorem setCtx_bun (c p : Nat) (f : Ctx → Ctx) : (setCtx c p f s).bun = s.bun := rfl
@[simp] theorem setCtx_oru (c p : Nat) (f : Ctx → Ctx) : (setCtx c p f s).oru = s.oru := rfl
@[simp] theorem setCtx_chn (c p : Nat) (f : Ctx → Ctx) : (setCtx c p f s).chn = s.chn := rfl

/-! ### mapCores -/

@[simp] theorem mapCores_pending (f : Nat → Core → Core) : (mapCores f s).pending = s.pending := rfl
@[simp] theorem mapCores_free (f : Nat → Core → Core) : (mapCores f s).free = s.free := rfl
@[simp] theorem mapCores_secs (f : Nat → Core → Core) : (mapCores f s).secs = s.secs := rfl
@[simp] theorem mapCores_isl (f : Nat → Core → Core) : (mapCores f s).isl = s.isl := rfl
@[simp] theorem mapCores_gates (f : Nat → Core → Core) : (mapCores f s).gates = s.gates := rfl
@[simp] theorem mapCores_fuses (f : Nat → Core → Core) : (mapCores f s).fuses = s.fuses := rfl
@[simp] theorem mapCores_stw (f : Nat → Core → Core) : (mapCores f s).stw = s.stw := rfl
@[simp] theorem mapCores_wit (f : Nat → Core → Core) : (mapCores f s).wit = s.wit := rfl
@[simp] theorem mapCores_cores (f : Nat → Core → Core) : (mapCores f s).cores = Vector.ofFn fun i : Fin 4 => f i.val (vget s.cores i.val) := rfl
@[simp] theorem mapCores_mem (f : Nat → Core → Core) : (mapCores f s).mem = s.mem := rfl
@[simp] theorem mapCores_cus (f : Nat → Core → Core) : (mapCores f s).cus = s.cus := rfl
@[simp] theorem mapCores_win (f : Nat → Core → Core) : (mapCores f s).win = s.win := rfl
@[simp] theorem mapCores_snt (f : Nat → Core → Core) : (mapCores f s).snt = s.snt := rfl
@[simp] theorem mapCores_cic (f : Nat → Core → Core) : (mapCores f s).cic = s.cic := rfl
@[simp] theorem mapCores_mov (f : Nat → Core → Core) : (mapCores f s).mov = s.mov := rfl
@[simp] theorem mapCores_movTurn (f : Nat → Core → Core) : (mapCores f s).movTurn = s.movTurn := rfl
@[simp] theorem mapCores_port (f : Nat → Core → Core) : (mapCores f s).port = s.port := rfl
@[simp] theorem mapCores_srv (f : Nat → Core → Core) : (mapCores f s).srv = s.srv := rfl
@[simp] theorem mapCores_flc (f : Nat → Core → Core) : (mapCores f s).flc = s.flc := rfl
@[simp] theorem mapCores_store (f : Nat → Core → Core) : (mapCores f s).store = s.store := rfl
@[simp] theorem mapCores_seals (f : Nat → Core → Core) : (mapCores f s).seals = s.seals := rfl
@[simp] theorem mapCores_bun (f : Nat → Core → Core) : (mapCores f s).bun = s.bun := rfl
@[simp] theorem mapCores_oru (f : Nat → Core → Core) : (mapCores f s).oru = s.oru := rfl
@[simp] theorem mapCores_chn (f : Nat → Core → Core) : (mapCores f s).chn = s.chn := rfl

/-! ### setPerson -/

@[simp] theorem setPerson_pending (p : Nat) (f : Person → Person) : (setPerson p f s).pending = s.pending := rfl
@[simp] theorem setPerson_free (p : Nat) (f : Person → Person) : (setPerson p f s).free = s.free := rfl
@[simp] theorem setPerson_secs (p : Nat) (f : Person → Person) : (setPerson p f s).secs = s.secs := rfl
@[simp] theorem setPerson_isl (p : Nat) (f : Person → Person) : (setPerson p f s).isl = s.isl := rfl
@[simp] theorem setPerson_gates (p : Nat) (f : Person → Person) : (setPerson p f s).gates = s.gates := rfl
@[simp] theorem setPerson_fuses (p : Nat) (f : Person → Person) : (setPerson p f s).fuses = s.fuses := rfl
@[simp] theorem setPerson_stw (p : Nat) (f : Person → Person) : (setPerson p f s).stw = { s.stw with persons := vmod s.stw.persons p f } := rfl
@[simp] theorem setPerson_wit (p : Nat) (f : Person → Person) : (setPerson p f s).wit = s.wit := rfl
@[simp] theorem setPerson_cores (p : Nat) (f : Person → Person) : (setPerson p f s).cores = s.cores := rfl
@[simp] theorem setPerson_mem (p : Nat) (f : Person → Person) : (setPerson p f s).mem = s.mem := rfl
@[simp] theorem setPerson_cus (p : Nat) (f : Person → Person) : (setPerson p f s).cus = s.cus := rfl
@[simp] theorem setPerson_win (p : Nat) (f : Person → Person) : (setPerson p f s).win = s.win := rfl
@[simp] theorem setPerson_snt (p : Nat) (f : Person → Person) : (setPerson p f s).snt = s.snt := rfl
@[simp] theorem setPerson_cic (p : Nat) (f : Person → Person) : (setPerson p f s).cic = s.cic := rfl
@[simp] theorem setPerson_mov (p : Nat) (f : Person → Person) : (setPerson p f s).mov = s.mov := rfl
@[simp] theorem setPerson_movTurn (p : Nat) (f : Person → Person) : (setPerson p f s).movTurn = s.movTurn := rfl
@[simp] theorem setPerson_port (p : Nat) (f : Person → Person) : (setPerson p f s).port = s.port := rfl
@[simp] theorem setPerson_srv (p : Nat) (f : Person → Person) : (setPerson p f s).srv = s.srv := rfl
@[simp] theorem setPerson_flc (p : Nat) (f : Person → Person) : (setPerson p f s).flc = s.flc := rfl
@[simp] theorem setPerson_store (p : Nat) (f : Person → Person) : (setPerson p f s).store = s.store := rfl
@[simp] theorem setPerson_seals (p : Nat) (f : Person → Person) : (setPerson p f s).seals = s.seals := rfl
@[simp] theorem setPerson_bun (p : Nat) (f : Person → Person) : (setPerson p f s).bun = s.bun := rfl
@[simp] theorem setPerson_oru (p : Nat) (f : Person → Person) : (setPerson p f s).oru = s.oru := rfl
@[simp] theorem setPerson_chn (p : Nat) (f : Person → Person) : (setPerson p f s).chn = s.chn := rfl

/-! ### setCell -/

@[simp] theorem setCell_pending (n : Nat) (f : Cell → Cell) : (setCell n f s).pending = s.pending := rfl
@[simp] theorem setCell_free (n : Nat) (f : Cell → Cell) : (setCell n f s).free = s.free := rfl
@[simp] theorem setCell_secs (n : Nat) (f : Cell → Cell) : (setCell n f s).secs = s.secs := rfl
@[simp] theorem setCell_isl (n : Nat) (f : Cell → Cell) : (setCell n f s).isl = s.isl := rfl
@[simp] theorem setCell_gates (n : Nat) (f : Cell → Cell) : (setCell n f s).gates = s.gates := rfl
@[simp] theorem setCell_fuses (n : Nat) (f : Cell → Cell) : (setCell n f s).fuses = s.fuses := rfl
@[simp] theorem setCell_stw (n : Nat) (f : Cell → Cell) : (setCell n f s).stw = s.stw := rfl
@[simp] theorem setCell_wit (n : Nat) (f : Cell → Cell) : (setCell n f s).wit = s.wit := rfl
@[simp] theorem setCell_cores (n : Nat) (f : Cell → Cell) : (setCell n f s).cores = s.cores := rfl
@[simp] theorem setCell_mem (n : Nat) (f : Cell → Cell) : (setCell n f s).mem = s.mem := rfl
@[simp] theorem setCell_cus (n : Nat) (f : Cell → Cell) : (setCell n f s).cus = s.cus := rfl
@[simp] theorem setCell_win (n : Nat) (f : Cell → Cell) : (setCell n f s).win = { s.win with cells := vmod s.win.cells n f } := rfl
@[simp] theorem setCell_snt (n : Nat) (f : Cell → Cell) : (setCell n f s).snt = s.snt := rfl
@[simp] theorem setCell_cic (n : Nat) (f : Cell → Cell) : (setCell n f s).cic = s.cic := rfl
@[simp] theorem setCell_mov (n : Nat) (f : Cell → Cell) : (setCell n f s).mov = s.mov := rfl
@[simp] theorem setCell_movTurn (n : Nat) (f : Cell → Cell) : (setCell n f s).movTurn = s.movTurn := rfl
@[simp] theorem setCell_port (n : Nat) (f : Cell → Cell) : (setCell n f s).port = s.port := rfl
@[simp] theorem setCell_srv (n : Nat) (f : Cell → Cell) : (setCell n f s).srv = s.srv := rfl
@[simp] theorem setCell_flc (n : Nat) (f : Cell → Cell) : (setCell n f s).flc = s.flc := rfl
@[simp] theorem setCell_store (n : Nat) (f : Cell → Cell) : (setCell n f s).store = s.store := rfl
@[simp] theorem setCell_seals (n : Nat) (f : Cell → Cell) : (setCell n f s).seals = s.seals := rfl
@[simp] theorem setCell_bun (n : Nat) (f : Cell → Cell) : (setCell n f s).bun = s.bun := rfl
@[simp] theorem setCell_oru (n : Nat) (f : Cell → Cell) : (setCell n f s).oru = s.oru := rfl
@[simp] theorem setCell_chn (n : Nat) (f : Cell → Cell) : (setCell n f s).chn = s.chn := rfl

/-! ### setSrc -/

@[simp] theorem setSrc_pending (n : Nat) (f : Src → Src) : (setSrc n f s).pending = s.pending := rfl
@[simp] theorem setSrc_free (n : Nat) (f : Src → Src) : (setSrc n f s).free = s.free := rfl
@[simp] theorem setSrc_secs (n : Nat) (f : Src → Src) : (setSrc n f s).secs = s.secs := rfl
@[simp] theorem setSrc_isl (n : Nat) (f : Src → Src) : (setSrc n f s).isl = s.isl := rfl
@[simp] theorem setSrc_gates (n : Nat) (f : Src → Src) : (setSrc n f s).gates = s.gates := rfl
@[simp] theorem setSrc_fuses (n : Nat) (f : Src → Src) : (setSrc n f s).fuses = s.fuses := rfl
@[simp] theorem setSrc_stw (n : Nat) (f : Src → Src) : (setSrc n f s).stw = s.stw := rfl
@[simp] theorem setSrc_wit (n : Nat) (f : Src → Src) : (setSrc n f s).wit = s.wit := rfl
@[simp] theorem setSrc_cores (n : Nat) (f : Src → Src) : (setSrc n f s).cores = s.cores := rfl
@[simp] theorem setSrc_mem (n : Nat) (f : Src → Src) : (setSrc n f s).mem = s.mem := rfl
@[simp] theorem setSrc_cus (n : Nat) (f : Src → Src) : (setSrc n f s).cus = s.cus := rfl
@[simp] theorem setSrc_win (n : Nat) (f : Src → Src) : (setSrc n f s).win = s.win := rfl
@[simp] theorem setSrc_snt (n : Nat) (f : Src → Src) : (setSrc n f s).snt = s.snt := rfl
@[simp] theorem setSrc_cic (n : Nat) (f : Src → Src) : (setSrc n f s).cic = { s.cic with src := vmod s.cic.src n f } := rfl
@[simp] theorem setSrc_mov (n : Nat) (f : Src → Src) : (setSrc n f s).mov = s.mov := rfl
@[simp] theorem setSrc_movTurn (n : Nat) (f : Src → Src) : (setSrc n f s).movTurn = s.movTurn := rfl
@[simp] theorem setSrc_port (n : Nat) (f : Src → Src) : (setSrc n f s).port = s.port := rfl
@[simp] theorem setSrc_srv (n : Nat) (f : Src → Src) : (setSrc n f s).srv = s.srv := rfl
@[simp] theorem setSrc_flc (n : Nat) (f : Src → Src) : (setSrc n f s).flc = s.flc := rfl
@[simp] theorem setSrc_store (n : Nat) (f : Src → Src) : (setSrc n f s).store = s.store := rfl
@[simp] theorem setSrc_seals (n : Nat) (f : Src → Src) : (setSrc n f s).seals = s.seals := rfl
@[simp] theorem setSrc_bun (n : Nat) (f : Src → Src) : (setSrc n f s).bun = s.bun := rfl
@[simp] theorem setSrc_oru (n : Nat) (f : Src → Src) : (setSrc n f s).oru = s.oru := rfl
@[simp] theorem setSrc_chn (n : Nat) (f : Src → Src) : (setSrc n f s).chn = s.chn := rfl

/-! ### setCh -/

@[simp] theorem setCh_pending (n : Nat) (f : SrvChan → SrvChan) : (setCh n f s).pending = s.pending := rfl
@[simp] theorem setCh_free (n : Nat) (f : SrvChan → SrvChan) : (setCh n f s).free = s.free := rfl
@[simp] theorem setCh_secs (n : Nat) (f : SrvChan → SrvChan) : (setCh n f s).secs = s.secs := rfl
@[simp] theorem setCh_isl (n : Nat) (f : SrvChan → SrvChan) : (setCh n f s).isl = s.isl := rfl
@[simp] theorem setCh_gates (n : Nat) (f : SrvChan → SrvChan) : (setCh n f s).gates = s.gates := rfl
@[simp] theorem setCh_fuses (n : Nat) (f : SrvChan → SrvChan) : (setCh n f s).fuses = s.fuses := rfl
@[simp] theorem setCh_stw (n : Nat) (f : SrvChan → SrvChan) : (setCh n f s).stw = s.stw := rfl
@[simp] theorem setCh_wit (n : Nat) (f : SrvChan → SrvChan) : (setCh n f s).wit = s.wit := rfl
@[simp] theorem setCh_cores (n : Nat) (f : SrvChan → SrvChan) : (setCh n f s).cores = s.cores := rfl
@[simp] theorem setCh_mem (n : Nat) (f : SrvChan → SrvChan) : (setCh n f s).mem = s.mem := rfl
@[simp] theorem setCh_cus (n : Nat) (f : SrvChan → SrvChan) : (setCh n f s).cus = s.cus := rfl
@[simp] theorem setCh_win (n : Nat) (f : SrvChan → SrvChan) : (setCh n f s).win = s.win := rfl
@[simp] theorem setCh_snt (n : Nat) (f : SrvChan → SrvChan) : (setCh n f s).snt = s.snt := rfl
@[simp] theorem setCh_cic (n : Nat) (f : SrvChan → SrvChan) : (setCh n f s).cic = s.cic := rfl
@[simp] theorem setCh_mov (n : Nat) (f : SrvChan → SrvChan) : (setCh n f s).mov = s.mov := rfl
@[simp] theorem setCh_movTurn (n : Nat) (f : SrvChan → SrvChan) : (setCh n f s).movTurn = s.movTurn := rfl
@[simp] theorem setCh_port (n : Nat) (f : SrvChan → SrvChan) : (setCh n f s).port = s.port := rfl
@[simp] theorem setCh_srv (n : Nat) (f : SrvChan → SrvChan) : (setCh n f s).srv = { s.srv with chan := vmod s.srv.chan n f } := rfl
@[simp] theorem setCh_flc (n : Nat) (f : SrvChan → SrvChan) : (setCh n f s).flc = s.flc := rfl
@[simp] theorem setCh_store (n : Nat) (f : SrvChan → SrvChan) : (setCh n f s).store = s.store := rfl
@[simp] theorem setCh_seals (n : Nat) (f : SrvChan → SrvChan) : (setCh n f s).seals = s.seals := rfl
@[simp] theorem setCh_bun (n : Nat) (f : SrvChan → SrvChan) : (setCh n f s).bun = s.bun := rfl
@[simp] theorem setCh_oru (n : Nat) (f : SrvChan → SrvChan) : (setCh n f s).oru = s.oru := rfl
@[simp] theorem setCh_chn (n : Nat) (f : SrvChan → SrvChan) : (setCh n f s).chn = s.chn := rfl

/-! ### setTdr -/

@[simp] theorem setTdr_pending (n : Nat) (f : TdrUnit → TdrUnit) : (setTdr n f s).pending = s.pending := rfl
@[simp] theorem setTdr_free (n : Nat) (f : TdrUnit → TdrUnit) : (setTdr n f s).free = s.free := rfl
@[simp] theorem setTdr_secs (n : Nat) (f : TdrUnit → TdrUnit) : (setTdr n f s).secs = s.secs := rfl
@[simp] theorem setTdr_isl (n : Nat) (f : TdrUnit → TdrUnit) : (setTdr n f s).isl = s.isl := rfl
@[simp] theorem setTdr_gates (n : Nat) (f : TdrUnit → TdrUnit) : (setTdr n f s).gates = s.gates := rfl
@[simp] theorem setTdr_fuses (n : Nat) (f : TdrUnit → TdrUnit) : (setTdr n f s).fuses = s.fuses := rfl
@[simp] theorem setTdr_stw (n : Nat) (f : TdrUnit → TdrUnit) : (setTdr n f s).stw = s.stw := rfl
@[simp] theorem setTdr_wit (n : Nat) (f : TdrUnit → TdrUnit) : (setTdr n f s).wit = s.wit := rfl
@[simp] theorem setTdr_cores (n : Nat) (f : TdrUnit → TdrUnit) : (setTdr n f s).cores = s.cores := rfl
@[simp] theorem setTdr_mem (n : Nat) (f : TdrUnit → TdrUnit) : (setTdr n f s).mem = s.mem := rfl
@[simp] theorem setTdr_cus (n : Nat) (f : TdrUnit → TdrUnit) : (setTdr n f s).cus = s.cus := rfl
@[simp] theorem setTdr_win (n : Nat) (f : TdrUnit → TdrUnit) : (setTdr n f s).win = s.win := rfl
@[simp] theorem setTdr_snt (n : Nat) (f : TdrUnit → TdrUnit) : (setTdr n f s).snt = s.snt := rfl
@[simp] theorem setTdr_cic (n : Nat) (f : TdrUnit → TdrUnit) : (setTdr n f s).cic = s.cic := rfl
@[simp] theorem setTdr_mov (n : Nat) (f : TdrUnit → TdrUnit) : (setTdr n f s).mov = s.mov := rfl
@[simp] theorem setTdr_movTurn (n : Nat) (f : TdrUnit → TdrUnit) : (setTdr n f s).movTurn = s.movTurn := rfl
@[simp] theorem setTdr_port (n : Nat) (f : TdrUnit → TdrUnit) : (setTdr n f s).port = s.port := rfl
@[simp] theorem setTdr_srv (n : Nat) (f : TdrUnit → TdrUnit) : (setTdr n f s).srv = { s.srv with tdr := vmod s.srv.tdr n f } := rfl
@[simp] theorem setTdr_flc (n : Nat) (f : TdrUnit → TdrUnit) : (setTdr n f s).flc = s.flc := rfl
@[simp] theorem setTdr_store (n : Nat) (f : TdrUnit → TdrUnit) : (setTdr n f s).store = s.store := rfl
@[simp] theorem setTdr_seals (n : Nat) (f : TdrUnit → TdrUnit) : (setTdr n f s).seals = s.seals := rfl
@[simp] theorem setTdr_bun (n : Nat) (f : TdrUnit → TdrUnit) : (setTdr n f s).bun = s.bun := rfl
@[simp] theorem setTdr_oru (n : Nat) (f : TdrUnit → TdrUnit) : (setTdr n f s).oru = s.oru := rfl
@[simp] theorem setTdr_chn (n : Nat) (f : TdrUnit → TdrUnit) : (setTdr n f s).chn = s.chn := rfl

/-! ### setChan -/

@[simp] theorem setChan_pending (n : Nat) (f : Chan → Chan) : (setChan n f s).pending = s.pending := rfl
@[simp] theorem setChan_free (n : Nat) (f : Chan → Chan) : (setChan n f s).free = s.free := rfl
@[simp] theorem setChan_secs (n : Nat) (f : Chan → Chan) : (setChan n f s).secs = s.secs := rfl
@[simp] theorem setChan_isl (n : Nat) (f : Chan → Chan) : (setChan n f s).isl = s.isl := rfl
@[simp] theorem setChan_gates (n : Nat) (f : Chan → Chan) : (setChan n f s).gates = s.gates := rfl
@[simp] theorem setChan_fuses (n : Nat) (f : Chan → Chan) : (setChan n f s).fuses = s.fuses := rfl
@[simp] theorem setChan_stw (n : Nat) (f : Chan → Chan) : (setChan n f s).stw = s.stw := rfl
@[simp] theorem setChan_wit (n : Nat) (f : Chan → Chan) : (setChan n f s).wit = s.wit := rfl
@[simp] theorem setChan_cores (n : Nat) (f : Chan → Chan) : (setChan n f s).cores = s.cores := rfl
@[simp] theorem setChan_mem (n : Nat) (f : Chan → Chan) : (setChan n f s).mem = s.mem := rfl
@[simp] theorem setChan_cus (n : Nat) (f : Chan → Chan) : (setChan n f s).cus = s.cus := rfl
@[simp] theorem setChan_win (n : Nat) (f : Chan → Chan) : (setChan n f s).win = s.win := rfl
@[simp] theorem setChan_snt (n : Nat) (f : Chan → Chan) : (setChan n f s).snt = s.snt := rfl
@[simp] theorem setChan_cic (n : Nat) (f : Chan → Chan) : (setChan n f s).cic = s.cic := rfl
@[simp] theorem setChan_mov (n : Nat) (f : Chan → Chan) : (setChan n f s).mov = vmod s.mov n f := rfl
@[simp] theorem setChan_movTurn (n : Nat) (f : Chan → Chan) : (setChan n f s).movTurn = s.movTurn := rfl
@[simp] theorem setChan_port (n : Nat) (f : Chan → Chan) : (setChan n f s).port = s.port := rfl
@[simp] theorem setChan_srv (n : Nat) (f : Chan → Chan) : (setChan n f s).srv = s.srv := rfl
@[simp] theorem setChan_flc (n : Nat) (f : Chan → Chan) : (setChan n f s).flc = s.flc := rfl
@[simp] theorem setChan_store (n : Nat) (f : Chan → Chan) : (setChan n f s).store = s.store := rfl
@[simp] theorem setChan_seals (n : Nat) (f : Chan → Chan) : (setChan n f s).seals = s.seals := rfl
@[simp] theorem setChan_bun (n : Nat) (f : Chan → Chan) : (setChan n f s).bun = s.bun := rfl
@[simp] theorem setChan_oru (n : Nat) (f : Chan → Chan) : (setChan n f s).oru = s.oru := rfl
@[simp] theorem setChan_chn (n : Nat) (f : Chan → Chan) : (setChan n f s).chn = s.chn := rfl

/-! ### setMbox -/

@[simp] theorem setMbox_pending (p : Nat) (f : Mbox → Mbox) : (setMbox p f s).pending = s.pending := rfl
@[simp] theorem setMbox_free (p : Nat) (f : Mbox → Mbox) : (setMbox p f s).free = s.free := rfl
@[simp] theorem setMbox_secs (p : Nat) (f : Mbox → Mbox) : (setMbox p f s).secs = s.secs := rfl
@[simp] theorem setMbox_isl (p : Nat) (f : Mbox → Mbox) : (setMbox p f s).isl = s.isl := rfl
@[simp] theorem setMbox_gates (p : Nat) (f : Mbox → Mbox) : (setMbox p f s).gates = s.gates := rfl
@[simp] theorem setMbox_fuses (p : Nat) (f : Mbox → Mbox) : (setMbox p f s).fuses = s.fuses := rfl
@[simp] theorem setMbox_stw (p : Nat) (f : Mbox → Mbox) : (setMbox p f s).stw = s.stw := rfl
@[simp] theorem setMbox_wit (p : Nat) (f : Mbox → Mbox) : (setMbox p f s).wit = s.wit := rfl
@[simp] theorem setMbox_cores (p : Nat) (f : Mbox → Mbox) : (setMbox p f s).cores = s.cores := rfl
@[simp] theorem setMbox_mem (p : Nat) (f : Mbox → Mbox) : (setMbox p f s).mem = s.mem := rfl
@[simp] theorem setMbox_cus (p : Nat) (f : Mbox → Mbox) : (setMbox p f s).cus = s.cus := rfl
@[simp] theorem setMbox_win (p : Nat) (f : Mbox → Mbox) : (setMbox p f s).win = s.win := rfl
@[simp] theorem setMbox_snt (p : Nat) (f : Mbox → Mbox) : (setMbox p f s).snt = s.snt := rfl
@[simp] theorem setMbox_cic (p : Nat) (f : Mbox → Mbox) : (setMbox p f s).cic = s.cic := rfl
@[simp] theorem setMbox_mov (p : Nat) (f : Mbox → Mbox) : (setMbox p f s).mov = s.mov := rfl
@[simp] theorem setMbox_movTurn (p : Nat) (f : Mbox → Mbox) : (setMbox p f s).movTurn = s.movTurn := rfl
@[simp] theorem setMbox_port (p : Nat) (f : Mbox → Mbox) : (setMbox p f s).port = s.port := rfl
@[simp] theorem setMbox_srv (p : Nat) (f : Mbox → Mbox) : (setMbox p f s).srv = s.srv := rfl
@[simp] theorem setMbox_flc (p : Nat) (f : Mbox → Mbox) : (setMbox p f s).flc = s.flc := rfl
@[simp] theorem setMbox_store (p : Nat) (f : Mbox → Mbox) : (setMbox p f s).store = s.store := rfl
@[simp] theorem setMbox_seals (p : Nat) (f : Mbox → Mbox) : (setMbox p f s).seals = s.seals := rfl
@[simp] theorem setMbox_bun (p : Nat) (f : Mbox → Mbox) : (setMbox p f s).bun = s.bun := rfl
@[simp] theorem setMbox_oru (p : Nat) (f : Mbox → Mbox) : (setMbox p f s).oru = { s.oru with mbox := vmod s.oru.mbox p f } := rfl
@[simp] theorem setMbox_chn (p : Nat) (f : Mbox → Mbox) : (setMbox p f s).chn = s.chn := rfl

/-! ### setCport -/

@[simp] theorem setCport_pending (d : Nat) (f : ChPort → ChPort) : (setCport d f s).pending = s.pending := rfl
@[simp] theorem setCport_free (d : Nat) (f : ChPort → ChPort) : (setCport d f s).free = s.free := rfl
@[simp] theorem setCport_secs (d : Nat) (f : ChPort → ChPort) : (setCport d f s).secs = s.secs := rfl
@[simp] theorem setCport_isl (d : Nat) (f : ChPort → ChPort) : (setCport d f s).isl = s.isl := rfl
@[simp] theorem setCport_gates (d : Nat) (f : ChPort → ChPort) : (setCport d f s).gates = s.gates := rfl
@[simp] theorem setCport_fuses (d : Nat) (f : ChPort → ChPort) : (setCport d f s).fuses = s.fuses := rfl
@[simp] theorem setCport_stw (d : Nat) (f : ChPort → ChPort) : (setCport d f s).stw = s.stw := rfl
@[simp] theorem setCport_wit (d : Nat) (f : ChPort → ChPort) : (setCport d f s).wit = s.wit := rfl
@[simp] theorem setCport_cores (d : Nat) (f : ChPort → ChPort) : (setCport d f s).cores = s.cores := rfl
@[simp] theorem setCport_mem (d : Nat) (f : ChPort → ChPort) : (setCport d f s).mem = s.mem := rfl
@[simp] theorem setCport_cus (d : Nat) (f : ChPort → ChPort) : (setCport d f s).cus = s.cus := rfl
@[simp] theorem setCport_win (d : Nat) (f : ChPort → ChPort) : (setCport d f s).win = s.win := rfl
@[simp] theorem setCport_snt (d : Nat) (f : ChPort → ChPort) : (setCport d f s).snt = s.snt := rfl
@[simp] theorem setCport_cic (d : Nat) (f : ChPort → ChPort) : (setCport d f s).cic = s.cic := rfl
@[simp] theorem setCport_mov (d : Nat) (f : ChPort → ChPort) : (setCport d f s).mov = s.mov := rfl
@[simp] theorem setCport_movTurn (d : Nat) (f : ChPort → ChPort) : (setCport d f s).movTurn = s.movTurn := rfl
@[simp] theorem setCport_port (d : Nat) (f : ChPort → ChPort) : (setCport d f s).port = s.port := rfl
@[simp] theorem setCport_srv (d : Nat) (f : ChPort → ChPort) : (setCport d f s).srv = s.srv := rfl
@[simp] theorem setCport_flc (d : Nat) (f : ChPort → ChPort) : (setCport d f s).flc = s.flc := rfl
@[simp] theorem setCport_store (d : Nat) (f : ChPort → ChPort) : (setCport d f s).store = s.store := rfl
@[simp] theorem setCport_seals (d : Nat) (f : ChPort → ChPort) : (setCport d f s).seals = s.seals := rfl
@[simp] theorem setCport_bun (d : Nat) (f : ChPort → ChPort) : (setCport d f s).bun = s.bun := rfl
@[simp] theorem setCport_oru (d : Nat) (f : ChPort → ChPort) : (setCport d f s).oru = s.oru := rfl
@[simp] theorem setCport_chn (d : Nat) (f : ChPort → ChPort) : (setCport d f s).chn = { s.chn with port := vmod s.chn.port d f } := rfl

/-! ### setBank -/

@[simp] theorem setBank_pending (b : Nat) (f : Bank → Bank) : (setBank b f s).pending = s.pending := rfl
@[simp] theorem setBank_free (b : Nat) (f : Bank → Bank) : (setBank b f s).free = s.free := rfl
@[simp] theorem setBank_secs (b : Nat) (f : Bank → Bank) : (setBank b f s).secs = s.secs := rfl
@[simp] theorem setBank_isl (b : Nat) (f : Bank → Bank) : (setBank b f s).isl = s.isl := rfl
@[simp] theorem setBank_gates (b : Nat) (f : Bank → Bank) : (setBank b f s).gates = s.gates := rfl
@[simp] theorem setBank_fuses (b : Nat) (f : Bank → Bank) : (setBank b f s).fuses = s.fuses := rfl
@[simp] theorem setBank_stw (b : Nat) (f : Bank → Bank) : (setBank b f s).stw = s.stw := rfl
@[simp] theorem setBank_wit (b : Nat) (f : Bank → Bank) : (setBank b f s).wit = s.wit := rfl
@[simp] theorem setBank_cores (b : Nat) (f : Bank → Bank) : (setBank b f s).cores = s.cores := rfl
@[simp] theorem setBank_mem (b : Nat) (f : Bank → Bank) : (setBank b f s).mem = s.mem := rfl
@[simp] theorem setBank_cus (b : Nat) (f : Bank → Bank) : (setBank b f s).cus = s.cus := rfl
@[simp] theorem setBank_win (b : Nat) (f : Bank → Bank) : (setBank b f s).win = s.win := rfl
@[simp] theorem setBank_snt (b : Nat) (f : Bank → Bank) : (setBank b f s).snt = s.snt := rfl
@[simp] theorem setBank_cic (b : Nat) (f : Bank → Bank) : (setBank b f s).cic = s.cic := rfl
@[simp] theorem setBank_mov (b : Nat) (f : Bank → Bank) : (setBank b f s).mov = s.mov := rfl
@[simp] theorem setBank_movTurn (b : Nat) (f : Bank → Bank) : (setBank b f s).movTurn = s.movTurn := rfl
@[simp] theorem setBank_port (b : Nat) (f : Bank → Bank) : (setBank b f s).port = s.port := rfl
@[simp] theorem setBank_srv (b : Nat) (f : Bank → Bank) : (setBank b f s).srv = s.srv := rfl
@[simp] theorem setBank_flc (b : Nat) (f : Bank → Bank) : (setBank b f s).flc = { s.flc with bank := vmod s.flc.bank b f } := rfl
@[simp] theorem setBank_store (b : Nat) (f : Bank → Bank) : (setBank b f s).store = s.store := rfl
@[simp] theorem setBank_seals (b : Nat) (f : Bank → Bank) : (setBank b f s).seals = s.seals := rfl
@[simp] theorem setBank_bun (b : Nat) (f : Bank → Bank) : (setBank b f s).bun = s.bun := rfl
@[simp] theorem setBank_oru (b : Nat) (f : Bank → Bank) : (setBank b f s).oru = s.oru := rfl
@[simp] theorem setBank_chn (b : Nat) (f : Bank → Bank) : (setBank b f s).chn = s.chn := rfl

/-! ### setCan -/

@[simp] theorem setCan_pending (k : Nat) (f : Can → Can) : (setCan k f s).pending = s.pending := rfl
@[simp] theorem setCan_free (k : Nat) (f : Can → Can) : (setCan k f s).free = s.free := rfl
@[simp] theorem setCan_secs (k : Nat) (f : Can → Can) : (setCan k f s).secs = s.secs := rfl
@[simp] theorem setCan_isl (k : Nat) (f : Can → Can) : (setCan k f s).isl = s.isl := rfl
@[simp] theorem setCan_gates (k : Nat) (f : Can → Can) : (setCan k f s).gates = s.gates := rfl
@[simp] theorem setCan_fuses (k : Nat) (f : Can → Can) : (setCan k f s).fuses = s.fuses := rfl
@[simp] theorem setCan_stw (k : Nat) (f : Can → Can) : (setCan k f s).stw = s.stw := rfl
@[simp] theorem setCan_wit (k : Nat) (f : Can → Can) : (setCan k f s).wit = s.wit := rfl
@[simp] theorem setCan_cores (k : Nat) (f : Can → Can) : (setCan k f s).cores = s.cores := rfl
@[simp] theorem setCan_mem (k : Nat) (f : Can → Can) : (setCan k f s).mem = s.mem := rfl
@[simp] theorem setCan_cus (k : Nat) (f : Can → Can) : (setCan k f s).cus = s.cus := rfl
@[simp] theorem setCan_win (k : Nat) (f : Can → Can) : (setCan k f s).win = s.win := rfl
@[simp] theorem setCan_snt (k : Nat) (f : Can → Can) : (setCan k f s).snt = s.snt := rfl
@[simp] theorem setCan_cic (k : Nat) (f : Can → Can) : (setCan k f s).cic = s.cic := rfl
@[simp] theorem setCan_mov (k : Nat) (f : Can → Can) : (setCan k f s).mov = s.mov := rfl
@[simp] theorem setCan_movTurn (k : Nat) (f : Can → Can) : (setCan k f s).movTurn = s.movTurn := rfl
@[simp] theorem setCan_port (k : Nat) (f : Can → Can) : (setCan k f s).port = { s.port with can := vmod s.port.can k f } := rfl
@[simp] theorem setCan_srv (k : Nat) (f : Can → Can) : (setCan k f s).srv = s.srv := rfl
@[simp] theorem setCan_flc (k : Nat) (f : Can → Can) : (setCan k f s).flc = s.flc := rfl
@[simp] theorem setCan_store (k : Nat) (f : Can → Can) : (setCan k f s).store = s.store := rfl
@[simp] theorem setCan_seals (k : Nat) (f : Can → Can) : (setCan k f s).seals = s.seals := rfl
@[simp] theorem setCan_bun (k : Nat) (f : Can → Can) : (setCan k f s).bun = s.bun := rfl
@[simp] theorem setCan_oru (k : Nat) (f : Can → Can) : (setCan k f s).oru = s.oru := rfl
@[simp] theorem setCan_chn (k : Nat) (f : Can → Can) : (setCan k f s).chn = s.chn := rfl

/-! ### setBuf -/

@[simp] theorem setBuf_pending (k b : Nat) (f : CanBuf → CanBuf) : (setBuf k b f s).pending = s.pending := rfl
@[simp] theorem setBuf_free (k b : Nat) (f : CanBuf → CanBuf) : (setBuf k b f s).free = s.free := rfl
@[simp] theorem setBuf_secs (k b : Nat) (f : CanBuf → CanBuf) : (setBuf k b f s).secs = s.secs := rfl
@[simp] theorem setBuf_isl (k b : Nat) (f : CanBuf → CanBuf) : (setBuf k b f s).isl = s.isl := rfl
@[simp] theorem setBuf_gates (k b : Nat) (f : CanBuf → CanBuf) : (setBuf k b f s).gates = s.gates := rfl
@[simp] theorem setBuf_fuses (k b : Nat) (f : CanBuf → CanBuf) : (setBuf k b f s).fuses = s.fuses := rfl
@[simp] theorem setBuf_stw (k b : Nat) (f : CanBuf → CanBuf) : (setBuf k b f s).stw = s.stw := rfl
@[simp] theorem setBuf_wit (k b : Nat) (f : CanBuf → CanBuf) : (setBuf k b f s).wit = s.wit := rfl
@[simp] theorem setBuf_cores (k b : Nat) (f : CanBuf → CanBuf) : (setBuf k b f s).cores = s.cores := rfl
@[simp] theorem setBuf_mem (k b : Nat) (f : CanBuf → CanBuf) : (setBuf k b f s).mem = s.mem := rfl
@[simp] theorem setBuf_cus (k b : Nat) (f : CanBuf → CanBuf) : (setBuf k b f s).cus = s.cus := rfl
@[simp] theorem setBuf_win (k b : Nat) (f : CanBuf → CanBuf) : (setBuf k b f s).win = s.win := rfl
@[simp] theorem setBuf_snt (k b : Nat) (f : CanBuf → CanBuf) : (setBuf k b f s).snt = s.snt := rfl
@[simp] theorem setBuf_cic (k b : Nat) (f : CanBuf → CanBuf) : (setBuf k b f s).cic = s.cic := rfl
@[simp] theorem setBuf_mov (k b : Nat) (f : CanBuf → CanBuf) : (setBuf k b f s).mov = s.mov := rfl
@[simp] theorem setBuf_movTurn (k b : Nat) (f : CanBuf → CanBuf) : (setBuf k b f s).movTurn = s.movTurn := rfl
@[simp] theorem setBuf_port (k b : Nat) (f : CanBuf → CanBuf) : (setBuf k b f s).port = { s.port with can := vmod s.port.can k fun q => { q with buf := vmod q.buf b f } } := rfl
@[simp] theorem setBuf_srv (k b : Nat) (f : CanBuf → CanBuf) : (setBuf k b f s).srv = s.srv := rfl
@[simp] theorem setBuf_flc (k b : Nat) (f : CanBuf → CanBuf) : (setBuf k b f s).flc = s.flc := rfl
@[simp] theorem setBuf_store (k b : Nat) (f : CanBuf → CanBuf) : (setBuf k b f s).store = s.store := rfl
@[simp] theorem setBuf_seals (k b : Nat) (f : CanBuf → CanBuf) : (setBuf k b f s).seals = s.seals := rfl
@[simp] theorem setBuf_bun (k b : Nat) (f : CanBuf → CanBuf) : (setBuf k b f s).bun = s.bun := rfl
@[simp] theorem setBuf_oru (k b : Nat) (f : CanBuf → CanBuf) : (setBuf k b f s).oru = s.oru := rfl
@[simp] theorem setBuf_chn (k b : Nat) (f : CanBuf → CanBuf) : (setBuf k b f s).chn = s.chn := rfl

/-! ### setSlot -/

@[simp] theorem setSlot_pending (n : Nat) (f : Slot → Slot) : (setSlot n f s).pending = s.pending := rfl
@[simp] theorem setSlot_free (n : Nat) (f : Slot → Slot) : (setSlot n f s).free = s.free := rfl
@[simp] theorem setSlot_secs (n : Nat) (f : Slot → Slot) : (setSlot n f s).secs = s.secs := rfl
@[simp] theorem setSlot_isl (n : Nat) (f : Slot → Slot) : (setSlot n f s).isl = s.isl := rfl
@[simp] theorem setSlot_gates (n : Nat) (f : Slot → Slot) : (setSlot n f s).gates = s.gates := rfl
@[simp] theorem setSlot_fuses (n : Nat) (f : Slot → Slot) : (setSlot n f s).fuses = s.fuses := rfl
@[simp] theorem setSlot_stw (n : Nat) (f : Slot → Slot) : (setSlot n f s).stw = s.stw := rfl
@[simp] theorem setSlot_wit (n : Nat) (f : Slot → Slot) : (setSlot n f s).wit = s.wit := rfl
@[simp] theorem setSlot_cores (n : Nat) (f : Slot → Slot) : (setSlot n f s).cores = s.cores := rfl
@[simp] theorem setSlot_mem (n : Nat) (f : Slot → Slot) : (setSlot n f s).mem = s.mem := rfl
@[simp] theorem setSlot_cus (n : Nat) (f : Slot → Slot) : (setSlot n f s).cus = s.cus := rfl
@[simp] theorem setSlot_win (n : Nat) (f : Slot → Slot) : (setSlot n f s).win = s.win := rfl
@[simp] theorem setSlot_snt (n : Nat) (f : Slot → Slot) : (setSlot n f s).snt = s.snt := rfl
@[simp] theorem setSlot_cic (n : Nat) (f : Slot → Slot) : (setSlot n f s).cic = s.cic := rfl
@[simp] theorem setSlot_mov (n : Nat) (f : Slot → Slot) : (setSlot n f s).mov = s.mov := rfl
@[simp] theorem setSlot_movTurn (n : Nat) (f : Slot → Slot) : (setSlot n f s).movTurn = s.movTurn := rfl
@[simp] theorem setSlot_port (n : Nat) (f : Slot → Slot) : (setSlot n f s).port = { s.port with card := vmod s.port.card n f } := rfl
@[simp] theorem setSlot_srv (n : Nat) (f : Slot → Slot) : (setSlot n f s).srv = s.srv := rfl
@[simp] theorem setSlot_flc (n : Nat) (f : Slot → Slot) : (setSlot n f s).flc = s.flc := rfl
@[simp] theorem setSlot_store (n : Nat) (f : Slot → Slot) : (setSlot n f s).store = s.store := rfl
@[simp] theorem setSlot_seals (n : Nat) (f : Slot → Slot) : (setSlot n f s).seals = s.seals := rfl
@[simp] theorem setSlot_bun (n : Nat) (f : Slot → Slot) : (setSlot n f s).bun = s.bun := rfl
@[simp] theorem setSlot_oru (n : Nat) (f : Slot → Slot) : (setSlot n f s).oru = s.oru := rfl
@[simp] theorem setSlot_chn (n : Nat) (f : Slot → Slot) : (setSlot n f s).chn = s.chn := rfl

/-! ### setSense -/

@[simp] theorem setSense_pending (n : Nat) (f : Sense → Sense) : (setSense n f s).pending = s.pending := rfl
@[simp] theorem setSense_free (n : Nat) (f : Sense → Sense) : (setSense n f s).free = s.free := rfl
@[simp] theorem setSense_secs (n : Nat) (f : Sense → Sense) : (setSense n f s).secs = s.secs := rfl
@[simp] theorem setSense_isl (n : Nat) (f : Sense → Sense) : (setSense n f s).isl = s.isl := rfl
@[simp] theorem setSense_gates (n : Nat) (f : Sense → Sense) : (setSense n f s).gates = s.gates := rfl
@[simp] theorem setSense_fuses (n : Nat) (f : Sense → Sense) : (setSense n f s).fuses = s.fuses := rfl
@[simp] theorem setSense_stw (n : Nat) (f : Sense → Sense) : (setSense n f s).stw = s.stw := rfl
@[simp] theorem setSense_wit (n : Nat) (f : Sense → Sense) : (setSense n f s).wit = s.wit := rfl
@[simp] theorem setSense_cores (n : Nat) (f : Sense → Sense) : (setSense n f s).cores = s.cores := rfl
@[simp] theorem setSense_mem (n : Nat) (f : Sense → Sense) : (setSense n f s).mem = s.mem := rfl
@[simp] theorem setSense_cus (n : Nat) (f : Sense → Sense) : (setSense n f s).cus = s.cus := rfl
@[simp] theorem setSense_win (n : Nat) (f : Sense → Sense) : (setSense n f s).win = s.win := rfl
@[simp] theorem setSense_snt (n : Nat) (f : Sense → Sense) : (setSense n f s).snt = s.snt := rfl
@[simp] theorem setSense_cic (n : Nat) (f : Sense → Sense) : (setSense n f s).cic = s.cic := rfl
@[simp] theorem setSense_mov (n : Nat) (f : Sense → Sense) : (setSense n f s).mov = s.mov := rfl
@[simp] theorem setSense_movTurn (n : Nat) (f : Sense → Sense) : (setSense n f s).movTurn = s.movTurn := rfl
@[simp] theorem setSense_srv (n : Nat) (f : Sense → Sense) : (setSense n f s).srv = s.srv := rfl
@[simp] theorem setSense_flc (n : Nat) (f : Sense → Sense) : (setSense n f s).flc = s.flc := rfl
@[simp] theorem setSense_store (n : Nat) (f : Sense → Sense) : (setSense n f s).store = s.store := rfl
@[simp] theorem setSense_seals (n : Nat) (f : Sense → Sense) : (setSense n f s).seals = s.seals := rfl
@[simp] theorem setSense_bun (n : Nat) (f : Sense → Sense) : (setSense n f s).bun = s.bun := rfl
@[simp] theorem setSense_oru (n : Nat) (f : Sense → Sense) : (setSense n f s).oru = s.oru := rfl
@[simp] theorem setSense_chn (n : Nat) (f : Sense → Sense) : (setSense n f s).chn = s.chn := rfl

/-! ### setSpi -/

@[simp] theorem setSpi_pending (n : Nat) (f : Spi → Spi) : (setSpi n f s).pending = s.pending := rfl
@[simp] theorem setSpi_free (n : Nat) (f : Spi → Spi) : (setSpi n f s).free = s.free := rfl
@[simp] theorem setSpi_secs (n : Nat) (f : Spi → Spi) : (setSpi n f s).secs = s.secs := rfl
@[simp] theorem setSpi_isl (n : Nat) (f : Spi → Spi) : (setSpi n f s).isl = s.isl := rfl
@[simp] theorem setSpi_gates (n : Nat) (f : Spi → Spi) : (setSpi n f s).gates = s.gates := rfl
@[simp] theorem setSpi_fuses (n : Nat) (f : Spi → Spi) : (setSpi n f s).fuses = s.fuses := rfl
@[simp] theorem setSpi_stw (n : Nat) (f : Spi → Spi) : (setSpi n f s).stw = s.stw := rfl
@[simp] theorem setSpi_wit (n : Nat) (f : Spi → Spi) : (setSpi n f s).wit = s.wit := rfl
@[simp] theorem setSpi_cores (n : Nat) (f : Spi → Spi) : (setSpi n f s).cores = s.cores := rfl
@[simp] theorem setSpi_mem (n : Nat) (f : Spi → Spi) : (setSpi n f s).mem = s.mem := rfl
@[simp] theorem setSpi_cus (n : Nat) (f : Spi → Spi) : (setSpi n f s).cus = s.cus := rfl
@[simp] theorem setSpi_win (n : Nat) (f : Spi → Spi) : (setSpi n f s).win = s.win := rfl
@[simp] theorem setSpi_snt (n : Nat) (f : Spi → Spi) : (setSpi n f s).snt = s.snt := rfl
@[simp] theorem setSpi_cic (n : Nat) (f : Spi → Spi) : (setSpi n f s).cic = s.cic := rfl
@[simp] theorem setSpi_mov (n : Nat) (f : Spi → Spi) : (setSpi n f s).mov = s.mov := rfl
@[simp] theorem setSpi_movTurn (n : Nat) (f : Spi → Spi) : (setSpi n f s).movTurn = s.movTurn := rfl
@[simp] theorem setSpi_port (n : Nat) (f : Spi → Spi) : (setSpi n f s).port = { s.port with spi := vmod s.port.spi n f } := rfl
@[simp] theorem setSpi_srv (n : Nat) (f : Spi → Spi) : (setSpi n f s).srv = s.srv := rfl
@[simp] theorem setSpi_flc (n : Nat) (f : Spi → Spi) : (setSpi n f s).flc = s.flc := rfl
@[simp] theorem setSpi_store (n : Nat) (f : Spi → Spi) : (setSpi n f s).store = s.store := rfl
@[simp] theorem setSpi_seals (n : Nat) (f : Spi → Spi) : (setSpi n f s).seals = s.seals := rfl
@[simp] theorem setSpi_bun (n : Nat) (f : Spi → Spi) : (setSpi n f s).bun = s.bun := rfl
@[simp] theorem setSpi_oru (n : Nat) (f : Spi → Spi) : (setSpi n f s).oru = s.oru := rfl
@[simp] theorem setSpi_chn (n : Nat) (f : Spi → Spi) : (setSpi n f s).chn = s.chn := rfl

/-! ### setFeed -/

@[simp] theorem setFeed_pending (n : Nat) (f : Feed → Feed) : (setFeed n f s).pending = s.pending := rfl
@[simp] theorem setFeed_free (n : Nat) (f : Feed → Feed) : (setFeed n f s).free = s.free := rfl
@[simp] theorem setFeed_secs (n : Nat) (f : Feed → Feed) : (setFeed n f s).secs = s.secs := rfl
@[simp] theorem setFeed_isl (n : Nat) (f : Feed → Feed) : (setFeed n f s).isl = s.isl := rfl
@[simp] theorem setFeed_gates (n : Nat) (f : Feed → Feed) : (setFeed n f s).gates = s.gates := rfl
@[simp] theorem setFeed_fuses (n : Nat) (f : Feed → Feed) : (setFeed n f s).fuses = s.fuses := rfl
@[simp] theorem setFeed_stw (n : Nat) (f : Feed → Feed) : (setFeed n f s).stw = s.stw := rfl
@[simp] theorem setFeed_wit (n : Nat) (f : Feed → Feed) : (setFeed n f s).wit = s.wit := rfl
@[simp] theorem setFeed_cores (n : Nat) (f : Feed → Feed) : (setFeed n f s).cores = s.cores := rfl
@[simp] theorem setFeed_mem (n : Nat) (f : Feed → Feed) : (setFeed n f s).mem = s.mem := rfl
@[simp] theorem setFeed_cus (n : Nat) (f : Feed → Feed) : (setFeed n f s).cus = s.cus := rfl
@[simp] theorem setFeed_win (n : Nat) (f : Feed → Feed) : (setFeed n f s).win = s.win := rfl
@[simp] theorem setFeed_snt (n : Nat) (f : Feed → Feed) : (setFeed n f s).snt = s.snt := rfl
@[simp] theorem setFeed_cic (n : Nat) (f : Feed → Feed) : (setFeed n f s).cic = s.cic := rfl
@[simp] theorem setFeed_mov (n : Nat) (f : Feed → Feed) : (setFeed n f s).mov = s.mov := rfl
@[simp] theorem setFeed_movTurn (n : Nat) (f : Feed → Feed) : (setFeed n f s).movTurn = s.movTurn := rfl
@[simp] theorem setFeed_port (n : Nat) (f : Feed → Feed) : (setFeed n f s).port = { s.port with feed := vmod s.port.feed n f } := rfl
@[simp] theorem setFeed_srv (n : Nat) (f : Feed → Feed) : (setFeed n f s).srv = s.srv := rfl
@[simp] theorem setFeed_flc (n : Nat) (f : Feed → Feed) : (setFeed n f s).flc = s.flc := rfl
@[simp] theorem setFeed_store (n : Nat) (f : Feed → Feed) : (setFeed n f s).store = s.store := rfl
@[simp] theorem setFeed_seals (n : Nat) (f : Feed → Feed) : (setFeed n f s).seals = s.seals := rfl
@[simp] theorem setFeed_bun (n : Nat) (f : Feed → Feed) : (setFeed n f s).bun = s.bun := rfl
@[simp] theorem setFeed_oru (n : Nat) (f : Feed → Feed) : (setFeed n f s).oru = s.oru := rfl
@[simp] theorem setFeed_chn (n : Nat) (f : Feed → Feed) : (setFeed n f s).chn = s.chn := rfl

/-! ### setSeal -/

@[simp] theorem setSeal_pending (p : Nat) (f : SealP → SealP) : (setSeal p f s).pending = s.pending := rfl
@[simp] theorem setSeal_free (p : Nat) (f : SealP → SealP) : (setSeal p f s).free = s.free := rfl
@[simp] theorem setSeal_secs (p : Nat) (f : SealP → SealP) : (setSeal p f s).secs = s.secs := rfl
@[simp] theorem setSeal_isl (p : Nat) (f : SealP → SealP) : (setSeal p f s).isl = s.isl := rfl
@[simp] theorem setSeal_gates (p : Nat) (f : SealP → SealP) : (setSeal p f s).gates = s.gates := rfl
@[simp] theorem setSeal_fuses (p : Nat) (f : SealP → SealP) : (setSeal p f s).fuses = s.fuses := rfl
@[simp] theorem setSeal_stw (p : Nat) (f : SealP → SealP) : (setSeal p f s).stw = s.stw := rfl
@[simp] theorem setSeal_wit (p : Nat) (f : SealP → SealP) : (setSeal p f s).wit = s.wit := rfl
@[simp] theorem setSeal_cores (p : Nat) (f : SealP → SealP) : (setSeal p f s).cores = s.cores := rfl
@[simp] theorem setSeal_mem (p : Nat) (f : SealP → SealP) : (setSeal p f s).mem = s.mem := rfl
@[simp] theorem setSeal_cus (p : Nat) (f : SealP → SealP) : (setSeal p f s).cus = s.cus := rfl
@[simp] theorem setSeal_win (p : Nat) (f : SealP → SealP) : (setSeal p f s).win = s.win := rfl
@[simp] theorem setSeal_snt (p : Nat) (f : SealP → SealP) : (setSeal p f s).snt = s.snt := rfl
@[simp] theorem setSeal_cic (p : Nat) (f : SealP → SealP) : (setSeal p f s).cic = s.cic := rfl
@[simp] theorem setSeal_mov (p : Nat) (f : SealP → SealP) : (setSeal p f s).mov = s.mov := rfl
@[simp] theorem setSeal_movTurn (p : Nat) (f : SealP → SealP) : (setSeal p f s).movTurn = s.movTurn := rfl
@[simp] theorem setSeal_port (p : Nat) (f : SealP → SealP) : (setSeal p f s).port = s.port := rfl
@[simp] theorem setSeal_srv (p : Nat) (f : SealP → SealP) : (setSeal p f s).srv = s.srv := rfl
@[simp] theorem setSeal_flc (p : Nat) (f : SealP → SealP) : (setSeal p f s).flc = s.flc := rfl
@[simp] theorem setSeal_store (p : Nat) (f : SealP → SealP) : (setSeal p f s).store = s.store := rfl
@[simp] theorem setSeal_seals (p : Nat) (f : SealP → SealP) : (setSeal p f s).seals = { s.seals with p := vmod s.seals.p p f } := rfl
@[simp] theorem setSeal_bun (p : Nat) (f : SealP → SealP) : (setSeal p f s).bun = s.bun := rfl
@[simp] theorem setSeal_oru (p : Nat) (f : SealP → SealP) : (setSeal p f s).oru = s.oru := rfl
@[simp] theorem setSeal_chn (p : Nat) (f : SealP → SealP) : (setSeal p f s).chn = s.chn := rfl

/-! ### setPageOwner -/

@[simp] theorem setPageOwner_pending (n : Nat) (o : BitVec 4) : (setPageOwner n o s).pending = s.pending := rfl
@[simp] theorem setPageOwner_free (n : Nat) (o : BitVec 4) : (setPageOwner n o s).free = s.free := rfl
@[simp] theorem setPageOwner_secs (n : Nat) (o : BitVec 4) : (setPageOwner n o s).secs = s.secs := rfl
@[simp] theorem setPageOwner_isl (n : Nat) (o : BitVec 4) : (setPageOwner n o s).isl = s.isl := rfl
@[simp] theorem setPageOwner_gates (n : Nat) (o : BitVec 4) : (setPageOwner n o s).gates = s.gates := rfl
@[simp] theorem setPageOwner_fuses (n : Nat) (o : BitVec 4) : (setPageOwner n o s).fuses = s.fuses := rfl
@[simp] theorem setPageOwner_stw (n : Nat) (o : BitVec 4) : (setPageOwner n o s).stw = s.stw := rfl
@[simp] theorem setPageOwner_wit (n : Nat) (o : BitVec 4) : (setPageOwner n o s).wit = s.wit := rfl
@[simp] theorem setPageOwner_cores (n : Nat) (o : BitVec 4) : (setPageOwner n o s).cores = s.cores := rfl
@[simp] theorem setPageOwner_mem (n : Nat) (o : BitVec 4) : (setPageOwner n o s).mem = s.mem := rfl
@[simp] theorem setPageOwner_cus (n : Nat) (o : BitVec 4) : (setPageOwner n o s).cus = { s.cus with page := vset s.cus.page n o } := rfl
@[simp] theorem setPageOwner_win (n : Nat) (o : BitVec 4) : (setPageOwner n o s).win = s.win := rfl
@[simp] theorem setPageOwner_snt (n : Nat) (o : BitVec 4) : (setPageOwner n o s).snt = s.snt := rfl
@[simp] theorem setPageOwner_cic (n : Nat) (o : BitVec 4) : (setPageOwner n o s).cic = s.cic := rfl
@[simp] theorem setPageOwner_mov (n : Nat) (o : BitVec 4) : (setPageOwner n o s).mov = s.mov := rfl
@[simp] theorem setPageOwner_movTurn (n : Nat) (o : BitVec 4) : (setPageOwner n o s).movTurn = s.movTurn := rfl
@[simp] theorem setPageOwner_port (n : Nat) (o : BitVec 4) : (setPageOwner n o s).port = s.port := rfl
@[simp] theorem setPageOwner_srv (n : Nat) (o : BitVec 4) : (setPageOwner n o s).srv = s.srv := rfl
@[simp] theorem setPageOwner_flc (n : Nat) (o : BitVec 4) : (setPageOwner n o s).flc = s.flc := rfl
@[simp] theorem setPageOwner_store (n : Nat) (o : BitVec 4) : (setPageOwner n o s).store = s.store := rfl
@[simp] theorem setPageOwner_seals (n : Nat) (o : BitVec 4) : (setPageOwner n o s).seals = s.seals := rfl
@[simp] theorem setPageOwner_bun (n : Nat) (o : BitVec 4) : (setPageOwner n o s).bun = s.bun := rfl
@[simp] theorem setPageOwner_oru (n : Nat) (o : BitVec 4) : (setPageOwner n o s).oru = s.oru := rfl
@[simp] theorem setPageOwner_chn (n : Nat) (o : BitVec 4) : (setPageOwner n o s).chn = s.chn := rfl

/-! ### setBankOwner -/

@[simp] theorem setBankOwner_pending (c b : Nat) (o : BitVec 4) : (setBankOwner c b o s).pending = s.pending := rfl
@[simp] theorem setBankOwner_free (c b : Nat) (o : BitVec 4) : (setBankOwner c b o s).free = s.free := rfl
@[simp] theorem setBankOwner_secs (c b : Nat) (o : BitVec 4) : (setBankOwner c b o s).secs = s.secs := rfl
@[simp] theorem setBankOwner_isl (c b : Nat) (o : BitVec 4) : (setBankOwner c b o s).isl = s.isl := rfl
@[simp] theorem setBankOwner_gates (c b : Nat) (o : BitVec 4) : (setBankOwner c b o s).gates = s.gates := rfl
@[simp] theorem setBankOwner_fuses (c b : Nat) (o : BitVec 4) : (setBankOwner c b o s).fuses = s.fuses := rfl
@[simp] theorem setBankOwner_stw (c b : Nat) (o : BitVec 4) : (setBankOwner c b o s).stw = s.stw := rfl
@[simp] theorem setBankOwner_wit (c b : Nat) (o : BitVec 4) : (setBankOwner c b o s).wit = s.wit := rfl
@[simp] theorem setBankOwner_cores (c b : Nat) (o : BitVec 4) : (setBankOwner c b o s).cores = s.cores := rfl
@[simp] theorem setBankOwner_mem (c b : Nat) (o : BitVec 4) : (setBankOwner c b o s).mem = s.mem := rfl
@[simp] theorem setBankOwner_cus (c b : Nat) (o : BitVec 4) : (setBankOwner c b o s).cus = { s.cus with bank := vmod s.cus.bank c fun v => vset v b o } := rfl
@[simp] theorem setBankOwner_win (c b : Nat) (o : BitVec 4) : (setBankOwner c b o s).win = s.win := rfl
@[simp] theorem setBankOwner_snt (c b : Nat) (o : BitVec 4) : (setBankOwner c b o s).snt = s.snt := rfl
@[simp] theorem setBankOwner_cic (c b : Nat) (o : BitVec 4) : (setBankOwner c b o s).cic = s.cic := rfl
@[simp] theorem setBankOwner_mov (c b : Nat) (o : BitVec 4) : (setBankOwner c b o s).mov = s.mov := rfl
@[simp] theorem setBankOwner_movTurn (c b : Nat) (o : BitVec 4) : (setBankOwner c b o s).movTurn = s.movTurn := rfl
@[simp] theorem setBankOwner_port (c b : Nat) (o : BitVec 4) : (setBankOwner c b o s).port = s.port := rfl
@[simp] theorem setBankOwner_srv (c b : Nat) (o : BitVec 4) : (setBankOwner c b o s).srv = s.srv := rfl
@[simp] theorem setBankOwner_flc (c b : Nat) (o : BitVec 4) : (setBankOwner c b o s).flc = s.flc := rfl
@[simp] theorem setBankOwner_store (c b : Nat) (o : BitVec 4) : (setBankOwner c b o s).store = s.store := rfl
@[simp] theorem setBankOwner_seals (c b : Nat) (o : BitVec 4) : (setBankOwner c b o s).seals = s.seals := rfl
@[simp] theorem setBankOwner_bun (c b : Nat) (o : BitVec 4) : (setBankOwner c b o s).bun = s.bun := rfl
@[simp] theorem setBankOwner_oru (c b : Nat) (o : BitVec 4) : (setBankOwner c b o s).oru = s.oru := rfl
@[simp] theorem setBankOwner_chn (c b : Nat) (o : BitVec 4) : (setBankOwner c b o s).chn = s.chn := rfl

/-! ### toHost -/

@[simp] theorem toHost_pending (t : HTxn) : (toHost t s).pending = s.pending := rfl
@[simp] theorem toHost_free (t : HTxn) : (toHost t s).free = s.free := rfl
@[simp] theorem toHost_secs (t : HTxn) : (toHost t s).secs = s.secs := rfl
@[simp] theorem toHost_isl (t : HTxn) : (toHost t s).isl = s.isl := rfl
@[simp] theorem toHost_gates (t : HTxn) : (toHost t s).gates = { s.gates with gfH := s.gates.gfH ++ [t] } := rfl
@[simp] theorem toHost_fuses (t : HTxn) : (toHost t s).fuses = s.fuses := rfl
@[simp] theorem toHost_stw (t : HTxn) : (toHost t s).stw = s.stw := rfl
@[simp] theorem toHost_wit (t : HTxn) : (toHost t s).wit = s.wit := rfl
@[simp] theorem toHost_cores (t : HTxn) : (toHost t s).cores = s.cores := rfl
@[simp] theorem toHost_mem (t : HTxn) : (toHost t s).mem = s.mem := rfl
@[simp] theorem toHost_cus (t : HTxn) : (toHost t s).cus = s.cus := rfl
@[simp] theorem toHost_win (t : HTxn) : (toHost t s).win = s.win := rfl
@[simp] theorem toHost_snt (t : HTxn) : (toHost t s).snt = s.snt := rfl
@[simp] theorem toHost_cic (t : HTxn) : (toHost t s).cic = s.cic := rfl
@[simp] theorem toHost_mov (t : HTxn) : (toHost t s).mov = s.mov := rfl
@[simp] theorem toHost_movTurn (t : HTxn) : (toHost t s).movTurn = s.movTurn := rfl
@[simp] theorem toHost_port (t : HTxn) : (toHost t s).port = s.port := rfl
@[simp] theorem toHost_srv (t : HTxn) : (toHost t s).srv = s.srv := rfl
@[simp] theorem toHost_flc (t : HTxn) : (toHost t s).flc = s.flc := rfl
@[simp] theorem toHost_store (t : HTxn) : (toHost t s).store = s.store := rfl
@[simp] theorem toHost_seals (t : HTxn) : (toHost t s).seals = s.seals := rfl
@[simp] theorem toHost_bun (t : HTxn) : (toHost t s).bun = s.bun := rfl
@[simp] theorem toHost_oru (t : HTxn) : (toHost t s).oru = s.oru := rfl
@[simp] theorem toHost_chn (t : HTxn) : (toHost t s).chn = s.chn := rfl

/-! ### addUpsets -/

@[simp] theorem addUpsets_pending (l : List Upset) : (addUpsets l s).pending = s.pending := rfl
@[simp] theorem addUpsets_free (l : List Upset) : (addUpsets l s).free = s.free := rfl
@[simp] theorem addUpsets_secs (l : List Upset) : (addUpsets l s).secs = s.secs := rfl
@[simp] theorem addUpsets_isl (l : List Upset) : (addUpsets l s).isl = s.isl := rfl
@[simp] theorem addUpsets_gates (l : List Upset) : (addUpsets l s).gates = s.gates := rfl
@[simp] theorem addUpsets_fuses (l : List Upset) : (addUpsets l s).fuses = s.fuses := rfl
@[simp] theorem addUpsets_stw (l : List Upset) : (addUpsets l s).stw = s.stw := rfl
@[simp] theorem addUpsets_wit (l : List Upset) : (addUpsets l s).wit = s.wit := rfl
@[simp] theorem addUpsets_cores (l : List Upset) : (addUpsets l s).cores = s.cores := rfl
@[simp] theorem addUpsets_mem (l : List Upset) : (addUpsets l s).mem = { s.mem with ecc := s.mem.ecc ++ l } := rfl
@[simp] theorem addUpsets_cus (l : List Upset) : (addUpsets l s).cus = s.cus := rfl
@[simp] theorem addUpsets_win (l : List Upset) : (addUpsets l s).win = s.win := rfl
@[simp] theorem addUpsets_snt (l : List Upset) : (addUpsets l s).snt = s.snt := rfl
@[simp] theorem addUpsets_cic (l : List Upset) : (addUpsets l s).cic = s.cic := rfl
@[simp] theorem addUpsets_mov (l : List Upset) : (addUpsets l s).mov = s.mov := rfl
@[simp] theorem addUpsets_movTurn (l : List Upset) : (addUpsets l s).movTurn = s.movTurn := rfl
@[simp] theorem addUpsets_port (l : List Upset) : (addUpsets l s).port = s.port := rfl
@[simp] theorem addUpsets_srv (l : List Upset) : (addUpsets l s).srv = s.srv := rfl
@[simp] theorem addUpsets_flc (l : List Upset) : (addUpsets l s).flc = s.flc := rfl
@[simp] theorem addUpsets_store (l : List Upset) : (addUpsets l s).store = s.store := rfl
@[simp] theorem addUpsets_seals (l : List Upset) : (addUpsets l s).seals = s.seals := rfl
@[simp] theorem addUpsets_bun (l : List Upset) : (addUpsets l s).bun = s.bun := rfl
@[simp] theorem addUpsets_oru (l : List Upset) : (addUpsets l s).oru = s.oru := rfl
@[simp] theorem addUpsets_chn (l : List Upset) : (addUpsets l s).chn = s.chn := rfl

end Sys2Proof.Machine
end

