-- ==== Sys2Proof/Laws/Issue.lean ====
section
/-! SUPPORT. What issuing one syllable on a core free to issue does, said once for every syllable. -/

namespace Sys2Proof.Machine

/-! ### Tables -/

theorem vget_vset_same {α : Type} [Inhabited α] {n : Nat} (v : Vector α n) (i : Nat) (a : α) (h : i < n) :
    vget (vset v i a) i = a := by
  simp [vget, vset, h]

theorem vget_vset_other {α : Type} [Inhabited α] {n : Nat} (v : Vector α n) (i j : Nat) (a : α) (h : j ≠ i) :
    vget (vset v i a) j = vget v j := by
  simp [vget, vset, Ne.symm h]

theorem vset_vset {α : Type} {n : Nat} (v : Vector α n) (i : Nat) (a b : α) :
    vset (vset v i a) i b = vset v i b := by
  simp only [vset]
  ext j hj
  by_cases e : i = j <;> simp [Vector.getElem_setIfInBounds, e]

theorem vset_vget {α : Type} [Inhabited α] {n : Nat} (v : Vector α n) (i : Nat) : vset v i (vget v i) = v := by
  simp only [vset, vget]
  ext j hj
  by_cases e : i = j
  · subst e; simp [hj]
  · simp [Vector.getElem_setIfInBounds, e]

theorem vmod_vmod {α : Type} [Inhabited α] {n : Nat} (v : Vector α n) (i : Nat) (f g : α → α) (h : i < n) :
    vmod (vmod v i f) i g = vmod v i (fun a => g (f a)) := by
  simp only [vmod, vget_vset_same _ _ _ h, vset_vset]

theorem vget_default {α : Type} [Inhabited α] {n : Nat} (v : Vector α n) (i : Nat) (h : n ≤ i) : vget v i = default := by
  simp [vget, h]

/-! ### One context -/

theorem core_setCore (c : Nat) (f : Core → Core) (s : State) (h : c < 4) : (setCore c f s).core c = f (s.core c) := by
  simp only [State.core, setCore, vmod, vget_vset_same _ _ _ h]

theorem core_setCore_other (c d : Nat) (f : Core → Core) (s : State) (h : d ≠ c) : (setCore c f s).core d = s.core d := by
  simp only [State.core, setCore, vmod, vget_vset_other _ _ _ _ h]

theorem ctx_setCtx (c p : Nat) (f : Ctx → Ctx) (s : State) (hc : c < 4) (hp : p < 7) :
    (setCtx c p f s).ctx c p = f (s.ctx c p) := by
  simp only [State.ctx, setCtx, core_setCore _ _ _ hc, vmod, vget_vset_same _ _ _ hp]

theorem setCore_setCore (c : Nat) (f g : Core → Core) (s : State) (hc : c < 4) :
    setCore c g (setCore c f s) = setCore c (fun k => g (f k)) s := by
  cases s
  simp only [setCore, vmod_vmod _ _ _ _ hc]

theorem setCtx_setCtx (c p : Nat) (f g : Ctx → Ctx) (s : State) (hc : c < 4) (hp : p < 7) :
    setCtx c p g (setCtx c p f s) = setCtx c p (fun x => g (f x)) s := by
  simp only [setCtx, setCore_setCore _ _ _ _ hc, vmod_vmod _ _ _ _ hp]

/-- What a change of one context reads as is that context's value there. -/
theorem setCtx_congr (c p : Nat) (f g : Ctx → Ctx) (s : State) (h : f (s.ctx c p) = g (s.ctx c p)) :
    setCtx c p f s = setCtx c p g s := by
  have e : vmod (s.core c).ctx p f = vmod (s.core c).ctx p g := by
    simp only [vmod]; exact congrArg _ h
  have e2 : vmod s.cores c (fun k => { k with ctx := vmod k.ctx p f }) =
      vmod s.cores c (fun k => { k with ctx := vmod k.ctx p g }) := by
    show vset _ _ _ = vset _ _ _
    have : vget s.cores c = s.core c := rfl
    simp only [this, e]
  unfold setCtx setCore
  rw [e2]

/-! ### Results that land (R67) -/

/-- Writes reach the w, x, p registers and the accumulators only. -/
theorem applyWr_shape (q : Wr) (x : Ctx) :
    ∃ a b d e, applyWr q x = { x with w := a, x := b, p := d, acc := e } := by
  cases q with
  | w r v b =>
    unfold applyWr
    dsimp only
    split
    · exact ⟨_, _, _, _, rfl⟩
    · exact ⟨_, _, _, _, rfl⟩
  | x r v => exact ⟨_, _, _, _, rfl⟩
  | p r b =>
    unfold applyWr
    dsimp only
    split
    · exact ⟨_, _, _, _, rfl⟩
    · exact ⟨_, _, _, _, rfl⟩
  | acc r v => exact ⟨_, _, _, _, rfl⟩

theorem applyWrs_shape (l : List InFl) (x : Ctx) :
    ∃ a b d e, forAll l (fun f => applyWr f.wr) x = { x with w := a, x := b, p := d, acc := e } := by
  induction l generalizing x with
  | nil => exact ⟨_, _, _, _, rfl⟩
  | cons f r ih =>
    obtain ⟨a, b, d, e, h⟩ := applyWr_shape f.wr x
    obtain ⟨a', b', d', e', h'⟩ := ih (applyWr f.wr x)
    refine ⟨a', b', d', e', ?_⟩
    have : forAll (f :: r) (fun f => applyWr f.wr) x = forAll r (fun f => applyWr f.wr) (applyWr f.wr x) := rfl
    rw [this, h', h]

/-- Landing changes registers and the results in flight, nothing else. -/
theorem landDue_shape (x : Ctx) :
    ∃ a b d e i, landDue x = { x with w := a, x := b, p := d, acc := e, infl := i } := by
  obtain ⟨a, b, d, e, h⟩ := applyWrs_shape (x.infl.takeWhile fun f => decide (f.due ≤ x.seq)) x
  refine ⟨a, b, d, e, x.infl.dropWhile fun f => decide (f.due ≤ x.seq), ?_⟩
  unfold landDue
  dsimp only
  rw [h]

/-! ### A core free to issue -/

theorem cur_lt (c : Nat) (s : State) (h : coreLive s c = true) : curOf c s < 7 := by
  have h1 : s.running (curOf c s) = true ∨ (s.person (curOf c s)).run = .handover := by
    simp only [coreLive, State.placedOn, leaving, Bool.and_eq_true, Bool.or_eq_true, decide_eq_true_eq] at h
    exact h.1.1.2.imp (fun a => a.1) (fun a => a.1.1)
  by_contra hlt
  have : s.person (curOf c s) = default := by
    simp only [State.person]; exact vget_default _ _ (by omega)
  simp only [State.running, this, decide_eq_true_eq] at h1
  exact absurd h1 (by decide)

theorem inUnitOrder_one (i : Nat) (y : Syl) : inUnitOrder [(i, y)] = [(i, y)] := by
  have h : ∀ u, sylOf [(i, y)] u = if y.unit = u then some (i, y) else none := by
    intro u; by_cases e : y.unit = u <;> simp [sylOf, e]
  simp only [inUnitOrder, unitOrder]
  cases hu : y.unit <;> simp [h, hu]

theorem curOf_setCtx (c p : Nat) (f : Ctx → Ctx) (s : State) (hc : c < 4) : curOf c (setCtx c p f s) = curOf c s := by
  simp only [curOf, setCtx, core_setCore _ _ _ hc]

/-- A person that has no transfer under way is not on the way to the target of a RETI. -/
theorem leaving_none (s : State) (c p : Nat) (h : (s.ctx c p).br = none) : leaving s c p = false := by
  simp [leaving, inReti, h]

theorem ctx_landed (c : Nat) (s : State) (hc : c < 4) (hl : coreLive s c = true) :
    (landed c s).ctx c (curOf c s) = seen c s := by
  simp only [landed, ctx_setCtx _ _ _ _ hc (cur_lt c s hl)]

/-- On a core free to issue a sentence of one syllable that breaks no rule, meets no fault and waits for nothing takes effect. -/
theorem issue_pass (c : Nat) (y : Syl) (s : State) (hc : c < 4)
    (hq : quiet c (oneSyllable y).len s = true) (hbad : (oneSyllable y).bad = none)
    (ex : List (Nat × Syl)) (hex : ex = [(0, y)].filter fun q => guardOn (seen c s) q.2)
    (hf : faultOf (landed c s) c (curOf c s) (seen c s) ex = none)
    (hm : memStall (landed c s) c (curOf c s) (seen c s) [(0, y)] = false)
    (hcus : cusOf (seen c s) [(0, y)] = none) :
    issue c (some (oneSyllable y)) s =
      trySwitch c (mirrorTrail c (curOf c s)
        (issueGo c (curOf c s) (seen c s) (oneSyllable y) ex (landed c s))) := by
  simp only [quiet, atNoLoopEnd, Bool.and_eq_true, Bool.or_eq_true, Bool.not_eq_true', Option.isNone_iff_eq_none, List.isEmpty_iff,
    decide_eq_true_eq] at hq
  obtain ⟨⟨⟨⟨⟨⟨⟨⟨⟨⟨⟨⟨⟨⟨hl, hw⟩, hd⟩, hlo⟩, hca⟩, hsf⟩, hbr⟩, hfp⟩, hld⟩, hsw⟩, hwi⟩, hh⟩, hcu⟩, hirq⟩, hwin⟩ := hq
  have hp := cur_lt c s hl
  obtain ⟨a, b, d, e, i, hx⟩ := landDue_shape (s.ctx c (curOf c s))
  have hseen : seen c s = { s.ctx c (curOf c s) with w := a, x := b, p := d, acc := e, infl := i } := hx
  have hland : setCtx c (curOf c s) landNow s = landed c s := by
    apply setCtx_congr
    show landNow _ = seen c s
    unfold landNow
    rw [show landDue (s.ctx c (curOf c s)) = seen c s from rfl]
    dsimp only
    rw [show (seen c s).div = none by rw [hseen]; exact hd]
  have hctx := ctx_landed c s hc hl
  have hsf' : (seen c s).storeFaults = [] := by rw [hseen]; exact hsf
  have hbr' : (seen c s).br = none := by rw [hseen]; exact hbr
  have hd' : (seen c s).div = none := by rw [hseen]; exact hd
  have hlo' : (seen c s).loads = [] := by rw [hseen]; exact hlo
  have hca' : (seen c s).calls = [] := by rw [hseen]; exact hca
  have hfp' : (seen c s).fpPending = false := by rw [hseen]; exact hfp
  have hcu' : (seen c s).cus = none := by rw [hseen]; exact hcu
  have hcur : ((landed c s).core c).cur = curOf c s := curOf_setCtx c _ _ s hc
  have hcand : ((landed c s).core c).cand = (s.core c).cand := by
    simp only [landed, setCtx, core_setCore _ _ _ hc]
  have hirq' : irqDue (landed c s) c = false := by
    rw [← hirq]
    simp only [irqDue, hcur, hcand, hctx]
    rw [hseen]
    rfl
  have hjoin : joinTrail c s = s := by
    have hwi0 : (s.witnessOn (s.core c).cur).isNone = true := by rw [show (s.core c).cur = curOf c s from rfl, hwi]; rfl
    simp only [joinTrail, hwi0, Bool.true_or, if_true]
  have hleave : leaving s c (curOf c s) = false := leaving_none s c _ hbr
  have hwin' : (landed c s).inWindow c (curOf c s) (seen c s).pc.toNat (4 * (oneSyllable y).len) = true := by
    simp only [State.inWindow, hctx]
    rw [hseen]
    exact hwin
  have hill : illegalOf (seen c s) (oneSyllable y) = none := by
    simp only [illegalOf, hbr', hbad]; rfl
  have hrs : regStall (seen c s) [(0, y)] = false := by
    have hn : ∀ z : Syl, touches z [] = false := by
      intro z
      simp only [touches]
      apply List.any_eq_false.2
      intro r _
      cases r <;> simp
    simp only [regStall, outstanding, hlo', hca', hd', List.flatMap_nil, List.map_nil, List.append_nil, List.filter_nil, hn,
      Bool.or_false]
    apply List.any_eq_false.2
    simp
  have hsy : (oneSyllable y).syls = [(0, y)] := rfl
  have hord : inUnitOrder ([(0, y)].filter fun q => guardOn (seen c s) q.2) = ex := by
    by_cases e : guardOn (seen c s) y = true
    · simp only [hex, List.filter_cons, e, if_true, List.filter_nil, inUnitOrder_one]
    · simp only [hex, List.filter_cons, e, List.filter_nil]; rfl
  have hwi' : (landed c s).witnessOn (curOf c s) = none := hwi
  unfold issue
  dsimp only
  rw [hjoin, show (s.core c).cur = curOf c s from rfl, hl, hleave, show (s.ctx c (curOf c s)).waiting = false from hw]
  simp only [Bool.not_true, Bool.or_false, Bool.false_eq_true, if_false]
  rw [hland, hctx]
  unfold attempt issueLegal
  simp only [hcu', Option.isSome_none, hirq', hsf', List.isEmpty_nil, Bool.not_true, Bool.false_eq_true, if_false, hwin', hill, hrs, hsy,
    hord, hf, hm, barrierOf, hfp', cusHeld, inUnitOrder_one, hcus, issuePair, hwi']

/-! ### Syllables that only compute -/

theorem forAll_nil {α σ : Type} (f : α → σ → σ) (t : σ) : forAll [] f t = t := rfl

theorem forAll_one {α σ : Type} (a : α) (f : α → σ → σ) (t : σ) : forAll [a] f t = f a t := rfl

theorem flights_put (n : Nat) (ws : List (Nat × Wr)) (x : Ctx) :
    forAll ws (fun r t => { t with infl := insertFl { due := n + r.1, wr := r.2 } t.infl }) x =
      { x with infl := flights n ws x.infl } := by
  induction ws generalizing x with
  | nil => rfl
  | cons q r ih =>
    have h1 : ∀ z : Ctx, forAll (q :: r) (fun r t => { t with infl := insertFl { due := n + r.1, wr := r.2 } t.infl }) z =
        forAll r (fun r t => { t with infl := insertFl { due := n + r.1, wr := r.2 } t.infl })
          { z with infl := insertFl { due := n + q.1, wr := q.2 } z.infl } := fun z => rfl
    rw [h1, ih]
    rfl

theorem flights_append (n : Nat) (a b : List (Nat × Wr)) (l : List InFl) :
    flights n (a ++ b) l = flights n b (flights n a l) := by
  simp only [flights, List.foldl_append]

/-- What a sentence of one computing syllable leaves of its registers. -/
def computed (x : Ctx) (len : Nat) (o : SylOut) (ws : List (Nat × Wr)) : Ctx :=
  { nextCtx x len (o.res ++ ws) o.fl with
    div := match o.div with | none => x.div | some d => some { writes := d.1, lands := x.cycles + d.2 } }

/-- The address results of a syllable that is no load and no store. -/
def addrRes (x : Ctx) (y : Syl) : List (Nat × Wr) :=
  match y.op with
  | .addx => [(1, .x y.d.toNat (x.rx y.s1.toNat + val2 x y))]
  | .addxr => [(1, .x y.d.toNat (x.rx y.s1.toNat + val2 x y))]
  | .movx => [(1, .x y.d.toNat (x.rw y.s1.toNat))]
  | .mfx => [(1, .w y.d.toNat (x.rx y.s1.toNat) false)]
  | _ => []

theorem putAddr_res (x : Ctx) (y : Syl) (z : Ctx) (h : accOf x y = none) :
    putAddr x y z = { z with infl := flights x.seq (addrRes x y) z.infl } := by
  unfold putAddr addrRes
  cases e : y.op <;> simp only [h] <;> rfl

theorem advance_plain (next : Word) (x : Ctx) (hb : x.br = none) (hl : x.ldepth = 0 ∨ vget x.le (x.ldepth - 1) ≠ x.pc) :
    advance next x = { x with pc := next } := by
  unfold advance
  split
  · rw [show loopEnd 3 next x = (next, x) from by unfold loopEnd; rw [if_pos hl]]
  · rename_i b e
    rw [hb] at e
    contradiction

theorem bankClash_one (s : State) (c p : Nat) (x : Ctx) (y : Syl) (h : accOf x y = none) :
    bankClash s c p x [(0, y)] = false := by
  cases e : y.unit <;> simp [bankClash, sylOf, e, h]

/-- A computing syllable takes effect on its person's registers alone. -/
theorem issueGo_plain (c p : Nat) (x : Ctx) (y : Syl) (s : State) (hc : c < 4) (hp : p < 7)
    (hx : s.ctx c p = x) (hacc : accOf x y = none) (hreq : cusReq x y = none) (hb : y.unit ≠ .b)
    (hbr : x.br = none) (hld : x.ldepth = 0 ∨ vget x.le (x.ldepth - 1) ≠ x.pc) :
    issueGo c p x (oneSyllable y) [(0, y)] s =
      setCtx c p (fun _ => computed x (oneSyllable y).len (evalUnit x (s.row p).constTime y) (addrRes x y)) s := by
  have hsy : (oneSyllable y).syls = [(0, y)] := rfl
  have hcus : cusOf x [(0, y)] = none := by simp [cusOf, firstOf, hreq]
  have hbs : sylOf [(0, y)] .b = none := by simp [sylOf, hb]
  unfold issueGo
  simp only [hsy, bankClash_one s c p x y hacc, hcus, hbs, bFlow, List.filterMap_cons, List.filterMap_nil, hacc,
    List.filter_nil, Bool.false_eq_true, if_false]
  simp only [forAll_nil, forAll_one]
  simp only [setCtx_setCtx _ _ _ _ _ hc hp]
  apply setCtx_congr
  rw [hx]
  simp only [putResults, forAll_one]
  simp only [flights_put, putAddr_res _ _ _ hacc]
  rw [advance_plain]
  · simp only [computed, nextCtx, flights_append, Nat.add_zero]
    all_goals rfl
  · exact hbr
  · exact hld

/-! ### What follows a sentence on a core free to issue -/

/-- Nothing follows a change of the person's registers that leaves WAIT 0: no mirror to a trailer, no switch (R95, R188). -/
theorem settle_setCtx (c : Nat) (f : Ctx → Ctx) (s : State) (hc : c < 4) (hp : curOf c s < 7)
    (hw : (s.witnessOn (curOf c s)).isNone = true) (hs : (s.core c).switchDue = false)
    (hf : (f (s.ctx c (curOf c s))).waiting = false) :
    trySwitch c (mirrorTrail c (curOf c s) (setCtx c (curOf c s) f s)) = setCtx c (curOf c s) f s := by
  have h1 : (setCtx c (curOf c s) f s).witnessOn (curOf c s) = none := by
    rw [Option.isNone_iff_eq_none] at hw; exact hw
  have h2 : ((setCtx c (curOf c s) f s).core c).switchDue = false := by
    simp only [setCtx, core_setCore _ _ _ hc, hs]
  have h3 : ((setCtx c (curOf c s) f s).ctx c ((setCtx c (curOf c s) f s).core c).cur).waiting = false := by
    rw [show ((setCtx c (curOf c s) f s).core c).cur = curOf c s from curOf_setCtx c _ f s hc, ctx_setCtx _ _ _ _ hc hp]
    exact hf
  have hm : mirrorTrail c (curOf c s) (setCtx c (curOf c s) f s) = setCtx c (curOf c s) f s := by
    unfold mirrorTrail
    rw [h1]
    simp
  rw [hm]
  unfold trySwitch
  simp only [h2, h3, Bool.or_false, Bool.not_false, Bool.true_or, if_true]
  split <;> simp

/-- The parts of `quiet`. -/
theorem quiet_parts {c n : Nat} {s : State} (h : quiet c n s = true) :
    coreLive s c = true ∧ (s.ctx c (curOf c s)).waiting = false ∧ (seen c s).br = none ∧
    ((seen c s).ldepth = 0 ∨ vget (seen c s).le ((seen c s).ldepth - 1) ≠ (seen c s).pc) ∧
    (seen c s).div = none ∧ (seen c s).fpPending = false ∧ (seen c s).waiting = false ∧ (seen c s).loads = [] ∧
    (seen c s).calls = [] ∧
    (s.core c).switchDue = false ∧ (s.witnessOn (curOf c s)).isNone = true := by
  simp only [quiet, atNoLoopEnd, Bool.and_eq_true, Bool.or_eq_true, Bool.not_eq_true', Option.isNone_iff_eq_none, List.isEmpty_iff,
    decide_eq_true_eq] at h
  obtain ⟨⟨⟨⟨⟨⟨⟨⟨⟨⟨⟨⟨⟨⟨hl, hw⟩, hd⟩, hlo⟩, hca⟩, hsf⟩, hbr⟩, hfp⟩, hld⟩, hsw⟩, hwi⟩, _⟩, _⟩, _⟩, _⟩ := h
  obtain ⟨a, b, d, e, i, hx⟩ := landDue_shape (s.ctx c (curOf c s))
  have hseen : seen c s = { s.ctx c (curOf c s) with w := a, x := b, p := d, acc := e, infl := i } := hx
  rw [hseen]
  exact ⟨hl, hw, hbr, hld, hd, hfp, hw, hlo, hca, hsw, by rw [hwi]; rfl⟩

/-- The syllables of the B unit. -/
def isB (o : Op) : Bool :=
  match o with
  | .br | .brr | .call | .callr | .ret | .reti | .loop | .lpop | .wait | .fenceSl | .publish => true
  | .mfc | .mtc | .scall | .claim | .give | .free => true
  | _ => false

/-- The syllables of the A, C and M units and the address syllables: no memory, no flow, no custody. -/
def computes (o : Op) : Bool := !isLoad o && !isStore o && !isB o

theorem isB_ne {o : Op} (h : isB o = false) :
    o ≠ .mtc ∧ o ≠ .loop ∧ o ≠ .publish ∧ o ≠ .scall ∧ o ≠ .claim ∧ o ≠ .give ∧ o ≠ .free := by
  refine ⟨?_, ?_, ?_, ?_, ?_, ?_, ?_⟩ <;> (intro e; rw [e] at h; exact absurd h (by decide))

theorem isB_rsFault {o : Op} (x : Ctx) (m : Nat) (h : isB o = false) : rsFault x m o = false := by
  cases o <;> first | rfl | exact absurd h (by decide)

theorem isB_cusReq (x : Ctx) (y : Syl) (h : isB y.op = false) : cusReq x y = none := by
  obtain ⟨_, _, _, _, h1, h2, h3⟩ := isB_ne h
  unfold cusReq
  split <;> first | rfl | contradiction

/-- A computing syllable whose guard holds, whose sources are clean and that meets no fault of its own takes effect on its
person's registers alone. -/
theorem issue_plain (c : Nat) (y : Syl) (s : State) (hc : c < 4)
    (hq : quiet c (oneSyllable y).len s = true) (hbad : (oneSyllable y).bad = none)
    (hop : computes y.op = true) (hb : y.unit ≠ .b) (hg : guardHolds c y.guard s = true)
    (hpo : poisonOf (seen c s) [(0, y)] = none) (hdz : divzOf (seen c s) [(0, y)] = none)
    (hfp : fpOf (seen c s) (s.row (curOf c s)) [(0, y)] = none) :
    issue c (some (oneSyllable y)) s =
      setCtx c (curOf c s) (fun _ => computed (seen c s) (oneSyllable y).len
        (evalUnit (seen c s) (s.row (curOf c s)).constTime y) (addrRes (seen c s) y)) s := by
  obtain ⟨hl, hw, hbr, hld, hd, hfpp, hwt, hlo, hca, hsw, hwi⟩ := quiet_parts hq
  have hp := cur_lt c s hl
  simp only [computes, Bool.and_eq_true, Bool.not_eq_true'] at hop
  obtain ⟨⟨hnl, hns⟩, hob⟩ := hop
  obtain ⟨n1, n2, n3, n4, _⟩ := isB_ne hob
  have hacc : accOf (seen c s) y = none := by simp [accOf, hnl, hns]
  have hreq : cusReq (seen c s) y = none := isB_cusReq _ y hob
  have hcus : cusOf (seen c s) [(0, y)] = none := by simp [cusOf, firstOf, hreq]
  have hex : [(0, y)] = [(0, y)].filter fun q => guardOn (seen c s) q.2 := by
    have : guardOn (seen c s) y = true := hg
    simp [this]
  have hf : faultOf (landed c s) c (curOf c s) (seen c s) [(0, y)] = none := by
    have h0 : (landed c s).row (curOf c s) = s.row (curOf c s) := rfl
    have h1 : privOf [(0, y)] = none := by simp [privOf, firstOf, n1]
    have h2 : ∀ m, flowFault (seen c s) m [(0, y)] = none := by intro m; simp [flowFault, firstOf, n2, isB_rsFault _ _ hob]
    have h3 : ∀ k g, accFault (seen c s) [(0, y)] k g = none := by intro k g; simp [accFault, firstOf, hacc]
    have h4 : bCustody (landed c s) c (curOf c s) (seen c s) [(0, y)] = none := by
      simp [bCustody, firstOf, n3, hreq]
    unfold faultOf
    simp only [h0, h1, hpo, h2, h3, h4, hdz, hfp]
    rfl
  have hm : memStall (landed c s) c (curOf c s) (seen c s) [(0, y)] = false := by
    have h5 : sharedAccs (landed c s) c (curOf c s) (seen c s) [(0, y)] = [] := by
      simp [sharedAccs, inUnitOrder_one, hacc]
    simp [memStall, h5, n4, hacc]
  rw [issue_pass c y s hc hq hbad [(0, y)] hex hf hm hcus]
  rw [issueGo_plain c (curOf c s) (seen c s) y (landed c s) hc hp (ctx_landed c s hc hl) hacc hreq hb hbr hld]
  have h6 : setCtx c (curOf c s) (fun _ => computed (seen c s) (oneSyllable y).len
      (evalUnit (seen c s) ((landed c s).row (curOf c s)).constTime y) (addrRes (seen c s) y)) (landed c s) =
      setCtx c (curOf c s) (fun _ => computed (seen c s) (oneSyllable y).len
        (evalUnit (seen c s) (s.row (curOf c s)).constTime y) (addrRes (seen c s) y)) s := by
    unfold landed
    rw [setCtx_setCtx _ _ _ _ _ hc hp]
    rfl
  rw [h6]
  exact settle_setCtx c _ s hc hp hwi hsw hwt

/-! ### Ready cores -/

theorem flagsOr_none (f : Word) : flagsOr f {} = f := by
  show f ||| w32 0 = f
  simp [w32]

theorem sat_outside (n : Nat) (v : Int) : (satTo n v).2 = outside n v := by
  unfold satTo outside
  split
  · simp; omega
  · split
    · simp; omega
    · simp; omega

theorem sat_limit (n : Nat) (v : Int) : (satTo n v).1 = limit n v := by
  unfold satTo limit
  have : (2 : Int) ^ (n - 1) ≥ 1 := one_le_pow₀ (by norm_num)
  split
  · simp; omega
  · split
    · simp; omega
    · simp; omega

/-- A computing syllable on a core ready for it: what the units give, and nothing else. -/
theorem ready_run (c : Fin 4) (y : Syl) (rs : List Nat) (s : State)
    (hr : ready c (oneSyllable y).len y.guard rs s = true) (hbad : (oneSyllable y).bad = none)
    (hop : computes y.op = true) (hb : y.unit ≠ .b)
    (hpo : y.op ≠ .tstp → ∀ k, Reg.w k ∈ sourcesOf y → k.toNat ∈ rs)
    (hd : isDivide y.op = true → flagsDivzTrap (seen c s).flags = false ∨ val2 (seen c s) y ≠ 0)
    (hf : (s.row (curOf c s)).precise = false ∨
      (evalUnit (seen c s) (s.row (curOf c s)).constTime y).fl.trap = false) :
    issueOne c y s =
      setCtx c (curOf c s) (fun _ => computed (seen c s) (oneSyllable y).len
        (evalUnit (seen c s) (s.row (curOf c s)).constTime y) (addrRes (seen c s) y)) s := by
  simp only [ready, Bool.and_eq_true] at hr
  obtain ⟨⟨hq, hg⟩, hcl⟩ := hr
  apply issue_plain c y s c.isLt hq hbad hop hb hg
  · simp only [poisonOf, firstOf, List.findSome?_cons, List.findSome?_nil]
    by_cases h1 : isDismissible y.op || decide (y.op = .tstp)
    · rw [if_pos h1]
    · rw [if_neg h1]
      simp only [Bool.or_eq_true, decide_eq_true_eq, not_or] at h1
      have : List.findSome? (poisonReg (seen c s)) (sourcesOf y) = none := by
        rw [List.findSome?_eq_none_iff]
        intro r hr
        cases r with
        | w k =>
          have := hpo h1.2 k hr
          simp only [clean, List.all_eq_true] at hcl
          have := hcl _ this
          simp only [Bool.not_eq_true'] at this
          simp [poisonReg, this]
        | _ => rfl
      rw [this]
  · simp only [divzOf, firstOf, List.findSome?_cons, List.findSome?_nil]
    by_cases h : isDivide y.op = true
    · rcases hd h with e | e
      · simp [e]
      · rw [decide_eq_false e]
        simp
    · simp [h]
  · simp only [fpOf, firstOf, List.findSome?_cons, List.findSome?_nil]
    rcases hf with e | e
    · simp [e]
    · simp [e]

/-- The same, where the syllable's results, flags and length are known and it starts no divide. -/
theorem ready_issued (c : Fin 4) (y : Syl) (rs : List Nat) (s : State) (n : Nat) (ws : List (Nat × Wr)) (fl : Sticky)
    (hr : ready c n y.guard rs s = true) (hlen : (oneSyllable y).len = n) (hbad : (oneSyllable y).bad = none)
    (hop : computes y.op = true) (hb : y.unit ≠ .b)
    (hpo : y.op ≠ .tstp → ∀ k, Reg.w k ∈ sourcesOf y → k.toNat ∈ rs)
    (hd : isDivide y.op = false)
    (ho : evalUnit (seen c s) (s.row (curOf c s)).constTime y = { res := ws, fl := fl })
    (ha : addrRes (seen c s) y = [])
    (hf : (s.row (curOf c s)).precise = false ∨ fl.trap = false) :
    issueOne c y s = issued c n ws fl s := by
  subst hlen
  rw [ready_run c y rs s hr hbad hop hb hpo (by intro h; rw [hd] at h; contradiction) (by rw [ho]; exact hf), ho, ha]
  unfold issued
  apply setCtx_congr
  simp only [computed, List.append_nil]
  rfl

end Sys2Proof.Machine
end

