-- ==== Sys2Proof/Laws/Memory.lean ====
section
/-! SUPPORT. The byte memories: a read after a write, and the canonical form, which every memory operation keeps. -/

namespace Sys2Proof.Machine

/-! ### Reads after writes -/

/-- A byte written reads back. -/
theorem cellGet_cellSet_same (d : Byte) (m : List Host.Cell) (a : Nat) (v : Byte) (b : Nat) (h : cellsAbove d b m = true) :
    cellGet d (cellSet d m a v) a = v := by
  induction m generalizing b with
  | nil => by_cases hv : v = d <;> simp [cellSet, cellGet, hv]
  | cons q r ih =>
    obtain ⟨k, x⟩ := q
    simp only [cellsAbove, Bool.and_eq_true, decide_eq_true_eq] at h
    have low : ∀ (r : List Host.Cell) (n : Nat), a < n → cellsAbove d n r = true → cellGet d r a = d := by
      intro r
      induction r with
      | nil => intros; rfl
      | cons q r ih =>
        intro n hn hr
        obtain ⟨k, x⟩ := q
        simp only [cellsAbove, Bool.and_eq_true, decide_eq_true_eq] at hr
        have : k ≠ a := by omega
        simp only [cellGet, this, if_false]
        exact ih _ (by omega) hr.2
    unfold cellSet
    split
    · split
      · next hv =>
        have : k ≠ a := by omega
        simp only [cellGet, this, if_false, hv]
        exact low r (k + 1) (by omega) h.2
      · simp [cellGet]
    · split
      · next hk =>
        split
        · next hv => rw [hv]; exact low r (k + 1) (by omega) h.2
        · simp [cellGet]
      · next h1 h2 =>
        have : k ≠ a := by omega
        simp only [cellGet, this, if_false]
        exact ih _ h.2

/-- A write leaves every other byte. -/
theorem cellGet_cellSet_other (d : Byte) (m : List Host.Cell) (a b : Nat) (v : Byte) (hab : b ≠ a) :
    cellGet d (cellSet d m a v) b = cellGet d m b := by
  induction m with
  | nil => by_cases hv : v = d <;> simp [cellSet, cellGet, hv, hab.symm]
  | cons q r ih =>
    obtain ⟨k, x⟩ := q
    unfold cellSet
    split
    · split <;> simp [cellGet, hab.symm]
    · split
      · next hk => subst hk; split <;> simp [cellGet, hab.symm]
      · simp only [cellGet]; split <;> simp_all

/-! ### The canonical form -/

/-- A lower bound may be lowered. -/
theorem cellsAbove_mono (d : Byte) {a b : Nat} (h : a ≤ b) (m : List Host.Cell) (hm : cellsAbove d b m = true) :
    cellsAbove d a m = true := by
  cases m with
  | nil => rfl
  | cons q r =>
    simp only [cellsAbove, Bool.and_eq_true, decide_eq_true_eq] at hm ⊢
    exact ⟨⟨by omega, hm.1.2⟩, hm.2⟩

/-- A write above the bound keeps the form. -/
theorem cellSet_above (d : Byte) (m : List Host.Cell) (a b : Nat) (v : Byte) (hb : b ≤ a) (h : cellsAbove d b m = true) :
    cellsAbove d b (cellSet d m a v) = true := by
  induction m generalizing b with
  | nil => by_cases hv : v = d <;> simp [cellSet, cellsAbove, hv, hb]
  | cons q r ih =>
    obtain ⟨k, x⟩ := q
    have h0 := h
    simp only [cellsAbove, Bool.and_eq_true, decide_eq_true_eq] at h
    unfold cellSet
    split
    · split
      · exact h0
      · next hv =>
        simp only [cellsAbove, Bool.and_eq_true, decide_eq_true_eq]
        exact ⟨⟨hb, hv⟩, ⟨by omega, h.1.2⟩, h.2⟩
    · split
      · split
        · exact cellsAbove_mono d (by omega) r h.2
        · next hk hv =>
          subst hk
          simp only [cellsAbove, Bool.and_eq_true, decide_eq_true_eq]
          exact ⟨⟨hb, hv⟩, h.2⟩
      · next h1 h2 =>
        simp only [cellsAbove, Bool.and_eq_true, decide_eq_true_eq]
        exact ⟨h.1, ih (k + 1) (by omega) h.2⟩

/-- Writing a byte keeps the canonical form. -/
theorem cellSet_wf (d : Byte) (m : List Host.Cell) (a : Nat) (v : Byte) (h : Memory.wf d m = true) :
    Memory.wf d (cellSet d m a v) = true := cellSet_above d m a 0 v (Nat.zero_le a) h

/-- Writing bytes keeps it. -/
theorem cellsPut_wf (d : Byte) (bs : Bytes) (m : List Host.Cell) (a : Nat) (h : Memory.wf d m = true) :
    Memory.wf d (cellsPut d m a bs) = true := by
  induction bs generalizing m a with
  | nil => exact h
  | cons b r ih => exact ih _ _ (cellSet_wf d m a b h)

/-- Keeping some entries keeps it. -/
theorem filter_above (d : Byte) (f : Host.Cell → Bool) (m : List Host.Cell) (b : Nat) (h : cellsAbove d b m = true) :
    cellsAbove d b (m.filter f) = true := by
  induction m generalizing b with
  | nil => rfl
  | cons q r ih =>
    obtain ⟨k, x⟩ := q
    have h0 := h
    simp only [cellsAbove, Bool.and_eq_true, decide_eq_true_eq] at h
    by_cases hf : f (k, x) = true
    · simp only [List.filter_cons, hf, if_true, cellsAbove, Bool.and_eq_true, decide_eq_true_eq]
      exact ⟨h.1, ih _ h.2⟩
    · simp only [List.filter_cons, hf]
      exact ih _ (cellsAbove_mono d (by omega) r h.2)

/-- Forgetting bytes keeps it. -/
theorem cellsClear_wf (d : Byte) (m : List Host.Cell) (a n : Nat) (h : Memory.wf d m = true) :
    Memory.wf d (cellsClear m a n) = true := filter_above d _ m 0 h

/-- Writing cells over a memory keeps it. -/
theorem cellsOver_wf (d : Byte) (cs m : List Host.Cell) (h : Memory.wf d m = true) :
    Memory.wf d (cellsOver d m cs) = true := by
  unfold cellsOver
  induction cs generalizing m with
  | nil => exact h
  | cons c r ih => exact ih _ (cellSet_wf d m c.1 c.2 h)

/-- The memories after reset are in canonical form. -/
theorem reset_memories_wf : Memory.wf 0 State.reset.mem.sram = true ∧ Memory.wf 0xFF State.reset.mem.flash = true :=
  ⟨rfl, rfl⟩

end Sys2Proof.Machine
end

