-- ==== Sys2Proof/Laws/Sealed.lean ====
section
/-! SUPPORT. Counter mode undoes itself, so a frame sealed under the segment's key opens on arrival. -/

namespace Sys2Proof.Machine

/-- Counter mode over blocks, with the key stream g. -/
def streamed (g : Nat → Bytes) (i : Nat) (bl : List Bytes) : Bytes := (bl.zipIdx i).flatMap fun q => xorBytes q.1 (g q.2)

theorem xorBytes_length (a b : Bytes) : (xorBytes a b).length = min a.length b.length := by simp [xorBytes]

theorem xorBytes_twice (a b : Bytes) (h : a.length ≤ b.length) : xorBytes (xorBytes a b) b = a := by
  induction a generalizing b with
  | nil => cases b <;> rfl
  | cons x r ih =>
    cases b with
    | nil => simp at h
    | cons y t =>
      have h1 : xorBytes (xorBytes (x :: r) (y :: t)) (y :: t) = (x ^^^ y ^^^ y) :: xorBytes (xorBytes r t) t := rfl
      rw [h1, ih t (by simpa using h), BitVec.xor_assoc, BitVec.xor_self, BitVec.xor_zero]

theorem streamed_cons (g : Nat → Bytes) (i : Nat) (b : Bytes) (bl : List Bytes) :
    streamed g i (b :: bl) = xorBytes b (g i) ++ streamed g (i + 1) bl := by
  simp [streamed, List.zipIdx_cons]

theorem streamed_none (g : Nat → Bytes) (k i : Nat) : streamed g i (blocks16 k []) = [] := by
  induction k generalizing i with
  | zero => rfl
  | succ j ih =>
    rw [blocks16, streamed_cons]
    simp [ih, xorBytes]

theorem streamed_length (g : Nat → Bytes) (hg : ∀ i, (g i).length = 16) (k i : Nat) (bs : Bytes) (h : bs.length ≤ 16 * k) :
    (streamed g i (blocks16 k bs)).length = bs.length := by
  induction k generalizing i bs with
  | zero => simp at h; simp [h, blocks16, streamed]
  | succ j ih =>
    rw [blocks16, streamed_cons, List.length_append, xorBytes_length, hg, ih (i + 1) (bs.drop 16) (by simp; omega)]
    simp; omega

theorem streamed_twice (g : Nat → Bytes) (hg : ∀ i, (g i).length = 16) (k i : Nat) (bs : Bytes) (h : bs.length ≤ 16 * k) :
    streamed g i (blocks16 k (streamed g i (blocks16 k bs))) = bs := by
  induction k generalizing i bs with
  | zero => simp at h; simp [h, blocks16, streamed]
  | succ j ih =>
    have hd : (bs.drop 16).length ≤ 16 * j := by simp; omega
    have e : streamed g i (blocks16 (j + 1) bs) = xorBytes (bs.take 16) (g i) ++ streamed g (i + 1) (blocks16 j (bs.drop 16)) := by
      rw [blocks16, streamed_cons]
    rw [e]
    by_cases hs : 16 ≤ bs.length
    · have hl : (xorBytes (bs.take 16) (g i)).length = 16 := by rw [xorBytes_length, hg]; simp; omega
      have ht : ∀ r : Bytes, (xorBytes (bs.take 16) (g i) ++ r).take 16 = xorBytes (bs.take 16) (g i) := fun r => by
        rw [List.take_append_of_le_length (by omega), List.take_of_length_le (by omega)]
      have hr : ∀ r : Bytes, (xorBytes (bs.take 16) (g i) ++ r).drop 16 = r := fun r => by
        rw [List.drop_append_of_le_length (by omega), List.drop_eq_nil_of_le (by omega), List.nil_append]
      rw [blocks16, streamed_cons, ht, hr, ih (i + 1) (bs.drop 16) hd, xorBytes_twice _ _ (by rw [hg]; simp),
        List.take_append_drop]
    · have hn : bs.drop 16 = [] := List.drop_eq_nil_of_le (by omega)
      have hl : (xorBytes (bs.take 16) (g i)).length ≤ 16 := by rw [xorBytes_length, hg]; omega
      rw [hn, streamed_none, List.append_nil, blocks16, streamed_cons, List.take_of_length_le hl, List.drop_eq_nil_of_le hl,
        streamed_none, List.append_nil, xorBytes_twice _ _ (by rw [hg]; simp), List.take_of_length_le (by omega)]

/-- The last round key has its 16 bytes. -/
def keyWhole (key : Bytes) : Bool := decide (((roundKeys key).getD ((roundKeys key).length - 1) []).length = 16)

theorem subBytes_length (t l : List Nat) : (subBytes t l).length = l.length := by simp [subBytes]

theorem aesEnc_length (key blk : Bytes) (h : keyWhole key = true) : (aesEnc (roundKeys key) blk).length = 16 := by
  have h1 := of_decide_eq_true h
  simp only [aesEnc, List.length_map, xorSt, List.length_zipWith, h1, shiftRows, List.length_range, Nat.min_self]

/-- Counter mode undoes itself. -/
theorem ctrMode_twice (key : Bytes) (w n : Nat) (bs : Bytes) (h : keyWhole key = true) :
    ctrMode w (roundKeys key) n (ctrMode w (roundKeys key) n bs) = bs ∧ (ctrMode w (roundKeys key) n bs).length = bs.length := by
  let g : Nat → Bytes := fun i => aesEnc (roundKeys key) (beBytes 16 (n / 2 ^ w * 2 ^ w + (n + i) % 2 ^ w))
  have hg : ∀ i, (g i).length = 16 := fun i => aesEnc_length key _ h
  have e : ∀ b : Bytes, ctrMode w (roundKeys key) n b = streamed g 0 (blocks16 ((b.length + 15) / 16) b) := fun _ => rfl
  have hk : bs.length ≤ 16 * ((bs.length + 15) / 16) := by omega
  have hl : (ctrMode w (roundKeys key) n bs).length = bs.length := by rw [e]; exact streamed_length g hg _ 0 bs hk
  refine ⟨?_, hl⟩
  rw [e (ctrMode w (roundKeys key) n bs), hl, e]
  exact streamed_twice g hg _ 0 bs hk

/-- What GCM seals it opens. -/
theorem gcmDec_gcmEnc (key nonce aad pt : Bytes) (h : keyWhole key = true) :
    gcmDec key nonce aad (gcmEnc key nonce aad pt).1 (gcmEnc key nonce aad pt).2 = some pt := by
  unfold gcmDec gcmEnc
  simp only [List.take_length, if_true]
  rw [(ctrMode_twice key 32 _ pt h).1]

/-- A frame in the clear, sealed as the other end of the segment seals it. -/
def sealedFrame (k : Bytes) (d : Nat) (f : Frame) : Frame :=
  let e := gcmEnc k (frameNonce (decide (d = 1)) f.segseq) (frameHeader f) f.payload
  { f with payload := e.1, tag := e.2 }

/-- The frame is not behind the last one taken, and its key is whole. -/
def canSeal (s : State) (d : Nat) (f : Frame) : Bool :=
  match frameKey s d f with
  | some (k, last) =>
    keyWhole k && !(match last with | some n => decide (f.segseq.toNat ≤ n) | none => false)
  | none => false

/-- The key a frame is sealed under. -/
def frameKeyOf (s : State) (d : Nat) (f : Frame) : Bytes := ((frameKey s d f).map (·.1)).getD []

theorem beBytes_length (n v : Nat) : (beBytes n v).length = n := by
  have h : ∀ n v, (leBytes n v).length = n := by
    intro n; induction n with
    | zero => intro v; rfl
    | succ j ih => intro v; simp [leBytes, ih]
  simp [beBytes, h]

/-- A frame sealed under the segment's key is good on arrival, and says what was sealed. -/
theorem frameIs_sealed (s : State) (d : Nat) (f : Frame) (h : canSeal s d f = true) :
    frameIs s d (sealedFrame (frameKeyOf s d f) d f) = .good f.payload := by
  unfold canSeal at h
  have hk : frameKey s d (sealedFrame (frameKeyOf s d f) d f) = frameKey s d f := rfl
  cases e : frameKey s d f with
  | none => simp [e] at h
  | some q =>
    obtain ⟨k, last⟩ := q
    simp only [e, Bool.and_eq_true, Bool.not_eq_true'] at h
    have kk : frameKeyOf s d f = k := by simp [frameKeyOf, e]
    have hl := (ctrMode_twice k 32 (beNat (frameNonce (decide (d = 1)) f.segseq ++ [0, 0, 0, 2])) f.payload h.1).2
    have hh : frameHeader (sealedFrame k d f) = frameHeader f := by
      show _ ++ _ ++ leBytes 2 (ctrMode 32 (roundKeys k) _ f.payload).length ++ _ ++ _ = _
      rw [hl]; rfl
    have ht : (sealedFrame k d f).tag.length = 16 := by
      show (xorBytes (beBytes 16 _) (aesEnc (roundKeys k) _)).length = 16
      rw [xorBytes_length, beBytes_length, aesEnc_length k _ h.1]; rfl
    unfold frameIs
    rw [hk, e, kk]
    have hd : gcmDec k (frameNonce (decide (d = 1)) (sealedFrame k d f).segseq) (frameHeader f) (sealedFrame k d f).payload (sealedFrame k d f).tag
        = some f.payload := gcmDec_gcmEnc k _ _ f.payload h.1
    cases last with
    | none => simp only [ht, hh]; simp [hd]
    | some n =>
      have h3 : decide ((sealedFrame k d f).segseq.toNat ≤ n) = false := h.2
      simp only [h3, ht, hh]; simp [hd]

end Sys2Proof.Machine
end

