-- ==== Sys2Proof/Tests/Helpers.lean ====
section
/-! SUPPORT. Helpers of the witness files: numbers that look random, and the hypotheses that Safety's families of commands carry. -/

namespace Sys2Proof.Tests

open Sys2Proof.Machine

/-- A stretch of numbers that look random, from a seed. -/
def lcg (n : Nat) : Nat := (n * 6364136223846793005 + 1442695040888963407) % 2 ^ 64
def rnds (seed n : Nat) : List Nat :=
  ((List.range n).foldl (fun (a : List Nat × Nat) _ => let k := lcg a.2; ((k / 2 ^ 20) :: a.1, k)) ([], seed)).1

/-- Words at the edges of arithmetic, small words and others. -/
def interesting : List Nat := [0, 1, 2, 0x7FFFFFFF, 0x80000000, 0xFFFFFFFF, 0xFFFFFFFE, 0x80000001, 31, 32, 33, 0x7F800000, 0xFF800000,
  0x7FC01234, 0x7F800055, 0x3F800000, 0xBF800000, 1, 0x80000000, 0x00000FFF, 0x80008000, 0x7FFF7FFF]
def pickW (n : Nat) : Word :=
  if n % 3 = 0 then w32 (interesting.getD (n / 3 % interesting.length) 0) else if n % 3 = 1 then w32 (n / 3) else w32 (n / 3 % 200)

/-- The hypotheses of lineTells, lineGives, callGives, sealGives and sealKeeps. -/
def lineTellsP (ln : Ln) (session : Bool) (bit : Option Nat) (ls : List (Char × Text)) (s : State) : Bool :=
  serialLine ln s && (!session || (sessOf s ln.car).isSome) &&
    (match bit with | some b => partyRight s (partyOf s ln.car) b | none => true) && (ls.all fun q => decide (q.2.length ≤ replyRoom ln))
def lineGivesP (ln : Ln) (a : Act) (s : State) : Bool :=
  let u := lineTaken ln s
  lineAccepted ln s && (sessOf u ln.car).isSome && mayOrder (partyOf u ln.car) (some ln.car) a u && retireApart a u
def callGivesP (core : Fin 4) (svc p : Nat) (arg : Word) (a : Act) (s : State) : Bool :=
  decide (callerOf s core.val svc arg = some p) && mayOrder p none a (callTaken core.val p s)
def sealGivesP (p code : Nat) (j : SealRun) (ok : Bool) (out : Bytes) (s : State) : Bool :=
  sealReady p code j s && ok && Memory.wf 0 s.mem.sram && decide (out.length ≤ descW j 4) && decide (bufCheck s p (descW j 3) out.length = .ok)
def sealKeepsP (p code : Nat) (j : SealRun) (ok : Bool) (n : Nat) (_k : Key) (s : State) : Bool :=
  sealReady p code j s && ok && decide ((vget (s.sealOf p).slot n).ty ≠ .fixed)

/-- In each situation named, at the place named, every clause numbered there has its hypotheses met. -/
def meets (f : Nat → List (List Bool)) (l : List (Nat × Nat × List Nat)) : Bool :=
  l.all fun q => q.2.2.all fun c => ((f q.1).getD q.2.1 []).getD c false

end Sys2Proof.Tests
end

