-- ==== Sys2Proof/Tests/Devices.lean ====
section
/-! SUPPORT. Devices in many states, from a seed, for the witness files. -/

namespace Sys2Proof.Tests

open Sys2Proof Sys2Proof.Machine

set_option linter.unusedVariables false
set_option Elab.async false

def row1 (q : Nat) : Row := { present := 1, rank := 1, placement := 1, modes := q % 8 / 4 * 4 + (q / 8 % 3) * 8, pageQuota := (q / 3) % 4, bankQuota := 4, mirFirst := 16, mirCount := 16 }
def row2 : Row := { present := 1, rank := 2, placement := 1, modes := 0, pageQuota := 1 }
def live (seed : Nat) (infl : Bool) : State :=
  let r := rnds seed 200
  let k := fun i => r.getD i 0
  let adr := fun (n : Nat) => match n % 8 with | 0 => 0x00100000 + n / 8 % 64 * (if n % 3 = 0 then 1 else 8) | 1 => 0x10000000 + n / 8 % 64 * (if n % 3 = 0 then 1 else 8) | 2 => 0x1000 + n / 8 % 64 * (if n % 3 = 0 then 1 else 8) | 3 => 0x30000000 + n / 8 % 64 * 4 | 4 => 0x00107000 + n / 8 % 64 * 8 | 5 => 0x00108000 + n / 8 % 64 * 8 | 6 => 0x10001000 + n/8 % 64 * 8 | _ => 0x5000 + n / 8 % 64 * 8
  let dep := k 160 % 5
  let x : Ctx := { w := (Vector.ofFn (fun i : Fin 64 => if i.val = 0 then {} else ({ v := (if i.val < 8 then w32 (0x10000000 + i.val % 4 * 0x1000) else if i.val < 16 then w32 (k i.val % 8) else if i.val < 20 then w32 (i.val * 4096) else pickW (k i.val)), poison := decide (k (i.val + 60) % 9 = 0) } : WReg))), p := (Vector.ofFn (fun i : Fin 8 => decide (r.getD (100 + i.val) 0 % 2 = 1))), x := (Vector.ofFn (fun i : Fin 17 => w32 (adr (k (70 + i.val))))), acc := (Vector.ofFn (fun i : Fin 8 => BitVec.ofNat 72 (r.getD (110+i.val) 0 * 2^(r.getD (120+i.val) 0 % 30)))), pc := 0x1000, codeLimit := 0x2000, flags := w32 (k 150 % 16 * 65536), seq := 10, infl := (if infl then [⟨9, .w 5 77 false⟩, ⟨10, .w 6 78 false⟩, ⟨12, .w 7 79 false⟩] else []), mlen := #v[0,32,100,64,0,8,256,12], mbase := #v[0,0x100000,0x100000,0x10000000,0,0x1000,0x100008,0x100000], rsdepth := k 161 % 17, rsp := k 162 % 16, rs := (Vector.ofFn (fun i : Fin 16 => pickW (k (130 + i.val)))), ldepth := (if dep > 3 then 0 else dep), le := #v[0x2000,0x1000,0x3000], lc := #v[3,1,1], ls := #v[0x1004, 0x1008,0x1010], spillBase := 0x107000, faultOpen := decide (k 163 % 3 = 0), ie := decide (k 164 % 3 = 0), vec := 0x1100 }
  let s : State := { State.reset with isl := { pairSt := Vector.replicate 2 IslState.run } }
  let s := { s with stw := { s.stw with charter := some { rows := #v[{}, row1 (k 165), row2, {}, {}, {}, {}] } } }
  let s := setPerson 1 (fun p => { p with run := .running, cores := 1 }) s
  let s := setPerson 2 (fun p => { p with run := (if k 169 % 2 = 0 then .dead else .stopped) }) s
  let s := { s with cus := { s.cus with page := ((s.cus.page.setIfInBounds 0 1).setIfInBounds 1 (BitVec.ofNat 4 (k 166 % 3))).setIfInBounds 2 (if k 167 % 2 = 0 then 1 else 0xF), bank := s.cus.bank.setIfInBounds 0 ((Vector.replicate 8 0xF).setIfInBounds 0 1), frame := (Vector.replicate 272 0).setIfInBounds 0 1 } }
  let s := setCore 0 (fun q => { q with cur := 1, dmem := cellsPut 0 q.dmem 0x100000 ((List.range 600).map fun i => BitVec.ofNat 8 (i * 37 + seed)), imem := cellsPut 0 q.imem 0x1000 ((List.range 600).map fun i => BitVec.ofNat 8 (i * 91 + seed)), cand := (if k 168 % 2 = 0 then q.cand else vset q.cand 1 5), fence := k 170 % 3, stamp := 4 + k 171 % 4 }) s
  setCtx 0 1 (fun _ => x) s
def gd (n : Nat) : Guard := if n % 4 = 0 then ⟨BitVec.ofNat 3 (n/4), n / 64 % 2 = 1⟩ else ⟨0, false⟩
def regs (n : Nat) : BitVec 6 := BitVec.ofNat 6 n
def imm (n : Nat) : Imm := match n % 3 with | 0 => .short (regs (n/4 * 4)) | 1 => .ext (regs (n/4)) (BitVec.ofNat 22 (n/1000 % 50)) | _ => .short (regs (n / 5))
def amode (n : Nat) : AMode := match n % 4 with | 0 => .off (imm (n/4)) | 1 => .post (imm (n/4)) | 2 => .pre (imm (n/4)) | _ => .idx (regs (8 + n / 4 % 8))
def dmode (n : Nat) : DMode := match n % 2 with | 0 => .off (imm (n/4)) | _ => .idx (regs (8 + n / 4 % 8))
def lu (n : Nat) : LUnit := if n % 2 = 0 then .l0 else .l1
def ldk (n : Nat) : LdKind := match n % 6 with | 0 => .b | 1 => .bu | 2 => .h | 3 => .hu | 4 => .w | _ => .wp
def stk (n : Nat) : StKind := match n % 4 with | 0 => .b | 1 => .h | 2 => .w | _ => .wp
def nextOf (o : Host.Outcome State Fault Refusal) : Option State := match o with | .next t => some t | _ => none

def pick {α} (l : List α) (d : α) (n : Nat) : α := l.getD (n % l.length) d
/-- A random device. -/
def dev (seed : Nat) : State :=
  let r := rnds (seed * 104729 + 7) 120
  let k := fun i => r.getD i 0
  let b := fun i => decide (k i % 2 = 0)
  let s := live seed (seed % 2 = 0)
  let rt := fun (i : Nat) => if k i % 4 = 0 then 0x1FFFF else k i % 0x20000
  let mk := fun (i : Nat) => ({ present := if k (i+1) % 5 = 0 then 0 else 1, rank := i, placement := 1 + k (i+2) % 15, modes := k (i+3) % 8, rights := rt (i + 4), pageQuota := k (i+5) % 8, bankQuota := 4 + k (i+6) % 4, mirFirst := 8 + 8 * i, mirCount := k (i+7) % 8, moverMask := 3 * 4 ^ (i-1), irqMap := if i = 1 then 2^256-1 else 0, cellMask := 0x0F * 16 ^ (i-1) } : Row)
  let s := { s with
    free := k 0 % 100, secs := k 1 % 1000,
    isl := { s.isl with
      power := pick [.run, .run, .run, .nap, .off, .standby, .starting] .run (k 2), step := pick [10, 10, 10, 0, 3, 4, 6, 7] 10 (k 3),
      porstLow := decide (k 4 % 3 = 0), railsValid := decide (k 5 % 4 ≠ 0), clean := b 6, vstbyLostSeen := b 7, refFault := b 8, refArmed := b 9, refOk := b 10,
      startSeq := pick [0, 5, 65535] 0 (k 11), next := { powerOn := b 12, porst := b 13, wake := b 14, restart := b 15, watchdog := b 16, glitch := b 17, glitchIsland := k 18 % 5 },
      wakeCfg := BitVec.ofNat 4 (k 19), wakeLatch := BitVec.ofNat 32 (k 20 % 128), napDelay := k 21 % 3, opCur := #v[1 + k 22 % 4, 1 + k 23 % 4], opMax := #v[k 24 % 5, k 25 % 5],
      opTarget := #v[if b 26 then some (k 27 % 4) else none, if b 28 then some 2 else none], opHalved := #v[b 29, b 30], opReq := Vector.replicate 2 (Vector.ofFn fun i : Fin 16 => k (31 + i.val % 8) % 8),
      pairSt := #v[pick [.run, .run, .run, .off] .run (k 39), pick [.run, .off, .starting] .run (k 40)], draining := #v[decide (k 41 % 3 = 0), decide (k 42 % 3 = 0)] },
    fuses := { s.fuses with part := if k 43 % 3 = 0 then .an else .ah, counters := s.fuses.counters.set 0 (k 44 % 5), zeroize := decide (k 45 % 5 = 0) },
    snt := { s.snt with vstbyOk := decide (k 46 % 4 ≠ 0), fences := k 47 % 16, rtcValid := b 48, rtcSec := w32 (k 49), rtcFrac := k 50 % 32768, hold := { vstby := decide (k 51 % 5 = 0), order := decide (k 52 % 4 = 0) } },
    stw := { s.stw with charter := if k 53 % 8 = 0 then none else some { rows := #v[{}, mk 1, mk 2, mk 3, mk 4, mk 5, mk 6], feedOwner := Vector.ofFn fun i : Fin 8 => k (54 + i.val) % 3, feedSafe := k 62 % 256 } } }
  let s := [1,2,3,4,5,6].foldl (fun s p => setPerson p (fun q => { q with run := (if (s.row p).present = 1 then pick [.running, .running, .stopped, .dead, .suspended, .handover, .starting, .restarting] .running (k (63 + p)) else .absent), cores := pick [1, 2, 3, 4] 1 (k (70 + p)), lastCores := 1, moveTo := pick [0, 0, 2] 0 (k (76+p)), consent := decide (k (82 + p) % 4 ≠ 0), restarts := k (85 + p) % 5, win := Vector.ofFn fun i => (p * 0x1000, p * 0x1000 + 0x800) }) s) s
  let s := if k 90 % 2 = 0 then setPerson 1 (fun q => { q with run := .running, cores := 1 }) s else s
  { s with port := { s.port with can := Vector.ofFn fun i : Fin 2 => { mode := k (91 + i.val) % 4 } } }
/-- A call waiting on core 0 of a person, with a descriptor at 0x10000000 + 0x1000 * d. -/
def calling (svc : Nat) (arg : Word) (p : Nat) (s : State) : State :=
  let s := setCore 0 (fun k => { k with cur := if k.stamp % 2 = 0 then p else k.cur, sb := [] }) s
  setCtx 0 p (fun x => { x with calls := [{ dest := 5, svc := svc, arg := arg, hold := 0, result := none }] }) s
def gates0 (seed : Nat) (s : State) : State :=
  let r := rnds (seed * 31 + 5) 20
  let k := fun i => r.getD i 0
  let t : StTxn := { core := 0, person := 1, stamp := 3, what := .gran 0x1000000 [(0x10000000, 5)] }
  { s with gates := { s.gates with pairF := #v[if k 0 % 2 = 0 then [] else [t], []], commitQ := #v[if k 1 % 2 = 0 then [] else [t], []] } }

end Sys2Proof.Tests
end

