-- ==== Sys2Proof/WellFormed.lean ====
section
/-! DEFINITION. Which commands can reach the device at all: the ranges of their operands. A syllable may hold any field values: the core itself
judges them (R91). -/

namespace Sys2Proof

/-- Persons are 1 to 6 (R8). -/
def personOk (p : Nat) : Bool := decide (1 ≤ p) && decide (p ≤ 6)

/-- A carrier: chain carriers name a position 1 to 64 and an origin byte (R322, R429), CORE a person. -/
def carOk (c : Carrier) : Bool :=
  match c with
  | .chain n o => decide (1 ≤ n) && decide (n ≤ 64) && decide (o ≤ 255)
  | .core p => personOk p
  | _ => true

/-- Tags are at most 255 (R300). -/
def tagOk (t : Option Nat) : Bool := match t with | some n => decide (n ≤ 255) | none => true

/-- A line's carrier, its tag, and its address. -/
def lnOk (l : Ln) : Bool := carOk l.car && tagOk l.tag && (match l.pos with | some n => decide (n ≤ 64) | none => true)

/-- What OPEN SESSION can name (R313). -/
def sessOk (k : SessArg) : Bool := match k with | .person p => personOk p | .card n => decide (n ≤ 1) | _ => true

/-- A card answers with a certificate of 212 bytes and a signature of 64 (R316). -/
def cardOk (c : Option CardAnswer) : Bool :=
  match c with | some a => decide (a.cert.length = 212) && decide (a.sig.length = 64) | none => true

/-- Characters of a line or string are 7-bit (R300). -/
def textOk (t : Text) : Bool := t.all fun c => decide (c.toNat < 128)

/-- A frame on a segment: up to 1,008 bytes and a tag of 16 (R429). -/
def frameOk (f : Frame) : Bool := decide (f.payload.length ≤ 1008) && decide (f.tag.length = 16)

/-- Bytes of a CAN data length code, classic or FD (R451). -/
def dlcBytes (fdf : Bool) (n : Nat) : Nat := if n ≤ 8 then n else if fdf then [12, 16, 20, 24, 32, 48, 64].getD (n - 9) 64 else 8

/-- A CAN frame (R451): the identifier fits its form, a remote frame has no data. -/
def canOk (f : CanFrame) : Bool :=
  (f.ide || decide (f.id.toNat < 2048)) && decide (f.data.length = if f.rtr then 0 else dlcBytes f.fdf f.dlc.toNat)

/-- A measurement: four classes, at most four discontinuities (R374). -/
def tdrOk (r : Tdr) : Bool := decide (r.cls ≤ 3) && decide (r.disc.length ≤ 4)

/-- Memory errors lie in one of three memories (R162). -/
def upsetsOk (l : List Upset) : Bool := l.all fun u => decide (u.space ≤ 3)

/-- The converter has 24 inputs (R368); a signature has 64 conversions (R373). -/
def averagesOk (l : List Nat) : Bool := decide (l.length = 24)
def samplesOk (l : List Nat) : Bool := decide (l.length = 64)

/-- A register is a word of DEVICE space, or a halfword of the window (R141, R343). -/
def addrOk (a : Nat) : Bool := (decide (0x30000000 ≤ a) && decide (a < 0x30110000) && decide (a % 4 = 0)) || decide (a < 0x800)

/-- Mailbox references (R321). -/
def refOk (n : Nat) : Bool := decide (1 ≤ n) && decide (n ≤ 255)

/-- The operands of a command lie in their ranges. -/
def WellFormed (i : Instr) : Bool :=
  match i with
  | .mainRailsValid => true
  | .porstRelease => true
  | .porstAssert => true
  | .start _ _ => true
  | .watchdogExpiry => true
  | .railFail _ => true
  | .islandGlitch _ _ => true
  | .refFault => true
  | .refCompare _ _ => true
  | .clockCheckArm _ => true
  | .islandPowerOff _ => true
  | .islandDrainTimeout _ => true
  | .gateTransfer _ => true
  | .opChangeDone _ => true
  | .railBelowPoint _ _ => true
  | .napEntry => true
  | .fabricRelock => true
  | .standbyEntry => true
  | .wakeEvent _ => true
  | .sentenceIssue _ up => upsetsOk up
  | .interruptEntry _ => true
  | .resultLand _ => true
  | .sharedLoadData _ up => upsetsOk up
  | .divideResult _ => true
  | .timesliceExpiry _ => true
  | .ldB _ _ _ _ _ _ => true
  | .ldBu _ _ _ _ _ _ => true
  | .ldH _ _ _ _ _ _ => true
  | .ldHu _ _ _ _ _ _ => true
  | .ldW _ _ _ _ _ _ => true
  | .ldWp _ _ _ _ _ _ => true
  | .ldbrH _ _ _ _ _ _ => true
  | .ldbrW _ _ _ _ _ _ => true
  | .ldbrWp _ _ _ _ _ _ => true
  | .ldDB _ _ _ _ _ _ => true
  | .ldDBu _ _ _ _ _ _ => true
  | .ldDH _ _ _ _ _ _ => true
  | .ldDHu _ _ _ _ _ _ => true
  | .ldDW _ _ _ _ _ _ => true
  | .ldDWp _ _ _ _ _ _ => true
  | .stB _ _ _ _ _ _ => true
  | .stH _ _ _ _ _ _ => true
  | .stW _ _ _ _ _ _ => true
  | .stWp _ _ _ _ _ _ => true
  | .stbrH _ _ _ _ _ _ => true
  | .stbrW _ _ _ _ _ _ => true
  | .stbrWp _ _ _ _ _ _ => true
  | .addx _ _ _ _ _ _ => true
  | .addxr _ _ _ _ _ _ => true
  | .movx _ _ _ _ _ => true
  | .mfx _ _ _ _ _ => true
  | .nop _ _ _ => true
  | .movi _ _ _ _ _ => true
  | .add _ _ _ _ _ _ => true
  | .sub _ _ _ _ _ _ => true
  | .adds _ _ _ _ _ _ => true
  | .subs _ _ _ _ _ _ => true
  | .andOp _ _ _ _ _ _ => true
  | .orOp _ _ _ _ _ _ => true
  | .xorOp _ _ _ _ _ _ => true
  | .andn _ _ _ _ _ _ => true
  | .shl _ _ _ _ _ _ => true
  | .shr _ _ _ _ _ _ => true
  | .sra _ _ _ _ _ _ => true
  | .ror _ _ _ _ _ _ => true
  | .min _ _ _ _ _ _ => true
  | .max _ _ _ _ _ _ => true
  | .minu _ _ _ _ _ _ => true
  | .maxu _ _ _ _ _ _ => true
  | .abs _ _ _ _ _ => true
  | .neg _ _ _ _ _ => true
  | .cmpeq _ _ _ _ _ _ => true
  | .cmpne _ _ _ _ _ _ => true
  | .cmplt _ _ _ _ _ _ => true
  | .cmple _ _ _ _ _ _ => true
  | .cmpltu _ _ _ _ _ _ => true
  | .cmpleu _ _ _ _ _ _ => true
  | .cmpgt _ _ _ _ _ _ => true
  | .cmpge _ _ _ _ _ _ => true
  | .pand _ _ _ _ _ _ => true
  | .por _ _ _ _ _ _ => true
  | .pandn _ _ _ _ _ _ => true
  | .pnot _ _ _ _ _ => true
  | .crcStep _ _ _ _ _ _ _ _ => true
  | .par _ _ _ _ => true
  | .parp _ _ _ _ => true
  | .brev _ _ _ _ => true
  | .brevb _ _ _ _ => true
  | .bswap _ _ _ _ => true
  | .clz _ _ _ _ => true
  | .ctz _ _ _ _ => true
  | .popc _ _ _ _ => true
  | .extu _ _ _ _ _ => true
  | .exts _ _ _ _ _ => true
  | .ins _ _ _ _ _ => true
  | .btst _ _ _ _ _ => true
  | .btsti _ _ _ _ _ => true
  | .bseti _ _ _ _ _ => true
  | .bclri _ _ _ _ _ => true
  | .tstp _ _ _ _ => true
  | .clmull _ _ _ _ _ => true
  | .clmulh _ _ _ _ _ => true
  | .br _ _ _ => true
  | .brr _ _ _ => true
  | .call _ _ _ => true
  | .callr _ _ _ => true
  | .ret _ _ => true
  | .reti _ _ => true
  | .loop _ _ _ _ => true
  | .lpop _ _ => true
  | .wait _ _ => true
  | .fenceSl _ _ => true
  | .publish _ _ _ _ => true
  | .mfc _ _ _ _ => true
  | .mtc _ _ _ _ => true
  | .claim _ _ _ _ => true
  | .give _ _ _ _ _ => true
  | .free _ _ _ _ => true
  | .mul _ _ _ _ _ _ => true
  | .mulh _ _ _ _ _ _ => true
  | .mulhu _ _ _ _ _ _ => true
  | .muli _ _ _ _ _ _ => true
  | .mulq31 _ _ _ _ _ _ => true
  | .mul2hq _ _ _ _ _ _ => true
  | .mac _ _ _ _ _ _ => true
  | .macu _ _ _ _ _ _ => true
  | .msu _ _ _ _ _ _ => true
  | .macs _ _ _ _ _ _ => true
  | .mac2h _ _ _ _ _ _ => true
  | .mac2hq _ _ _ _ _ _ => true
  | .msu2h _ _ _ _ _ _ => true
  | .clr _ _ _ _ => true
  | .accw _ _ _ _ _ => true
  | .accp _ _ _ _ _ => true
  | .extr _ _ _ _ _ _ => true
  | .extl _ _ _ _ _ => true
  | .exth _ _ _ _ _ => true
  | .extg _ _ _ _ _ => true
  | .divs _ _ _ _ _ _ => true
  | .divu _ _ _ _ _ _ => true
  | .rems _ _ _ _ _ _ => true
  | .remu _ _ _ _ _ _ => true
  | .divps _ _ _ _ _ _ => true
  | .divpu _ _ _ _ _ _ => true
  | .faddS _ _ _ _ _ _ => true
  | .fsubS _ _ _ _ _ _ => true
  | .fmulS _ _ _ _ _ _ => true
  | .fmaS _ _ _ _ _ _ => true
  | .fmsS _ _ _ _ _ _ => true
  | .fnmaS _ _ _ _ _ _ => true
  | .fdivS _ _ _ _ _ _ => true
  | .fsqrtS _ _ _ _ _ => true
  | .fminS _ _ _ _ _ _ => true
  | .fmaxS _ _ _ _ _ _ => true
  | .fcmpeqS _ _ _ _ _ _ => true
  | .fcmpltS _ _ _ _ _ _ => true
  | .fcmpleS _ _ _ _ _ _ => true
  | .fcmpunS _ _ _ _ _ _ => true
  | .fcvtSW _ _ _ _ _ => true
  | .fcvtSWu _ _ _ _ _ => true
  | .fcvtWS _ _ _ _ _ => true
  | .fcvtWuS _ _ _ _ _ => true
  | .frintS _ _ _ _ _ => true
  | .fabsS _ _ _ _ _ => true
  | .fnegS _ _ _ _ _ => true
  | .fcvtDS _ _ _ _ _ => true
  | .fcvtSD _ _ _ _ _ => true
  | .faddD _ _ _ _ _ _ => true
  | .fsubD _ _ _ _ _ _ => true
  | .fmulD _ _ _ _ _ _ => true
  | .fmaD _ _ _ _ _ _ => true
  | .fdivD _ _ _ _ _ _ => true
  | .fsqrtD _ _ _ _ _ => true
  | .fbar _ _ _ => true
  | .stewardAnswer _ => true
  | .opRequest _ _ => true
  | .standbyConsent _ _ => true
  | .wakeCfg _ _ => true
  | .zeroingDone _ => true
  | .storeBufferDue _ => true
  | .storeCommit _ up => upsetsOk up
  | .storeCustodyFault _ => true
  | .divergence _ _ => true
  | .coreSelftestDone _ _ => true
  | .handover p => personOk p
  | .personDeferredStart p => personOk p
  | .witnessPromote _ _ => true
  | .witnessDemote _ _ => true
  | .witnessMigrate _ _ => true
  | .witnessResume _ _ => true
  | .fenceService _ _ => true
  | .liftService _ _ _ => true
  | .sourceEvent _ _ => true
  | .filterLevelChange _ _ => true
  | .cicClaim _ => true
  | .cicComplete _ _ => true
  | .cicSet _ _ => true
  | .cicClear _ _ => true
  | .holdoffExpiry _ => true
  | .movStart _ _ => true
  | .movStop _ _ => true
  | .movRequest _ => true
  | .movBurstIssue _ up => upsetsOk up
  | .movBurstComplete _ => true
  | .flcKey _ _ => true
  | .program _ => true
  | .eraseSector _ => true
  | .blankCheck _ => true
  | .eraseBank _ => true
  | .flashOpDone _ _ => true
  | .recordAppend _ _ => true
  | .recordRead _ _ => true
  | .recordInfo _ _ => true
  | .stageOpen _ _ => true
  | .stageWrite _ _ => true
  | .stageClose _ _ => true
  | .activate _ _ => true
  | .stageDiscard _ _ => true
  | .selftestResult _ _ => true
  | .selftestBudgetExpiry => true
  | .lineCharacter car _ => carOk car
  | .lineReceived car text => carOk car && textOk text
  | .lineTimeout car => carOk car
  | .lineBreak car => carOk car
  | .baudCr car _ => carOk car
  | .openSession ln k card => lnOk ln && sessOk k && cardOk card
  | .proveSession ln _ => lnOk ln
  | .closeSession ln => lnOk ln
  | .sessionIdleTimeout car => carOk car
  | .lockoutExpiry car => carOk car
  | .readIdentity ln => lnOk ln
  | .readChain ln => lnOk ln
  | .readTime ln => lnOk ln
  | .setTime ln _ _ => lnOk ln
  | .readLifecycle ln => lnOk ln
  | .holdLifecycle ln reason => lnOk ln && textOk reason
  | .releaseLifecycle ln => lnOk ln
  | .commissionLifecycle ln => lnOk ln
  | .enrolLifecycle ln => lnOk ln
  | .retireLifecycle ln => lnOk ln
  | .confirmLifecycle ln => lnOk ln
  | .retireLapse => true
  | .restartDevice ln => lnOk ln
  | .readPerson ln p => lnOk ln && personOk p
  | .startPerson ln p => lnOk ln && personOk p
  | .stopPerson ln p => lnOk ln && personOk p
  | .restartPerson ln p => lnOk ln && personOk p
  | .resumePerson ln p => lnOk ln && personOk p
  | .promotePerson ln p _ => lnOk ln && personOk p
  | .demotePerson ln p _ => lnOk ln && personOk p
  | .migratePerson ln p _ => lnOk ln && personOk p
  | .readCore ln _ => lnOk ln
  | .fenceCore ln _ => lnOk ln
  | .liftCore ln _ _ => lnOk ln
  | .readOppoint ln _ => lnOk ln
  | .setOppoint ln _ _ => lnOk ln
  | .readFeed ln _ => lnOk ln
  | .setFeed ln _ _ => lnOk ln
  | .measureSurvey ln _ => lnOk ln
  | .setBaseline ln _ _ => lnOk ln
  | .writeCharter ln _ _ => lnOk ln
  | .installCharter ln => lnOk ln
  | .readCharter ln => lnOk ln
  | .openBundle ln _ => lnOk ln
  | .writeBundle ln _ _ => lnOk ln
  | .closeBundle ln => lnOk ln
  | .activateBundle ln _ _ => lnOk ln
  | .discardBundle ln => lnOk ln
  | .readBundle ln => lnOk ln
  | .readRecord ln => lnOk ln
  | .readRecordSeq ln _ _ => lnOk ln
  | .readTamper ln _ => lnOk ln
  | .readEvent ln _ => lnOk ln
  | .personNounLine ln p text => lnOk ln && personOk p && textOk text
  | .oruneSend _ _ => true
  | .oruneTake _ _ => true
  | .oruneReply _ _ => true
  | .mailboxReplyTimeout p ref => personOk p && refOk ref
  | .decisionSlotEnd => true
  | .remoteKeepTimer => true
  | .remoteLineTimeout car tag => carOk car && tagOk tag
  | .mirrorUpdate => true
  | .mirrorSnapshot _ => true
  | .freeze => true
  | .unfreeze => true
  | .freezeTimeout => true
  | .stewardSlotPeriod _ => true
  | .cellWrite _ _ => true
  | .cellOrderTimeout _ => true
  | .treeSignal _ _ => true
  | .cellBind _ _ => true
  | .cellTake _ _ => true
  | .cellAnswer _ _ => true
  | .lbTx _ => true
  | .rxRelease => true
  | .lbFlagClear _ => true
  | .treeLeafClear _ _ => true
  | .windowIoRise _ => true
  | .surveyAverage avgs => averagesOk avgs
  | .feedOpen _ => true
  | .feedOver _ => true
  | .feedShort _ => true
  | .signatureDone _ samples => samplesOk samples
  | .tdrMeasureStart => true
  | .tdrAcquisition _ _ => true
  | .tdrMeasurementDone _ r => tdrOk r
  | .tdrMeasurementAbandon _ => true
  | .starvedTimeout _ => true
  | .canPartnerTimeout _ => true
  | .srvFifoRead _ _ => true
  | .rtcSecond => true
  | .sntRtcSecLoad _ => true
  | .sntRtcFracLoad _ => true
  | .rcCheck _ => true
  | .x32Fault => true
  | .tempSample _ => true
  | .caseChange _ _ => true
  | .meshEvent _ => true
  | .vstbyLoss _ => true
  | .sentinelPowerUp => true
  | .tamperCopy => true
  | .rtcAlarm _ _ => true
  | .scallSetTime _ _ => true
  | .tamperRead _ _ => true
  | .aesEcbEncrypt p => personOk p
  | .aesEcbDecrypt p => personOk p
  | .aesCbcEncrypt p => personOk p
  | .aesCbcDecrypt p => personOk p
  | .aesCtr p => personOk p
  | .aesGcmEncrypt p => personOk p
  | .aesGcmDecrypt p => personOk p
  | .aesCmac p => personOk p
  | .sha256 p => personOk p
  | .sha384 p => personOk p
  | .hmacSha256 p => personOk p
  | .hmacSha384 p => personOk p
  | .ecdsaSign p => personOk p
  | .ecdsaVerify p => personOk p
  | .ecdh p => personOk p
  | .keyPublic p => personOk p
  | .keyGenerate p => personOk p
  | .keyImport p => personOk p
  | .keyErase p => personOk p
  | .keyDerive p => personOk p
  | .random p => personOk p
  | .sealJobDone p => personOk p
  | .rngHealthFail => true
  | .rngHealthRecover => true
  | .debugUnlock _ => true
  | .helloTimer _ => true
  | .hello _ f => frameOk f
  | .cap _ f => frameOk f
  | .chainClaim _ f => frameOk f
  | .claimTimer => true
  | .headElectionTimeout => true
  | .topo _ f => frameOk f
  | .topoTimer => true
  | .topoTimeout => true
  | .join _ f => frameOk f
  | .assign _ f => frameOk f
  | .refuse _ f => frameOk f
  | .loss _ f => frameOk f
  | .oruneFrame _ f => frameOk f
  | .frameForward _ f _ => frameOk f
  | .storedFrameSend _ => true
  | .gapTimer => true
  | .gapReceived _ => true
  | .linkTimeout _ => true
  | .rekeyTimer => true
  | .keyRetryTimer _ => true
  | .canModeWrite _ _ _ => true
  | .canTxRequest _ _ _ => true
  | .canCancel _ _ _ => true
  | .canFrameReceived _ f => canOk f
  | .canTxDone _ _ => true
  | .canBusOff _ => true
  | .canBusoffRecovery _ => true
  | .canClockResume _ => true
  | .crdActivate _ _ => true
  | .crdDeactivate _ _ => true
  | .crdSend _ _ _ => true
  | .crdCancel _ _ => true
  | .crdTx _ _ _ => true
  | .crdRx _ _ => true
  | .cardByteRx _ _ => true
  | .cardTransferDone _ _ => true
  | .cardTimeout _ => true
  | .noAtr _ => true
  | .cardClassRetry _ => true
  | .cardOvercurrent _ => true
  | .cardInsert _ => true
  | .cardRemove _ => true
  | .senseEdge _ _ _ => true
  | .snsFifo _ _ => true
  | .snsMarkSec _ => true
  | .feedOn _ _ => true
  | .feedOff _ _ => true
  | .uartRxByte _ _ => true
  | .uartBreak _ => true
  | .uartTx _ _ _ => true
  | .uartRx _ _ => true
  | .spiStart _ _ _ => true
  | .spiStop _ _ => true
  | .spiTx _ _ _ => true
  | .spiRx _ _ => true
  | .spiTransferDone _ => true
  | .spiStallTimeout _ => true
  | .registerWrite _ addr _ => addrOk addr
  | .oneMsAverage avgs => averagesOk avgs
  | .converterScan vals => averagesOk vals
  | .x32Return => true
  | .meshRestored => true
  | .windowIoFall => true
  | .restartWindowExpiry p => personOk p
  | .cardSessionTimeout _ => true
  | .canPresenceLapse _ => true
  | .canBusError _ _ => true
  | .uartByteSent _ => true
  | .spiFrameDone _ _ => true

end Sys2Proof
end

