-- ==== Sys2Proof/Tests/Slice0.lean ====
section
/-! SUPPORT. Tests: an ill-formed command for each check of WellFormed, syllables written out bit by bit from R64, the worked cases of
the spec, and witnesses for the statements whose hypotheses are few. -/

namespace Sys2Proof.Tests

open Sys2Proof Sys2Proof.Machine

set_option Elab.async false

/-! ### WellFormed refuses -/

def hst : Ln := { car := .hst, tag := some 8, sfx := true, pos := none }
def frame0 (payload tag : Nat) : Frame :=
  { type := 1, dst := 0, src := 0, hops := 1, epoch := 0, segseq := 1, payload := List.replicate payload 0, tag := List.replicate tag 0, ending := .whole }

theorem test_wf_person : WellFormed (.aesCtr 0) = false ∧ WellFormed (.aesCtr 7) = false ∧ WellFormed (.aesCtr 6) = true := by decide +kernel
theorem test_wf_carrier : WellFormed (.lineTimeout (.chain 65 0)) = false ∧ WellFormed (.lineTimeout (.chain 1 256)) = false ∧
    WellFormed (.lineTimeout (.core 0)) = false ∧ WellFormed (.lineTimeout (.chain 64 255)) = true := by decide +kernel
theorem test_wf_line : WellFormed (.readTime { hst with tag := some 256 }) = false ∧ WellFormed (.readTime { hst with pos := some 65 }) = false ∧
    WellFormed (.readTime hst) = true := by decide +kernel
theorem test_wf_session : WellFormed (.openSession hst (.person 0) none) = false ∧ WellFormed (.openSession hst (.card 2) none) = false ∧
    WellFormed (.openSession hst (.card 1) (some { cert := [], sig := [] })) = false ∧ WellFormed (.openSession hst .workshop none) = true := by
  decide +kernel
theorem test_wf_text : WellFormed (.lineReceived .svc [Char.ofNat 200]) = false ∧ WellFormed (.lineReceived .svc (tx "READ TIME")) = true := by
  decide +kernel
theorem test_wf_frame : WellFormed (.hello .chu (frame0 1009 16)) = false ∧ WellFormed (.hello .chu (frame0 16 15)) = false ∧
    WellFormed (.hello .chu (frame0 1008 16)) = true := by decide +kernel
theorem test_wf_can :
    WellFormed (.canFrameReceived 0 { id := 2048, ide := false, fdf := false, brs := false, rtr := false, dlc := 0, data := [] }) = false ∧
    WellFormed (.canFrameReceived 0 { id := 1, ide := false, fdf := true, brs := true, rtr := false, dlc := 9, data := [1] }) = false ∧
    WellFormed (.canFrameReceived 0 { id := 2048, ide := true, fdf := false, brs := false, rtr := false, dlc := 1, data := [1] }) = true := by
  decide +kernel
theorem test_wf_measurement : WellFormed (.tdrMeasurementDone 0 { cls := 4, len := 0, rho := 0, disc := [] }) = false ∧
    WellFormed (.tdrMeasurementDone 0 { cls := 1, len := 0, rho := 0, disc := List.replicate 5 (1, 0) }) = false := by decide +kernel
theorem test_wf_upset : WellFormed (.sentenceIssue 0 [⟨4, 0, 0, true⟩]) = false ∧ WellFormed (.sentenceIssue 0 [⟨2, 0, 0, true⟩]) = true := by
  decide +kernel
theorem test_wf_averages : WellFormed (.surveyAverage (List.replicate 23 0)) = false ∧ WellFormed (.surveyAverage (List.replicate 24 0)) = true := by
  decide +kernel
theorem test_wf_samples : WellFormed (.signatureDone 0 (List.replicate 63 0)) = false := by decide +kernel
theorem test_wf_register : WellFormed (.registerWrite .host 0x800 0) = false ∧ WellFormed (.registerWrite (.core 0) 0x30000002 0) = false ∧
    WellFormed (.registerWrite (.core 0) 0x30000004 0) = true := by decide +kernel
theorem test_wf_reference : WellFormed (.mailboxReplyTimeout 1 0) = false ∧ WellFormed (.mailboxReplyTimeout 1 256) = false := by decide +kernel
theorem test_wf_remote_tag : WellFormed (.remoteLineTimeout .hst (some 256)) = false := by decide +kernel

/-! ### Syllables bit by bit: full-stop, unit, opcode, destination, source 1, source 2, predicate, invert (R64) -/

def bits (l : List (Nat × Nat)) : Word := BitVec.ofNat 32 (l.foldl (fun n q => n * 2 ^ q.1 + q.2) 0)
def word (fs u o d a b p i : Nat) : Word := bits [(1, fs), (3, u), (6, o), (6, d), (6, a), (6, b), (3, p), (1, i)]
def g0 : Guard := { p := 0, inv := false }

theorem test_word_layout : word 1 4 1 3 1 2 0 0 = 0b11000000010000110000010000100000 := by decide +kernel
/-- ADD w3,w1,w2 on A0: opcode 0x01 (table of 04). -/
theorem test_decode_add : decodeSentence [word 1 4 1 3 1 2 0 0] true =
    oneSyllable { unit := .a0, op := .add, mode := .off, d := 3, s1 := 1, s2 := .reg 2, guard := g0 } := by decide +kernel
/-- ORI w3,w1,63 on A1 under not p5: opcode 0x26. -/
theorem test_decode_ori : decodeSentence [word 1 5 0x26 3 1 63 5 1] true =
    oneSyllable { unit := .a1, op := .orOp, mode := .off, d := 3, s1 := 1, s2 := .imm (.short 63), guard := { p := 5, inv := true } } := by decide +kernel
/-- LD.W w5,[x1],4 on L0, POST: opcode 0x08 + 4. -/
theorem test_decode_load : decodeSentence [word 1 0 0x0C 5 1 4 0 0] true =
    oneSyllable { unit := .l0, op := .ldW, mode := .post, d := 5, s1 := 1, s2 := .imm (.short 4), guard := g0 } := by decide +kernel
/-- The case of 03: ADDX x1,x1,-384 on L1 takes the extension word 0x9FFF_FFE8. -/
theorem test_decode_long_offset : decodeSentence [word 0 1 6 1 1 0 0 0, 0x9FFFFFE8] true =
    oneSyllable { unit := .l1, op := .addx, mode := .off, d := 1, s1 := 1, s2 := .imm (.ext 0 0x3FFFE8), guard := g0 } := by decide +kernel
theorem test_long_offset : immValue false (.ext 0 0x3FFFE8) = some 0xFFFFFE80 := by decide +kernel
/-- MUL w6,w1,w2 on M0: opcode 0x01. -/
theorem test_decode_mul : decodeSentence [word 1 2 1 6 1 2 0 0] true =
    oneSyllable { unit := .m0, op := .mul, mode := .off, d := 6, s1 := 1, s2 := .reg 2, guard := g0 } := by decide +kernel
/-- CRCW.P32R w4,w4,w5: opcode 0b0_10_1_10 (the case of 04). -/
theorem test_decode_crc : decodeSentence [word 1 6 0b010110 4 4 5 0 0] true =
    oneSyllable { unit := .c, op := .crc .p32 true 2, mode := .off, d := 4, s1 := 4, s2 := .reg 5, guard := g0 } := by decide +kernel
/-- BRR w7: opcode 0x01 of the B unit. -/
theorem test_decode_brr : decodeSentence [word 1 7 1 0 7 0 0 0] true =
    oneSyllable { unit := .b, op := .brr, mode := .off, d := 0, s1 := 7, s2 := .reg 0, guard := g0 } := by decide +kernel
/-- Opcode 0x13 of the A units is reserved. -/
theorem test_decode_reserved : (decodeSentence [word 1 4 0x13 0 0 0 0 0] true).bad = some 0 := by decide +kernel

/-! ### The spec's worked cases -/

/-- R109: MOVI w9,-1 writes 0xFFFF_FFFF. -/
theorem test_movi_minus_one : immValue false (.short 63) = some 0xFFFFFFFF := by decide +kernel
/-- The case of 05: cycles, quotients, remainders, flags. -/
theorem test_divider_cycles : [divCycles 1000 7, divCycles 5 100, divCycles 0x7FFFFFFF 3, divCycles (2 ^ 31) 1, divCycles 12345 0, divCycles 1 0,
    divCycles 0xFFFFFFFF 0] = [7, 4, 18, 19, 11, 4, 20] := by decide +kernel
theorem test_divider_results : divSigned 1000 7 = { q := 142, r := 6, fl := {} } ∧ (divUnsigned 0x7FFFFFFF 3).q = 0x2AAAAAAA ∧
    divSigned 0x80000000 0xFFFFFFFF = { q := 0x80000000, r := 0, fl := { ovf := true } } ∧
    (divUnsigned 12345 0).q = 0xFFFFFFFF ∧ (divSigned 0xFFFFFFFF 0).q = 0x80000000 ∧ (divSigned 0xFFFFFFFF 0).fl = { divz := true } := by
  decide +kernel
/-- The case of 04: the CRC-8 of "12". -/
theorem test_crc8 : cCrc .p8 false 0 (cCrc .p8 false 0 0 0x31) 0x32 = 0x72 := by decide +kernel
/-- The case of 04: the CRC-32 of "123456789". -/
theorem test_crc32 : cCrc .p32 true 0 (cCrc .p32 true 2 (cCrc .p32 true 2 0xFFFFFFFF 0x34333231) 0x38373635) 0x39 ^^^ 0xFFFFFFFF = 0xCBF43926 := by
  decide +kernel
/-- The case of 05: NaN payloads. -/
theorem test_nan_payloads : fAdd f32 .even false 0x7FC01234 0x7F800055 = (0x7FC01234, { nv := true }) ∧
    fMul f32 .even false 0x3F800000 0x7F800055 = (0x7FC00055, { nv := true }) := by decide +kernel

/-- A context of the case of 04 on bit-reversed reads, x0 at an offset. -/
def brCtx (o : Nat) : Ctx :=
  { x := vset (Vector.replicate 17 0) 0 (w32 (0x112000 + o)), mbase := vset (Vector.replicate 8 0) 0 0x112000, mlen := vset (Vector.replicate 8 0) 0 32 }
theorem test_bit_reversed : [0x00, 0x10, 0x08, 0x18, 0x04, 0x14, 0x0C, 0x1C].map (fun o => (brupd (brCtx o) 0 16 4).toNat - 0x112000) =
    [0x10, 0x08, 0x18, 0x04, 0x14, 0x0C, 0x1C, 0x00] := by decide +kernel

/-- FIPS 197, appendix C.1. -/
theorem test_aes128 : ecbEnc ((List.range 16).map fun i => BitVec.ofNat 8 i) ((List.range 16).map fun i => BitVec.ofNat 8 (17 * i)) =
    [0x69, 0xC4, 0xE0, 0xD8, 0x6A, 0x7B, 0x04, 0x30, 0xD8, 0xCD, 0xB7, 0x80, 0x70, 0xB4, 0xC5, 0x5A] := by decide +kernel

/-- The case of 13: a device with a session on HST. -/
def withSession : State :=
  let s := State.reset
  { s with isl := { s.isl with power := .run, step := 10 }, win := { s.win with state := 3 },
           oru := { s.oru with cars := [{ car := .hst, sess := some { party := 1 } }] } }
def outOf (i : Instr) : Option Text := (nextOf (exec i withSession)).map fun t => (t.car .hst).out
theorem test_line_check_fails : outOf (.lineReceived .hst (tx "8 CLO SAS*92")) = some (tx "- E102 CHECK*F0" ++ crlf) := by decide +kernel
theorem test_line_check_passes : outOf (.lineReceived .hst (tx "8 CLO SES*92")) = some (tx "+8*91" ++ crlf) := by decide +kernel

/-! ### Reset and the queue -/

theorem test_reset : State.reset.pending = [] ∧ State.reset.life = 1 ∧ step State.reset = .next State.reset := ⟨rfl, by decide +kernel, rfl⟩
theorem test_queue : step { State.reset with pending := [.lpop 0 g0] } = exec (.lpop 0 g0) State.reset := rfl

/-! ### Witnesses of statements with few hypotheses -/

/-- NanOperandsGiveTheFirstQuieted, each operand the NaN. -/
theorem witness_NanOperands : (0x7F800055 < 2 ^ 32 ∧ 0x3F800000 < 2 ^ 32) ∧ 0x7F800055 / 2 ^ 23 % 2 ^ 8 = 255 ∧ 0x7F800055 % 2 ^ 23 ≠ 0 := by decide

/-- StoredBytesReadBack: an address before and one behind the bytes, and another core. -/
theorem witness_StoredBytes : (0 < 4 ∧ Memory.wf 0 (State.reset.core 0).dmem = true) ∧ (0xFFF < 0x1000 ∨ 0x1000 + 2 ≤ 0xFFF) ∧
    (0x1002 < 0x1000 ∨ 0x1000 + 2 ≤ 0x1002) ∧ 3 ≠ 0 := by decide +kernel

/-- The syllable of an ADD on A0 of core 0. -/
def addSyl (s1 : BitVec 6) (s2 : Src2) (g : Guard) : Syl := { unit := .a0, op := .add, mode := .off, d := 3, s1 := s1, s2 := s2, guard := g }

/-- FalseGuardDoesNothing. -/
theorem witness_FalseGuard : (∀ s, exec (.add 0 .a0 3 1 (.reg 2) ⟨0, true⟩) s = .next (issueOne 0 (addSyl 1 (.reg 2) ⟨0, true⟩) s)) ∧
    (oneSyllable (addSyl 1 (.reg 2) ⟨0, true⟩)).bad = none ∧ quiet 0 1 (live 0 false) = true ∧ guardHolds 0 ⟨0, true⟩ (live 0 false) = false :=
  ⟨fun _ => rfl, by decide +kernel, by decide +kernel, by decide +kernel⟩

/-- PoisonedSourceFaults: w14 is poisoned. -/
theorem witness_PoisonedSource : (∀ s, exec (.add 0 .a0 3 14 (.reg 2) g0) s = .next (issueOne 0 (addSyl 14 (.reg 2) g0) s)) ∧
    (oneSyllable (addSyl 14 (.reg 2) g0)).bad = none ∧ quiet 0 1 (live 0 false) = true ∧ guardHolds 0 g0 (live 0 false) = true ∧
    mayFault 0 (live 0 false) = true ∧
    (sourcesOf (addSyl 14 (.reg 2) g0)).find? (fun q => match q with | .w j => (seen 0 (live 0 false)).poisoned j.toNat | _ => false) = some (.w 14) :=
  ⟨fun _ => rfl, by decide +kernel, by decide +kernel, by decide +kernel, by decide +kernel, by decide +kernel⟩

/-- IllegalSyllableFaults: widening mode 0b11. -/
theorem witness_IllegalSyllable : (∀ s, exec (.add 0 .a0 3 1 (.imm (.ext 0x30 0)) g0) s = .next (issueOne 0 (addSyl 1 (.imm (.ext 0x30 0)) g0) s)) ∧
    sylOk (addSyl 1 (.imm (.ext 0x30 0)) g0) = false ∧ quiet 0 2 (live 0 false) = true ∧ mayFault 0 (live 0 false) = true :=
  ⟨fun _ => rfl, by decide +kernel, by decide +kernel, by decide +kernel⟩

/-- ConversionToIntegerLimits: a NaN, an infinity, and a value in range that raises no NV. -/
theorem witness_Conversion : ((-2147483648 : Int) ≤ 2147483647) ∧ (∃ a b c, unpack f32 false 0x7FC00000 = .nan a b c) ∧
    (∃ n, unpack f32 false 0x7F800000 = .inf n) ∧ (∃ n m e, unpack f32 false 0x3F800000 = .fin n m e) ∧
    (fToInt f32 .even false (-2147483648) 2147483647 0x3F800000).2.nv = false :=
  ⟨by decide, ⟨_, _, _, rfl⟩, ⟨_, rfl⟩, ⟨_, _, _, rfl⟩, by decide +kernel⟩

/-- AddressUpdatesFollowTheBuffer: plain, modulo, plain and bit-reversed updates. -/
theorem witness_AddressUpdates : (vget (brCtx 0).mlen 1).toNat = 0 ∧ (vget (brCtx 0).mlen 0).toNat ≠ 0 ∧ (vget (brCtx 0).mlen 1).toNat < 2 * 4 ∧
    0 < 4 ∧ 2 * 4 ≤ (vget (brCtx 0).mlen 0).toNat := by decide +kernel

/-- NextSentenceFollowsBranchesAndLoops: a context for each of its six clauses. -/
def flowCtx (k : Nat) : Ctx :=
  let t : Ctx := { pc := 0x40, le := vset (Vector.replicate 3 0) 0 0x40, lc := vset (Vector.replicate 3 0) 0 (if k = 5 then 1 else 2) }
  match k with
  | 0 => { t with br := some { target := 0x80, left := 2, kind := .flow } }
  | 1 => { t with br := some { target := 0x80, left := 1, kind := .flow } }
  | 2 => t
  | 3 => { t with ldepth := 1, pc := 0x44 }
  | _ => { t with ldepth := 1 }
theorem witness_NextSentence :
    (∃ b, (flowCtx 0).br = some b ∧ b.left = 2) ∧ (∃ b, (flowCtx 1).br = some b ∧ b.left = 1 ∧ b.kind = .flow) ∧
    ((flowCtx 2).br = none ∧ (flowCtx 2).ldepth = 0) ∧
    ((flowCtx 3).br = none ∧ 0 < (flowCtx 3).ldepth ∧ vget (flowCtx 3).le 0 ≠ (flowCtx 3).pc) ∧
    ((flowCtx 4).br = none ∧ vget (flowCtx 4).le 0 = (flowCtx 4).pc ∧ 1 < (vget (flowCtx 4).lc 0).toNat) ∧
    ((flowCtx 5).br = none ∧ (flowCtx 5).ldepth = 1 ∧ vget (flowCtx 5).le 0 = (flowCtx 5).pc ∧ (vget (flowCtx 5).lc 0).toNat ≤ 1) :=
  ⟨⟨_, rfl, rfl⟩, ⟨_, rfl, rfl, rfl⟩, by decide +kernel, by decide +kernel, by decide +kernel, by decide +kernel⟩

/-- ControlRegisterTable: the first and the last number of each range. -/
theorem witness_ControlRegisters : (0 < 3 ∧ 2 < 3) ∧ (0 < 9 ∧ 8 < 9) ∧ 0 < 8 ∧ 7 < 8 := by decide

/-- LaterResultsAreNotSeenEarly: sentence 10 issues, latency 2; sentence 11 does not see the result, sentence 12 does. -/
theorem witness_LaterResults : (2 ≤ 2 ∧ 10 ≤ ({ seq := 11 } : Ctx).seq ∧ ({ seq := 11 } : Ctx).seq < 10 + 2) ∧
    (({ seq := 12 } : Ctx).infl = [] ∧ 10 + 2 ≤ ({ seq := 12 } : Ctx).seq ∧ 63 < 64) := by decide +kernel

/-- EveryStepKeepsMemoriesCanonical and StepRuns: the device at reset. -/
theorem witness_Step : memoriesCanonical State.reset ∧ step State.reset = .next State.reset ∧ State.reset.pending = [] := by
  refine ⟨⟨by decide +kernel, by decide +kernel, ?_⟩, rfl, rfl⟩
  decide +kernel

/-- SyllablesEncodeAndDecode: the ADD above, and its word back. -/
theorem witness_Encode : opcodeOf .a0 1 = some (.add, .off, false) ∧ decodeSyl (word 1 4 1 3 1 2 0 0) none = some (addSyl 1 (.reg 2) g0) ∧
    wFullStop (word 1 4 1 3 1 2 0 0) = true ∧
    decodeSyl (word 0 1 6 1 1 0 0 0) (some 0x9FFFFFE8) = some { unit := .l1, op := .addx, mode := .off, d := 1, s1 := 1, s2 := .imm (.ext 0 0x3FFFE8), guard := g0 } ∧
    wIsExt 0x9FFFFFE8 = true ∧ wUnit 0x9FFFFFE8 = wUnit (word 0 1 6 1 1 0 0 0) := by decide +kernel

end Sys2Proof.Tests
end

