-- ==== Sys2Proof/Tests/WitnessArithmetic.lean ====
section
/-! SUPPORT. Witnesses: the hypotheses of the statements about arithmetic, met. -/

namespace Sys2Proof.Tests.A

open Sys2Proof Sys2Proof.Machine Sys2Proof.Tests

set_option linter.unusedVariables false
set_option Elab.async false

/-- The hypotheses of the clauses of ArithmeticSyllablesCompute, in their order. -/
def premArithmeticSyllablesCompute (c : Fin 4) (u : AUnit) (d s1 r : BitVec 6) (im : Imm) (s2 : Src2) (g : Guard) (s : State) : List Bool :=
  let n := src2Len s2
  let k := src2Len (.imm im)
  [decide ((ready c 1 g [] s = true)),
   decide ((ready c 1 g [s1.toNat] s = true)),
   decide ((ready c n g (s1.toNat :: src2Regs s2) s = true) ∧ (src2Ok false s2 = true)),
   decide ((ready c k g [s1.toNat] s = true) ∧ (src2Ok false (.imm im) = true)),
   decide ((ready c k g [] s = true) ∧ (src2Ok false (.imm im) = true)),
   decide ((ready c 1 g [s1.toNat, r.toNat] s = true))]

/-- The hypotheses of the clauses of LogicAndShiftSyllablesCompute, in their order. -/
def premLogicAndShiftSyllablesCompute (c : Fin 4) (u : AUnit) (d s1 q : BitVec 6) (s2 : Src2) (g : Guard) (s : State) : List Bool :=
  let n := src2Len s2
  [decide ((ready c n g (s1.toNat :: src2Regs s2) s = true) ∧ (src2Ok true s2 = true)),
   decide ((ready c 1 g [s1.toNat, q.toNat] s = true))]

/-- The hypotheses of the clauses of CompareSyllablesWritePredicates, in their order. -/
def premCompareSyllablesWritePredicates (c : Fin 4) (u : AUnit) (d s1 : BitVec 6) (s2 : Src2) (g : Guard) (s : State) : List Bool :=
  let n := src2Len s2
  [decide ((ready c n g (s1.toNat :: src2Regs s2) s = true) ∧ (d.toNat ≤ 7) ∧ (src2Ok false s2 = true)),
   decide ((ready c n g (s1.toNat :: src2Regs s2) s = true) ∧ (d.toNat ≤ 7) ∧ (src2Ok true s2 = true))]

/-- The hypotheses of the clauses of PredicateSyllablesCompute, in their order. -/
def premPredicateSyllablesCompute (c : Fin 4) (u : AUnit) (d s1 s2 : BitVec 6) (g : Guard) (s : State) : List Bool :=
  [decide ((ready c 1 g [] s = true) ∧ (d.toNat ≤ 7) ∧ (s1.toNat ≤ 7)),
   decide ((ready c 1 g [] s = true) ∧ (d.toNat ≤ 7) ∧ (s1.toNat ≤ 7) ∧ (s2.toNat ≤ 7))]

/-- The hypotheses of the clauses of CheckAndBitSyllablesCompute (part 1), in their order. -/
def premBitSyllablesCompute (c : Fin 4) (d s1 : BitVec 6) (g : Guard) (s : State) : List Bool :=
  [decide (ready c 1 g [s1.toNat] s = true),
   decide (ready c 1 g [s1.toNat] s = true ∧ d.toNat ≤ 7),
   decide (ready c 1 g [s1.toNat] s = true)]

/-- The hypotheses of the clauses of TstpReadsPoison, in their order. -/
def premTstpReadsPoison (c : Fin 4) (d s1 : BitVec 6) (g : Guard) (s : State) : List Bool :=
  [decide ((ready c 1 g [] s = true) ∧ (d.toNat ≤ 7))]

/-- The hypotheses of the clauses of CheckAndBitSyllablesCompute (part 3), in their order. -/
def premFieldSyllablesCompute (c : Fin 4) (d s1 s2 : BitVec 6) (im : Imm) (g : Guard) (s : State) : List Bool :=
  let m := src2Len (.imm im)
  [decide (ready c 1 g [s1.toNat, s2.toNat] s = true),
   decide (ready c 1 g [s1.toNat, s2.toNat] s = true ∧ d.toNat ≤ 7),
   decide (ready c 1 g [s1.toNat, s2.toNat] s = true),
   decide (ready c 1 g [s1.toNat, s2.toNat, d.toNat] s = true),
   decide (ready c m g [s1.toNat] s = true ∧ src2Ok true (.imm im) = true ∧ d.toNat ≤ 7),
   decide (ready c m g [s1.toNat] s = true ∧ src2Ok true (.imm im) = true)]

/-- The hypotheses of the clauses of CyclicCheckStepRunsTheLoop, in their order. -/
def premCyclicCheckStepRunsTheLoop (c : Fin 4) (p : CrcPoly) (refl : Bool) (ww : BitVec 2) (d s1 s2 : BitVec 6) (g : Guard) (s : State) : List Bool :=
  [decide ((ready c 1 g [s1.toNat, s2.toNat] s = true) ∧ (ww ≠ 3))]

/-- The hypotheses of the clauses of ProductSyllablesCompute, in their order. -/
def premProductSyllablesCompute (c : Fin 4) (u : MUnit) (d s1 s2 : BitVec 6) (im : Imm) (g : Guard) (s : State) : List Bool :=
  [decide ((ready c 1 g [s1.toNat, s2.toNat] s = true)),
   decide ((ready c (src2Len (.imm im)) g [s1.toNat] s = true) ∧ (src2Ok false (.imm im) = true))]

/-- The hypotheses of the clauses of AccumulatingSyllablesCompute, in their order. -/
def premAccumulatingSyllablesCompute (c : Fin 4) (u : MUnit) (d s1 s2 : BitVec 6) (g : Guard) (s : State) : List Bool :=
  [decide ((ready c 1 g [s1.toNat, s2.toNat] s = true) ∧ (d.toNat ≤ 7))]

/-- The hypotheses of the clauses of AccumulatorMovesCompute, in their order. -/
def premAccumulatorMovesCompute (c : Fin 4) (u : MUnit) (d s1 sh : BitVec 6) (g : Guard) (s : State) : List Bool :=
  [decide ((ready c 1 g [] s = true) ∧ (d.toNat ≤ 7)),
   decide ((ready c 1 g [s1.toNat] s = true) ∧ (d.toNat ≤ 7)),
   decide ((ready c 1 g (pairRegs s1) s = true) ∧ (d.toNat ≤ 7)),
   decide ((ready c 1 g [] s = true) ∧ (s1.toNat ≤ 7))]

/-- The hypotheses of the clauses of DividesRunForTheirCycles, in their order. -/
def premDividesRunForTheirCycles (c : Fin 4) (d s1 s2 : BitVec 6) (g : Guard) (s : State) : List Bool :=
  let x := seen c s
  let b := x.rw s2.toNat
  [decide ((ready c 1 g [s1.toNat, s2.toNat] s = true) ∧ ((x.flags.getLsbD 19 = false ∨ b ≠ 0)))]

/-- The hypotheses of the clauses of SingleSyllablesCompute, in their order. -/
def premSingleSyllablesCompute (c : Fin 4) (u : MUnit) (d s1 s2 : BitVec 6) (g : Guard) (s : State) : List Bool :=
  [decide ((ready c 1 g [s1.toNat, s2.toNat] s = true)),
   decide ((ready c 1 g [s1.toNat, s2.toNat, d.toNat] s = true)),
   decide ((ready c 1 g [s1.toNat] s = true)),
   decide ((ready c 1 g (pairRegs s1) s = true))]

/-- The hypotheses of the clauses of SingleConversionsAndCompares, in their order. -/
def premSingleConversionsAndCompares (c : Fin 4) (u : MUnit) (d s1 s2 : BitVec 6) (g : Guard) (s : State) : List Bool :=
  let x := seen c s
  let rm := flagsRm x.flags
  let z := flagsFtz x.flags
  let w := x.rw s1.toNat
  let a := w.toNat
  let b := (x.rw s2.toNat).toNat
  let ri := fToInt f32 rm z (-(2 ^ 31)) (2 ^ 31 - 1) a
  let ru := fToInt f32 rm z 0 (2 ^ 32 - 1) a
  let sn := fun v => decide (v / 2 ^ 23 % 2 ^ 8 = 255) && decide (v % 2 ^ 23 ≠ 0) && decide (v / 2 ^ 22 % 2 = 0)
  let nan := fun v => decide (v / 2 ^ 23 % 2 ^ 8 = 255) && decide (v % 2 ^ 23 ≠ 0)
  let sig : Sticky := { nv := sn a || sn b }
  let any : Sticky := { nv := nan a || nan b }
  [decide ((ready c 1 g [s1.toNat] s = true)),
   decide ((ready c 1 g [s1.toNat] s = true) ∧ (fpGoes c ri.2 s = true)),
   decide ((ready c 1 g [s1.toNat] s = true) ∧ (fpGoes c ru.2 s = true)),
   decide ((ready c 1 g [s1.toNat, s2.toNat] s = true) ∧ (d.toNat ≤ 7) ∧ (fpGoes c sig s = true)),
   decide ((ready c 1 g [s1.toNat, s2.toNat] s = true) ∧ (d.toNat ≤ 7) ∧ (fpGoes c any s = true))]

/-- The hypotheses of the clauses of DoubleSyllablesCompute, in their order. -/
def premDoubleSyllablesCompute (c : Fin 4) (u : MUnit) (d s1 s2 : BitVec 6) (g : Guard) (s : State) : List Bool :=
  [decide ((ready c 1 g (pairRegs s1 ++ pairRegs s2) s = true)),
   decide ((ready c 1 g (pairRegs s1 ++ pairRegs s2 ++ pairRegs d) s = true)),
   decide ((ready c 1 g (pairRegs s1) s = true)),
   decide ((ready c 1 g [s1.toNat] s = true)),
   decide ((ready c 1 g [] s = true))]

def live (seed : Nat) (infl : Bool) : State :=
  let r := rnds seed 200
  let x : Ctx := { w := (Vector.ofFn (fun i : Fin 64 => ({ v := pickW (r.getD i.val 0) } : WReg))), p := (Vector.ofFn (fun i : Fin 8 => decide (r.getD (100 + i.val) 0 % 2 = 1))), x := (Vector.ofFn (fun i : Fin 17 => pickW (r.getD (70 + i.val) 0))), acc := (Vector.ofFn (fun i : Fin 8 => BitVec.ofNat 72 (r.getD (110+i.val) 0 * 2^(r.getD (120+i.val) 0 % 30)))), pc := 0x1000, codeLimit := 0x2000, flags := w32 (r.getD 150 0 % 8 * 65536), seq := 10, infl := if infl then [⟨9, .w 5 77 false⟩, ⟨10, .w 6 78 false⟩, ⟨12, .w 7 79 false⟩] else [] }
  let s : State := { State.reset with isl := { pairSt := Vector.replicate 2 IslState.run } }
  let s := setPerson 1 (fun p => { p with run := .running, cores := 1 }) s
  let s := setCore 0 (fun k => { k with cur := 1 }) s
  setCtx 0 1 (fun _ => x) s
def g0 : Guard := ⟨0, false⟩
def regs (n : Nat) : BitVec 6 := BitVec.ofNat 6 n
def src (n : Nat) : Src2 := match n % 4 with | 0 => .reg (regs (n/4)) | 1 => .imm (.short (regs (n/4))) | 2 => .imm (.ext (regs (n/4)) (BitVec.ofNat 22 (n/1000))) | _ => .reg (regs (n/5))
def imm (n : Nat) : Imm := match n % 2 with | 0 => .short (regs (n/4)) | _ => .ext (regs (n/4)) (BitVec.ofNat 22 (n/1000))
def au (n : Nat) : AUnit := if n % 2 = 0 then .a0 else .a1
def mu (n : Nat) : MUnit := if n % 2 = 0 then .m0 else .m1
def poly (n : Nat) : CrcPoly := match n % 4 with | 0 => .p8 | 1 => .p16 | 2 => .p32 | _ => .p32c
/-- The hypotheses of every statement of this file in the situations of one seed. -/
def situations (seed : Nat) : List (String × List Bool) :=
  let r := rnds (seed * 7919 + 13) 20
  let k := fun i => r.getD i 0
  let s := live (seed + 1) (seed % 2 = 0)
  let d := regs (if seed % 3 = 0 then k 0 % 8 else k 0); let s1 := regs (if seed % 5 = 0 then k 1 % 8 else k 1); let s2 := regs (k 2)
  [   ("A", premArithmeticSyllablesCompute 0 (au (k 3)) d s1 s2 (imm (k 4)) (src (k 5)) g0 s),
   ("L", premLogicAndShiftSyllablesCompute 0 (au (k 3)) d s1 s2 (src (k 5)) g0 s),
   ("C", premCompareSyllablesWritePredicates 0 (au (k 3)) d s1 (src (k 5)) g0 s),
   ("P", premPredicateSyllablesCompute 0 (au (k 3)) d s1 s2 g0 s),
   ("B", premBitSyllablesCompute 0 d s1 g0 s),
   ("T", premTstpReadsPoison 0 d s1 g0 s),
   ("F", premFieldSyllablesCompute 0 d s1 s2 (imm (k 4)) g0 s),
   ("R", premCyclicCheckStepRunsTheLoop 0 (poly (k 6)) (k 7 % 2 = 0) (BitVec.ofNat 2 (k 8)) d s1 s2 g0 s),
      ("M", premProductSyllablesCompute 0 (mu (k 3)) d s1 s2 (imm (k 4)) g0 s),
   ("MA", premAccumulatingSyllablesCompute 0 (mu (k 3)) d s1 s2 g0 s),
   ("MM", premAccumulatorMovesCompute 0 (mu (k 3)) d s1 s2 g0 s),
   ("D", premDividesRunForTheirCycles 0 d s1 s2 g0 s),
   ("S", premSingleSyllablesCompute 0 (mu (k 3)) d s1 s2 g0 s),
   ("SC", premSingleConversionsAndCompares 0 (mu (k 3)) d s1 s2 g0 s),
   ("DD", premDoubleSyllablesCompute 0 (mu (k 3)) d s1 s2 g0 s)]

/-- Every clause of ArithmeticSyllablesCompute has a situation that meets its hypotheses. -/
theorem witness_ArithmeticSyllablesCompute :
    meets (fun i => (situations i).map (·.2)) [(0, 0, [0, 1, 2, 3, 4, 5])] = true := by
  decide +kernel

/-- Every clause of LogicAndShiftSyllablesCompute has a situation that meets its hypotheses. -/
theorem witness_LogicAndShiftSyllablesCompute :
    meets (fun i => (situations i).map (·.2)) [(0, 1, [0, 1])] = true := by
  decide +kernel

/-- Every clause of CompareSyllablesWritePredicates has a situation that meets its hypotheses. -/
theorem witness_CompareSyllablesWritePredicates :
    meets (fun i => (situations i).map (·.2)) [(0, 2, [0, 1])] = true := by
  decide +kernel

/-- Every clause of PredicateSyllablesCompute has a situation that meets its hypotheses. -/
theorem witness_PredicateSyllablesCompute :
    meets (fun i => (situations i).map (·.2)) [(48, 3, [0, 1])] = true := by
  decide +kernel

/-- Every clause of BitSyllablesCompute has a situation that meets its hypotheses. -/
theorem witness_BitSyllablesCompute :
    meets (fun i => (situations i).map (·.2)) [(0, 4, [0, 1, 2])] = true := by
  decide +kernel

/-- Every clause of TstpReadsPoison has a situation that meets its hypotheses. -/
theorem witness_TstpReadsPoison :
    meets (fun i => (situations i).map (·.2)) [(0, 5, [0])] = true := by
  decide +kernel

/-- Every clause of FieldSyllablesCompute has a situation that meets its hypotheses. -/
theorem witness_FieldSyllablesCompute :
    meets (fun i => (situations i).map (·.2)) [(0, 6, [0, 1, 2, 3, 4, 5])] = true := by
  decide +kernel

/-- Every clause of CyclicCheckStepRunsTheLoop has a situation that meets its hypotheses. -/
theorem witness_CyclicCheckStepRunsTheLoop :
    meets (fun i => (situations i).map (·.2)) [(1, 7, [0])] = true := by
  decide +kernel

/-- Every clause of ProductSyllablesCompute has a situation that meets its hypotheses. -/
theorem witness_ProductSyllablesCompute :
    meets (fun i => (situations i).map (·.2)) [(0, 8, [0, 1])] = true := by
  decide +kernel

/-- Every clause of AccumulatingSyllablesCompute has a situation that meets its hypotheses. -/
theorem witness_AccumulatingSyllablesCompute :
    meets (fun i => (situations i).map (·.2)) [(0, 9, [0])] = true := by
  decide +kernel

/-- Every clause of AccumulatorMovesCompute has a situation that meets its hypotheses. -/
theorem witness_AccumulatorMovesCompute :
    meets (fun i => (situations i).map (·.2)) [(0, 10, [0, 1, 2, 3])] = true := by
  decide +kernel

/-- Every clause of DividesRunForTheirCycles has a situation that meets its hypotheses. -/
theorem witness_DividesRunForTheirCycles :
    meets (fun i => (situations i).map (·.2)) [(0, 11, [0])] = true := by
  decide +kernel

/-- Every clause of SingleSyllablesCompute has a situation that meets its hypotheses. -/
theorem witness_SingleSyllablesCompute :
    meets (fun i => (situations i).map (·.2)) [(0, 12, [0, 1, 2, 3])] = true := by
  decide +kernel

/-- Every clause of SingleConversionsAndCompares has a situation that meets its hypotheses. -/
theorem witness_SingleConversionsAndCompares :
    meets (fun i => (situations i).map (·.2)) [(0, 13, [0, 1, 2, 3, 4])] = true := by
  decide +kernel

/-- Every clause of DoubleSyllablesCompute has a situation that meets its hypotheses. -/
theorem witness_DoubleSyllablesCompute :
    meets (fun i => (situations i).map (·.2)) [(0, 14, [0, 1, 2, 3, 4])] = true := by
  decide +kernel

end Sys2Proof.Tests.A
end

