-- ==== Sys2Proof/Tests/WitnessChain.lean ====
section
/-! SUPPORT. Witnesses: the hypotheses of the statements about chain, met. -/

namespace Sys2Proof.Tests.G

open Sys2Proof Sys2Proof.Machine Sys2Proof.Tests

set_option linter.unusedVariables false
set_option Elab.async false

/-- The hypotheses of the clauses of ChainSegmentsKeyAndFail, in their order. -/
def premChainSegmentsKeyAndFail (pt : Port) (f : Frame) (s : State) : List Bool :=
  let d := portNo pt
  let q := s.cport d
  let pl := f.payload
  let upper := s.cport 1
  [decide (7 ≤ s.isl.step ∧ s.fuses.zeroize = false ∧ (q.st = .down ∨ q.st = .hello)),
   decide (7 ≤ s.isl.step ∧ s.fuses.zeroize = false ∧ q.st = .fault ∧ q.cause = 2),
   decide (7 ≤ s.isl.step ∧ s.fuses.zeroize = false ∧ plainOk f 1 = true ∧ pl.length = 16 ∧ (q.st = .hello ∨ q.st = .keying) ∧ q.nonce ≠ [] ∧ q.peerEph = []),
   decide (7 ≤ s.isl.step ∧ s.fuses.zeroize = false ∧ plainOk f 1 = false),
   decide (7 ≤ s.isl.step ∧ s.fuses.zeroize = false ∧ plainOk f 2 = true ∧ (q.st = .hello ∨ q.st = .keying) ∧ q.capSent = false),
   decide (7 ≤ s.isl.step ∧ s.fuses.zeroize = false ∧ plainOk f 2 = true ∧ q.st = .keying ∧ q.capSent = true ∧ pl.length = 292),
   decide (7 ≤ s.isl.step ∧ s.fuses.zeroize = false ∧ q.st = .up ∧ s.chn.role = .unnumbered),
   decide (7 ≤ s.isl.step ∧ s.fuses.zeroize = false ∧ (q.st = .up ∨ (q.st = .fault ∧ q.cause = 1))),
   decide (7 ≤ s.isl.step ∧ s.fuses.zeroize = false ∧ (q.st = .hello ∨ q.st = .keying) ∧ s.chn.role ≠ .refused),
   decide (7 ≤ s.isl.step ∧ s.fuses.zeroize = false ∧ (q.st = .hello ∨ q.st = .keying) ∧ s.chn.role = .refused),
   decide (7 ≤ s.isl.step ∧ s.fuses.zeroize = false ∧ upper.st = .up),
   decide (7 ≤ s.isl.step ∧ s.fuses.zeroize = false ∧ upper.st = .up ∧ rekeyDue upper = false),
   decide (7 ≤ s.isl.step ∧ s.fuses.zeroize = false ∧ upper.st = .up ∧ rekeyDue upper = true ∧ upper.nonce = []),
   decide (7 ≤ s.isl.step ∧ s.fuses.zeroize = false ∧ q.st = .down),
   decide (7 ≤ s.isl.step ∧ s.fuses.zeroize = false ∧ pt = .chu ∧ q.st = .up)]

/-- The hypotheses of the clauses of ChainsForm, in their order. -/
def premChainsForm (pt : Port) (f : Frame) (pl b : Bytes) (p : Nat) (m : ChMem) (s : State) : List Bool :=
  let d := portNo pt
  let o := 1 - d
  let c := s.chn
  let got := fun (ty : BitVec 4) => f.type = ty ∧ f.ending = .whole ∧ canSeal s d f = true ∧ f.payload = pl
  [decide (7 ≤ s.isl.step ∧ s.fuses.zeroize = false ∧ c.role = .unnumbered),
   decide (7 ≤ s.isl.step ∧ s.fuses.zeroize = false ∧ got 3 ∧ c.role = .unnumbered ∧ c.best = some b ∧ pl ≠ ownKey s),
   decide (7 ≤ s.isl.step ∧ s.fuses.zeroize = false ∧ c.role = .unnumbered ∧ anyUp s = true),
   decide (7 ≤ s.isl.step ∧ s.fuses.zeroize = false ∧ c.role = .head),
   decide (7 ≤ s.isl.step ∧ s.fuses.zeroize = false ∧ got 4 ∧ c.role = .node ∧ ((pl.drop 6).take (leAt pl 2 1)).any (fun x => decide (x.toNat = c.pos)) = true),
   decide (7 ≤ s.isl.step ∧ s.fuses.zeroize = false ∧ c.role = .node),
   decide (7 ≤ s.isl.step ∧ s.fuses.zeroize = false ∧ got 5 ∧ c.role = .head ∧ pl.length = 33 ∧ c.members = [m] ∧ m.pos = 1 ∧ m.id = none ∧ (c.looped = false ∨ d = 1) ∧ (s.cport o).peer.map (·.1) ≠ some (pl.take 32)),
   decide (7 ≤ s.isl.step ∧ s.fuses.zeroize = false ∧ got 6 ∧ c.role = .unnumbered),
   decide (7 ≤ s.isl.step ∧ s.fuses.zeroize = false ∧ got 7 ∧ c.role = .unnumbered ∧ leAt pl 32 2 = 601),
   decide (7 ≤ s.isl.step ∧ s.fuses.zeroize = false ∧ got 8 ∧ c.role = .head ∧ c.ring = false ∧ c.rerouted = false ∧ pl = [BitVec.ofNat 8 p, 1] ∧ p < 256 ∧ p ≠ 1 ∧ (c.members.map (·.pos)).Nodup ∧ c.members.find? (fun x => decide (x.pos = p)) = some m ∧ m.down = true)]

/-- The hypotheses of the clauses of ChainCarriesFrames, in their order. -/
def premChainCarriesFrames (pt : Port) (f : Frame) (pl : Bytes) (free : Bool) (g : Frame) (r : List Frame) (s : State) : List Bool :=
  let d := portNo pt
  let o := 1 - d
  let out := s.cport o
  let q := s.cport d
  let good := f.ending = .whole ∧ canSeal s d f = true ∧ f.payload = pl
  let h := s.car .hst
  [decide (7 ≤ s.isl.step ∧ s.fuses.zeroize = false ∧ good ∧ f.type = 9 ∧ s.chn.pos ≠ 0 ∧ f.dst.toNat = s.chn.pos ∧ 4 ≤ pl.length ∧ leAt pl 0 1 = 0),
   decide (7 ≤ s.isl.step ∧ s.fuses.zeroize = false ∧ good ∧ f.type = 9 ∧ s.chn.pos ≠ 0 ∧ f.dst.toNat = s.chn.pos ∧ pl = [2, 2, f.dst, 0] ++ textBytes (tx "@3 +7 TIME INVALID") ∧ f.src = 3 ∧ h.tags = [{ tag := some 7, node := 3, sfx := false }]),
   decide (7 ≤ s.isl.step ∧ s.fuses.zeroize = false ∧ good ∧ passing s f = true ∧ out.st = .up ∧ mayCross s o f.type = true ∧ free = true),
   decide (7 ≤ s.isl.step ∧ s.fuses.zeroize = false ∧ good ∧ passing s f = true ∧ out.st = .up ∧ mayCross s o f.type = true ∧ free = false ∧ out.stored.length < 4),
   decide (7 ≤ s.isl.step ∧ s.fuses.zeroize = false ∧ good ∧ passing s f = true ∧ out.st = .up ∧ mayCross s o f.type = true ∧ free = false ∧ 4 ≤ out.stored.length),
   decide (7 ≤ s.isl.step ∧ s.fuses.zeroize = false ∧ f.ending = .whole ∧ frameIs s d f = .replayed ∧ passing s f = true),
   decide (7 ≤ s.isl.step ∧ s.fuses.zeroize = false ∧ q.stored = g :: r ∧ q.st = .up)]

/-- The hypotheses of every statement of this file in the situations of one seed. -/
def situations (seed : Nat) : List (String × List Bool) :=
  let r := rnds (seed * 7919 + 13) 80
  let k := fun i => r.getD i 0
  let s := dev (seed + 1)
  let pt : Port := if k 0 % 2 = 0 then .chu else .chd
  let d := portNo pt
  let o := 1 - d
  let n16 : Bytes := List.replicate 16 3
  let mk := fun (st : LinkSt) (i : Nat) => ({ st := st, cause := if st = .fault then pick [2, 3] 2 (k i) else 0, nonce := if k (i+1) % 4 = 0 then [] else n16, capSent := k (i+2) % 2 = 0, epoch := 1, keyDown := List.replicate 32 1, keyUp := List.replicate 32 2, tx := k (i+3) % 9 + (if k (i+9) % 6 = 0 then 2^32 else 0), rxLast := if k (i+4) % 2 = 0 then none else some 2, gaps := 1, peerEph := if k (i+5) % 4 = 0 then [1] else [], eph := 5 } : ChPort)
  let st0 := if k 78 % 2 = 0 then LinkSt.up else pick [.up, .up, .up, .down, .hello, .keying, .fault] LinkSt.up (k 10)
  let st1 := if k 78 % 2 = 0 then LinkSt.down else pick [.up, .down, .down, .hello, .fault] LinkSt.up (k 20)
  let mem : List ChMem := if k 30 % 3 = 0 then [{ pos := 1 }] else [{ pos := 1, id := some ([9], 0) }, { pos := 2, dist := 1, id := some ([8], 1) }, { pos := 3, dist := 2 }, { pos := 4, dist := 1, down := false }]
  let ty : Nat := pick [3, 4, 5, 6, 7, 8, 9, 9, 9] 3 (k 34)
  let role := if k 77 % 3 ≠ 0 then pick [Role.unnumbered, .node, .head, .unnumbered, .unnumbered, .head, .head] .node (ty-3) else pick [.unnumbered, .head, .node, .refused] Role.head (k 31)
  let s := { s with isl := { s.isl with step := 10, power := .run }, fuses := { s.fuses with zeroize := k 32 % 9 = 0 }, stw := { s.stw with lifeShown := 0 }, chn := { s.chn with port := (if d = 0 then #v[mk st0 40, mk st1 55] else #v[mk st1 55, mk st0 40]), role := role, pos := (match role with | .head => 1 | .node => 2 | _ => 0), members := mem, best := if k 33 % 3 = 0 then none else some [5, 5], topoSeq := 65535 } }
    let pl : Bytes := match ty with
    | 3 => [3, 3] | 4 => [1, 2, 3, BitVec.ofNat 8 (k 35 % 4), 0, 2, 1, 2, 3]
    | 5 => List.replicate 32 7 ++ [2] | 6 => (if k 36 % 2 = 0 then deviceId else List.replicate 32 7) ++ [BitVec.ofNat 8 (2 + k 37 % 70), 1, 1]
    | 7 => (if k 36 % 2 = 0 then deviceId else List.replicate 32 7) ++ leBytes 2 601 | 8 => [BitVec.ofNat 8 (2 + k 37 % 2), 1]
    | _ => if k 38 % 3 ≠ 0 then [2, 2, BitVec.ofNat 8 s.chn.pos, 0] ++ textBytes (tx "@3 +7 TIME INVALID") else [0, 2, 3, 0] ++ textBytes (tx "7 READ TIME")
  let f0 : Frame := { type := BitVec.ofNat 4 ty, dst := if ty = 9 ∧ k 39 % 5 < 3 then BitVec.ofNat 8 s.chn.pos else 5, src := 3, hops := 60, epoch := 1, segseq := 0, payload := pl, tag := [], ending := .whole }
  -- sealed by the other end
  let q := s.cport d
  let f1 := { f0 with segseq := BitVec.ofNat 64 (1 + k 70 % 5) }
  let f := f1
  let g1 : Frame := { type := 1, dst := 0, src := 0, hops := 64, epoch := 0, segseq := 1, payload := n16, tag := [], ending := .whole }
  let hello := { g1 with tag := if k 71 % 4 = 0 then [] else plainTag g1 }
  let w := capWord { s with chn := { s.chn with pos := 0 } } o q.nonce (ptBytes p256 (some p256.g))
  let g2 : Frame := { g1 with type := 2, payload := if k 72 % 2 = 0 then List.replicate 292 1 else w ++ List.replicate 96 1 }
  let cap := { g2 with tag := plainTag g2 }
  let sf := setCport o (fun q => { q with stored := List.replicate (pick [0, 1, 4, 0] 0 (k 73 / 64)) f0 }) (setCport d (fun q => { q with stored := if k 74 % 2 = 0 then [] else [f0, f0] }) s)
  let sh := setCar .hst (fun c => { c with tags := [{ tag := some 7, node := 3, sfx := false }] }) sf
  let mm := if ty = 8 then (mem.find? fun x => decide (x.pos = leAt pl 0 1)).getD { pos := 1 } else mem.headD { pos := 1 }
  [("K1", premChainSegmentsKeyAndFail pt (if k 75 % 2 = 0 then hello else cap) s), ("CF", premChainsForm pt f pl [5, 5] (2 + k 37 % 2) mm s), ("FW", premChainCarriesFrames pt f pl (k 76 / 64 % 3 = 0) f0 [f0] sh)]

/-- Every clause of ChainSegmentsKeyAndFail has a situation that meets its hypotheses. -/
theorem witness_ChainSegmentsKeyAndFail :
    meets (fun i => (situations i).map (·.2)) [(17, 0, [0, 3, 10, 11, 13]), (18, 0, [6, 7, 14]), (25, 0, [1]), (67, 0, [5]), (133, 0, [2]), (156, 0, [4, 8, 12]), (393, 0, [9])] = true := by
  decide +kernel

/-- Every clause of ChainsForm has a situation that meets its hypotheses. The frame is given in the clear: it arrives sealed, as sealedFrame seals it (frameIs_sealed). -/
theorem witness_ChainsForm :
    meets (fun i => (situations i).map (·.2)) [(1, 1, [4, 5]), (27, 1, [8]), (82, 1, [3, 9]), (102, 1, [6]), (113, 1, [0, 2, 7]), (226, 1, [1])] = true := by
  decide +kernel

/-- Every clause of ChainCarriesFrames has a situation that meets its hypotheses. The frame is given in the clear: it arrives sealed, as sealedFrame seals it (frameIs_sealed). -/
theorem witness_ChainCarriesFrames :
    meets (fun i => (situations i).map (·.2)) [(2, 2, [1]), (5, 2, [5, 6]), (12, 2, [0]), (53, 2, [4]), (135, 2, [3]), (334, 2, [2])] = true := by
  decide +kernel

end Sys2Proof.Tests.G
end

