-- ==== Sys2Proof/Tests/WitnessCommands.lean ====
section
/-! SUPPORT. Witnesses: the hypotheses of the statements about commands, met. -/

namespace Sys2Proof.Tests.U

open Sys2Proof Sys2Proof.Machine Sys2Proof.Tests

set_option linter.unusedVariables false
set_option Elab.async false

/-- The hypotheses of the clauses of SurveyRecordsWhatItMeasures, in their order. -/
def premSurveyRecordsWhatItMeasures (core : Fin 4) (n g : Fin 8) (k : Fin 10) (c : Fin 2) (av sm vals : List Nat) (r : Tdr) (e : Word) (rest : List Word) (b : Baseline) (kept : Bool) (s : State) : List Bool :=
  let z := 24 + k.val
  let y := 42 + c.val
  let u := vget s.srv.tdr k.val
  [decide (av.length = 24),
   decide ((s.feed n.val).on = true ∧ (s.feed n.val).fault = 0),
   decide ((s.feed n.val).on = true),
   decide (s.port.burst = some n.val ∧ sm.length = 64),
   true,
   decide (u.running = true),
   decide (u.running = true ∧ s.srv.jobs = []),
   decide (u.running = true),
   decide ((s.sch z).status = 3 ∧ (s.sch z).base = some b ∧ (s.sch z).dev = false),
   decide ((s.sch y).base = some b ∧ b.value ≠ bitN (vget s.port.can c.val).present ∧ (vget s.port.can c.val).busOff = false ∧ (s.sch y).dev = false),
   decide ((vget s.port.can c.val).busOff = false),
   decide (ownsFrame s core.val 0x51 = true ∧ vget s.srv.fifo g.val = e :: rest),
   decide (s.isl.port = .run ∧ vals.length = 24 ∧ s.srv.decim ≤ s.srv.scans ∧ s.srv.en.getLsbD g.val = true ∧ (vget s.srv.fifo g.val).length ≤ 13)]

/-- The hypotheses of the clauses of SentinelKeepsTimeAndWatch, in their order. -/
def premSentinelKeepsTimeAndWatch (core : Fin 4) (n : Fin 4) (cnt i p : Nat) (tc : Int) (opened : Bool) (cls : MeshClass) (why : VstbyCause) (arg : Word) (s : State) : List Bool :=
  let q := s.snt
  let code := match cls with | .opened => 1 | .shorted => 2 | .mismatch => 3
  let fr := (vget q.fracShadow core.val).getD q.rtcFrac
  let l := (uncopiedSlots s).take 28
  let ent := (tamperFrom s (descWord arg 1 s)).take (descWord arg 2 s)
  [decide (q.vstbyOk = true),
   true,
   decide (q.rtcFrac < 32768 ∧ fr < 32768),
   decide (q.vstbyOk = true ∧ (cnt < 7840000 ∨ 8160000 < cnt) ∧ q.rcFault = false),
   decide (q.vstbyOk = true ∧ 7840000 ≤ cnt ∧ cnt ≤ 8160000),
   decide (q.vstbyOk = true ∧ q.x32Fault = false),
   decide (q.vstbyOk = true),
   decide (q.vstbyOk = true ∧ q.tmpOpen.getLsbD n.val ≠ opened),
   decide (q.vstbyOk = true ∧ q.mesh ≠ code),
   decide (q.vstbyOk = true),
   true,
   decide (q.vstbyOk = false),
   decide (s.up1 = true ∧ l ≠ [] ∧ copying s = false ∧ s.counter 0 < 4 ∧ s.store.run.isSome = true),
   decide (callerOf s core.val 0x10 arg = some p ∧ p < 7),
   decide (callerOf s core.val 0x12 arg = some p ∧ p < 7 ∧ descOk p arg s = true ∧ s.right p 15 = false),
   decide (callerOf s core.val 0x12 arg = some p ∧ p < 7 ∧ descOk p arg s = true ∧ s.right p 15 = true ∧ bufCheck s p (descWord arg 0 s) (16 * ((tamperFrom s (descWord arg 1 s)).take (descWord arg 2 s)).length) = .ok),
   decide (callerOf s core.val 0x12 arg = some p ∧ p < 7 ∧ descOk p arg s = true ∧ s.right p 15 = true ∧ ent ≠ [] ∧ bufCheck s p (descWord arg 0 s) (16 * ent.length) = .ok ∧ Memory.wf 0 s.mem.sram = true ∧ (descWord arg 0 s + 16 * ent.length ≤ arg.toNat ∨ arg.toNat + 16 ≤ descWord arg 0 s))]

/-- The hypotheses of every statement of this file in the situations of one seed. -/
def situations (seed : Nat) : List (String × List Bool) :=
  let r := rnds (seed * 7919 + 13) 120
  let k := fun i => r.getD i 0
  let bo : Nat → Bool := fun i => k i % 2 = 0
  let s := dev (seed + 1)
  let b : Baseline := { value := k 0 % 2, win := 10, sig := if bo 1 then List.replicate 64 (k 2 % 5) else [] }
  let cn : SrvChan := { value := k 3 % 100, status := pick [1, 3, 4] 1 (k 4), base := if k 5 % 4 = 0 then none else some b, dev := decide (k 6 % 3 = 0), tampSec := none, streak := k 7 % 2 }
  let n := k 8 % 8
  let g := k 9 % 8
  let kk := k 10 % 10
  let c := k 11 % 2
  let fd : Feed := { on := decide (k 12 % 4 ≠ 0), fault := pick [0, 0, 1, 2] 0 (k 13), latched := decide (k 14 % 5 = 0) }
  let s := { s with srv := { s.srv with chan := Vector.replicate 46 cn, tdr := Vector.replicate 10 { last := none, running := bo 15, kept := k 16 % 5 }, fifo := Vector.replicate 8 (if bo 17 then [] else List.replicate (k 18 % 17) 7), en := BitVec.ofNat 8 (k 19), decim := k 20 % 2, scans := k 21 % 2 }, port := { s.port with feed := Vector.replicate 8 fd, burst := if bo 22 then some n else none, heldOn := if bo 23 then [] else [k 24 % 8] }, cus := { s.cus with frame := Vector.replicate 272 (ownerCode (curOf 0 s)), page := s.cus.page.setIfInBounds 0 (ownerCode (1 + k 40 % 2)) } }
  let te : TEntry := { cause := 1, detail := 2, count := 3, seq := 9, copied := bo 25 }
  let s := { s with snt := { s.snt with rtcSec := w32 (pick [5, 0xFFFFFFFF, 1000] 0 (k 26)), alarm := w32 (pick [0, 6, 1001, 3000] 0 (k 27)), x32Fault := bo 28, rcFault := bo 29, tmpOpen := BitVec.ofNat 4 (k 30), mesh := k 31 % 4, tempRun := k 32 % 4, tempRunHigh := bo 33, tempOut := bo 34, tseq := 9, tlog := (Vector.replicate 64 (if k 35 % 4 = 0 then some te else none)).setIfInBounds 3 (some { te with seq := 4 }), fracShadow := Vector.replicate 4 (if bo 36 then some 7 else none), loss := k 37 % 3 }, mem := { s.mem with ecc := [] } }
  let p : Nat := 1 + k 40 % 2
  let arg := w32 0x10000010
  let s := { s with mem := { s.mem with sram := cellsPut 0 [] arg.toNat (leBytes 4 0x10000100 ++ leBytes 4 (k 41 % 5) ++ leBytes 4 (k 42 % 3) ++ leBytes 4 0) }, store := { s.store with run := if bo 43 then some { due := { kind := 4, payload := [] }, stage := .body, pos := { seq := 1, phys := 1, unit := 1, units := 1 }, body := [] } else none } }
  let av := (List.range 24).map fun i => if i = 23 then pick [989, 990, 1010, 1011, 1000] 0 (k 44) else k (45 + i) % 1000
  let sm := (List.range 64).map fun i => k (i % 30) % 7
  let tt : Tdr := { cls := k 70 % 4, len := k 71 % 40000, rho := (k 72 % 100 : Nat), disc := [(5, 60), (50, 70), (300, -80)] }
  let tcs : Int := pick [131, 130, -46, -45, 125, 126, -40, -41] 0 (k 73)
  let SS := fun i s => premSentinelKeepsTimeAndWatch 0 ⟨k 74 % 4, by omega⟩ (pick [7840000, 7839999, 8160000, 8160001] 0 (k 75)) i p tcs (bo 76) (pick [.opened, .shorted, .mismatch] .opened (k 77)) (pick [.low, .high, .retention] .low (k 78)) arg s
  [("SR", premSurveyRecordsWhatItMeasures 0 ⟨n % 8, by omega⟩ ⟨g % 8, by omega⟩ ⟨kk % 10, by omega⟩ ⟨c % 2, by omega⟩ av sm ((List.range 24).map fun i => k i % 70000) tt 7 (((vget s.srv.fifo g)).tail) b (bo 79) s),
   ("SN", SS ((tamperSlot s).getD 0) s), ("SA", SS 0 (calling 0x10 arg p s)), ("ST", SS 0 (calling 0x12 arg p s))]

/-- Every clause of SurveyRecordsWhatItMeasures has a situation that meets its hypotheses. -/
theorem witness_SurveyRecordsWhatItMeasures :
    meets (fun i => (situations i).map (·.2)) [(4, 0, [8]), (45, 0, [0, 1, 2, 3, 4, 5, 6, 7, 9, 10, 11, 12])] = true := by
  decide +kernel

/-- Every clause of SentinelKeepsTimeAndWatch has a situation that meets its hypotheses. -/
theorem witness_SentinelKeepsTimeAndWatch :
    meets (fun i => (situations i).map (·.2)) [(0, 3, [0, 1, 2, 4, 5, 6, 7, 8, 9, 10, 15, 16]), (1, 2, [11, 12, 13]), (10, 3, [3, 14])] = true := by
  decide +kernel

end Sys2Proof.Tests.U
end

