-- ==== Sys2Proof/Tests/WitnessCore.lean ====
section
/-! SUPPORT. Witnesses: the hypotheses of the statements about core, met. -/

namespace Sys2Proof.Tests.C

open Sys2Proof Sys2Proof.Machine Sys2Proof.Tests

set_option linter.unusedVariables false
set_option Elab.async false

/-- The hypotheses of the clauses of CoreEventsActBetweenSentences, in their order. -/
def premCoreEventsActBetweenSentences (core : Fin 4) (u : AUnit) (d s1 : BitVec 6) (r q : Nat) (v a : Word) (due lands : Nat) (rest : List InFl) (late : List Word) (f : Syl) (s : State) : List Bool :=
  let c := core.val
  let p := curOf c s
  let x := s.ctx c p
  let y : Syl := { unit := (if u = .a0 then .a0 else .a1), op := .abs, mode := .off, d := d, s1 := s1, s2 := .reg 0, guard := ⟨0, false⟩ }
  let alone := (s.witnessOn p).isNone && decide (p < 7)
  [decide (s.mem.ecc = [] ∧ ready c 1 ⟨0, false⟩ [s1.toNat] s = true ∧ fetchesWord s c (w32 (2 ^ 31 + (if u = .a0 then 4 else 5) * 2 ^ 28 + 0x11 * 2 ^ 22 + d.toNat * 2 ^ 16 + s1.toNat * 2 ^ 10)) = true ∧ decodeSentence [w32 (2 ^ 31 + (if u = .a0 then 4 else 5) * 2 ^ 28 + 0x11 * 2 ^ 22 + d.toNat * 2 ^ 16 + s1.toNat * 2 ^ 10)] true = oneSyllable y ∧ (oneSyllable y).bad = none),
   decide (s.mem.ecc = [] ∧ quiet c (src2Len f.s2) s = true ∧ fetchSentence s c = some (oneSyllable f)),
   decide (alone = true ∧ mayEnter s c = true ∧ x.fpPending = false ∧ x.infl = [] ∧ x.div = none),
   decide (alone = true ∧ x.infl = ⟨due, .w r v false⟩ :: rest ∧ due ≤ x.seq ∧ ((rest.all fun f => decide (x.seq < f.due)) = true) ∧ 0 < r ∧ r < 64),
   decide (alone = true ∧ x.div = some { writes := [(r, v)], lands := lands } ∧ 0 < r ∧ r < 64),
   decide (coreLive s c = true ∧ nextRunnable s c = some q ∧ alone = true ∧ (s.witnessOn q).isNone = true ∧ settled x = true ∧ x.fpPending = false ∧ x.br = none ∧ (s.core c).sb = [] ∧ s.cus.held ≠ some c),
   decide (coreLive s c = true ∧ nextRunnable s c = none),
   decide (coreLive s c = true ∧ alone = true ∧ x.storeFaults = a :: late ∧ settled x = true ∧ x.fpPending = false ∧ isDouble x = false)]

/-- The hypotheses of the clauses of AnswersLandInTheirRegisters, in their order. -/
def premAnswersLandInTheirRegisters (core : Fin 4) (p n v : Nat) (l : ShLoad) (k : SCallRec) (more : List ShLoad) (s : State) : List Bool :=
  let c := core.val
  let x := s.ctx c p
  let calm := decide (p < 7) && (s.witnessOn p).isNone && x.infl.isEmpty && x.div.isNone && x.cus.isNone
  let known := [0x01, 0x02, 0x03, 0x10, 0x11, 0x12, 0x18, 0x19, 0x20, 0x21, 0x22, 0x28, 0x29, 0x2A, 0x2B, 0x2C, 0x2D, 0x30, 0x31, 0x32, 0x38, 0x39, 0x3A, 0x3B]
  [decide (loaderOf s c = some p ∧ calm = true ∧ x.loads = l :: more ∧ 0 < n ∧ n < 64 ∧ l.dests = [n] ∧ l.fwd = none ∧ l.size ∈ [1, 2, 4] ∧ regionOf l.addr = .page ((l.addr - 0x10000000) / 4096) ∧ loadGoes s c l = false ∧ s.mayRead c p l.addr l.size = true ∧ s.mem.ecc = []),
   decide (loaderOf s c = some p ∧ calm = true ∧ x.loads = l :: more ∧ 0 < n ∧ n < 64 ∧ l.dests = [n] ∧ l.fwd = none ∧ l.size ∈ [1, 2, 4] ∧ regionOf l.addr = .page ((l.addr - 0x10000000) / 4096) ∧ loadGoes s c l = false ∧ s.mayRead c p l.addr l.size = false),
   decide (loaderOf s c = some p ∧ calm = true ∧ x.loads = l :: more ∧ loadGoes s c l = true),
   decide (loaderOf s c = none),
   decide (calm = true ∧ p = curOf c s ∧ 0 < k.dest ∧ k.dest < 64 ∧ (((List.range 7).all fun q => decide ((s.ctx c q).calls.all (fun z => z.taken) = true)) = true) ∧ x.calls = [k] ∧ k.result = some v),
   decide (calm = true ∧ p = curOf c s ∧ 0 < k.dest ∧ k.dest < 64 ∧ (((List.range 7).all fun q => !decide (q ≠ p) || decide ((s.ctx c q).calls = [])) = true) ∧ x.calls = [k] ∧ k.taken = false ∧ k.result = none ∧ k.svc ∉ known ∧ storesBefore s c k.hold = false)]

/-- The hypotheses of the clauses of StoresAndCandidatesCrossTheGates, in their order. -/
def premStoresAndCandidatesCrossTheGates (core : Fin 4) (pr : Pair) (e : SbEntry) (t : StTxn) (later : List StTxn) (k : CandTxn) (ks : List CandTxn) (n w q a : Nat) (v : BitVec 64) (b : Byte) (hs : List HTxn) (gs : List GTxn) (s : State) : List Bool :=
  let c := core.val
  let m := pairNo pr
  let still := fun (d : Nat) => (s.core d).sb.isEmpty && !(s.core d).switchDue && !(s.ctx d (curOf d s)).waiting && (s.ctx d (curOf d s)).cus.isNone
  let calm := ((List.range 4).all fun i => decide (vget s.wit.fencing i = false)) && ((List.range 7).all fun i => decide ((s.person i).run ≠ .restarting))
  [decide ((s.core c).sb = [e] ∧ e.due = false ∧ (s.witnessOn e.person).isNone = true ∧ (vget s.gates.pairF (c / 2)).length < 8 ∧ vget s.gates.closed (c / 2) = false ∧ loadBefore (s.core c) e.last = false ∧ (s.core c).switchDue = false ∧ (s.ctx c (curOf c s)).waiting = false),
   decide (vget s.gates.pairF m = t :: later ∧ t.what = .gran (a / 16) [(a, b)] ∧ vget s.gates.commitQ m = [] ∧ still (2 * m) = true ∧ still (2 * m + 1) = true ∧ calm),
   decide (vget s.gates.commitQ m = t :: later ∧ t.what = .gran (a / 16) [(a, b)] ∧ later = [] ∧ still (2 * m) = true ∧ still (2 * m + 1) = true ∧ s.zeroing t.core a = false ∧ regionOf a = .page ((a - 0x10000000) / 4096) ∧ Memory.wf 0 s.mem.sram = true ∧ s.mem.ecc = [] ∧ calm ∧ s.mayWrite t.core t.person a = true),
   decide (vget s.gates.commitQ m = t :: later ∧ t.what = .gran (a / 16) [(a, b)] ∧ later = [] ∧ still (2 * m) = true ∧ still (2 * m + 1) = true ∧ s.zeroing t.core a = false ∧ regionOf a = .page ((a - 0x10000000) / 4096) ∧ Memory.wf 0 s.mem.sram = true ∧ s.mem.ecc = [] ∧ calm ∧ s.mayWrite t.core t.person a = false ∧ s.placedOn t.person t.core = true ∧ (s.witnessOn t.person).isNone = true ∧ t.core < 4 ∧ t.person < 7),
   decide (vget s.gates.fPair m = k :: ks ∧ vget s.gates.closed m = false ∧ vget s.isl.pairSt m = .run ∧ s.isl.power = .run ∧ (s.ctx k.core k.person).waiting = false ∧ k.core < 4 ∧ k.person < 7),
   decide (s.gates.gfH = .slot n v q :: hs ∧ n < 128),
   decide (s.gates.ghF = .leafClear n w :: gs ∧ s.gates.ghTaken = [] ∧ s.isl.power = .run)]

/-- The hypotheses of the clauses of ZeroingAndRegisterWrites (part 1), in their order. -/
def premZeroingClearsItsObject (n : Fin 1024) (c : Fin 4) (b : Fin 8) (s : State) : List Bool :=
  [decide (s.cus.pageZero.head? = some n.val ∧ (((List.range 16).all fun ch => decide ((s.chan ch).out = [])) = true)),
   decide ((vget s.cus.bankZero c.val).head? = some b.val ∧ (((List.range 16).all fun ch => decide ((s.chan ch).out = [])) = true))]

/-- The hypotheses of the clauses of ZeroingAndRegisterWrites (part 2), in their order. -/
def premRegisterWritesReachTheirBlock (c : Fin 4) (v : Word) (n : Fin 16) (k : Fin 4) (a : Nat) (s : State) : List Bool :=
  let p := curOf c.val s
  [decide (ownsFrame s c.val ((a - 0x30000000) / 0x1000) = false),
   decide (p < 7 ∧ ownsFrame s c.val (0x10 + p) = true ∧ (s.witnessOn p).isNone = true),
   true,
   decide (winLive s = true)]

def quietS (s : State) : State := { s with isl := { s.isl with pairSt := #v[.run, .run], power := .run } }
def ini (seed : Nat) : Core → Core := fun q => { q with switchDue := decide (seed % 5 = 0), sb := if seed % 3 = 0 then [] else [{ person := 1, stamp := 2, last := 2, due := false, closed := false, what := .gran 0x1000000 [(0x10000005, 7)] }] }
/-- The hypotheses of every statement of this file in the situations of one seed. -/
def situations (seed : Nat) : List (String × List Bool) :=
  let r := rnds (seed * 7919 + 13) 40
  let k := fun i => r.getD i 0
  let s0 := live (seed + 1) true
  let s0 := setPerson 2 (fun q => { q with run := .running, cores := 1 }) s0
  let s0 := if k 20 % 2 = 0 then s0 else setPerson 2 (fun q => { q with run := .stopped }) s0
  let s0 := setCore 0 (ini (k 21)) s0
  let x := s0.ctx 0 1
  let infl : List InFl := if k 0 % 2 = 0 then [] else [⟨9, .w (k 1 % 64) 77 false⟩, ⟨11, .w 6 78 false⟩]
  let s0 := setCtx 0 1 (fun x => { x with infl := infl, div := if k 2 % 3 = 0 then some { writes := [(k 3 % 64, 99)], lands := 44 } else none, storeFaults := if k 4 % 2 = 0 then [5, 6] else [], fpPending := k 5 % 4 = 0 }) s0
  let d := regs (k 6); let s1 := regs (k 7 % 17)
  let sF := setCore 0 (fun q => { q with imem := cellsPut 0 [] 0x1000 (leBytes 4 (2 ^ 31 + (if k 24 % 2 = 0 then 4 else 5) * 2 ^ 28 + 0x11 * 2 ^ 22 + d.toNat * 2 ^ 16 + s1.toNat * 2 ^ 10)), sb := [], switchDue := false }) (live (seed+1) true)
  let rest := ((s0.ctx 0 1).infl).tail
  let l : ShLoad := { stamp := 3, dests := [k 8 % 64], addr := 0x10000000 + k 9 % 3 * 0x1000 + k 10 % 40 * 4, size := pick [1,2,4] 4 (k 11), signed := k 12 % 2 = 0, dismiss := false, device := false, hold := 0, fwd := none, gate := if k 30 % 2 = 0 then none else some (0, 0) }
  let kk : SCallRec := { dest := k 13 % 64, svc := pick [0x7F, 0x01] 0 (k 14), arg := 3, hold := 0, taken := k 15 % 2 = 0, result := if k 15 % 2 = 0 then some (k 16 % 600) else none }
  let sL := setCtx 0 1 (fun x => { x with infl := [], div := none, loads := [l] }) s0
  let sL := { sL with mem := { sL.mem with sram := cellsPut 0 [] 0x10000000 ((List.range 300).map fun i => BitVec.ofNat 8 (i * 37 + seed)) } }
  let sK := setCtx 0 1 (fun x => { x with infl := [], div := none, calls := [kk] }) s0
  let a := 0x10000000 + k 17 % 3 * 0x1000 + k 18 % 40
  let t : StTxn := { core := 0, person := 1, stamp := 3, what := .gran (a / 16) [(a, 5)] }
  let sQ := setCore 0 (fun q => { q with sb := [], switchDue := false }) { sL with gates := { sL.gates with commitQ := #v[[t], []] } }
  let sG := setCore 0 (fun q => { q with sb := [], switchDue := false }) { s0 with gates := { s0.gates with pairF := #v[[t, t], []] } }
  let cd : CandTxn := { core := k 19 % 2, person := k 22 % 7, src := k 23 % 200 }
  let sC := { quietS s0 with gates := { s0.gates with fPair := #v[[cd], [cd]], gfH := [.slot 5 77 9], ghF := [.leafClear 5 2] } }
  let e := ((s0.core 0).sb.head?).getD { person := 0, stamp := 0, last := 0, due := false, closed := false, what := .slot 0 0 }
  let CE := fun s => premCoreEventsActBetweenSentences 0 (if k 24 % 2 = 0 then .a0 else .a1) d s1 (match ((s.ctx 0 1).infl).head? with | some ⟨_, .w r _ _⟩ => r | _ => 0) ((nextRunnable s 0).getD 0) 77 5 (((s.ctx 0 1).infl.head?.map (·.due)).getD 0) 44 (((s.ctx 0 1).infl).tail) [6] { unit := (if k 24 % 2 = 0 then .a0 else .a1), op := .abs, mode := .off, d := d, s1 := s1, s2 := .reg 0, guard := ⟨0, false⟩ } s
  let CD := fun s => premCoreEventsActBetweenSentences 0 .a0 d s1 (k 3 % 64) 2 99 5 0 44 [] [6] { unit := .a0, op := .abs, mode := .off, d := d, s1 := s1, s2 := .reg 0, guard := ⟨0, false⟩ } s
  let BIG := fun s a => premStoresAndCandidatesCrossTheGates 0 .a e t ((vget s.gates.pairF 0).tail) cd [] 5 2 9 a 77 5 [] [] s
  let sZ := { sQ with cus := { sQ.cus with pageZero := [1, 2], bankZero := Vector.replicate 4 [1, 0], page := sQ.cus.page.setIfInBounds 1 (if k 25 % 2 = 0 then 0 else 1), bank := sQ.cus.bank.setIfInBounds 0 ((Vector.replicate 8 0xF).setIfInBounds 1 0) } }
  [("CE", CE s0), ("CE2", CD s0), ("CE3", CE sF), ("CE4", CE (setCore 0 (fun q => { q with sb := [] }) s0)), ("AL", premAnswersLandInTheirRegisters 0 1 (k 8 % 64) ((kk.result).getD 0) l kk [] sL), ("AK", premAnswersLandInTheirRegisters 0 1 (k 8 % 64) ((kk.result).getD 0) l kk [] sK), ("AG", premAnswersLandInTheirRegisters 0 1 (k 8 % 64) ((kk.result).getD 0) { l with gate := none } kk [] { setCtx 0 1 (fun x => { x with loads := [{ l with gate := none }] }) sL with gates := { sL.gates with pairF := #v[[t], []] } }),
   ("B1", BIG s0 a), ("B2", BIG sQ a), ("B3", BIG sG a), ("B4", BIG sC a),
   ("ZC", premZeroingClearsItsObject 1 0 1 sZ), ("ZC2", premZeroingClearsItsObject 1 0 1 (setCore 0 (fun q => { q with dmem := (s0.core 0).dmem }) sZ)), ("RW", premRegisterWritesReachTheirBlock 0 (w32 (k 26)) ⟨k 27 % 16, by omega⟩ ⟨k 28 % 4, by omega⟩ (0x30010000 + k 29 % 8 * 0x1000 + 8) { sC with win := { sC.win with state := 3 }, cus := { sC.cus with frame := (Vector.replicate 272 0).setIfInBounds 0x11 1 } })]

/-- Every clause of CoreEventsActBetweenSentences has a situation that meets its hypotheses. The sentence fetched is told by its word (fetchSentence_one). -/
theorem witness_CoreEventsActBetweenSentences :
    meets (fun i => (situations i).map (·.2)) [(0, 2, [0, 1, 6]), (1, 1, [4]), (24, 3, [3, 5, 7]), (64, 0, [2])] = true := by
  decide +kernel

/-- Every clause of AnswersLandInTheirRegisters has a situation that meets its hypotheses. -/
theorem witness_AnswersLandInTheirRegisters :
    meets (fun i => (situations i).map (·.2)) [(0, 4, [0]), (0, 5, [3, 4]), (0, 6, [2]), (1, 4, [1]), (2, 5, [5])] = true := by
  decide +kernel

/-- Every clause of StoresAndCandidatesCrossTheGates has a situation that meets its hypotheses. -/
theorem witness_StoresAndCandidatesCrossTheGates :
    meets (fun i => (situations i).map (·.2)) [(0, 8, [2]), (0, 9, [1]), (1, 8, [3]), (2, 10, [0, 4, 5, 6])] = true := by
  decide +kernel

/-- Every clause of ZeroingClearsItsObject has a situation that meets its hypotheses. -/
theorem witness_ZeroingClearsItsObject :
    meets (fun i => (situations i).map (·.2)) [(0, 11, [0, 1])] = true := by
  decide +kernel

/-- Every clause of RegisterWritesReachTheirBlock has a situation that meets its hypotheses. -/
theorem witness_RegisterWritesReachTheirBlock :
    meets (fun i => (situations i).map (·.2)) [(0, 13, [0, 1, 2, 3])] = true := by
  decide +kernel

end Sys2Proof.Tests.C
end

