-- ==== Sys2Proof/Tests/WitnessLives.lean ====
section
/-! SUPPORT. Witnesses: the hypotheses of the statements about lives, met. -/

namespace Sys2Proof.Tests.V

open Sys2Proof Sys2Proof.Machine Sys2Proof.Tests

set_option linter.unusedVariables false
set_option Elab.async false

/-- The hypotheses of the clauses of DivergenceAndChecks (part 1), in their order. -/
def premDivergenceAndSelfTest (pr : Pair) (r : DivRec) (core : Fin 4) (p : Nat) (s : State) : List Bool :=
  let n := pairNo pr
  let c := core.val
  let k := s.core c
  let still := ((List.range 7).all fun q => decide ((s.person q).run ≠ .restarting))
  [decide (s.pairPerson n = p ∧ p ≠ 0),
   decide (k.underTest = true ∧ vget s.wit.why c = none ∧ vget s.wit.waiting (c / 2) = 0),
   decide (k.underTest = true ∧ vget s.wit.why c = none ∧ vget s.wit.waiting (c / 2) = 0 ∧ k.fenced = false ∧ s.placed c = []),
   decide (k.underTest = true ∧ vget s.wit.why c = some .lift ∧ still ∧ s.oru.awaitCore = []),
   decide (k.underTest = true ∧ vget s.wit.why c = some .lift ∧ still ∧ s.oru.awaitCore = [] ∧ k.fenced = true ∧ s.placed c = []),
   decide (p < 7)]

/-- The hypotheses of the clauses of PersonsMoveAndStartLater, in their order. -/
def premPersonsMoveAndStartLater (c d p m base : Nat) (h : ImgHead) (v : State) (s : State) : List Bool :=
  let q := s.person p
  let x := s.ctx c p
  let u := leftAll p s
  let z := forAll (partCores u) zeroNow u
  let still := ((List.range 7).all fun i => decide ((s.person i).run ≠ .restarting)) && decide (s.oru.awaitMove = []) && ((List.range 4).all fun i => decide (vget s.wit.fencing i = false))
  [decide (1 ≤ p ∧ p ≤ 6 ∧ c < 4 ∧ d < 4 ∧ c ≠ d ∧ q.cores = 2 ^ c ∧ q.moveTo = 2 ^ d ∧ (s.core c).sb = [] ∧ moveReady s p = true ∧ still ∧ x.fpPending = false ∧ (s.core d).fenced = false ∧ (s.core d).halted = false ∧ vget s.isl.pairSt (d / 2) = .run ∧ vget s.isl.draining (d / 2) = false),
   decide (1 ≤ p ∧ p ≤ 6 ∧ c < 4 ∧ d < 4 ∧ q.deferred = true ∧ q.run = .stopped ∧ q.failed = false ∧ s.mem.ecc = [] ∧ choosePlace s p = some m ∧ m = 2 ^ d ∧ onePending u p = false ∧ imageHead u p = some h ∧ (placeCode p h z).isSome = true ∧ leavesNothing p s = true ∧ vget (v.person p).win d = (base, base + h.code) ∧ homed v p m = true)]

/-- The hypotheses of the clauses of SelfChecksEnd, in their order. -/
def premSelfChecksEnd (core : Fin 4) (arg : Word) (p c : Nat) (i : Img) (s : State) : List Bool :=
  [decide ((1 ≤ p) ∧ (p ≤ 6) ∧ (callerOf s core.val 0x2D arg = some p) ∧ (s.checking p = false)),
   decide ((1 ≤ p) ∧ (p ≤ 6) ∧ (callerOf s core.val 0x2D arg = some p) ∧ (s.bun.check = some (p, c)) ∧ (arg ≠ 0)),
   decide ((1 ≤ p) ∧ (p ≤ 6) ∧ (callerOf s core.val 0x2D arg = some p) ∧ (s.bun.check = some (p, c)) ∧ (arg = 0) ∧ (s.img p = some i) ∧ (i.sv ≤ 1022)),
   decide ((1 ≤ p) ∧ (p ≤ 6) ∧ (s.bun.check = some (p, c)))]

/-- The hypotheses of every statement of this file in the situations of one seed. -/
def situations (seed : Nat) : List (String × List Bool) :=
  let r := rnds (seed * 7919 + 13) 120
  let k := fun i => r.getD i 0 / 64
  let b := fun i => decide (k i % 2 = 0)
  let s := dev (seed + 1)
  let s := { s with isl := { s.isl with power := .run, step := 10, pairSt := #v[.run, .run] }, fuses := { s.fuses with part := .ah } }
  let p := 1 + k 0 % 3
  let pr : Pair := if b 1 then .a else .b
  let n := pairNo pr
  let dr : DivRec := { kind := BitVec.ofNat 4 (k 2), reg := BitVec.ofNat 8 (k 3), unit := BitVec.ofNat 4 (k 4), part := BitVec.ofNat 4 (k 5), pc := 77, lead := 88, trail := 99 }
  let quiet := [1,2,3,4,5,6].foldl (fun s q => if k (20 + q) % 3 = 0 then s else setPerson q (fun z => { z with run := .stopped, cores := 0, moveTo := 0 }) s) s
  let sw := if b 6 then setPerson p (fun z => { z with run := .running, wasWitness := true, cores := if n = 0 then 3 else 12, divTotal := pick [0, 255, 254] 0 (k 7) }) quiet else quiet
  let quiet2 := [1,2,3,4,5,6].foldl (fun s q => setPerson q (fun z => { z with run := .stopped, cores := 0, moveTo := 0 }) s) s
  let c : Fin 4 := ⟨k 8 % 4, by omega⟩
  let st := (if b 9 then quiet2 else quiet)
  let st := setCore c.val (fun z => { z with underTest := k 10 % 4 ≠ 0, fenced := b 11, byOrder := b 12, selftestFail := b 13 }) st
  let st := { st with wit := { st.wit with why := vset st.wit.why c.val (if b 14 then none else some .lift), waiting := vset st.wit.waiting (c.val / 2) (if k 15 % 3 = 0 then 2 else 0) } }
  -- moves
  let cc := k 16 % 4; let dd := k 17 % 4
  let sm := setPerson p (fun z => { z with run := .handover, cores := 2 ^ cc, moveTo := 2 ^ dd, win := Vector.replicate 4 (0x1000, 0x1800) }) quiet2
  let sm := setCore cc (fun z => { z with sb := [], cur := p }) sm
  let sm := { sm with oru := { sm.oru with awaitMove := [] } }
  let sm := setCtx cc p (fun _ => s.ctx 0 1) sm
  let sm := setBankOwner cc (k 18 % 8) (ownerCode p) sm
  -- deferred start
  let img : Img := { len := 64 + 8 + 4, sv := 3 }
  let head := textBytes (tx "DZIM") ++ [BitVec.ofNat 8 p, 0] ++ leBytes 2 3 ++ leBytes 4 8 ++ leBytes 4 4 ++ leBytes 4 4 ++ leBytes 4 0 ++ leBytes 4 100 ++ List.replicate 36 0
  let code : Bytes := [1,2,3,4,5,6,7,8,9,10,11,12]
  let sd := setPerson p (fun z => { z with run := .stopped, deferred := k 19 % 4 ≠ 0, cores := 0, lastCores := 2 ^ cc }) quiet2
  let sd := flashPut 0 (imageAt p) (head ++ code) { sd with bun := { sd.bun with img := vset sd.bun.img p (some img) } }
  let sd := { sd with cus := { sd.cus with bank := Vector.replicate 4 (Vector.replicate 8 0xF) } }
  let m := (choosePlace sd p).getD 1
  let d2 := if m = 1 then 0 else if m = 2 then 1 else if m = 4 then 2 else 3
  let u := leftAll p sd
  let h := (imageHead sd p).getD { code := 0, data := 0, entry := 0, testEntry := 0 }
  let v := (placeCode p h (forAll (partCores u) zeroNow u)).getD u
  let PM := fun s d => premPersonsMoveAndStartLater cc d p m (vget (v.person p).win d2).1 h v s
  -- self checks
  let arg := w32 (if b 30 then 0 else k 31 % 3)
  let sk := if k 32 % 4 = 0 then sd else { sd with bun := { sd.bun with check := some (p, cc), st := .activating } }
  let sk := setPerson p (fun z => { z with run := .running, cores := 2 ^ cc, deferred := false }) sk
  let sk := setCore 0 (fun z => { z with cur := p }) sk
  [("DV", premDivergenceAndSelfTest pr dr c (if b 33 then p else sw.pairPerson n) sw), ("DV", premDivergenceAndSelfTest pr dr c p st), ("PM", PM sm dd), ("PM", PM sd d2),
   ("SC", premSelfChecksEnd 0 arg p cc img (calling 0x2D arg p sk))]

/-- Every clause of DivergenceAndSelfTest has a situation that meets its hypotheses. -/
theorem witness_DivergenceAndSelfTest :
    meets (fun i => (situations i).map (·.2)) [(1, 1, [1, 2, 5]), (3, 1, [3, 4]), (0, 0, [0])] = true := by
  decide +kernel

/-- Every clause of PersonsMoveAndStartLater has a situation that meets its hypotheses. The person leaves nothing to reclaim (takeDown_nothing), and v is the state placeCode answers. -/
theorem witness_PersonsMoveAndStartLater :
    meets (fun i => (situations i).map (·.2)) [(0, 3, [1]), (3, 2, [0])] = true := by
  decide +kernel

/-- Every clause of SelfChecksEnd has a situation that meets its hypotheses. -/
theorem witness_SelfChecksEnd :
    meets (fun i => (situations i).map (·.2)) [(0, 4, [0]), (1, 4, [2, 3]), (9, 4, [1])] = true := by
  decide +kernel

end Sys2Proof.Tests.V
end

