-- ==== Sys2Proof/Tests/WitnessLoadsAndFlow.lean ====
section
/-! SUPPORT. Witnesses: the hypotheses of the statements about loadsandflow, met. -/

namespace Sys2Proof.Tests.L

open Sys2Proof Sys2Proof.Machine Sys2Proof.Tests

set_option linter.unusedVariables false
set_option Elab.async false

/-- The hypotheses of the clauses of LocalLoadsRead, in their order. -/
def premLocalLoadsRead (c : Fin 4) (u : LUnit) (k : LdKind) (m : AMode) (im : Imm) (d s1 : BitVec 6) (g : Guard) (s : State) : List Bool :=
  let x := seen c s
  let q := modeAddr x m s1 k.size
  let r := brevAddr x im s1 k.size
  let n := src2Len (modeSrc m)
  let l := src2Len (.imm im)
  [decide ((s1.toNat ≤ 16) ∧ (ready c n g (src2Regs (modeSrc m)) s = true) ∧ (src2Ok false (modeSrc m) = true) ∧ (localOk c q.1.toNat k.size s = true)),
   decide ((s1.toNat ≤ 16) ∧ (ready c l g [] s = true) ∧ (src2Ok false (.imm im) = true) ∧ (localOk c r.1.toNat k.size s = true) ∧ (k = .h)),
   decide ((s1.toNat ≤ 16) ∧ (ready c l g [] s = true) ∧ (src2Ok false (.imm im) = true) ∧ (localOk c r.1.toNat k.size s = true) ∧ (k = .w)),
   decide ((s1.toNat ≤ 16) ∧ (ready c l g [] s = true) ∧ (src2Ok false (.imm im) = true) ∧ (localOk c r.1.toNat k.size s = true) ∧ (k = .wp))]

/-- The hypotheses of the clauses of SharedLoadsBecomeOutstanding, in their order. -/
def premSharedLoadsBecomeOutstanding (c : Fin 4) (u : LUnit) (k : LdKind) (m : AMode) (im : Imm) (d s1 : BitVec 6) (g : Guard) (s : State) : List Bool :=
  let x := seen c s
  let q := modeAddr x m s1 k.size
  let r := brevAddr x im s1 k.size
  let n := src2Len (modeSrc m)
  let l := src2Len (.imm im)
  [decide ((s1.toNat ≤ 16) ∧ (ready c n g (src2Regs (modeSrc m)) s = true) ∧ (src2Ok false (modeSrc m) = true) ∧ (sharedOk c q.1.toNat k.size false s = true)),
   decide ((s1.toNat ≤ 16) ∧ (ready c l g [] s = true) ∧ (src2Ok false (.imm im) = true) ∧ (sharedOk c r.1.toNat k.size false s = true) ∧ (k = .h)),
   decide ((s1.toNat ≤ 16) ∧ (ready c l g [] s = true) ∧ (src2Ok false (.imm im) = true) ∧ (sharedOk c r.1.toNat k.size false s = true) ∧ (k = .w)),
   decide ((s1.toNat ≤ 16) ∧ (ready c l g [] s = true) ∧ (src2Ok false (.imm im) = true) ∧ (sharedOk c r.1.toNat k.size false s = true) ∧ (k = .wp))]

/-- The hypotheses of the clauses of DismissibleLoadsReadOrPoison, in their order. -/
def premDismissibleLoadsReadOrPoison (c : Fin 4) (u : LUnit) (k : LdKind) (m : DMode) (d s1 : BitVec 6) (g : Guard) (s : State) : List Bool :=
  let x := seen c s
  let w := src2Word false x (dmodeSrc m)
  let a := x.rx s1.toNat + (match m with | .off _ => w | .idx _ => w * w32 k.size)
  let n := src2Len (dmodeSrc m)
  let bad := match m with | .off _ => false | .idx r => x.poisoned r.toNat
  let cause :=
    if bad then 5 else if a.toNat % k.size ≠ 0 then 3 else if inDevice a.toNat then 2
    else if s.mayRead c (curOf c s) a.toNat k.size = false then 1 else 0
  [decide ((ready c n g [] s = true) ∧ (src2Ok false (dmodeSrc m) = true) ∧ (s1.toNat ≤ 16) ∧ (cause ≠ 0)),
   decide ((ready c n g [] s = true) ∧ (src2Ok false (dmodeSrc m) = true) ∧ (s1.toNat ≤ 16) ∧ (cause = 0) ∧ (localOk c a.toNat k.size s = true)),
   decide ((ready c n g [] s = true) ∧ (src2Ok false (dmodeSrc m) = true) ∧ (s1.toNat ≤ 16) ∧ (cause = 0) ∧ (sharedOk c a.toNat k.size false s = true))]

/-- The hypotheses of the clauses of LocalStoresWrite, in their order. -/
def premLocalStoresWrite (c : Fin 4) (u : LUnit) (k : StKind) (m : AMode) (im : Imm) (d s1 : BitVec 6) (g : Guard) (s : State) : List Bool :=
  let x := seen c s
  let q := modeAddr x m s1 k.size
  let r := brevAddr x im s1 k.size
  let n := src2Len (modeSrc m)
  let l := src2Len (.imm im)
  [decide ((s1.toNat ≤ 16) ∧ (ready c n g (src2Regs (modeSrc m) ++ dataRegs k d) s = true) ∧ (src2Ok false (modeSrc m) = true) ∧ (storeOk c q.1.toNat k.size s = true)),
   decide ((s1.toNat ≤ 16) ∧ (ready c l g (dataRegs k d) s = true) ∧ (src2Ok false (.imm im) = true) ∧ (storeOk c r.1.toNat k.size s = true) ∧ (k = .h)),
   decide ((s1.toNat ≤ 16) ∧ (ready c l g (dataRegs k d) s = true) ∧ (src2Ok false (.imm im) = true) ∧ (storeOk c r.1.toNat k.size s = true) ∧ (k = .w)),
   decide ((s1.toNat ≤ 16) ∧ (ready c l g (dataRegs k d) s = true) ∧ (src2Ok false (.imm im) = true) ∧ (storeOk c r.1.toNat k.size s = true) ∧ (k = .wp))]

/-- The hypotheses of the clauses of SharedStoresEnterTheBuffer, in their order. -/
def premSharedStoresEnterTheBuffer (c : Fin 4) (u : LUnit) (k : StKind) (m : AMode) (im : Imm) (d s1 : BitVec 6) (g : Guard) (s : State) : List Bool :=
  let x := seen c s
  let q := modeAddr x m s1 k.size
  let r := brevAddr x im s1 k.size
  let n := src2Len (modeSrc m)
  let l := src2Len (.imm im)
  [decide ((s1.toNat ≤ 16) ∧ (ready c n g (src2Regs (modeSrc m) ++ dataRegs k d) s = true) ∧ (src2Ok false (modeSrc m) = true) ∧ (sharedOk c q.1.toNat k.size true s = true)),
   decide ((s1.toNat ≤ 16) ∧ (ready c l g (dataRegs k d) s = true) ∧ (src2Ok false (.imm im) = true) ∧ (sharedOk c r.1.toNat k.size true s = true) ∧ (k = .h)),
   decide ((s1.toNat ≤ 16) ∧ (ready c l g (dataRegs k d) s = true) ∧ (src2Ok false (.imm im) = true) ∧ (sharedOk c r.1.toNat k.size true s = true) ∧ (k = .w)),
   decide ((s1.toNat ≤ 16) ∧ (ready c l g (dataRegs k d) s = true) ∧ (src2Ok false (.imm im) = true) ∧ (sharedOk c r.1.toNat k.size true s = true) ∧ (k = .wp))]

/-- The hypotheses of the clauses of AddressSyllablesCompute, in their order. -/
def premAddressSyllablesCompute (c : Fin 4) (u : LUnit) (im : Imm) (d s1 s2 : BitVec 6) (g : Guard) (s : State) : List Bool :=
  let n := src2Len (.imm im)
  [decide ((ready c n g [] s = true) ∧ (src2Ok false (.imm im) = true) ∧ (d.toNat ≤ 16) ∧ (s1.toNat ≤ 16)),
   decide ((ready c 1 g [s2.toNat] s = true) ∧ (d.toNat ≤ 16) ∧ (s1.toNat ≤ 16)),
   decide ((ready c 1 g [s1.toNat] s = true) ∧ (d.toNat ≤ 16)),
   decide ((ready c 1 g [] s = true) ∧ (s1.toNat ≤ 16))]

/-- The hypotheses of the clauses of FlowSyllablesSetTheTarget, in their order. -/
def premFlowSyllablesSetTheTarget (c : Fin 4) (im : Imm) (s1 : BitVec 6) (g : Guard) (s : State) : List Bool :=
  let x := seen c s
  let n := src2Len (.imm im)
  let wrap := (s.row (curOf c s)).rsMode
  [decide ((ready c n g [] s = true) ∧ (src2Ok false (.imm im) = true)),
   decide ((ready c n g [] s = true) ∧ (src2Ok false (.imm im) = true) ∧ (x.rsdepth < 16 ∨ wrap = 0)),
   decide ((ready c 1 g [s1.toNat] s = true)),
   decide ((ready c 1 g [s1.toNat] s = true) ∧ (x.rsdepth < 16 ∨ wrap = 0)),
   decide ((ready c 1 g [] s = true)),
   decide ((ready c 1 g [] s = true) ∧ (0 < x.rsdepth ∨ wrap = 0))]

/-- The hypotheses of the clauses of FlowAndLoopsSteerTheCore (part 2), in their order. -/
def premLoopSyllablesChangeTheLevels (c : Fin 4) (im : Imm) (s1 : BitVec 6) (g : Guard) (s : State) : List Bool :=
  let x := seen c s
  let n := src2Len (.imm im)
  let v := src2Word false x (.imm im)
  let cnt := x.rw s1.toNat
  [decide (ready c n g [s1.toNat] s = true ∧ src2Ok false (.imm im) = true ∧ v.getLsbD 31 = false ∧ x.ldepth < 3 ∧ cnt ≠ 0),
   decide (ready c n g [s1.toNat] s = true ∧ src2Ok false (.imm im) = true ∧ v.getLsbD 31 = false ∧ x.ldepth < 3 ∧ cnt = 0),
   decide (ready c 1 g [] s = true ∧ (x.ldepth ≤ 1 ∨ vget x.le (x.ldepth - 2) ≠ x.pc))]

/-- The hypotheses of the clauses of ControlRegisterSyllables, in their order. -/
def premControlRegisterSyllables (c : Fin 4) (d s1 : BitVec 6) (g : Guard) (s : State) : List Bool :=
  [decide ((ready c 1 g [] s = true) ∧ (ctlListed s1.toNat = true)),
   decide ((ready c 1 g [s1.toNat] s = true) ∧ (ctlListed d.toNat = true) ∧ (ctlReadOnly d.toNat = false)),
   decide ((ready c 1 g [] s = true) ∧ (mayFault c s = true) ∧ (ctlListed d.toNat = true) ∧ (ctlReadOnly d.toNat = true))]

/-- The hypotheses of the clauses of WaitFenceAndPublish, in their order. -/
def premWaitFenceAndPublish (c : Fin 4) (s1 s2 : BitVec 6) (g : Guard) (s : State) : List Bool :=
  let x := seen c s
  let p := curOf c s
  let stamp := (s.core c).stamp
  let n := (x.rw s2.toNat).toNat % 128
  let w := setCtx c p (fun _ => { nextCtx x 1 [] {} with waiting := true }) s
  [decide ((ready c 1 g [] s = true) ∧ ((s.core c).sb = []) ∧ (vget (s.core c).cand p ≠ 0)),
   decide ((ready c 1 g [] s = true) ∧ ((s.core c).sb = []) ∧ (vget (s.core c).cand p = 0) ∧ (nothingToSend w = true) ∧ (nextRunnable w c = none)),
   decide ((ready c 1 g [] s = true) ∧ ((s.core c).sb = [])),
   decide ((ready c 1 g (pairRegs s1 ++ [s2.toNat]) s = true) ∧ (slotOwned (s.row p) n = true) ∧ ((s.core c).sb = []) ∧ (vget s.gates.closed (pairOf c) = false) ∧ ((vget s.gates.pairF (pairOf c)).length < 8) ∧ (loadBefore (s.core c) stamp = false)),
   decide ((ready c 1 g (pairRegs s1 ++ [s2.toNat]) s = true) ∧ (mayFault c s = true) ∧ (slotOwned (s.row p) n = false))]

/-- The hypotheses of the clauses of CustodySyllablesMovePages, in their order. -/
def premCustodySyllablesMovePages (c : Fin 4) (d s1 s2 : BitVec 6) (g : Guard) (s : State) : List Bool :=
  let x := seen c s
  let p := curOf c s
  let a := (x.rw s1.toNat).toNat
  let n := (a - 0x10000000) / 4096
  let q := (x.rw s2.toNat).toNat
  let own := s.pageOwner n
  let me := ownerCode p
  [decide (ready c 1 g [s1.toNat, s2.toNat] s = true ∧ 0x10000000 ≤ a ∧ a < 0x10400000 ∧ (s.core c).sb = [] ∧ ownInFlight s c = [] ∧ s.cus.pageZero.length < 16 ∧ s.cus.pageZero.contains n = false ∧ s.cus.doubleFree ≤ 0xFFFF ∧ own = me),
   decide (ready c 1 g [s1.toNat, s2.toNat] s = true ∧ 0x10000000 ≤ a ∧ a < 0x10400000 ∧ (s.core c).sb = [] ∧ ownInFlight s c = [] ∧ s.cus.pageZero.length < 16 ∧ s.cus.pageZero.contains n = false ∧ s.cus.doubleFree ≤ 0xFFFF ∧ own ≠ me ∧ own ≠ 0xF),
   decide (ready c 1 g [s1.toNat, s2.toNat] s = true ∧ 0x10000000 ≤ a ∧ a < 0x10400000 ∧ (s.core c).sb = [] ∧ ownInFlight s c = [] ∧ s.cus.pageZero.length < 16 ∧ s.cus.pageZero.contains n = false ∧ s.cus.doubleFree ≤ 0xFFFF ∧ own = 0xF ∧ (s.row p).pageQuota < s.pagesHeld p + 1),
   decide (ready c 1 g [s1.toNat, s2.toNat] s = true ∧ 0x10000000 ≤ a ∧ a < 0x10400000 ∧ (s.core c).sb = [] ∧ ownInFlight s c = [] ∧ s.cus.pageZero.length < 16 ∧ s.cus.pageZero.contains n = false ∧ s.cus.doubleFree ≤ 0xFFFF ∧ own = 0xF ∧ s.pagesHeld p + 1 ≤ (s.row p).pageQuota),
   decide (ready c 1 g [s1.toNat, s2.toNat] s = true ∧ 0x10000000 ≤ a ∧ a < 0x10400000 ∧ (s.core c).sb = [] ∧ ownInFlight s c = [] ∧ s.cus.pageZero.length < 16 ∧ s.cus.pageZero.contains n = false ∧ s.cus.doubleFree ≤ 0xFFFF ∧ own = 0xF),
   decide (ready c 1 g [s1.toNat, s2.toNat] s = true ∧ 0x10000000 ≤ a ∧ a < 0x10400000 ∧ (s.core c).sb = [] ∧ ownInFlight s c = [] ∧ s.cus.pageZero.length < 16 ∧ s.cus.pageZero.contains n = false ∧ s.cus.doubleFree ≤ 0xFFFF ∧ own = me),
   decide (ready c 1 g [s1.toNat, s2.toNat] s = true ∧ 0x10000000 ≤ a ∧ a < 0x10400000 ∧ (s.core c).sb = [] ∧ ownInFlight s c = [] ∧ s.cus.pageZero.length < 16 ∧ s.cus.pageZero.contains n = false ∧ s.cus.doubleFree ≤ 0xFFFF ∧ own = me ∧ q = p),
   decide (ready c 1 g [s1.toNat, s2.toNat] s = true ∧ 0x10000000 ≤ a ∧ a < 0x10400000 ∧ (s.core c).sb = [] ∧ ownInFlight s c = [] ∧ s.cus.pageZero.length < 16 ∧ s.cus.pageZero.contains n = false ∧ s.cus.doubleFree ≤ 0xFFFF ∧ own = me ∧ q ≠ p ∧ (q = 0 ∨ 6 < q ∨ s.present q = false ∨ (s.person q).run = .dead)),
   decide (ready c 1 g [s1.toNat, s2.toNat] s = true ∧ 0x10000000 ≤ a ∧ a < 0x10400000 ∧ (s.core c).sb = [] ∧ ownInFlight s c = [] ∧ s.cus.pageZero.length < 16 ∧ s.cus.pageZero.contains n = false ∧ s.cus.doubleFree ≤ 0xFFFF ∧ own = me ∧ q ≠ p ∧ 1 ≤ q ∧ q ≤ 6 ∧ s.present q = true ∧ (s.person q).run ≠ .dead ∧ (s.row q).pageQuota < s.pagesHeld q + 1),
   decide (ready c 1 g [s1.toNat, s2.toNat] s = true ∧ 0x10000000 ≤ a ∧ a < 0x10400000 ∧ (s.core c).sb = [] ∧ ownInFlight s c = [] ∧ s.cus.pageZero.length < 16 ∧ s.cus.pageZero.contains n = false ∧ s.cus.doubleFree ≤ 0xFFFF ∧ own = me ∧ q ≠ p ∧ 1 ≤ q ∧ q ≤ 6 ∧ s.present q = true ∧ (s.person q).run ≠ .dead ∧ s.pagesHeld q + 1 ≤ (s.row q).pageQuota)]

/-- The hypotheses of the clauses of ForeignFreeFaults, in their order. -/
def premForeignFreeFaults (c : Fin 4) (d s1 s2 : BitVec 6) (g : Guard) (s : State) : List Bool :=
  let x := seen c s
  let p := curOf c s
  let a := (x.rw s1.toNat).toNat
  let n := (a - 0x10000000) / 4096
  let own := s.pageOwner n
  [decide ((ready c 1 g [s1.toNat, s2.toNat] s = true) ∧ ((s.core c).sb = []) ∧ (ownInFlight s c = []) ∧ (cusObj a = none)),
   decide ((ready c 1 g [s1.toNat, s2.toNat] s = true) ∧ ((s.core c).sb = []) ∧ (ownInFlight s c = []) ∧ (mayFault c s = true) ∧ (0x10000000 ≤ a) ∧ (a < 0x10400000) ∧ (own ≠ ownerCode p)),
   decide ((ready c 1 g [s1.toNat, s2.toNat] s = true) ∧ ((s.core c).sb = []) ∧ (ownInFlight s c = []) ∧ (mayFault c s = true) ∧ (0x10000000 ≤ a) ∧ (a < 0x10400000) ∧ (own ≠ ownerCode p) ∧ (own ≠ 0xF))]

/-- The hypotheses of the clauses of SyllableFaultsNameTheirCause, in their order. -/
def premSyllableFaultsNameTheirCause (c : Fin 4) (u : LUnit) (k : LdKind) (j : StKind) (m : AMode) (im : Imm) (d s1 s2 : BitVec 6) (g : Guard) (s : State) : List Bool :=
  let x := seen c s
  let p := curOf c s
  let n := src2Len (modeSrc m)
  let a := (modeAddr x m s1 k.size).1
  let b := (modeAddr x m s1 j.size).1
  let div := fAdd f32 (flagsRm x.flags) (flagsFtz x.flags) (x.rw s1.toNat).toNat (x.rw s2.toNat).toNat
  [decide ((mayFault c s = true) ∧ (ready c n g (src2Regs (modeSrc m)) s = true) ∧ (src2Ok false (modeSrc m) = true) ∧ (s1.toNat ≤ 16) ∧ (a.toNat % k.size ≠ 0 ∨ inDevice a.toNat = true ∧ k.size ≠ 4)),
   decide ((mayFault c s = true) ∧ (ready c n g (src2Regs (modeSrc m)) s = true) ∧ (src2Ok false (modeSrc m) = true) ∧ (s1.toNat ≤ 16) ∧ (a.toNat % k.size = 0) ∧ (inDevice a.toNat = false) ∧ (s.mayRead c p a.toNat k.size = false)),
   decide ((mayFault c s = true) ∧ (ready c n g (src2Regs (modeSrc m) ++ dataRegs j d) s = true) ∧ (src2Ok false (modeSrc m) = true) ∧ (s1.toNat ≤ 16) ∧ (b.toNat % j.size ≠ 0 ∨ inDevice b.toNat = true ∧ j.size ≠ 4)),
   decide ((mayFault c s = true) ∧ (ready c n g (src2Regs (modeSrc m) ++ dataRegs j d) s = true) ∧ (src2Ok false (modeSrc m) = true) ∧ (s1.toNat ≤ 16) ∧ (b.toNat % j.size = 0) ∧ (b.toNat < 0x20000)),
   decide ((mayFault c s = true) ∧ (ready c n g (src2Regs (modeSrc m) ++ dataRegs j d) s = true) ∧ (src2Ok false (modeSrc m) = true) ∧ (s1.toNat ≤ 16) ∧ (b.toNat % j.size = 0) ∧ (0x20000 ≤ b.toNat) ∧ (inDevice b.toNat = false) ∧ (s.mayWrite c p b.toNat = false)),
   decide ((mayFault c s = true) ∧ (ready c n g (src2Regs (modeSrc m) ++ dataRegs j d) s = true) ∧ (src2Ok false (modeSrc m) = true) ∧ (s1.toNat ≤ 16) ∧ (b.toNat % j.size = 0) ∧ (inDevice b.toNat = false) ∧ (s.mayWrite c p b.toNat = true) ∧ (inSpill x (s.row p).rsMode b.toNat = true)),
   decide ((mayFault c s = true) ∧ (ready c (src2Len (.imm im)) g [s1.toNat] s = true) ∧ (src2Ok false (.imm im) = true) ∧ ((src2Word false x (.imm im)).getLsbD 31 = false) ∧ (3 ≤ x.ldepth)),
   decide ((mayFault c s = true) ∧ (ready c 1 g [] s = true) ∧ ((s.row p).rsMode = 1) ∧ (x.rsdepth = 0)),
   decide ((mayFault c s = true) ∧ (ready c 1 g [s1.toNat] s = true) ∧ ((s.row p).rsMode = 1) ∧ (x.rsdepth = 16)),
   decide ((mayFault c s = true) ∧ (ready c 1 g [s1.toNat, s2.toNat] s = true) ∧ (x.flags.getLsbD 19 = true) ∧ (x.rw s2.toNat = 0)),
   decide ((mayFault c s = true) ∧ (ready c 1 g [s1.toNat, s2.toNat] s = true) ∧ ((s.row p).precise = true) ∧ ((div.2.nv || div.2.dz) = true))]

/-- The hypotheses of the clauses of DoubleFaultStopsThePerson, in their order. -/
def premDoubleFaultStopsThePerson (c : Fin 4) (d s1 : BitVec 6) (g : Guard) (s : State) : List Bool :=
  [decide ((ready c 1 g [] s = true) ∧ (mayFault c s = false) ∧ (ctlListed d.toNat = true) ∧ (ctlReadOnly d.toNat = true) ∧ (s.bun.check = none))]

/-- The hypotheses of the clauses of ResultsOfLatencyOneAreSeenNext, in their order. -/
def premResultsOfLatencyOneAreSeenNext (c : Fin 4) (n r : Nat) (v : Word) (po b : Bool) (fl : Sticky) (s : State) : List Bool :=
  [decide ((quiet c n s = true) ∧ (r < 64)),
   decide ((quiet c n s = true) ∧ (r < 64) ∧ (r < 8)),
   decide ((quiet c n s = true) ∧ (r < 64) ∧ (r < 17))]

/-- The hypotheses of every statement of this file in the situations of one seed. -/
def situations (seed : Nat) : List (String × List Bool) :=
  let r := rnds (seed * 7919 + 13) 20
  let k := fun i => r.getD i 0
  let s := live (seed + 1) (seed % 2 = 0)
  let g := gd (k 12)
  let d := regs (if seed % 3 = 0 then k 0 % 8 else k 0); let s1 := regs (k 1 % 17); let s2 := regs (k 2); let w1 := regs (k 1 % 20)
  [("LL", premLocalLoadsRead 0 (lu (k 3)) (ldk (k 4)) (amode (k 5)) (imm (k 6)) d s1 g s),
   ("SL", premSharedLoadsBecomeOutstanding 0 (lu (k 3)) (ldk (k 4)) (amode (k 5)) (imm (k 6)) d s1 g s),
   ("DL", premDismissibleLoadsReadOrPoison 0 (lu (k 3)) (ldk (k 4)) (dmode (k 5)) d s1 g s),
   ("LS", premLocalStoresWrite 0 (lu (k 3)) (stk (k 4)) (amode (k 5)) (imm (k 6)) d s1 g s),
   ("SS", premSharedStoresEnterTheBuffer 0 (lu (k 3)) (stk (k 4)) (amode (k 5)) (imm (k 6)) d s1 g s),
   ("AD", premAddressSyllablesCompute 0 (lu (k 3)) (imm (k 6)) (regs (k 0 % 18)) s1 s2 g s),
   ("FL", premFlowSyllablesSetTheTarget 0 (imm (k 6)) w1 g s),
   ("LP", premLoopSyllablesChangeTheLevels 0 (imm (k 6)) w1 g s),
   ("CR", premControlRegisterSyllables 0 (regs (k 0)) (regs (k 1)) g s),
   ("WF", premWaitFenceAndPublish 0 w1 (regs (16 + k 2 % 4)) g s),
   ("WF2", premWaitFenceAndPublish 0 (regs (k 1)) (regs (k 2)) g s),
   ("CU", premCustodySyllablesMovePages 0 d (regs (k 1 % 8)) (regs (k 2 % 20)) g s),
   ("FF", premForeignFreeFaults 0 d (regs (k 1 % 20)) (regs (k 2 % 20)) g s),
   ("SF", premSyllableFaultsNameTheirCause 0 (lu (k 3)) (ldk (k 4)) (stk (k 4)) (amode (k 5)) (imm (k 6)) d s1 s2 g s),
   ("DF", premDoubleFaultStopsThePerson 0 (regs (k 0)) w1 g s),
   ("R1", premResultsOfLatencyOneAreSeenNext 0 1 (k 0 % 64) (w32 (k 3)) (k 4 % 2 = 0) (k 5 % 2 = 0) {} s)]

/-- Every clause of LocalLoadsRead has a situation that meets its hypotheses. -/
theorem witness_LocalLoadsRead :
    meets (fun i => (situations i).map (·.2)) [(10, 0, [0, 3]), (34, 0, [2]), (36, 0, [1])] = true := by
  decide +kernel

/-- Every clause of SharedLoadsBecomeOutstanding has a situation that meets its hypotheses. -/
theorem witness_SharedLoadsBecomeOutstanding :
    meets (fun i => (situations i).map (·.2)) [(7, 1, [0, 2]), (116, 1, [1]), (150, 1, [3])] = true := by
  decide +kernel

/-- Every clause of DismissibleLoadsReadOrPoison has a situation that meets its hypotheses. -/
theorem witness_DismissibleLoadsReadOrPoison :
    meets (fun i => (situations i).map (·.2)) [(0, 2, [0]), (5, 2, [1]), (11, 2, [2])] = true := by
  decide +kernel

/-- Every clause of LocalStoresWrite has a situation that meets its hypotheses. -/
theorem witness_LocalStoresWrite :
    meets (fun i => (situations i).map (·.2)) [(32, 3, [3]), (84, 3, [0, 2]), (101, 3, [1])] = true := by
  decide +kernel

/-- Every clause of SharedStoresEnterTheBuffer has a situation that meets its hypotheses. -/
theorem witness_SharedStoresEnterTheBuffer :
    meets (fun i => (situations i).map (·.2)) [(7, 4, [0, 2]), (11, 4, [3]), (140, 4, [1])] = true := by
  decide +kernel

/-- Every clause of AddressSyllablesCompute has a situation that meets its hypotheses. -/
theorem witness_AddressSyllablesCompute :
    meets (fun i => (situations i).map (·.2)) [(0, 5, [0, 1, 2, 3])] = true := by
  decide +kernel

/-- Every clause of FlowSyllablesSetTheTarget has a situation that meets its hypotheses. -/
theorem witness_FlowSyllablesSetTheTarget :
    meets (fun i => (situations i).map (·.2)) [(0, 6, [0, 1, 2, 3, 4, 5])] = true := by
  decide +kernel

/-- Every clause of LoopSyllablesChangeTheLevels has a situation that meets its hypotheses. -/
theorem witness_LoopSyllablesChangeTheLevels :
    meets (fun i => (situations i).map (·.2)) [(7, 7, [0, 2]), (11, 7, [1])] = true := by
  decide +kernel

/-- Every clause of ControlRegisterSyllables has a situation that meets its hypotheses. -/
theorem witness_ControlRegisterSyllables :
    meets (fun i => (situations i).map (·.2)) [(1, 8, [0, 1]), (7, 8, [2])] = true := by
  decide +kernel

/-- Every clause of WaitFenceAndPublish has a situation that meets its hypotheses. That the CIC changes nothing is checked as that it has nothing to send (cicUpdate_quiet). -/
theorem witness_WaitFenceAndPublish :
    meets (fun i => (situations i).map (·.2)) [(1, 9, [0, 2, 4]), (28, 10, [1, 3])] = true := by
  decide +kernel

/-- Every clause of CustodySyllablesMovePages has a situation that meets its hypotheses. -/
theorem witness_CustodySyllablesMovePages :
    meets (fun i => (situations i).map (·.2)) [(0, 11, [2, 4]), (1, 11, [1]), (7, 11, [0, 5, 7]), (28, 11, [3]), (61, 11, [6]), (66, 11, [8]), (247, 11, [9])] = true := by
  decide +kernel

/-- Every clause of ForeignFreeFaults has a situation that meets its hypotheses. -/
theorem witness_ForeignFreeFaults :
    meets (fun i => (situations i).map (·.2)) [(40, 12, [1, 2]), (0, 12, [0])] = true := by
  decide +kernel

/-- Every clause of SyllableFaultsNameTheirCause has a situation that meets its hypotheses. -/
theorem witness_SyllableFaultsNameTheirCause :
    meets (fun i => (situations i).map (·.2)) [(2, 13, [3]), (5, 13, [5]), (18, 13, [7]), (25, 13, [0, 2, 6]), (190, 13, [8]), (268, 13, [1, 4, 9]), (274, 13, [10])] = true := by
  decide +kernel

/-- Every clause of DoubleFaultStopsThePerson has a situation that meets its hypotheses. -/
theorem witness_DoubleFaultStopsThePerson :
    meets (fun i => (situations i).map (·.2)) [(0, 14, [0])] = true := by
  decide +kernel

/-- Every clause of ResultsOfLatencyOneAreSeenNext has a situation that meets its hypotheses. -/
theorem witness_ResultsOfLatencyOneAreSeenNext :
    meets (fun i => (situations i).map (·.2)) [(23, 15, [0, 1, 2])] = true := by
  decide +kernel

end Sys2Proof.Tests.L
end

