-- ==== Sys2Proof/Tests/WitnessOrders.lean ====
section
/-! SUPPORT. Witnesses: the hypotheses of the statements about orders, met. -/

namespace Sys2Proof.Tests.W

open Sys2Proof Sys2Proof.Machine Sys2Proof.Tests

set_option linter.unusedVariables false
set_option Elab.async false

/-- The hypotheses of the clauses of OrdersJoinTheirSlot (part 1), in their order. -/
def premLineOrdersJoinTheSlot (ln : Ln) (p len at_ : Nat) (c : Fin 4) (n : Fin 8) (on pass now rst : Bool) (data : Bytes) (sec : Int) (ds : List (Fin 10)) (pl : Place) (ch : ChanArg) (chs : List Nat) (tol : Option Nat) (r : Retire) (s : State) : List Bool :=
  let u := lineTaken ln s
  let f := fracSteps ds
  let who := partyOf u ln.car
  let v := setCar ln.car (fun q => { q with tags := q.tags.map fun k => if k.tag = ln.tag ∧ k.node = 0 then { k with installs := true } else k }) u
  let raw := (u.car ln.car).chBuf
  [lineGivesP ln .hold s,
   lineGivesP ln .release s,
   lineGivesP ln .commission s,
   lineGivesP ln .enrol s,
   lineGivesP ln .retire s,
   lineGivesP ln .confirm s,
   decide (lineAccepted ln s = true ∧ (sessOf u ln.car).isSome = true ∧ mayOrder who (some ln.car) .release u = true ∧ ((u.oru.orders.all fun q => decide (q.act ≠ .confirm)) = true) ∧ u.stw.retire = some r ∧ r.cancelled = none),
   decide (1 ≤ p ∧ p ≤ 6) && (lineGivesP ln (.start p) s),
   decide (1 ≤ p ∧ p ≤ 6) && (lineGivesP ln (.stop p) s),
   decide (1 ≤ p ∧ p ≤ 6) && (lineGivesP ln (.restart p) s),
   decide (1 ≤ p ∧ p ≤ 6) && (lineGivesP ln (.resume p) s),
   decide (1 ≤ p ∧ p ≤ 6) && (lineGivesP ln (.promote p (leadCore u p / 2)) s),
   decide (1 ≤ p ∧ p ≤ 6) && (lineGivesP ln (.promote p 0) s),
   decide (1 ≤ p ∧ p ≤ 6) && (lineGivesP ln (.promote p 1) s),
   decide (1 ≤ p ∧ p ≤ 6) && (lineGivesP ln (.demote p (leadCore u p)) s),
   decide (1 ≤ p ∧ p ≤ 6) && (lineGivesP ln (.demote p 0) s),
   decide (1 ≤ p ∧ p ≤ 6) && (lineGivesP ln (.demote p 2) s),
   decide (1 ≤ p ∧ p ≤ 6) && (lineGivesP ln (match pl with | .c0 => .demote p 0 | .c2 => .demote p 2 | .pairA => .promote p 0 | .pairB => .promote p 1) s),
   lineGivesP ln (.fence c.val) s,
   lineGivesP ln (.lift c.val (some pass)) s,
   lineGivesP ln (.feed n.val on) s,
   lineGivesP ln (.openB len) s,
   decide (lineAccepted ln s = true ∧ (sessOf u ln.car).isSome = true ∧ actRight u who .closeB = none ∧ u.bun.st = .receiving ∧ u.bun.stager = who ∧ u.bun.spoiled = false),
   decide (16 ≤ data.length ∧ data.length ≤ 96) && (lineGivesP ln (.writeB at_ data) s),
   lineGivesP ln (.activate now rst) s,
   lineGivesP ln .discard s,
   decide (ds.length ≤ 5) && (lineGivesP ln (.setTime (sec + (f / 32768 : Nat)).toNat (f % 32768)) s),
   decide (tolBad s ch tol = false ∧ baseChans u ch = some chs) && (lineGivesP ln (.baseline chs (decide (ch = .all)) tol) s),
   decide (lineAccepted ln s = true ∧ (sessOf u ln.car).isSome = true ∧ actRight v who (.installCharter raw) = none)]

/-- The hypotheses of the clauses of OrdersJoinTheirSlot (part 2), in their order. -/
def premOtherOrdersJoinTheSlot (core : Fin 4) (arg : Word) (p q m k v : Nat) (n : Fin 8) (a : Act) (gs : List GTxn) (pass : Bool) (s : State) : List Bool :=
  let u := callTaken core.val p s
  let who := if arg.toNat % 8 = 0 then p else arg.toNat % 8
  let kind := arg.toNat / 16 % 4
  let w := fun (i : Nat) => descWord arg i s
  let x := stampArrival s
  let z := { x with gates := { x.gates with ghF := gs } }
  [decide (kind = 0) && (callGivesP core 0x18 p arg (.promote who (leadCore u who / 2)) s),
   decide (kind = 1) && (callGivesP core 0x18 p arg (.demote who (leadCore u who)) s),
   decide (kind = 2) && (callGivesP core 0x18 p arg (match arg.toNat / 256 % 4 with | 0 => .demote who 0 | 1 => .demote who 2 | 2 => .promote who 0 | _ => .promote who 1) s),
   decide (kind = 3) && (callGivesP core 0x18 p arg (.resume who) s),
   decide (arg.getLsbD 4 = true) && (callGivesP core 0x19 p arg (.fence (arg.toNat % 4)) s),
   decide (arg.getLsbD 4 = false) && (callGivesP core 0x19 p arg (.lift (arg.toNat % 4) (some pass)) s),
   decide (callerOf s core.val 0x2A arg = some p ∧ p < 7 ∧ actRight u p .closeB = none ∧ u.bun.st = .receiving ∧ u.bun.stager = p ∧ u.bun.spoiled = false),
   callGivesP core 0x2B p arg (.activate (arg.getLsbD 0) (arg.getLsbD 1)) s,
   callGivesP core 0x2C p arg .discard s,
   decide (descOk p arg s = true) && (callGivesP core 0x28 p arg (.openB (w 0)) s),
   decide (descOk p arg s = true) && (callGivesP core 0x11 p arg (.setTime (w 0) (w 1 / 2 % 32768)) s),
   decide (descOk p arg s = true ∧ 16 ≤ w 2 ∧ w 2 ≤ 16384 ∧ bufCheck s p (w 0) (w 2) = .ok) && (callGivesP core 0x29 p arg (.writeB (w 1) (s.sramRead (w 0) (w 2))) s),
   decide (ownsFrame s core.val (0xB1 + n.val) = true ∧ q = curOf core.val s ∧ mayOrder q none (.feed n.val true) x = true),
   decide (ownsFrame s core.val (0xB1 + n.val) = true ∧ q = curOf core.val s ∧ mayOrder q none (.feed n.val false) x = true),
   decide (s.gates.ghF = .cellOrder m v k :: gs ∧ s.gates.ghTaken = [] ∧ s.isl.power = .run ∧ cellOwner s m = p ∧ cellAct (s.cell m).bind v = some a ∧ mayOrder p none a z = true ∧ retireApart a z = true)]

/-- The hypotheses of the clauses of SlotEndResolvesItsOrders, in their order. -/
def premSlotEndResolvesItsOrders (q r : Order) (len sec frac n m : Nat) (s : State) : List Bool :=
  let safe := match s.stw.charter with | some ch => maskBit ch.feedSafe n | none => false
  [decide ((s.isl.power = .run) ∧ (s.oru.orders = [])),
   decide ((s.isl.power = .nap)),
   decide ((s.isl.power = .run) ∧ (s.oru.orders = [q]) ∧ (q.objs = objsOf s q.act) ∧ (mayOrder q.party (carOf q.dest) q.act s = true) ∧ (q.act = .openB len)),
   decide ((s.isl.power = .run) ∧ (s.oru.orders = [q]) ∧ (q.objs = objsOf s q.act) ∧ (mayOrder q.party (carOf q.dest) q.act s = true) ∧ (q.act = .discard)),
   decide ((s.isl.power = .run) ∧ (s.oru.orders = [q]) ∧ (q.objs = objsOf s q.act) ∧ (mayOrder q.party (carOf q.dest) q.act s = true) ∧ (q.act = .setTime sec frac)),
   decide ((s.isl.power = .run) ∧ (s.oru.orders = [q]) ∧ (q.objs = objsOf s q.act) ∧ (mayOrder q.party (carOf q.dest) q.act s = true) ∧ (q.act = .hold)),
   decide ((s.isl.power = .run) ∧ (s.oru.orders = [q, r]) ∧ (q.act = .feed n safe) ∧ (r.act = .feed n (!safe)) ∧ (q.objs = [.feed n]) ∧ (r.objs = [.feed n]) ∧ (n < 8) ∧ (q.dest = .out n) ∧ (r.dest = .out m) ∧ (m < 8) ∧ (m ≠ n) ∧ (mayOrder q.party none q.act s = true))]

def party (n : Nat) : Sess := { party := n }
def lineS (seed : Nat) (ln : Ln) (s : State) : State :=
  let r := rnds (seed * 17 + 5) 20
  let k := fun i => r.getD i 0
  let s := { s with isl := { s.isl with power := .run, step := 10 }, win := { s.win with state := 3 } }
  { s with oru := { s.oru with cars := [{ car := ln.car, sess := if k 0 % 5 = 0 then none else some (party (pick [1,2,3,7,8] 1 (k 1))), tags := if k 2 % 3 = 0 then [{ tag := some 7, node := 0, sfx := false }] else [], chBuf := if k 3 % 2 = 0 then [1,2,3] else [] }] },
           bun := { s.bun with st := pick [.empty, .receiving, .staged, .done, .pendingAll] .empty (k 4), stager := k 5 % 3, total := 32, written := 16 * (k 6 % 2) },
           fuses := { s.fuses with counters := s.fuses.counters.set 0 (1 + k 7 % 4) },
           stw := { s.stw with retire := if k 8 % 2 = 0 then some { party := (pick [1,2,3,7,8] 1 (k 1)), car := ln.car, slot := 1 } else none } }
/-- The hypotheses of every statement of this file in the situations of one seed. -/
def situations (seed : Nat) : List (String × List Bool) :=
  let r := rnds (seed * 7919 + 13) 60
  let k := fun i => r.getD i 0
  let ln : Ln := { car := pick [.svc, .hst, .win, .core 1, .chain 2 1] .svc (k 0), tag := if k 1 % 4 = 0 then none else some (k 2 % 9), sfx := k 3 % 2 = 0, pos := none }
  let s := lineS seed ln (dev (seed + 1))
  let sr := { s with stw := { s.stw with charter := s.stw.charter.map fun c => { c with rows := c.rows.map fun q => if q.present = 1 then { q with rights := 0x1FFFF } else q } } }
  let s := if k 4 % 3 = 0 then s else sr
  let rt := fun (s : State) => s.stw.retire.getD { party := 1, car := .svc, slot := 1 }
  let u := lineTaken ln s
  let ch := pick [ChanArg.all, .name (tx "VDD_A"), .name (tx "FEED_0"), .name (tx "LNK_0")] .all (k 5)
  let p := k 6 % 7
  let arg := w32 (pick [0x10000000, 0x10000010] 0 (k 7) + 0)
  let arg2 := w32 (k 8 % 1024)
  let q : Nat := 1 + k 9 % 2
  let len := 16
  let w := leBytes 4 (pick [0x10000100, 700000000, 100] 0 (k 10)) ++ leBytes 4 (16 * (k 11 % 2)) ++ leBytes 4 (pick [16, 8, 20000, 32] 16 (k 12)) ++ leBytes 4 0
  let sm := { s with mem := { s.mem with sram := cellsPut 0 [] arg.toNat w, ecc := [] }, cus := { s.cus with page := s.cus.page.setIfInBounds 0 (if k 13 % 5 = 0 then 2 else ownerCode q) } }
  let svcs := [0x18, 0x19, 0x2A, 0x2B, 0x2C]
  let bt := pick [CellBindTo.feed (k 14 % 8), .run (1 + k 35 % 3), .life, .fence (k 36 % 4)] .life (k 37)
  let cv := 1 + k 38 % 2
  let cm := k 39 % 8
  let OC := fun a s => premOtherOrdersJoinTheSlot 0 a q (curOf 0 s) cm (k 40 % 16) cv ⟨k 14 % 8, by omega⟩ ((cellAct bt cv).getD .hold) [.chars [65]] (k 15 % 2 = 0) s
  let sc := fun (s : State) => setCell cm (fun c => { c with bind := bt }) { s with gates := { s.gates with ghF := [.cellOrder cm cv (k 40 % 16), .chars [65]] } }
  let sF := { sm with cus := { sm.cus with frame := (Vector.replicate 272 (ownerCode (curOf 0 sm))) } }
  let fo : Nat := k 16 % 8
  let acts := pick [Act.openB 77, .discard, .setTime 700000000 5, .hold] .hold (k 17)
  let o1 : Order := { arr := k 18 % 9, src := 5, party := q, rank := 1, act := acts, objs := objsOf s acts, dest := (if k 20 % 2 = 0 then .line ln else .cell 3) }
  let safe := match s.stw.charter with | some c => maskBit c.feedSafe fo | none => false
  let oq : Order := { arr := k 21 % 9, src := 5, party := q, rank := q, act := .feed fo safe, objs := [.feed fo], dest := .out fo }
  let or_ : Order := { arr := 10 + k 22 % 9, src := 4, party := 1, rank := 1, act := .feed fo (!safe), objs := [.feed fo], dest := .out ((fo + 1) % 8) }
  let SE := fun s q r => premSlotEndResolvesItsOrders q r 77 700000000 5 fo ((fo + 1) % 8) s
  let sb := { s with port := { s.port with burst := if k 23 % 2 = 0 then some (k 24 % 8) else none, heldOn := if k 25 % 2 = 0 then [3] else [] } }
  -- a device of person 1 alone, which holds every right; its image stands in FB0, and nothing is staged
  let one : State → State := fun s =>
    let s := [1, 2, 3, 4, 5, 6].foldl (fun s p => setPerson p (fun z => { z with run := if p = 1 then .stopped else .absent, cores := 0, moveTo := 0 }) s) s
    let s := { s with stw := { s.stw with charter := some { rows := #v[{}, { present := 1, rank := 1, placement := 3, rights := 0x1FFFF, bankQuota := 8 }, {}, {}, {}, {}, {}] } } }
    let s := { s with
      snt := { s.snt with rtcValid := true }, isl := { s.isl with pairSt := #v[.run, .run] }, bun := { s.bun with st := .staged, allAlive := 2, patch := none, img := vset (Vector.replicate 7 none) 1 (some { len := 76, sv := 3 }) } }
    let head := textBytes (tx "DZIM") ++ [1, 0] ++ leBytes 2 3 ++ leBytes 4 8 ++ leBytes 4 4 ++ leBytes 4 4 ++ leBytes 4 0 ++ leBytes 4 100 ++ List.replicate 36 0
    let s := setCore 2 (fun z => { z with fenced := true, underTest := false }) s
    let s := { s with fuses := { s.fuses with counters := s.fuses.counters.set 0 1 } }
    let s := { s with srv := { s.srv with chan := s.srv.chan.map fun q => { q with base := some { value := 1, win := 1 } } } }
    flashPut 1 (stageBase + 148) [1, 0] (flashPut 0 (imageAt 1) head s)
  let two : Bool → State → State := fun runs s =>
    let s := one s
    let s := { s with fuses := { s.fuses with counters := s.fuses.counters.set 0 2 }, wit := {}, cus := { s.cus with bank := Vector.replicate 4 (Vector.replicate 8 0xF) }, bun := { s.bun with st := .empty } }
    let s := setCore 1 (fun z => { z with fenced := false, underTest := false }) (setCore 0 (fun z => { z with fenced := false, underTest := false }) s)
    setPerson 1 (fun z => { z with run := if runs then .running else .stopped, cores := if runs then 3 else 0, lastCores := 1, moveTo := 0, win := Vector.replicate 4 (0x1000, 0x1800) }) s

  -- a ONE bundle for person 1 stands staged, and person 1 can start
  let three : State → State := fun s =>
    let s := two (k 41 % 2 = 0) s
    let s := { s with bun := { s.bun with st := .staged } }
    flashPut 1 (stageBase + 148) ([2, 1, 0, 0] ++ [1, 0] ++ leBytes 2 4 ++ List.replicate 108 0) s
  [("OQ", OC arg2 (sc s)), ("LA", premLineOrdersJoinTheSlot { ln with car := .hst } 1 len 0 ⟨0, by omega⟩ ⟨0, by omega⟩ true true (k 42 % 3 ≠ 0) false [] 0 [] .c0 .all [] none {party := 1, car := .svc, slot := 1} (setCar .hst (fun c => { c with sess := some (party 1) }) (three (lineS seed { ln with car := .hst } (dev (seed + 1))))))] ++ [("LO", premLineOrdersJoinTheSlot ln p len (s.bun.written) ⟨k 26 % 4, by omega⟩ ⟨k 27 % 8, by omega⟩ (k 28 % 2 = 0) (k 29 % 2 = 0) (k 30 % 2 = 0) (k 31 % 2 = 0) (List.replicate (pick [16, 8, 96] 16 (k 32)) 5) (700000000 : Int) [3, 1] (pick [.c0, .c2, .pairA, .pairB] .c0 (k 33)) ch ((baseChans u ch).getD []) (if k 34 % 2 = 0 then none else some 10) (rt s) s)] ++
  (svcs.map fun v => ("OC", OC arg2 (calling v arg2 q s))) ++ [("OD", OC arg (calling 0x28 arg q sm)), ("OE", OC arg (calling 0x11 arg q sm)), ("OF", OC arg (calling 0x29 arg q sF))] ++
  [("S0", SE { s with oru := { s.oru with orders := [] } } oq or_), ("S1", SE { s with oru := { s.oru with orders := [o1] } } o1 or_), ("S2", SE { sb with oru := { sb.oru with orders := [oq, or_] } } oq or_), ("S3", SE { s with isl := { s.isl with power := .nap } } oq or_)] ++
  [("LX", premLineOrdersJoinTheSlot { ln with car := .hst } p len 0 ⟨2, by omega⟩ ⟨0, by omega⟩ true true true false [] 0 [] .c0 .all [] none {party := 1, car := .svc, slot := 1} (setCar .hst (fun c => { c with sess := some (party 1) }) (one (lineS seed { ln with car := .hst } (dev (seed + 1)))))),
   ("LZ", premLineOrdersJoinTheSlot { ln with car := .hst } 1 len 0 ⟨2, by omega⟩ ⟨0, by omega⟩ true true true false [] 0 [] .c0 .all [] none {party := 1, car := .svc, slot := 1} (setCar .hst (fun c => { c with sess := some (party 1) }) (two false (lineS seed { ln with car := .hst } (dev (seed + 1)))))), ("OW", OC (w32 0x11) (calling 0x18 (w32 0x11) 1 (two true s))), ("OX", OC (w32 (if k 30 % 2 = 0 then 2 else 1)) (calling 0x19 (w32 2) 1 (one s))), ("OY", OC (w32 1) (calling 0x2B (w32 1) 1 (one s))), ("OZ", OC (w32 0) (calling 0x2A (w32 0) 1 (one s)))]

/-- Every clause of LineOrdersJoinTheSlot has a situation that meets its hypotheses. -/
theorem witness_LineOrdersJoinTheSlot :
    meets (fun i => (situations i).map (·.2)) [(3, 16, [5, 7, 19]), (8, 1, [1, 14, 15, 17, 24]), (8, 15, [3]), (20, 2, [6, 20]), (114, 2, [23]), (284, 2, [10]), (508, 2, [13, 16]), (737, 2, [0, 2, 4, 8, 9, 11, 12, 18, 21, 22, 25, 26, 27, 28])] = true := by
  decide +kernel

/-- Every clause of OtherOrdersJoinTheSlot has a situation that meets its hypotheses. -/
theorem witness_OtherOrdersJoinTheSlot :
    meets (fun i => (situations i).map (·.2)) [(0, 9, [10]), (0, 17, [1]), (0, 18, [5]), (0, 19, [7]), (2, 0, [14]), (2, 10, [12, 13]), (3, 7, [8]), (3, 8, [9]), (8, 4, [4]), (31, 5, [6]), (43, 3, [0]), (109, 10, [11]), (159, 3, [3]), (186, 3, [2])] = true := by
  decide +kernel

/-- Every clause of SlotEndResolvesItsOrders has a situation that meets its hypotheses. -/
theorem witness_SlotEndResolvesItsOrders :
    meets (fun i => (situations i).map (·.2)) [(0, 11, [0]), (0, 14, [1]), (1, 12, [2]), (1, 13, [6]), (8, 12, [4]), (19, 12, [3]), (26, 12, [5])] = true := by
  decide +kernel

end Sys2Proof.Tests.W
end

