-- ==== Sys2Proof/Tests/WitnessPower.lean ====
section
/-! SUPPORT. Witnesses: the hypotheses of the statements about power, met. -/

namespace Sys2Proof.Tests.P

open Sys2Proof Sys2Proof.Machine Sys2Proof.Tests

set_option linter.unusedVariables false
set_option Elab.async false

/-- The hypotheses of the clauses of StartEventsBeginStarts, in their order. -/
def premStartEventsBeginStarts (s : State) (rail : Rail) : List Bool :=
  [decide (s.isl.power = .off ∧ s.isl.porstLow = false ∧ s.snt.vstbyOk = true),
   decide (s.isl.power = .off ∧ s.isl.porstLow = true ∧ s.isl.railsValid = true ∧ s.snt.vstbyOk = true),
   true,
   decide ((awake s = true ∨ s.isl.power = .starting)),
   true]

/-- The hypotheses of the clauses of StartStepsPrepareTheDevice, in their order. -/
def premStartStepsPrepareTheDevice (s : State) (env : StartEnv) : List Bool :=
  [decide ((s.isl.power = .starting) ∧ (s.isl.step = 0) ∧ (env.retentionBad = false) ∧ (s.fuses.zeroize = false)),
   decide ((s.isl.power = .starting) ∧ (s.isl.step = 4)),
   decide ((s.isl.power = .starting) ∧ (s.isl.step = 6)),
   decide ((s.isl.power = .starting))]

/-- The hypotheses of the clauses of ReferenceAndOperatingPoints (part 1), in their order. -/
def premReferenceChecksFollowTheReference (s : State) (hz : Nat) (unbroken present : Bool) : List Bool :=
  [decide (s.isl.refArmed = true ∧ s.isl.refFault = false),
   decide (s.isl.refArmed = false),
   decide (s.isl.refFault = false ∧ s.isl.refArmed = true ∧ (hz < 24875000 ∨ 25125000 < hz)),
   decide (24875000 ≤ hz ∧ hz ≤ 25125000 ∧ unbroken = true),
   decide (s.isl.refFault = false ∧ present = true),
   decide (s.isl.refFault = false ∧ present = false)]

/-- The hypotheses of the clauses of OperatingPointsFollowTheRails, in their order. -/
def premOperatingPointsFollowTheRails (s : State) (pr : Pair) (p mv t : Nat) (core : Fin 4) (arg : Word) : List Bool :=
  let n := pairNo pr
  let least := fun q => if q ≤ 1 then 730 else if q = 2 then 760 else if q = 3 then 810 else 860
  [decide ((vget s.isl.opTarget n = some t)),
   decide ((mv < least (vget s.isl.opCur n))),
   decide ((callerOf s core.val 0x01 arg = some p) ∧ (p < 7) ∧ (arg.toNat % 8 ≠ 5) ∧ (arg.toNat % 8 ≠ 6)),
   decide ((callerOf s core.val 0x01 arg = some p) ∧ (p < 7) ∧ (arg.toNat % 8 = 5 ∨ arg.toNat % 8 = 6))]

/-- The hypotheses of the clauses of SleepAndIslands (part 1), in their order. -/
def premSleepAndWake (s : State) (w : WakeSrc) (p mv : Nat) (core : Fin 4) (arg : Word) : List Bool :=
  let picked := match w with
      | .rtc => some 0 | .can => some 3 | .svc => some 4 | .hst => some 5 | .tamper => some 6
      | .sns0 r => if s.isl.wakeCfg.getLsbD (if r then 0 else 1) then some 1 else none
      | .sns1 r => if s.isl.wakeCfg.getLsbD (if r then 2 else 3) then some 2 else none
  [decide (deviceDoze s = true ∧ s.isl.napDelay ≠ 0 ∧ napBusy s = false),
   decide (s.isl.power = .nap ∧ s.isl.napWake = true ∧ s.gates.ghTaken = []),
   decide (s.isl.power = .nap ∧ s.isl.napWake = false),
   decide (mayStandby s = true),
   (picked).any fun b => decide (s.isl.power = .standby ∧ s.isl.railsValid = true ∧ s.isl.porstLow = false ∧ s.snt.vstbyOk = true),
   (picked).any fun b => decide (s.isl.power = .starting ∧ s.isl.step < 2 ∧ s.isl.next.wake = true),
   decide ((picked = none ∨ (s.isl.power ≠ .standby ∧ s.isl.power ≠ .starting))),
   decide (callerOf s core.val 0x02 arg = some p ∧ p < 7 ∧ arg.toNat ≤ 1),
   decide (callerOf s core.val 0x02 arg = some p ∧ p < 7 ∧ 1 < arg.toNat),
   decide (callerOf s core.val 0x03 arg = some p ∧ p = 1),
   decide (callerOf s core.val 0x03 arg = some p ∧ p < 7 ∧ p ≠ 1),
   decide (1550 < mv),
   decide (mv ≤ 1550),
   true]

/-- The hypotheses of the clauses of SleepAndIslands (part 2), in their order. -/
def premIslandsCloseAndLosePower (s : State) (pr : Pair) (clock : Bool) : List Bool :=
  let n := pairNo pr
  let left := fun (c : Nat) => (s.core c).sb = [] ∧ ∀ p < 7, maskBit (s.person p).cores c = true → (s.person p).run ≠ .running ∧ (s.person p).run ≠ .handover
  [decide (vget s.isl.pairSt n = .run ∧ vget s.isl.draining n = false ∧ left (2 * n) ∧ left (2 * n + 1) ∧ islandOpen s n = false),
   decide (vget s.isl.pairSt n = .run ∧ vget s.isl.draining n = false ∧ left (2 * n) ∧ left (2 * n + 1) ∧ islandOpen s n = true),
   decide (vget s.isl.pairSt n = .run ∧ vget s.isl.draining n = true ∧ islandOpen s n = false),
   decide (vget s.isl.pairSt n = .run ∧ vget s.isl.draining n = true),
   decide ((vget s.isl.pairSt n = .run ∨ vget s.isl.pairSt n = .starting)),
   true,
   decide (s.isl.fabric = .run),
   decide (s.isl.port = .run),
   decide (s.isl.host = .run)]

/-- The hypotheses of every statement of this file in the situations of one seed. -/
def situations (seed : Nat) : List (String × List Bool) :=
  let r := rnds (seed * 7919 + 13) 20
  let k := fun i => r.getD i 0
  let s := gates0 seed (dev (seed + 1))
  let pr := pick [Pair.a, Pair.b] .a (k 0)
  let rail := pick [Rail.vddF, .vddFl, .vana, .vioP] .vana (k 1)
  let env : StartEnv := { selftestFail := BitVec.ofNat 4 (k 2), retentionBad := k 3 % 4 = 0, patch := none, copyFail := 0, checkPass := 0 }
  let w := pick [WakeSrc.rtc, .sns0 true, .sns0 false, .sns1 true, .sns1 false, .can, .svc, .hst, .tamper] .rtc (k 4)
  let p := 1 + k 5 % 2
  let a := w32 (k 6 % 9)
  let sb := { s with isl := { s.isl with power := .starting } }
  let sby := { s with isl := { s.isl with power := .standby } }
  let quietAll := { s with isl := { s.isl with power := .run, step := 10 }, stw := { s.stw with persons := Vector.replicate 7 {} } }
  [("SE", premStartEventsBeginStarts s rail), ("SS", premStartStepsPrepareTheDevice sb env), ("RC", premReferenceChecksFollowTheReference s (pick [24875000, 24874999, 25125000, 25125001, 25000000] 0 (k 7)) (k 8 % 2 = 0) (k 9 % 2 = 0)),
   ("OP", premOperatingPointsFollowTheRails s pr p (pick [700, 729, 730, 759, 760, 809, 810, 859, 860] 0 (k 10)) ((vget s.isl.opTarget (pairNo pr)).getD 0) 0 a),
   ("OP2", premOperatingPointsFollowTheRails (calling 1 a p s) pr p 800 0 0 a),
   ("SW", premSleepAndWake s w p (pick [1550, 1551, 2399, 2400] 0 (k 11)) 0 a), ("SW2", premSleepAndWake (calling 2 a p sby) w p 0 0 a), ("SW3", premSleepAndWake (calling 3 a p s) w p 0 0 a),
   ("SW4", premSleepAndWake quietAll w p 0 0 a), ("SW5", premSleepAndWake { s with isl := { s.isl with power := .nap, napWake := true } } w p 0 0 a),
   ("IS", premIslandsCloseAndLosePower s pr (k 12 % 2 = 0)), ("IS2", premIslandsCloseAndLosePower (gates0 seed quietAll) pr (k 12 % 2 = 0))]

/-- Every clause of StartEventsBeginStarts has a situation that meets its hypotheses. -/
theorem witness_StartEventsBeginStarts :
    meets (fun i => (situations i).map (·.2)) [(0, 0, [2, 3, 4]), (12, 0, [1]), (19, 0, [0])] = true := by
  decide +kernel

/-- Every clause of StartStepsPrepareTheDevice has a situation that meets its hypotheses. -/
theorem witness_StartStepsPrepareTheDevice :
    meets (fun i => (situations i).map (·.2)) [(1, 1, [1, 3]), (2, 1, [0]), (20, 1, [2])] = true := by
  decide +kernel

/-- Every clause of ReferenceChecksFollowTheReference has a situation that meets its hypotheses. -/
theorem witness_ReferenceChecksFollowTheReference :
    meets (fun i => (situations i).map (·.2)) [(4, 2, [0, 2, 5]), (19, 2, [1, 3, 4])] = true := by
  decide +kernel

/-- Every clause of OperatingPointsFollowTheRails has a situation that meets its hypotheses. -/
theorem witness_OperatingPointsFollowTheRails :
    meets (fun i => (situations i).map (·.2)) [(11, 4, [0, 1, 2]), (2, 4, [3])] = true := by
  decide +kernel

/-- Every clause of SleepAndWake has a situation that meets its hypotheses. -/
theorem witness_SleepAndWake :
    meets (fun i => (situations i).map (·.2)) [(0, 6, [4, 8]), (0, 9, [1]), (4, 5, [2, 11]), (31, 7, [0, 3, 6, 10, 12, 13]), (55, 6, [7]), (124, 7, [5, 9])] = true := by
  decide +kernel

/-- Every clause of IslandsCloseAndLosePower has a situation that meets its hypotheses. -/
theorem witness_IslandsCloseAndLosePower :
    meets (fun i => (situations i).map (·.2)) [(4, 10, [0]), (11, 10, [2, 3, 4, 5, 6, 7, 8]), (13, 11, [1])] = true := by
  decide +kernel

end Sys2Proof.Tests.P
end

