-- ==== Sys2Proof/Tests/WitnessReads.lean ====
section
/-! SUPPORT. Witnesses: the hypotheses of the statements about reads, met. -/

namespace Sys2Proof.Tests.R

open Sys2Proof Sys2Proof.Machine Sys2Proof.Tests

set_option linter.unusedVariables false
set_option Elab.async false

/-- The hypotheses of the clauses of ReadPairsAnswerTheirLine, in their order. -/
def premReadPairsAnswerTheirLine (ln : Ln) (p seq i : Nat) (c : Fin 4) (pr : Pair) (n : Fin 8) (fb3 : Bool) (from_ : Option Nat) (ch : Charter) (r : RecPos) (s : State) : List Bool :=
  let q := s.person p
  let img := (s.img p).getD {}
  let z := pairNo pr
  let x := tx
  let yn := fun b => decText (bitN b)
  let bit := fun m k => if m / 2 ^ k % 2 = 1 then '1' else '0'
  let bs := recBytes s (if fb3 then 3 else 2) r
  let fin := fun t => [('+', spaced t)]
  let logs := s.stw.elog.filter fun e => decide (from_.getD 0 ≤ e.idx)
  [lineTellsP ln false none [('~', x "RECKEY=" ++ (match s.fuses.recPub with | some k => hexGroups k | none => x "NONE")), ('+', spaced [x "IDENTITY", x (if s.fuses.part = .an then "CG-4664-AN" else "CG-4664-AH"), x "DEVICE_ID=" ++ List.replicate 96 'F', x "ROM=" ++ List.replicate 15 '9', x "PATCH=" ++ (match s.bun.patch with | some v => dotted v.toNat | none => x "NONE"), x "POS=" ++ decText s.chn.pos])] s,
   lineTellsP ln true none (fin [x "CHAIN", x "NODES=" ++ decText s.chn.members.length, x "POS=" ++ decText s.chn.pos, x "RING=" ++ yn s.chn.ring]) s,
   lineTellsP ln false none (fin [x "TIME", if s.snt.rtcValid then timeText s.snt.rtcSec.toNat s.snt.rtcFrac else x "INVALID"]) s,
   lineTellsP ln false none (fin ([x "LIFECYCLE", lifeName s.life] ++ (if s.snt.hold.any then [x "HOLD=OPEN"] else []) ++ (if s.snt.rtcValid then [] else [x "RTC=INVALID"]))) s,
   decide (1 ≤ p ∧ p ≤ 6 ∧ q.run = .running ∧ s.checking p = false) && (lineTellsP ln true none (fin [x "PERSON", decText p, x "RUNNING", x "EXEC=" ++ x (if (s.witnessOn p).isSome then "WITNESS" else "SINGLE"), x "CORES=0b" ++ [bit q.cores 3, bit q.cores 2, bit q.cores 1, bit q.cores 0], x "SV=" ++ decText img.sv, x "DISPLAY=" ++ dotted img.display]) s),
   decide ((partCores s).contains c.val = true) && (lineTellsP ln true none (fin [x "CORE", decText c.val, x (if (s.core c.val).fenced then "FENCED" else if vget s.isl.pairSt (c.val / 2) = .run then "RUN" else "OFF"), x (if (s.core c.val).selftestFail then "SELFTEST=FAIL" else "SELFTEST=PASS")]) s),
   lineTellsP ln true none (fin [x "OPPOINT", x (match pr with | .a => "A" | .b => "B"), x "REQ=" ++ (match opRequests s z with | [] => x "NONE" | l => decText (l.foldl Nat.max 0)), x "MAX=" ++ decText (vget s.isl.opMax z), x "CUR=" ++ decText (vget s.isl.opCur z)]) s,
   lineTellsP ln true none (fin [x "FEED", decText n.val, x (if (s.feed n.val).on then "ON" else "OFF"), x "I=" ++ decText ((s.feed n.val).cur / 100), x "FAULT=" ++ x (match (s.feed n.val).fault with | 0 => "NONE" | 1 => "OPEN" | 2 => "OVER" | 3 => "SHORT" | _ => "")]) s,
   decide (i < 10) && (lineTellsP ln true none (fin [x "SURVEY", chanName i, x "VALUE=" ++ decText (s.sch i).value, x "BASE=" ++ (match (s.sch i).base with | some b => decText b.value | none => x "NONE"), x "TOL=" ++ (match (s.sch i).base with | some b => decText b.win | none => x "NONE"), x (if (s.sch i).dev then "STATE=DEVIATION" else "STATE=OK")]) s),
   decide (s.stw.charter = some ch) && (lineTellsP ln true none (fin [x "CHARTER", x "SV=" ++ decText ch.sv, x "FORMAT=1", x "PENDING=" ++ yn s.stw.chPending]) s),
   lineTellsP ln true none (fin ([x "BUNDLE", stageName s.bun.st, x "ID=" ++ hexWord s.bun.id] ++ ((List.range 7).filter fun t => decide (vget s.bun.result t ≠ 0)).map fun t => 'P' :: decText t ++ '=' :: resultName (vget s.bun.result t))) s,
   lineTellsP ln true (some 1) (fin [x "RECORD", x "OLDEST=" ++ decText ((s.store.index.head?.map (·.seq)).getD 0), x "NEWEST=" ++ decText ((s.store.index.getLast?.map (·.seq)).getD 0), x "LAP=" ++ decText s.store.lap, x "L=" ++ decText s.store.l, x "RECOVERED=" ++ yn s.store.recovered]) s,
   decide (recFind s seq = some r ∧ recSplit s r = false ∧ storeBusy s = false ∧ recBad s 2 r = false ∧ recBad s 3 r = false) && (lineTellsP ln true (some 1) (((List.range r.units).map fun k => ('~', spaced [x "U=" ++ decText k, hexGroups (slice bs (16 * k) 16)])) ++ fin [x "RECORD", x "SEQ=" ++ decText seq, x "UNITS=" ++ decText r.units, x "SPLIT=0", x "FB2=" ++ x (if recVerifies s 2 r then "OK" else "BAD"), x "FB3=" ++ x (if recVerifies s 3 r then "OK" else "BAD")]) s),
   lineTellsP ln true (some 15) ((tamperFrom s i).map (fun e => ('~', tamperText e.1 e.2)) ++ fin [x "TAMPER", x "COUNT=" ++ decText (tamperFrom s i).length]) s,
   lineTellsP ln true (some 15) (logs.map (fun e => ('~', eventText e)) ++ fin [x "EVENT", x "NEXT=" ++ decText s.stw.elogNext]) s]

/-- The hypotheses of the clauses of PairsActAtOnce, in their order. -/
def premPairsActAtOnce (ln : Ln) (pr : Pair) (v : Option (Fin 5)) (at_ : Nat) (data : Bytes) (reason : Text) (s : State) : List Bool :=
  let u := lineTaken ln s
  let who := partyOf s ln.car
  let buf := (s.car ln.car).chBuf
  let n := pairNo pr
  [decide ((lineAccepted ln s = true) ∧ ((sessOf s ln.car).isSome = true) ∧ (partyRight s who 10 = true) ∧ ((n = 0 ∨ s.fuses.part = .ah))),
   decide ((lineAccepted ln s = true) ∧ ((sessOf s ln.car).isSome = true) ∧ ((s.life = 1 ∨ partyRight s who 12 = true)) ∧ (at_ = buf.length) ∧ (at_ + data.length ≤ 792) ∧ ((data.length % 16 = 0 ∨ at_ + data.length = 792)) ∧ (16 ≤ data.length) ∧ (data.length ≤ 96)),
   decide ((lineAccepted ln s = true) ∧ ((sessOf s ln.car).isSome = true) ∧ ((s.life = 1 ∨ partyRight s who 13 = true)) ∧ (s.life ≠ 5)),
   decide ((lineAccepted ln s = true) ∧ ((sessOf s ln.car).isSome = true) ∧ (reason ≠ []) ∧ (mayOrder who (some ln.car) .hold u = true))]

def party (n : Nat) : Sess := { party := n }
def lineS (seed : Nat) (ln : Ln) (s : State) : State :=
  let r := rnds (seed * 17 + 5) 20
  let k := fun i => r.getD i 0
  let s := { s with isl := { s.isl with power := .run, step := 10 }, win := { s.win with state := 3 } }
  { s with oru := { s.oru with cars := [{ car := ln.car, sess := if k 0 % 5 = 0 then none else some (party (pick [1,2,3,7,8] 1 (k 1))), tags := if k 2 % 3 = 0 then [{ tag := some 7, node := 0, sfx := false }] else [], chBuf := if k 3 % 2 = 0 then [1,2,3] else [] }] },
           bun := { s.bun with st := pick [.empty, .receiving, .staged, .done, .pendingAll] .empty (k 4), stager := k 5 % 3, total := 32, written := 16 * (k 6 % 2) },
           fuses := { s.fuses with counters := s.fuses.counters.set 0 (1 + k 7 % 4) },
           stw := { s.stw with retire := if k 8 % 2 = 0 then some { party := (pick [1,2,3,7,8] 1 (k 1)), car := ln.car, slot := 1 } else none } }
/-- The hypotheses of every statement of this file in the situations of one seed. -/
def situations (seed : Nat) : List (String × List Bool) :=
  let r := rnds (seed * 7919 + 13) 60
  let k := fun i => r.getD i 0
  let ln : Ln := { car := pick [.svc, .hst] .svc (k 0), tag := if k 1 % 4 = 0 then none else some (k 2 % 9), sfx := k 3 % 2 = 0, pos := if k 30 % 3 = 0 then some 0 else none }
  let s := lineS seed ln (dev (seed + 1))
  let sr := { s with stw := { s.stw with charter := s.stw.charter.map fun c => { c with rows := c.rows.map fun q => if q.present = 1 then { q with rights := 0x1FFFF } else q } } }
  let s := if k 4 % 3 = 0 then s else sr
  let s := setCar ln.car (fun q => { q with inp := if k 5 % 7 = 0 then ['a'] else [], out := if k 6 % 2 = 0 then ['x'] else [], chBuf := List.replicate (16 * (k 7 % 3)) 5 }) s
  let rp : RecPos := { seq := 5, phys := k 8 % 3, unit := 1 + k 9 % 3, units := 7 + k 10 % 2 }
  let te : TEntry := { cause := k 11 % 16, detail := k 12 % 99, count := k 13 % 5, sec := w32 700000000, frac := k 14 % 65536, seq := k 15 % 9, copied := k 16 % 2 = 0 }
  let s := { s with store := { s.store with index := if k 17 % 3 = 0 then [] else [rp], any := true, lap := k 18 % 5 },
                    snt := { s.snt with tlog := vset (vset s.snt.tlog 3 (some te)) 5 (some { te with seq := 4 }) } }
  let s := if k 19 % 2 = 0 then logEvent 3 2 "X.Y" [w32 (k 20)] s else s
  let s := { s with srv := { s.srv with chan := vset s.srv.chan (k 21 % 10) { dev := k 22 % 2 = 0, value := k 23 % 30000, base := if k 24 % 2 = 0 then none else some { value := 5, win := 9 } } } , stw := { s.stw with lifeShown := 0 }, bun := { s.bun with result := vset s.bun.result 2 (k 25 % 9) } }
  let v : Option (Fin 5) := if k 26 % 3 = 0 then none else some ⟨k 26 % 5, by omega⟩
  let fr : Option Nat := if k 27 % 2 = 0 then none else some (k 28 % 3)
  let n := (s.car ln.car).chBuf.length
  [("RD", premReadPairsAnswerTheirLine ln (k 29 % 7) 5 (k 21 % 10) ⟨k 31 % 4, by omega⟩ (if k 32 % 2 = 0 then .a else .b) ⟨k 33 % 8, by omega⟩ (k 34 % 2 = 0) fr (s.stw.charter.getD { rows := #v[{}, {}, {}, {}, {}, {}, {}] }) rp s),
   ("PA", premPairsActAtOnce ln (if k 32 % 2 = 0 then .a else .b) v n (List.replicate (16 + k 35 % 2 * 16) 7) (if k 36 % 4 = 0 then [] else tx "WHEEL CHANGE, SIX BOLTS") s)]

/-- Every clause of ReadPairsAnswerTheirLine has a situation that meets its hypotheses. The line of READ IDENTITY is measured with the longest DEVICE_ID and version (deviceId_text_length, dotted_length). -/
theorem witness_ReadPairsAnswerTheirLine :
    meets (fun i => (situations i).map (·.2)) [(23, 0, [0, 1, 2, 3, 4, 5, 6, 7, 8, 9, 10, 11, 12, 13, 14])] = true := by
  decide +kernel

/-- Every clause of PairsActAtOnce has a situation that meets its hypotheses. -/
theorem witness_PairsActAtOnce :
    meets (fun i => (situations i).map (·.2)) [(1, 1, [0, 1, 2, 3])] = true := by
  decide +kernel

end Sys2Proof.Tests.R
end

