-- ==== Sys2Proof/Tests/WitnessSeals.lean ====
section
/-! SUPPORT. Witnesses: the hypotheses of the statements about seals, met. -/

namespace Sys2Proof.Tests.E

open Sys2Proof Sys2Proof.Machine Sys2Proof.Tests

set_option linter.unusedVariables false
set_option Elab.async false

/-- The hypotheses of the clauses of SealJobsComputeTheirOutput, in their order. -/
def premSealJobsComputeTheirOutput (p : Nat) (j : SealRun) (pt : Bytes) (q : Nat × Nat) (s : State) : List Bool :=
  let inp := sealInp j s
  let aux := sealAux j s
  let k := sealKey p j s
  let cap := descW j 4
  let out := descW j 3
  let c := curveOf k.ty
  let blocks := decide (inp.length % 16 = 0) && decide (inp.length ≤ cap)
  let iv := decide (aux.length = 16)
  let digest := decide (inp.length = 32) || decide (inp.length = 48)
  let g := gcmEnc k.key (aux.take 12) (aux.drop 28) inp
  let vc := if aux.length = 193 then p384 else p256
  let canWrite := fun n => decide (n ≤ cap) && decide (bufCheck s p out n = .ok) && Memory.wf 0 s.mem.sram
  [sealGivesP p 0x01 j (isAes k.ty && blocks) (ecbEnc k.key inp) s,
   sealGivesP p 0x02 j (isAes k.ty && blocks) (ecbDec k.key inp) s,
   sealGivesP p 0x03 j (isAes k.ty && blocks && iv) (cbcEnc k.key aux inp) s,
   sealGivesP p 0x04 j (isAes k.ty && blocks && iv) (cbcDec k.key aux inp) s,
   sealGivesP p 0x05 j (isAes k.ty && decide (inp.length ≤ cap) && iv) (ctrEnc k.key aux inp) s,
   decide (sealReady p 0x06 j s = true ∧ isAes k.ty = true ∧ 28 ≤ aux.length ∧ inp.length ≤ cap ∧ g.1.length ≤ cap ∧ canWrite g.1.length = true ∧ (out + g.1.length ≤ descW j 5 ∨ descW j 5 + descW j 6 ≤ out) ∧ g.2.length = 16 ∧ bufCheck s p (descW j 5 + 12) 16 = .ok),
   decide (28 ≤ aux.length ∧ gcmDec k.key (aux.take 12) (aux.drop 28) inp (slice aux 12 16) = some pt) && (sealGivesP p 0x07 j (isAes k.ty && decide (inp.length ≤ cap)) pt s),
   decide (sealReady p 0x07 j s = true ∧ isAes k.ty = true ∧ 28 ≤ aux.length ∧ inp.length ≤ cap ∧ canWrite inp.length = true ∧ gcmDec k.key (aux.take 12) (aux.drop 28) inp (slice aux 12 16) = none),
   sealGivesP p 0x08 j (isAes k.ty && decide (16 ≤ cap)) (cmac k.key inp) s,
   sealGivesP p 0x10 j (decide (32 ≤ cap)) (sha256 inp) s,
   sealGivesP p 0x11 j (decide (48 ≤ cap)) (sha384 inp) s,
   sealGivesP p 0x12 j (isHmac k.ty && decide (32 ≤ cap)) (hmac sha256P k.key inp) s,
   sealGivesP p 0x13 j (isHmac k.ty && decide (48 ≤ cap)) (hmac sha384P k.key inp) s,
   sealGivesP p 0x20 j (isEc k.ty && digest && decide (2 * c.len ≤ cap) && !s.seals.rngFail) (List.replicate (2 * c.len) 0) s,
   decide (sealReady p 0x20 j s = true ∧ isEc k.ty = true ∧ digest = true ∧ 2 * c.len ≤ cap ∧ s.seals.rngFail = true),
   decide (sealReady p 0x21 j s = true ∧ digest = true ∧ aux.length = 4 * vc.len + 1 ∧ ptRead vc (aux.take (2 * vc.len + 1)) = some q),
   sealGivesP p 0x23 j ((isEc k.ty || decide (k.ty = .fixed)) && decide (2 * c.len + 1 ≤ cap)) (ptBytes c (pubOf c (beNat k.key))) s,
   decide (sealReady p 0x01 j s = true ∧ blocks = true ∧ isAes k.ty = false),
   sealGivesP p 0x40 j (!s.seals.rngFail && decide (cap ≤ 0x100000)) (randomBytes cap s).1 s]

/-- The hypotheses of the clauses of SealKeysAndJobEnds, in their order. -/
def premSealKeysAndJobEnds (p n st len : Nat) (j : SealRun) (ty : KeyType) (q : Nat × Nat) (z token : Bytes) (s : State) : List Bool :=
  let inp := sealInp j s
  let aux := sealAux j s
  let k := sealKey p j s
  let slot := descW j 0 / 256 % 4
  let dest := descW j 0 / 4096 % 4
  let c := curveOf k.ty
  let m := 2 * c.len + 1
  let rnd := (randomBytes 64 s).1
  let f := fun (i : Nat) => leAt aux i 1
  let into := sealReady p 0x31 j s = true ∧ keyTypeOf (f 97) = some (ty, n) ∧ aux.length = 128 + n ∧ f 98 = slot ∧ f 99 = p
  [decide (sealReady p 0x22 j s = true ∧ isEc k.ty = true ∧ inp.length ≤ 64 ∧ m ≤ aux.length ∧ aux.length ≤ m + 255 ∧ ptRead c (aux.take m) = some q ∧ ecdhX c (beNat k.key) q = some z ∧ (vget (s.sealOf p).slot dest).ty ≠ .fixed),
   decide (sealReady p 0x33 j s = true ∧ k.ty = .hmac ∧ inp.length ≤ 255 ∧ aux.length ≤ 64 ∧ (vget (s.sealOf p).slot dest).ty ≠ .fixed),
   decide (keyTypeOf (leAt inp 0 4) = some (ty, n)) && (sealKeepsP p 0x30 j (decide (4 ≤ inp.length) && !s.seals.rngFail) slot { ty := ty, origin := 1, key := if isEc ty then beBytes n (scalarOf (curveOf ty) rnd) else rnd.take n } s),
   sealKeepsP p 0x32 j true slot {} s,
   decide (into ∧ s.fuses.zeroize = false ∧ k.ty ≠ .fixed),
   decide (into ∧ s.fuses.zeroize = true),
   decide (1 ≤ p ∧ p ≤ 6 ∧ (s.sealOf p).job = some j ∧ j.res = some (st, len) ∧ Memory.wf 0 s.mem.sram = true ∧ j.desc % 16 = 0 ∧ bufCheck s p j.desc 64 = .ok ∧ bufZeroing s j.desc 64 = false ∧ s.mem.ecc = []),
   true,
   decide (awake s = true ∧ s.counter 0 ≠ 0)]

/-- The hypotheses of every statement of this file in the situations of one seed. -/
def situations (seed : Nat) : List (String × List Bool) :=
  let r := rnds (seed * 7919 + 13) 80
  let k := fun i => if seed ≥ 2000 then (match i with | 1 => (if seed ≥ 2060 then 8 else 1) | 8 => (if seed ≥ 2030 then 3 else 0) | 12 => 0 | 16 => 1 | 13 => (if seed ≥ 2080 then 6 else 1) | 14 => 7 | 15 => 32 | 2 => 0 | 3 => 0 | 17 => 1 | _ => r.getD i 0) else r.getD i 0
  let s := dev (seed + 1)
  let p : Nat := 1 + k 0 % 2
  let code := if seed ≥ 1000 ∧ seed < 2000 then pick [0x01, 0x02, 0x03, 0x04, 0x05, 0x06, 0x07, 0x08, 0x10, 0x11, 0x12, 0x13, 0x30, 0x32, 0x33, 0x40] 1 (k 30) else if seed ≥ 2000 then pick [0x02, 0x04, 0x06, 0x07, 0x23, 0x01] 1 seed else pick [0x01, 0x02, 0x03, 0x04, 0x05, 0x06, 0x07, 0x08, 0x10, 0x11, 0x12, 0x13, 0x20, 0x20, 0x21, 0x22, 0x23, 0x30, 0x31, 0x32, 0x33, 0x40] 1 seed
  let ec := [0x20, 0x21, 0x22, 0x23].contains code
  let hm := [0x12, 0x13, 0x33].contains code
  let ty : KeyType := if k 1 % 8 = 0 then pick [.empty, .fixed, .aes128] .empty (k 2) else if ec then pick [.p256, .p256, .p384] .p256 (k 3) else if hm then .hmac else pick [.aes128, .aes256] .aes256 (k 4)
  let n := match ty with | .aes128 => 16 | .p384 => 48 | _ => 32
  let keyb : Bytes := (List.range n).map fun i => BitVec.ofNat 8 (i * 11 + 3 + seed)
  let slot := k 5 % 4
  let dest := k 6 % 4
  let c := curveOf ty
  let pub := if code ≠ 0x22 then [] else ptBytes p256 (pubOf p256 (5 + k 7 % 3))
  let inp0 : Bytes := (List.range (pick [32, 32, 48, 16, 7] 0 (k 8))).map fun i => BitVec.ofNat 8 (i * 5 + seed)
  let inp : Bytes := if code = 0x30 then leBytes 4 (1 + k 9 % 6) ++ inp0 else inp0
  let sg := if code ≠ 0x21 then [] else ecdsaWith p256 5 (scalarOf p256 (List.replicate 64 3)) inp
  let tkey := if code ≠ 0x31 then none else transportKey s (ptBytes p384 (some p384.g)) "SEAL import"
  let imp := ptBytes p384 (some p384.g) ++ [2, BitVec.ofNat 8 slot, BitVec.ofNat 8 p] ++ List.replicate 12 0
  let impE := match tkey with | some q => gcmEnc q (List.replicate 12 0) (deviceId ++ (imp.drop 97).take 3) (List.replicate 32 9) | none => (List.replicate 32 0, List.replicate 16 0)
  let g := gcmEnc keyb (List.replicate 12 1) [4, 5] inp
  let aux : Bytes := if code = 0x21 then ptBytes p256 (pubOf p256 5) ++ (if k 10 % 2 = 0 then sg else List.replicate 64 1)
    else if code = 0x22 then pub ++ [1, 2] else if code = 0x31 then imp ++ (if k 10 % 2 = 0 then impE.1 else List.replicate 32 0) ++ (if k 10 % 2 = 0 then impE.2 else List.replicate 16 0)
    else if code = 0x07 then List.replicate 12 1 ++ g.2 ++ [4, 5] else if code = 0x06 then List.replicate 28 1 else List.replicate 16 7
  let inp := if code = 0x07 then (if k 11 / 64 % 2 = 0 then g.1 else inp) else inp
  let cap := pick [200, 200, 64, 3] 5 (k 12)
  let ia := 0x10000100; let oa := 0x10000400; let aa := 0x10000800
  let ws : List Word := [w32 (code + slot * 256 + dest * 4096), w32 ia, w32 inp.length, w32 oa, w32 cap, w32 aa, w32 aux.length]
  let res := if k 13 % 6 = 0 then some (k 14 % 12, k 15 % 99) else none
  let j : SealRun := { desc := 0x10000040, words := ws, res := res }
  let s := { s with mem := { s.mem with sram := cellsPut 0 (cellsPut 0 [] ia inp) aa aux, ecc := [] }, cus := { s.cus with page := s.cus.page.setIfInBounds 0 (if k 16 % 9 = 0 then 2 else ownerCode p), pageZero := [] } }
  let s := { s with fuses := { s.fuses with zeroize := k 20 % 4 = 0 }, seals := { s.seals with rngFail := k 17 % 3 = 0, challenge := if k 18 % 2 = 0 then [] else [1,2], p := vset s.seals.p p { job := some j, slot := vset (Vector.replicate 4 { ty := if k 19 % 6 = 0 then .fixed else .hmac, key := [5] }) slot { ty := ty, key := keyb, origin := 2 } } } }
  let kt := (keyTypeOf (if code = 0x31 then leAt aux 97 1 else leAt inp 0 4)).getD (.aes128, 16)
  let gen := keyTypeOf (leAt inp 0 4)
  let q := (ptRead p256 (aux.take 65)).getD p256.g
  let z := if code ≠ 0x22 then [] else (ecdhX p256 (beNat keyb) q).getD []
  let pt := (gcmDec keyb (aux.take 12) (aux.drop 28) inp (slice aux 12 16)).getD []
  [("SJ", premSealJobsComputeTheirOutput p j pt q s), ("SK", premSealKeysAndJobEnds p kt.2 ((res.getD (0,0)).1) ((res.getD (0,0)).2) j kt.1 q z [1] s)]

/-- Every clause of SealJobsComputeTheirOutput has a situation that meets its hypotheses. The room of a signature is checked for both lengths it can have (ecdsaWith_length). -/
theorem witness_SealJobsComputeTheirOutput :
    meets (fun i => (situations i).map (·.2)) [(0, 0, [0]), (2, 0, [2]), (4, 0, [4]), (6, 0, [7]), (8, 0, [9]), (9, 0, [10]), (10, 0, [11]), (11, 0, [12]), (13, 0, [14]), (21, 0, [18]), (29, 0, [8]), (35, 0, [13]), (36, 0, [15]), (71, 0, [5]), (91, 0, [3]), (94, 0, [6]), (133, 0, [1]), (170, 0, [16]), (462, 0, [17])] = true := by
  decide +kernel

/-- Every clause of SealKeysAndJobEnds has a situation that meets its hypotheses. -/
theorem witness_SealKeysAndJobEnds :
    meets (fun i => (situations i).map (·.2)) [(18, 1, [4, 7, 8]), (19, 1, [3]), (20, 1, [1]), (37, 1, [0]), (61, 1, [2]), (74, 1, [6]), (128, 1, [5])] = true := by
  decide +kernel

end Sys2Proof.Tests.E
end

