-- ==== Sys2Proof/Tests/WitnessSessions.lean ====
section
/-! SUPPORT. Witnesses: the hypotheses of the statements about sessions, met. -/

namespace Sys2Proof.Tests.S

open Sys2Proof Sys2Proof.Machine Sys2Proof.Tests

set_option linter.unusedVariables false
set_option Elab.async false

/-- The hypotheses of the clauses of SessionsOpenProveAndEnd, in their order. -/
def premSessionsOpenProveAndEnd (ln : Ln) (k : SessArg) (proof chal : Bytes) (car : Carrier) (sl : Fin 2) (q : Sess) (w : CardWait) (s : State) : List Bool :=
  let c := s.car ln.car
  let rnd := (randomBytes 16 (lineTaken ln s)).1
  let n := sl.val
  let room := fun (t : Text) => t.length ≤ replyRoom ln
  let known := match k with
    | .person p => decide (1 ≤ p) && decide (p ≤ 6) && s.present p
    | .workshop => true
    | .blank => decide (s.life = 1)
    | .card _ => false
  let opened := match k with
    | .person p => "SESSION P" ++ toString p ++ " PERSON"
    | .workshop => "SESSION WS WORKSHOP"
    | _ => "SESSION BK BLANK"
  [decide ((serialLine ln s = true) ∧ (known = true) ∧ (c.locked = false) ∧ (room (tx "CHALLENGE " ++ hexGroups rnd))),
   decide ((serialLine ln s = true) ∧ (known = true) ∧ (c.locked = true) ∧ (room (tx "E202 BAD_PROOF"))),
   decide ((serialLine ln s = true) ∧ (known = true) ∧ (c.chal = some (k, chal)) ∧ (s.secs < c.chalAt + 30) ∧ ((match k with | .person p => decide (personKey s p = some (List.replicate 32 7)) | _ => false) = true) ∧ (room opened.toList)),
   decide ((serialLine ln s = true) ∧ (room (tx "E202 BAD_PROOF")) ∧ ((c.chal = none ∨ (c.chal = some (k, chal) ∧ (c.chalAt + 30 ≤ s.secs ∨ proofOk s k ln.car chal proof = false))))),
   decide ((serialLine ln s = true) ∧ (c.sess = some q) ∧ (q.card = none)),
   decide (((s.car .hst).sess = some q) ∧ (q.card = none)),
   decide (((s.car car).locked = true)),
   decide (((s.slot n).wait = some w)),
   decide ((cardsOn s = true) ∧ ((s.slot n).present = true) ∧ ((s.slot n).wait = none))]

/-- The hypotheses of the clauses of CharactersMakeLines, in their order. -/
def premCharactersMakeLines (ch : Byte) (car : Carrier) (div16 : Nat) (ts : List OutTag) (p : Nat) (ln : Ln) (text : Text) (s : State) : List Bool :=
  let c := s.car .svc
  let h := s.car .hst
  let k := s.car car
  let sv := fun (sfx : Bool) => ({ car := .svc, tag := some 7, sfx := sfx, pos := none } : Ln)
  let free := lineAccepted (sv false) s
  [decide (heard s .svc = true ∧ c.broken = false ∧ c.long = false ∧ c.inp.length < 250 ∧ printable (Char.ofNat ch.toNat) = true),
   decide ((car = .hst ∨ car = .win) ∧ heard s car = true ∧ k.broken = false ∧ k.long = false ∧ k.inp.length < 250 ∧ printable (Char.ofNat ch.toNat) = true),
   decide ((car = .svc ∨ car = .hst ∨ car = .win) ∧ heard s car = true ∧ k.broken = false ∧ k.long = false ∧ k.bad = false ∧ k.lost = false ∧ ch = 0x0D),
   decide (heard s .svc = true ∧ c.broken = false ∧ c.long = false ∧ suffixOf c.inp = none ∧ c.inp ≠ [] ∧ (ch = 0x08 ∨ ch = 0x7F)),
   decide (heard s .svc = true ∧ c.broken = false ∧ c.long = false ∧ suffixOf c.inp = none ∧ (ch = 0x15 ∨ ch = 0x03)),
   decide (heard s .svc = true ∧ c.broken = false ∧ c.long = false ∧ c.bad = false ∧ c.lost = false ∧ (c.inp.all fun x => decide (x = ' ')) = true ∧ ch = 0x0D),
   decide (heard s .svc = true ∧ (text = tx "7 READ TIME" ∨ text = tx "7 rea tim" ∨ text = tx "7 Read TIME")),
   decide (free = true ∧ c.inp = [] ∧ text = tx "7 FROB TIME"),
   decide (free = true ∧ c.inp = [] ∧ text = tx "7 RE TIME"),
   decide (free = true ∧ c.inp = [] ∧ text = tx "7 CLOSE SURVEY"),
   decide (h.begun = true),
   decide (heard s car = true ∧ (car = .svc ∨ car = .hst)),
   decide ((s.car car).broken = true ∧ (car = .svc ∨ car = .hst) ∧ (if car = .svc then 4340 else 667) ≤ div16 ∧ div16 ≤ 416667),
   decide (s.oru.cars = [{ car := .svc, tags := ts }]),
   decide (s.oru.cars = [{ car := .chain 2 1, tags := ts }] ∧ s.chn.pos = 1 ∧ s.chn.members = [{ pos := 1 }, { pos := 2 }] ∧ s.chn.ring = false ∧ s.chn.rerouted = false ∧ (s.cport 1).st = .up),
   decide ((h.tags.map (·.tag)).Nodup ∧ h.tags.any (fun q => decide (q.tag = some 7) && decide (q.node = p)) = true ∧ p ≠ 0),
   decide (lineAccepted ln s = true ∧ (sessOf s ln.car).isSome = true ∧ 1 ≤ p ∧ p ≤ 6 ∧ s.present p = true ∧ (s.person p).run ≠ .dead ∧ mailOrders (s.mbox p) < 16 ∧ (s.mbox p).refs = [] ∧ (s.mbox p).nextRef ≤ 255 ∧ 1 ≤ (s.mbox p).nextRef)]

/-- The hypotheses of the clauses of MailboxesServeTheirPerson, in their order. -/
def premMailboxesServeTheirPerson (core : Fin 4) (arg : Word) (p r : Nat) (m : Mail) (rest : List Mail) (ln : Ln) (t0 : Text) (rt : Retire) (s : State) : List Bool :=
  let w := fun (i : Nat) => descWord arg i s
  let ln0 : Ln := { car := .core p, tag := some 7, sfx := false, pos := none }
  [decide (callerOf s core.val 0x30 arg = some p ∧ descOk p arg s = true ∧ (w 1 = 0 ∨ 250 < w 1)),
   decide (callerOf s core.val 0x30 arg = some p ∧ descOk p arg s = true ∧ w 1 = 11 ∧ bufCheck s p (w 0) 11 = .ok ∧ bytesText (s.sramRead (w 0) 11) = tx "7 READ TIME" ∧ tagRefusal s ln0 = none ∧ mailReplies (s.mbox p) < 64),
   decide (callerOf s core.val 0x31 arg = some p ∧ descOk p arg s = true ∧ (s.mbox p).mail = []),
   decide (callerOf s core.val 0x31 arg = some p ∧ descOk p arg s = true ∧ (s.mbox p).mail = m :: rest ∧ bufCheck s p (w 0) 256 = .ok ∧ m.text.length ≤ 256 ∧ Memory.wf 0 s.mem.sram = true ∧ (w 0 + 256 ≤ arg.toNat ∨ arg.toNat + 16 ≤ w 0)),
   decide (callerOf s core.val 0x32 arg = some p ∧ descOk p arg s = true ∧ (s.mbox p).refs.any (fun q => decide (q.1 = w 2)) = false),
   decide (callerOf s core.val 0x32 arg = some p ∧ descOk p arg s = true ∧ (s.mbox p).refs = [(w 2, ln)] ∧ ln.car = .hst ∧ tagOpen s ln = true ∧ 2 ≤ w 1 ∧ w 1 ≤ 250 ∧ bufCheck s p (w 0) (w 1) = .ok ∧ bytesText (s.sramRead (w 0) (w 1)) = tx "+ " ++ t0 ∧ t0.length ≤ replyRoom ln ∧ t0.all printable = true ∧ t0 ≠ []),
   decide ((s.mbox p).refs = [(r, ln)] ∧ p < 7 ∧ ln.car = .hst ∧ tagOpen s ln = true),
   decide (s.stw.retire = some rt),
   decide (s.stw.retire = none)]

def party (n : Nat) : Sess := { party := n }
def lineS (seed : Nat) (ln : Ln) (s : State) : State :=
  let r := rnds (seed * 17 + 5) 20
  let k := fun i => r.getD i 0
  let s := { s with isl := { s.isl with power := .run, step := 10 }, win := { s.win with state := 3 } }
  { s with oru := { s.oru with cars := [{ car := ln.car, sess := if k 0 % 5 = 0 then none else some (party (pick [1,2,3,7,8] 1 (k 1))), tags := if k 2 % 3 = 0 then [{ tag := some 7, node := 0, sfx := false }] else [], chBuf := if k 3 % 2 = 0 then [1,2,3] else [] }] },
           bun := { s.bun with st := pick [.empty, .receiving, .staged, .done, .pendingAll] .empty (k 4), stager := k 5 % 3, total := 32, written := 16 * (k 6 % 2) },
           fuses := { s.fuses with counters := s.fuses.counters.set 0 (1 + k 7 % 4) },
           stw := { s.stw with retire := if k 8 % 2 = 0 then some { party := (pick [1,2,3,7,8] 1 (k 1)), car := ln.car, slot := 1 } else none } }
/-- The hypotheses of every statement of this file in the situations of one seed. -/
def situations (seed : Nat) : List (String × List Bool) :=
  let r := rnds (seed * 7919 + 13) 60
  let k := fun i => r.getD i 0
  let ln : Ln := { car := pick [.svc, .hst] .svc (k 0), tag := if k 1 % 4 = 0 then none else some (k 2 % 9), sfx := k 3 % 2 = 0, pos := if k 30 % 3 = 0 then some 0 else none }
  let s := lineS seed ln (dev (seed + 1))
  let sr := { s with stw := { s.stw with charter := s.stw.charter.map fun c => { c with rows := c.rows.map fun q => if q.present = 1 then { q with rights := 0x1FFFF } else q } } }
  let s := if k 4 % 3 = 0 then s else sr
  let kk : SessArg := pick [.person (1 + k 8 % 2), .workshop, .blank] .workshop (k 5)
  let chal := List.replicate 16 (BitVec.ofNat 8 (k 6))
  let key : Bytes := List.replicate 32 7
  let s := { s with seals := { s.seals with p := vset s.seals.p 1 { vget s.seals.p 1 with slot := vset (vget s.seals.p 1).slot 3 { ty := .hmac, key := key } } }, secs := 100, fuses := { s.fuses with part := .ah } }
  let s := setCar ln.car (fun q => { q with inp := [], out := if k 6 % 2 = 0 then ['x'] else [], chal := if k 7 % 3 = 0 then none else some (kk, chal), chalAt := 60 + k 9 % 50, fails := k 10 % 6, locked := k 11 % 4 = 0, chBuf := [1], sess := if k 12 % 3 = 0 then none else some { party := 1 } }) s
  let wt : CardWait := { ln := ln }
  let s := setSlot (k 13 % 2) (fun q => { q with present := true, steward := true, st := 3, wait := if k 14 % 2 = 0 then none else some wt }) s
  let s := if k 15 % 2 = 0 then setCar (.chain 2 1) (fun q => { q with sess := some { party := 3, card := some (k 13 % 2) } }) s else s
  let proof := if k 16 % 2 = 0 then hmac sha256P key (sessionMsg (sessCode kk) ln.car chal) else [1]
  let car := if k 17 % 2 = 0 then ln.car else .chain 2 1
  let SS := fun q => premSessionsOpenProveAndEnd ln kk proof chal car ⟨k 13 % 2, by omega⟩ q wt s
  -- characters
  let inp := pick [[], tx "7 READ TIME", tx "  ", tx "7 READ TIME*5", tx "A*5F", List.replicate 250 'a'] [] (k 18)
  let sc := setCar ln.car (fun q => { q with inp := inp, long := k 19 % 6 = 0, bad := k 20 % 6 = 0, broken := k 21 % 3 = 0, afterCr := k 22 % 3 = 0 }) s
  let sc := if k 23 % 2 = 0 then setCar .hst (fun q => { q with tags := [{ tag := some 7, node := 3, sfx := false }, { tag := some 5, node := 0, sfx := true }] }) sc else sc
  let tg : List OutTag := [{ tag := some 7, node := 0, sfx := false }, { tag := some 5, node := 0, sfx := true }]
  let sc1 := { sc with oru := { sc.oru with cars := [{ car := (if k 24 % 2 = 0 then .svc else .chain 2 1), tags := tg }] }, chn := { sc.chn with pos := 1, role := .head, members := [{ pos := 1 }, { pos := 2 }], port := vset sc.chn.port 1 { st := .up, keyDown := List.replicate 32 1, keyUp := List.replicate 32 2, epoch := 1 } } }
  let text := pick [tx "7 READ TIME", tx "7 rea tim", tx "7  Read  TIME", tx "7 FROB TIME", tx "7 RE TIME", tx "7 CLOSE SURVEY"] [] (k 25)
  let ch : Byte := pick [0x41, 0x20, 0x7E, 0x08, 0x7F, 0x15, 3, 0x0D, 0x0A, 0x0D, 0x0D] 5 (k 26)
  let CC := fun s => premCharactersMakeLines ch ln.car (pick [4340, 667, 416667, 416668, 5000] 5000 (k 27)) tg (pick [1,2,3] 1 (k 28)) ln text s
  -- mailboxes
  let m : Mail := { kind := 1 + k 29 % 2, car := 5, sender := 1, ref := 3, text := tx "HELLO WORLD" }
  let q : Nat := 1 + k 31 % 2
  let arg := w32 0x10000010
  let w0 := pick [0x10000100, 0x10000100, 100] 0 (k 32)
  let n1 := pick [11, 11, 0, 251, 300, 2] 11 (k 33)
  let msg := textBytes (pick [tx "7 READ TIME", tx "+ ABC DEF G", tx "- ABC DEF G"] [] (k 34))
  let w := leBytes 4 w0 ++ leBytes 4 n1 ++ leBytes 4 (pick [5, 6] 5 (k 35)) ++ leBytes 4 0
  let lh : Ln := { ln with car := .hst }
  let sm := { s with mem := { s.mem with sram := cellsPut 0 (cellsPut 0 [] arg.toNat w) 0x10000100 msg, ecc := [] }, cus := { s.cus with page := s.cus.page.setIfInBounds 0 (if k 36 % 5 = 0 then 2 else ownerCode q) } }
  let sm := if k 44 % 2 = 0 then sm else { sm with stw := { sm.stw with retire := some { party := 3, car := .hst, slot := 5 } } }
  let sm := setMbox q (fun b => { b with mail := if k 37 % 2 = 0 then [] else [m, m], refs := if k 38 % 3 = 0 then [] else [(5, lh)] }) sm
  let sm := setCar .hst (fun c => { c with tags := if k 39 % 4 = 0 then [] else [{ tag := lh.tag, node := 0, sfx := true }] }) sm
  let MB := fun v => premMailboxesServeTheirPerson 0 arg q 5 m [m] lh (tx "ABC DEF G") (sm.stw.retire.getD { party := 0, car := .svc, slot := 0 }) (calling v arg q sm)
  [("SS", SS { party := 1 }), ("SS", SS { party := 3, card := some (k 13 % 2) }), ("CC", CC sc), ("CC", CC sc1), ("MB", MB 0x30), ("MB", MB 0x31), ("MB", MB 0x32)]

/-- Every clause of SessionsOpenProveAndEnd has a situation that meets its hypotheses. That the proof verifies is checked as that the key it was made with is the person's (personProof_ok). -/
theorem witness_SessionsOpenProveAndEnd :
    meets (fun i => (situations i).map (·.2)) [(5, 0, [3]), (9, 0, [0, 8]), (20, 0, [1, 4, 5, 6, 7]), (114, 0, [2])] = true := by
  decide +kernel

/-- Every clause of CharactersMakeLines has a situation that meets its hypotheses. -/
theorem witness_CharactersMakeLines :
    meets (fun i => (situations i).map (·.2)) [(0, 2, [7]), (1, 3, [4]), (2, 3, [11]), (2, 3, [13]), (3, 2, [0]), (3, 3, [1, 9, 14]), (19, 2, [8, 12]), (25, 2, [2, 6, 15, 16]), (49, 2, [3]), (95, 2, [5, 10])] = true := by
  decide +kernel

/-- Every clause of MailboxesServeTheirPerson has a situation that meets its hypotheses. -/
theorem witness_MailboxesServeTheirPerson :
    meets (fun i => (situations i).map (·.2)) [(0, 4, [0, 6]), (0, 4, [7]), (1, 5, [2]), (2, 6, [4]), (7, 4, [8]), (13, 5, [3]), (18, 4, [1]), (72, 6, [5])] = true := by
  decide +kernel

end Sys2Proof.Tests.S
end

