-- ==== Sys2Proof/Tests/WitnessSteward.lean ====
section
/-! SUPPORT. Witnesses: the hypotheses of the statements about steward, met. -/

namespace Sys2Proof.Tests.T

open Sys2Proof Sys2Proof.Machine Sys2Proof.Tests

set_option linter.unusedVariables false
set_option Elab.async false

/-- The hypotheses of the clauses of MirrorKeepsWholeSlots, in their order. -/
def premMirrorKeepsWholeSlots (slot : Fin 128) (m : Fin 8) (n q : Nat) (v : BitVec 64) (hs : List HTxn) (s : State) : List Bool :=
  let on := decide (1 ≤ s.win.state) && s.isl.vioW
  [decide ((s.gates.gfH = .slot n v q :: hs)),
   decide ((winLive s = true)),
   decide ((on = true)),
   decide ((s.win.frozen.isSome = true)),
   decide ((7 ≤ s.isl.step) ∧ (m.val = 0 ∨ m.val = 3 ∨ m.val = 4 ∨ m.val = 5))]

/-- The hypotheses of the clauses of HostWritesActOnTheWindow, in their order. -/
def premHostWritesActOnTheWindow (cell : Fin 128) (v : BitVec 16) (b : Fin 16) (l : Text) (f : Bool) (rest : List (Bool × Text)) (s : State) : List Bool :=
  let n := cell.val
  let c := s.cell n
  let cs := [v.setWidth 8, (v >>> 8).setWidth 8].filter fun x : Byte => decide (x ≠ 0)
  [decide ((winLive s = true) ∧ (cellOwner s n ≠ 0) ∧ (c.st ≠ 0) ∧ (c.st ≠ 2)),
   decide ((winLive s = true) ∧ (cellOwner s n ≠ 0) ∧ (c.st = 2) ∧ (7 ≤ s.isl.step)),
   decide ((c.bind = .person) ∧ (c.order.isSome = true)),
   decide ((winLive s = true) ∧ (cs.length ≤ 256 - s.win.txFifo.length) ∧ (cs ≠ [])),
   decide ((winLive s = true) ∧ (s.win.txFifo.length = 256) ∧ (cs ≠ [])),
   decide ((winLive s = true) ∧ (s.win.rx = some l) ∧ (s.win.rxQ = (f, l) :: rest)),
   decide ((winLive s = true) ∧ (s.win.rx = some l) ∧ (s.win.rxQ = [])),
   decide ((winLive s = true)),
   decide ((winLive s = true) ∧ (b.val < 15))]

/-- The hypotheses of the clauses of CellCallsServeTheirOwner, in their order. -/
def premCellCallsServeTheirOwner (core : Fin 4) (arg : Word) (p m : Nat) (s : State) : List Bool :=
  let n := arg.toNat % 128
  let c := s.cell n
  let kind := arg.toNat / 256 % 8
  let code := arg.toNat / 256 % 32
  let waits := s.win.cellQ.find? fun k => decide (cellOwner s k = p)
  let no := arg.getLsbD 7
  [decide ((p < 7) ∧ (callerOf s core.val 0x38 arg = some p) ∧ (7 ≤ s.isl.step)),
   decide ((p < 7) ∧ (callerOf s core.val 0x39 arg = some p) ∧ (cellOwner s n ≠ p)),
   decide ((p < 7) ∧ (callerOf s core.val 0x39 arg = some p) ∧ (cellOwner s n = p) ∧ (6 ≤ kind)),
   decide ((p < 7) ∧ (callerOf s core.val 0x39 arg = some p) ∧ (cellOwner s n = p) ∧ (kind = 1) ∧ (c.st ≠ 2)),
   decide ((p < 7) ∧ (callerOf s core.val 0x39 arg = some p) ∧ (cellOwner s n = p) ∧ (kind = 1) ∧ (c.st = 2)),
   decide ((p < 7) ∧ (callerOf s core.val 0x3A arg = some p) ∧ (descOk p arg s = true) ∧ (waits = none)),
   decide ((p < 7) ∧ (callerOf s core.val 0x3A arg = some p) ∧ (descOk p arg s = true) ∧ (waits = some m) ∧ (m < 128)),
   decide ((p < 7) ∧ (callerOf s core.val 0x3B arg = some p) ∧ (no = true) ∧ (code < 0x10)),
   decide ((p < 7) ∧ (callerOf s core.val 0x3B arg = some p) ∧ (no = false) ∧ (cellOwner s n ≠ p)),
   decide ((p < 7) ∧ (callerOf s core.val 0x3B arg = some p) ∧ (no = false) ∧ (cellOwner s n = p) ∧ (c.bind = .person) ∧ (c.order.isSome = true) ∧ (c.taken = true))]

/-- The hypotheses of every statement of this file in the situations of one seed. -/
def situations (seed : Nat) : List (String × List Bool) :=
  let r := rnds (seed * 7919 + 13) 80
  let k := fun i => r.getD i 0
  let bo : Nat → Bool := fun i => k i % 2 = 0
  let s := dev (seed + 1)
  let s := { s with isl := { s.isl with vioW := decide (k 0 % 5 ≠ 0), step := pick [10, 10, 10, 6] 10 (k 1) } }
  let n : Nat := pick [0, 17, 40] 0 (k 2)
  let cl : Cell := { st := k 3 % 5, code := k 4 % 5, wseq := k 5 % 16, val := k 6 % 16, bind := pick [.none, .person, .person, .feed 2] .none (k 7), order := if bo 8 then some (k 9 % 16) else none, taken := bo 10 }
  let l : Text := tx "HELLO"
  let s := { s with win := { s.win with state := pick [3, 3, 1, 0] 3 (k 11), cells := s.win.cells.setIfInBounds n cl, cellQ := if bo 12 then [n, 18] else [], frozen := if bo 13 then some (Vector.replicate 128 (5, 6)) else none, stale := bo 14, live := Vector.replicate 128 (BitVec.ofNat 64 (k 15 * 2^20 + 7), 3), seqs := Vector.replicate 128 (pick [0xFFFF, 0, 7] 0 (k 16)), txFifo := pick [[], List.replicate 255 1, List.replicate 256 1] [] (k 17), rx := if bo 18 then some l else none, rxQ := if bo 19 then [(bo 20, l), (true, [])] else [], branch := Vector.replicate 16 (BitVec.ofNat 16 (k 21)) }, gates := { s.gates with gfH := if bo 22 then [.slot 5 77 9, .leaf 1 1 []] else [.leaf 1 1 []], ghF := [] } }
  let p : Nat := 1 + k 23 % 2
  let arg := w32 (n + 128 * (k 24 % 2) + 256 * (k 25 % 32) + 65536 * (k 26 % 16))
  let dsc := w32 0x10000010
  let s := { s with cus := { s.cus with page := s.cus.page.setIfInBounds 0 (ownerCode p) }, mem := { s.mem with ecc := [] } }
  let v := BitVec.ofNat 16 (pick [0x4142, 0x41, 0x4100, 0, 0x6000] 0 (k 27))
  [("MK", premMirrorKeepsWholeSlots ⟨k 28 % 128, by omega⟩ ⟨k 29 % 8, by omega⟩ 5 9 77 [.leaf 1 1 []] s),
   ("HW", premHostWritesActOnTheWindow ⟨n % 128, by omega⟩ v ⟨k 30 % 16, by omega⟩ l (bo 20) [(true, [])] s),
   ("C8", premCellCallsServeTheirOwner 0 arg p n (calling 0x38 arg p s)), ("C9", premCellCallsServeTheirOwner 0 arg p n (calling 0x39 arg p s)), ("CA", premCellCallsServeTheirOwner 0 dsc p n (calling 0x3A dsc p s)), ("CB", premCellCallsServeTheirOwner 0 arg p n (calling 0x3B arg p s))]

/-- Every clause of MirrorKeepsWholeSlots has a situation that meets its hypotheses. -/
theorem witness_MirrorKeepsWholeSlots :
    meets (fun i => (situations i).map (·.2)) [(85, 0, [0, 1, 2, 3, 4])] = true := by
  decide +kernel

/-- Every clause of HostWritesActOnTheWindow has a situation that meets its hypotheses. -/
theorem witness_HostWritesActOnTheWindow :
    meets (fun i => (situations i).map (·.2)) [(9, 1, [0, 2, 3, 6, 7, 8]), (4, 1, [4, 5]), (25, 1, [1])] = true := by
  decide +kernel

/-- Every clause of CellCallsServeTheirOwner has a situation that meets its hypotheses. -/
theorem witness_CellCallsServeTheirOwner :
    meets (fun i => (situations i).map (·.2)) [(0, 2, [0]), (0, 3, [1]), (0, 4, [5]), (0, 5, [7]), (2, 5, [8]), (42, 4, [6]), (50, 3, [2]), (58, 3, [3]), (97, 5, [9]), (222, 3, [4])] = true := by
  decide +kernel

end Sys2Proof.Tests.T
end

