-- ==== Sys2Proof/Tests/WitnessSurvey.lean ====
section
/-! SUPPORT. Witnesses: the hypotheses of the statements about survey, met. -/

namespace Sys2Proof.Tests.N

open Sys2Proof Sys2Proof.Machine Sys2Proof.Tests

set_option linter.unusedVariables false
set_option Elab.async false

/-- The hypotheses of the clauses of CanControllersMoveFrames, in their order. -/
def premCanControllersMoveFrames (core : Fin 4) (k : Fin 2) (buf : Fin 64) (v : Word) (f : CanFrame) (tx : Bool) (s : State) : List Bool :=
  let q := s.can k.val
  let b := vget q.buf buf.val
  let group := ownsFrame s core.val (0x74 + 4 * k.val + buf.val / 16)
  [decide (ownsFrame s core.val (0x71 + k.val) = true),
   decide (ownsFrame s core.val (0x71 + k.val) = false),
   decide (group = true ∧ b.tx = true ∧ q.sends = true ∧ q.onBus = none ∧ canNext q = none),
   decide (group = true ∧ b.tx = true ∧ b.pending = true),
   decide (portOn s = true ∧ q.mode ≠ 0 ∧ q.busOff = false ∧ f.data.length ≤ 64 ∧ b.takes f = true ∧ (((List.range 64).all fun j => !decide (j ≠ buf.val) || decide ((vget q.buf j).takes f = false)) = true)),
   decide (q.onBus = some buf.val),
   decide (portOn s = true ∧ q.mode = 1 ∧ q.hold = false ∧ q.busOff = false),
   decide (q.autorec = true ∧ q.busOff = true),
   decide (s.isl.refOk = true ∧ q.hold = true)]

/-- The hypotheses of the clauses of CardSlotsRunTheirTransfers, in their order. -/
def premCardSlotsRunTheirTransfers (core : Fin 4) (sl : Fin 2) (len v : Byte) (rest : List Byte) (s : State) : List Bool :=
  let n := sl.val
  let q := s.slot n
  let mine := cardsOn s && ownsFrame s core.val (0x81 + n)
  let running := decide (q.st = 3) && q.xfer == some .recv
  [decide ((mine = true) ∧ (q.steward = true)),
   decide ((mine = true) ∧ (q.steward = false) ∧ (q.present = true) ∧ (q.inUse = false)),
   decide ((mine = true) ∧ (q.steward = false) ∧ (q.inUse = true) ∧ (q.retry = false)),
   decide ((mine = true) ∧ (q.steward = false) ∧ (q.st = 3) ∧ (q.xfer = none) ∧ (len ≠ 0)),
   decide ((mine = true) ∧ (q.steward = false) ∧ (q.st = 3) ∧ (q.xfer = none) ∧ (len = 0)),
   decide ((mine = true) ∧ (q.steward = false) ∧ (running = true)),
   decide ((mine = true) ∧ (q.tx.length < 32)),
   decide ((mine = true) ∧ (q.tx.length ≥ 32)),
   decide ((mine = true) ∧ (q.rx = v :: rest)),
   decide ((mine = true) ∧ (q.rx = [])),
   decide ((cardsOn s = true) ∧ (q.wait = none) ∧ (q.xfer = some .recv) ∧ (q.rx.length < 32)),
   decide ((cardsOn s = true) ∧ (q.wait = none) ∧ (q.xfer = some .recv) ∧ (32 ≤ q.rx.length)),
   decide ((cardsOn s = true) ∧ (q.wait = none) ∧ (q.xfer = some .atr) ∧ (q.rx.length < 32)),
   decide ((cardsOn s = true) ∧ (running = true)),
   decide ((cardsOn s = true) ∧ (q.st = 2)),
   decide ((cardsOn s = true) ∧ (q.retry = true) ∧ (q.present = true)),
   decide ((cardsOn s = true) ∧ ((q.st = 2 ∨ q.st = 3))),
   decide ((cardsOn s = true) ∧ (q.present = false))]

/-- The hypotheses of the clauses of SenseAndSerialPortsKeepTheirFifos, in their order. -/
def premSenseAndSerialPortsKeepTheirFifos (core n4 : Fin 4) (n : Fin 8) (m : Fin 2) (level : Bool) (cap : BitVec 31) (b : UartByte) (v : Byte) (w : Word) (count : BitVec 16) (rest : List Word) (s : State) : List Bool :=
  let q := s.sense n.val
  let u := s.uart n4.val
  let p := s.spi m.val
  let uown := ownsFrame s core.val (0x91 + n4.val)
  let sown := ownsFrame s core.val (0x95 + m.val)
  let paused := p.tx.isEmpty || decide (16 ≤ p.rx.length)
  [decide (portOn s = true ∧ q.cfg.getLsbD (if level then 8 else 9) = true),
   decide (portOn s = true ∧ q.cfg.getLsbD (if level then 8 else 9) = false),
   decide (ownsFrame s core.val (0xA1 + n.val) = true ∧ q.fifo = w :: rest),
   decide (ownsFrame s core.val (0xA1 + n.val) = true ∧ q.fifo = []),
   true,
   decide (portOn s = true ∧ u.cfg.getLsbD 31 = true ∧ u.rx.length < 64),
   decide (portOn s = true ∧ u.cfg.getLsbD 31 = true ∧ 64 ≤ u.rx.length),
   decide (portOn s = true ∧ u.cfg.getLsbD 31 = true),
   decide (uown = true ∧ u.tx.length < 64),
   decide (uown = true ∧ 64 ≤ u.tx.length),
   decide (uown = true ∧ u.rx = w :: rest),
   decide (uown = true ∧ u.rx = []),
   decide (sown = true ∧ p.busy = false),
   decide (sown = true ∧ p.busy = true),
   decide (sown = true),
   decide (sown = true ∧ p.tx.length < 16),
   decide (sown = true ∧ p.rx = w :: rest),
   decide (portOn s = true ∧ p.busy = true ∧ p.left ≠ 0 ∧ paused = false),
   decide (p.busy = true ∧ p.left = 0),
   decide (p.busy = true ∧ p.left ≠ 0 ∧ paused = true ∧ p.stall ≠ 0)]

/-- The hypotheses of every statement of this file in the situations of one seed. -/
def situations (seed : Nat) : List (String × List Bool) :=
  let r := rnds (seed * 7919 + 13) 120
  let k := fun i => r.getD i 0 / 64
  let b := fun i => decide (k i % 2 = 0)
  let s := dev (seed + 1)
  let s := { s with isl := { s.isl with port := if k 0 % 5 = 0 then .off else .run, refOk := b 1 }, fuses := { s.fuses with part := .ah }, cus := { s.cus with frame := Vector.replicate 272 (if k 2 % 4 = 0 then 0xF else ownerCode (curOf 0 s)) } }
  let kk : Fin 2 := ⟨k 3 % 2, by omega⟩
  let bi : Fin 64 := ⟨k 4 % 64, by omega⟩
  let cf : CanFrame := { id := 5, ide := b 5, fdf := b 6, brs := false, rtr := false, dlc := 8, data := (List.range (pick [0, 8, 64, 65] 0 (k 7))).map fun i => BitVec.ofNat 8 (i + seed) }
  let cb : CanBuf := { tx := b 8, pending := b 9, done := b 10, oneshot := b 11, cancel := k 12 % 4 = 0, id := if k 13 % 3 = 0 then 4 else 5, mask := 0x1FFFFFFF, fmt := if b 5 then 0x80000000 else 0, data := Vector.replicate 16 0x01020304 }
  let other : CanBuf := { tx := true, pending := k 14 % 3 = 0, id := 9 }
  let can : Can := { mode := pick [1, 1, 1, 0, 2, 3] 1 (k 15), autorec := b 16, hold := k 17 % 4 = 0, busOff := k 18 % 3 = 0, tec := pick [0, 5, 120, 128, 248, 247, 256] 0 (k 19), rxErr := pick [0, 1, 127, 128, 255] 0 (k 20), onBus := if b 21 then some bi.val else if b 22 then some 63 else none, buf := ((Vector.replicate 64 other).setIfInBounds 63 {}).setIfInBounds bi.val cb }
  let sc := { s with port := { s.port with can := vset s.port.can kk.val can } }
  let sl : Fin 2 := ⟨k 3 % 2, by omega⟩
  let bs := fun n => (List.range n).map fun i => BitVec.ofNat 8 (i * 3 + seed)
  let slot : Slot := { present := k 23 % 3 ≠ 0, st := k 24 % 5, status := k 25 % 8, classC := b 26, cfg := w32 (k 27 % 4), tx := bs (pick [0, 5, 31, 32] 0 (k 28)), rx := bs (pick [0, 1, 5, 31, 32] 0 (k 29)), xfer := pick [none, some .atr, some .recv, some (.send 3)] none (k 30), retry := k 31 % 4 = 0, steward := k 32 % 4 = 0, atr := bs (k 33 % 35), sent := 2 }
  let ss := { s with port := { s.port with card := vset s.port.card sl.val slot } }
  let ws := fun n => (List.range n).map fun i => w32 (i * 77777 + seed)
  let sn : Sense := { cfg := w32 (k 34 % 65536), fifo := ws (pick [0, 1, 5, 63, 64] 0 (k 35)), lost := pick [0, 0xFFFF] 0 (k 36), count := 0xFFFFFFFF }
  let ua : Uart := { cfg := w32 (k 37 % 2 + (if k 38 % 3 = 0 then 0 else 2^31) + 256 * (k 39 % 65) + 65536 * (k 40 % 65)), rx := ws (pick [0, 1, 63, 64] 0 (k 41)), tx := bs (pick [0, 1, 63, 64] 0 (k 42)) }
  let sp : Spi := { cfg := w32 (k 43 % 8192), stall := k 44 % 2, rx := ws (pick [0, 1, 15, 16] 0 (k 45)), tx := ws (pick [0, 1, 15, 16] 0 (k 46)), busy := k 47 % 3 ≠ 0, left := k 48 % 2 }
  let se := { s with port := { s.port with sns := { s.port.sns with line := Vector.replicate 8 sn, markSec := 55, markCap := 66 }, uart := Vector.replicate 4 ua, spi := Vector.replicate 2 sp } }
  let hd := fun (l : List Word) => (l.headD 0)
  [("CA", premCanControllersMoveFrames 0 kk bi (w32 (k 49 % 64)) cf (b 50) sc), ("CR", premCardSlotsRunTheirTransfers 0 sl (BitVec.ofNat 8 (k 51 % 3)) (slot.rx.headD 7) slot.rx.tail ss),
   ("SE", premSenseAndSerialPortsKeepTheirFifos 0 2 3 1 (b 52) (BitVec.ofNat 31 (k 53)) { data := BitVec.ofNat 8 (k 54), framingErr := b 55, parityErr := b 56 } 9 (hd sn.fifo) 77 sn.fifo.tail se),
   ("SE", premSenseAndSerialPortsKeepTheirFifos 0 2 3 1 (b 52) (BitVec.ofNat 31 (k 53)) { data := BitVec.ofNat 8 (k 54), framingErr := b 55, parityErr := b 56 } 9 (hd ua.rx) 77 ua.rx.tail se),
   ("SE", premSenseAndSerialPortsKeepTheirFifos 0 2 3 1 (b 52) (BitVec.ofNat 31 (k 53)) { data := BitVec.ofNat 8 (k 54), framingErr := b 55, parityErr := b 56 } 9 (hd sp.rx) 77 sp.rx.tail se)]

/-- Every clause of CanControllersMoveFrames has a situation that meets its hypotheses. -/
theorem witness_CanControllersMoveFrames :
    meets (fun i => (situations i).map (·.2)) [(1, 0, [1, 4, 5, 6]), (3, 0, [8]), (4, 0, [0, 3, 7]), (158, 0, [2])] = true := by
  decide +kernel

/-- Every clause of CardSlotsRunTheirTransfers has a situation that meets its hypotheses. -/
theorem witness_CardSlotsRunTheirTransfers :
    meets (fun i => (situations i).map (·.2)) [(4, 1, [12, 14]), (8, 1, [3]), (10, 1, [1]), (20, 1, [4]), (63, 1, [2, 5, 6, 8, 11, 13, 16, 17]), (111, 1, [0, 7, 9, 10, 15])] = true := by
  decide +kernel

/-- Every clause of SenseAndSerialPortsKeepTheirFifos has a situation that meets its hypotheses. -/
theorem witness_SenseAndSerialPortsKeepTheirFifos :
    meets (fun i => (situations i).map (·.2)) [(8, 2, [19]), (13, 2, [0, 2, 4, 6, 7, 8, 10, 13, 14, 15, 18]), (20, 4, [1, 3, 9, 11, 12, 16]), (41, 2, [5, 17])] = true := by
  decide +kernel

end Sys2Proof.Tests.N
end

