-- ==== Sys2Proof/Tests/WitnessUnits.lean ====
section
/-! SUPPORT. Witnesses: the hypotheses of the statements about units, met. -/

namespace Sys2Proof.Tests.X

open Sys2Proof Sys2Proof.Machine Sys2Proof.Tests

set_option linter.unusedVariables false
set_option Elab.async false

/-- The hypotheses of the clauses of InterruptSourcesFollowTheirEvents, in their order. -/
def premInterruptSourcesFollowTheirEvents (core : Fin 4) (n : Byte) (v : Word) (b : Bool) (s : State) : List Bool :=
  let c := core.val
  let p := curOf c s
  let d := leadOf s c p
  let q := s.src n.toNat
  let top := candidate s d p
  let m := v.toNat % 256
  let there := srcExists s.fuses.part n.toNat
  let apart := !trails s c
  [decide (there = true ∧ srcLevel n.toNat = false ∧ q.edges ≤ 255),
   decide (there = true ∧ srcLevel n.toNat = true ∧ q.raw = false ∧ q.filtered = false ∧ q.edges ≤ 255),
   decide (there = true ∧ srcLevel n.toNat = true),
   decide (there = true ∧ srcLevel n.toNat = true ∧ q.level ≠ b ∧ q.moved = true ∧ q.edges ≤ 255),
   decide ((q.level = b ∨ q.moved = false)),
   decide (s.isl.power ≠ .nap ∧ apart = true ∧ top ≠ 0),
   decide (s.isl.power ≠ .nap ∧ apart = true ∧ top = 0),
   decide (apart = false),
   decide (apart = true ∧ m ≠ 0 ∧ s.srcOwner m = p ∧ (s.src m).active = some d),
   decide (apart = true ∧ m ≠ 0 ∧ (s.srcOwner m ≠ p ∨ (s.src m).active ≠ some d) ∧ p < 7),
   decide (apart = true ∧ 128 ≤ n.toNat ∧ s.srcOwner n.toNat = p ∧ there = true ∧ q.edges ≤ 255),
   decide (apart = true ∧ n ≠ 0 ∧ s.srcOwner n.toNat = p),
   true]

/-- The hypotheses of the clauses of MoversMoveTheirBursts, in their order. -/
def premMoversMoveTheirBursts (core : Fin 4) (ch : Fin 16) (line : Fin 48) (b : Burst) (a z : Nat) (held : Nat × Bytes) (later : List (Nat × Bytes)) (s : State) : List Bool :=
  let n := ch.val
  let q := s.chan n
  let k := burstLen q (granted q)
  let sa := burstAddrs q.src q.issued k
  let da := burstAddrs q.dst q.issued k
  let wa := burstAddrs q.dst b.dst 4
  let e := aheadAt q % q.total
  let ea := burstAddrs q.src e (burstLenAt q e q.burst)
  let p := s.chanOwner n
  let run (r : List Nat) := decide (r ≠ []) && r.all fun i => decide (0x10000000 ≤ i ∧ i + 4 ≤ 0x10400000)
  [decide (ownsChan s core.val n = true ∧ q.active = false ∧ shapeOk q = true ∧ requestOk s q p = true),
   decide (ownsChan s core.val n = true ∧ q.active = false ∧ shapeOk q = false ∧ q.evtErr = 0 ∧ (((List.range 16).all fun m => decide ((s.chan m).evtErr = 0)) = true)),
   decide (ownsChan s core.val n = true ∧ q.st = .running ∧ q.dying = false),
   decide (line.val < 24 ∧ q.reqsel = line.val + 1 ∧ (((List.range 16).all fun m => !decide (m ≠ n) || decide ((s.chan m).reqsel ≠ line.val + 1)) = true) ∧ q.st = .running ∧ q.reqcnt < 255),
   decide (hasBurst s n = true ∧ outranked s n = false ∧ s.mem.ecc = [] ∧ (s.witnessOn p).isNone = true ∧ run sa = true ∧ run da = true ∧ burstCheck s p q sa da = none ∧ q.ahead = []),
   decide (hasBurst s n = true ∧ outranked s n = false ∧ s.mem.ecc = [] ∧ (s.witnessOn p).isNone = true ∧ run sa = true ∧ run da = true ∧ burstCheck s p q sa da = none ∧ q.ahead = held :: later),
   decide (hasBurst s n = true ∧ outranked s n = false ∧ s.mem.ecc = [] ∧ (s.witnessOn p).isNone = true ∧ run sa = true ∧ run da = true ∧ burstCheck s p q sa da = some (1, a) ∧ q.out ≠ []),
   decide (hasBurst s n = false ∧ mayReadAhead s n = true ∧ s.mem.ecc = [] ∧ (s.witnessOn p).isNone = true ∧ run ea = true ∧ burstCheck s p q ea (burstAddrs q.dst e (burstLenAt q e q.burst)) = none),
   decide (q.out = [b] ∧ b.put = none ∧ b.lost = false ∧ b.data.length = 4 ∧ heldBurst s p wa = false ∧ (((List.range 16).all fun m => decide ((s.chan m).evtDL = 0 ∧ (s.chan m).evtErr = 0)) = true) ∧ s.mem.ecc = [] ∧ q.dst.fixed = false ∧ run wa = true ∧ Memory.wf 0 s.mem.sram = true)]

/-- The hypotheses of the clauses of FlashCommandsRunInTheirBank, in their order. -/
def premFlashCommandsRunInTheirBank (bank : Fin 4) (v : Word) (z a : Nat) (d : Bytes) (o : FlashOp) (s : State) : List Bool :=
  let b := bank.val
  let k := s.bank b
  let free := k.unlocked && k.busy.isNone
  let alone := decide (k.own = false) && s.store.run.isNone && s.store.queue.isEmpty
  let sector := k.addr.toNat / 0x4000 % 128
  [true,
   decide (k.unlocked = false),
   decide (k.unlocked = true ∧ k.busy.isSome = true),
   decide (free = true ∧ k.locked sector = true),
   decide (free = true ∧ k.locked sector = false),
   decide (free = true ∧ vget s.fuses.counters 0 = 0 ∧ (((List.range 128).all fun i => decide (k.locked i = false)) = true)),
   decide (free = true ∧ vget s.fuses.counters 0 ≠ 0),
   decide (alone = true ∧ k.busy = some (.erase sector)),
   decide (alone = true ∧ k.busy = some (.program a d) ∧ d.length = 16 ∧ Memory.wf 0xFF s.mem.flash = true),
   decide (alone = true ∧ k.busy = some (.blank a)),
   decide (alone = true ∧ k.busy = some o)]

/-- The hypotheses of the clauses of RecordCallsServeTheStore, in their order. -/
def premRecordCallsServeTheStore (core : Fin 4) (arg : Word) (p : Nat) (s : State) : List Bool :=
  let c := core.val
  let w := fun (i : Nat) => descWord arg i s
  [decide (p < 7 ∧ descOk p arg s = true ∧ arg.toNat % 16 = 0 ∧ callerOf s c 0x20 arg = some p ∧ s.right p 0 = false),
   decide (p < 7 ∧ descOk p arg s = true ∧ arg.toNat % 16 = 0 ∧ callerOf s c 0x20 arg = some p ∧ s.right p 0 = true ∧ 448 < w 1 % 512),
   decide (p < 7 ∧ descOk p arg s = true ∧ arg.toNat % 16 = 0 ∧ callerOf s c 0x20 arg = some p ∧ s.right p 0 = true ∧ w 1 % 512 ≤ 448 ∧ (s.life ≤ 2 ∨ 5 ≤ s.life ∨ s.snt.rtcSet = false)),
   decide (p < 7 ∧ descOk p arg s = true ∧ arg.toNat % 16 = 0 ∧ callerOf s c 0x20 arg = some p ∧ s.right p 0 = true ∧ w 1 % 512 ≤ 448 ∧ (s.life = 3 ∨ s.life = 4) ∧ s.snt.rtcSet = true ∧ bufCheck s p (w 0) (w 1 % 512) = .ok),
   decide (p < 7 ∧ descOk p arg s = true ∧ arg.toNat % 16 = 0 ∧ storeBusy s = true),
   decide (p < 7 ∧ descOk p arg s = true ∧ arg.toNat % 16 = 0 ∧ callerOf s c 0x21 arg = some p ∧ storeBusy s = false ∧ s.right p 1 = false),
   decide (p < 7 ∧ descOk p arg s = true ∧ arg.toNat % 16 = 0 ∧ callerOf s c 0x21 arg = some p ∧ storeBusy s = false ∧ s.right p 1 = true ∧ bufCheck s p (w 0) 560 = .ok ∧ recFind s (w 1) = none),
   decide (p < 7 ∧ descOk p arg s = true ∧ arg.toNat % 16 = 0 ∧ callerOf s c 0x21 arg = some p ∧ storeBusy s = false) && ((recFind s (w 1)).any fun r => decide (s.right p 1 = true ∧ bufCheck s p (w 0) 560 = .ok)),
   decide (p < 7 ∧ descOk p arg s = true ∧ arg.toNat % 16 = 0 ∧ callerOf s c 0x21 arg = some p ∧ storeBusy s = false) && ((recFind s (w 1)).any fun r => decide (s.right p 1 = true ∧ bufCheck s p (w 0) 560 = .ok ∧ r.units ≤ 35 ∧ Memory.wf 0 s.mem.sram = true ∧ w 0 + 560 ≤ arg.toNat ∨ arg.toNat + 16 ≤ w 0)),
   decide (p < 7 ∧ descOk p arg s = true ∧ arg.toNat % 16 = 0 ∧ callerOf s c 0x22 arg = some p ∧ s.right p 0 = false ∧ s.right p 1 = false),
   decide (p < 7 ∧ descOk p arg s = true ∧ arg.toNat % 16 = 0 ∧ callerOf s c 0x22 arg = some p ∧ (s.right p 0 = true ∨ s.right p 1 = true) ∧ Memory.wf 0 s.mem.sram = true)]

/-- The hypotheses of every statement of this file in the situations of one seed. -/
def situations (seed : Nat) : List (String × List Bool) :=
  let r := rnds (seed * 7919 + 13) 80
  let k := fun i => r.getD i 0
  let s := dev (seed + 1)
  let s := if k 0 % 3 = 0 then s else { s with stw := { s.stw with charter := s.stw.charter.map fun c => { c with rows := c.rows.map fun q => { q with present := 1 } } } }
  let s := { s with mem := { s.mem with ecc := [] }, isl := { s.isl with pairSt := #v[.run, .run] } }
  let n : Nat := pick [16, 20, 57, 58, 91, 97, 98, 128, 130, 200, 2, 3] 1 (k 1) 
  let bo : Nat → Bool := fun i => k i % 2 = 0
  let src0 : Src := { priority := k 2 % 8, target := k 3 % 16, filtered := bo 4, pend := bo 5, active := pick [none, some 0, some 1] none (k 6), edges := pick [0, 254, 255] 0 (k 7), raw := bo 8, level := bo 9, holding := decide (k 10 % 3 = 0), passed := k 11 % 16, holdoff := k 12 % 2, bypass := bo 13, moved := bo 60, actPri := k 61 % 8 }
  let sI := { s with cic := { s.cic with src := s.cic.src.setIfInBounds n src0, thresh := Vector.replicate 7 (Vector.replicate 4 (k 14 % 3)), stray := Vector.replicate 7 (Vector.replicate 4 (pick [0, 65535] 0 (k 15))) } }
  let ow := sI.srcOwner n
  let sJ := setPerson ow (fun q => { q with run := .running, cores := 1, wasWitness := false }) (setCore 0 (fun q => { q with cur := ow }) { sI with cic := { sI.cic with thresh := Vector.replicate 7 (Vector.replicate 4 0) } })
  let IC := fun s => premInterruptSourcesFollowTheirEvents 0 (BitVec.ofNat 8 n) (w32 (if k 16 % 2 = 0 then n else k 17)) (bo 18) s
  let c := k 19 % 16
  let own := (s.stw.charter.map fun _ => 0).getD 0
  let aa := fun i => w32 (0x10000000 + k i % 3 * 0x1000 + k (i+1) % 30 * 4)
  let ch0 : Chan := { cfg := w32 (k 20 % 8 + (pick [0, 2, 6, 10, 0x40] 0 (k 21)) * 65536 + k 22 % 4 * 16), st := pick [.idle, .running, .running, .done, .stopping] .idle (k 23), reqcnt := k 24 % 3, src := { addr := aa 25, shape := w32 (65536 * 2 + pick [3, 7, 15, 2] 3 (k 27)), stride := 16, mode := 4 }, dst := { addr := aa 28, shape := w32 (65536 * 2 + pick [3, 7, 15] 3 (k 27)), stride := 16, mode := 4 }, issued := pick [0, 4, 8] 0 (k 30), done := 0, out := if bo 31 then [{ dst := 0, data := [1,2,3,4] }] else [], failing := decide (k 32 % 7 = 0), ahead := if k 62 % 4 = 0 then [(0, [9, 8, 7, 6])] else [] }
  let sM := { s with mov := s.mov.setIfInBounds c ch0, cus := { s.cus with page := (((s.cus.page.setIfInBounds 0 (ownerCode (s.chanOwner c))).setIfInBounds 1 (ownerCode (s.chanOwner c))).setIfInBounds 2 (BitVec.ofNat 4 (k 33 % 3))) }, mem := { s.mem with sram := cellsPut 0 [] 0x10000000 ((List.range 90).map fun i => BitVec.ofNat 8 (i * 37 + seed)) } }
  let sM := setCore 0 (fun q => { q with cur := sM.chanOwner c }) sM
  let sM := if bo 34 then setPerson (sM.chanOwner c) (fun q => { q with run := .running }) sM else sM
  let da := burstAddrs (sM.chan c).dst (sM.chan c).issued (burstLen (sM.chan c) (granted (sM.chan c)))
  let sa := burstAddrs (sM.chan c).src (sM.chan c).issued (burstLen (sM.chan c) (granted (sM.chan c)))
  let av := match burstCheck sM (sM.chanOwner c) (sM.chan c) sa da with | some (_, a) => a | none => 0
  let MM := fun z => premMoversMoveTheirBursts 0 ⟨c % 16, by omega⟩ ⟨(pick [1, 5, 9, 0] 1 (k 35)) % 48, by omega⟩ { dst := 0, data := [1,2,3,4] } av z (((sM.chan c).ahead.head?).getD (0, [])) ((sM.chan c).ahead.tail) sM
  let sT := setPerson ow (fun q => { q with run := .running, cores := 3, wasWitness := true }) (setCore 1 (fun q => { q with cur := ow }) sI)
  let b := k 36 % 4
  let dd : Bytes := (List.range 16).map fun i => BitVec.ofNat 8 (i * 19 + seed)
  let bk : Bank := { keyed := bo 37, unlocked := decide (k 38 % 4 ≠ 0), addr := w32 (k 39 % 0x200000), lock := if bo 40 then Vector.replicate 4 0 else Vector.replicate 4 (w32 (k 41)), busy := if k 42 % 3 = 0 then some (.erase (k 39 % 0x200000 / 0x4000 % 128)) else if k 42 % 6 = 1 then some (.program (k 39 % 64 * 16) dd) else if k 42 % 6 = 2 then some (.blank 0) else none, data := Vector.ofFn fun i => w32 (k (43 + i.val)) }
  let sB := { s with flc := { s.flc with bank := s.flc.bank.setIfInBounds b bk }, mem := { s.mem with flash := cellsPut 0xFF (cellsPut 0xFF [] (fbAddr b bk.sector * 0x4000 + 5) [1, 2]) (fbAddr b (bk.place + k 48 % 3 * 8)) [1, 2, 3] }, fuses := { s.fuses with counters := s.fuses.counters.set 0 (k 49 % 2) } }
  let FF := fun v z => premFlashCommandsRunInTheirBank ⟨b % 4, by omega⟩ v z (match bk.busy with | some (.program a _) => a | _ => 0) dd (match bk.busy with | some (.erase _) => .blank 0 | some o => o | none => .blank 0) sB
  let p : Nat := 1 + k 50 % 2
  let arg := w32 0x10000010
  let w := leBytes 4 (pick [0x10000100, 0x10001000] 0 (k 51)) ++ leBytes 4 (pick [5, 0, 448, 449] 0 (k 52)) ++ leBytes 4 0 ++ leBytes 4 0
  let sR := { s with mem := { s.mem with sram := cellsPut 0 [] arg.toNat w }, cus := { s.cus with page := (s.cus.page.setIfInBounds 0 (ownerCode p)).setIfInBounds 1 (ownerCode p) }, store := { s.store with index := if bo 53 then [{ seq := 5, phys := 1, unit := 1, units := 8 }, { seq := 9, phys := 1, unit := 9, units := 8 }] else [], lap := k 54 % 5, l := k 55 % 5, recovered := bo 56, queue := if bo 57 then [] else [{ kind := 4, payload := [1] }] } }
  let sR := { sR with fuses := { sR.fuses with counters := sR.fuses.counters.set 0 (k 63 % 5) }, snt := { sR.snt with rtcSet := bo 64 }, flc := { s.flc with bank := if k 65 % 4 = 0 then s.flc.bank.setIfInBounds 2 { busy := some (.blank 0) } else s.flc.bank } }
  let RR := fun v => premRecordCallsServeTheStore 0 arg p (calling v arg p sR)
  [("IC", IC sI), ("IC", IC sJ), ("IT", premInterruptSourcesFollowTheirEvents 1 (BitVec.ofNat 8 n) (w32 n) (bo 18) sT), ("MM", MM 0x10000001), ("MM", MM 0x10001005), ("MM", MM ((aa 28).toNat + 2)), ("FF", FF 0x71C4 0x20000005), ("FF", FF 0x8E3B (fbAddr b (bk.sector * 0x4000 + 5))), ("RA", RR 0x20), ("RR", RR 0x21), ("RI", RR 0x22)]

/-- Every clause of InterruptSourcesFollowTheirEvents has a situation that meets its hypotheses. -/
theorem witness_InterruptSourcesFollowTheirEvents :
    meets (fun i => (situations i).map (·.2)) [(0, 1, [5]), (1, 0, [0, 4, 6, 9, 10, 11, 12]), (13, 1, [8]), (24, 2, [1, 2, 3, 7])] = true := by
  decide +kernel

/-- Every clause of MoversMoveTheirBursts has a situation that meets its hypotheses. -/
theorem witness_MoversMoveTheirBursts :
    meets (fun i => (situations i).map (·.2)) [(2, 3, [7]), (3, 3, [1]), (31, 3, [4]), (36, 3, [0]), (68, 3, [6]), (109, 3, [2, 3, 5, 8])] = true := by
  decide +kernel

/-- Every clause of FlashCommandsRunInTheirBank has a situation that meets its hypotheses. -/
theorem witness_FlashCommandsRunInTheirBank :
    meets (fun i => (situations i).map (·.2)) [(0, 6, [4, 6]), (1, 6, [7]), (5, 6, [0, 2, 9, 10]), (13, 6, [3]), (20, 6, [1, 8]), (54, 6, [5])] = true := by
  decide +kernel

/-- Every clause of RecordCallsServeTheStore has a situation that meets its hypotheses. -/
theorem witness_RecordCallsServeTheStore :
    meets (fun i => (situations i).map (·.2)) [(0, 8, [1]), (0, 9, [5]), (0, 10, [10]), (1, 9, [6]), (3, 8, [0]), (3, 9, [7, 8]), (5, 10, [9]), (7, 8, [2, 4]), (8, 8, [3])] = true := by
  decide +kernel

end Sys2Proof.Tests.X
end

section
/-! SUPPORT. What an engine that finishes its object changes: the object's bytes, its place in the queue, a reclaimed owner (R152 to
R154, R160). -/

namespace Sys2Proof.Machine

/-! ### Cleared bytes -/

/-- A cleared stretch reads the default, and every other byte is as before. -/
theorem cellGet_cellsClear (d : Byte) (m : List Host.Cell) (a n z : Nat) :
    cellGet d (cellsClear m a n) z = if a ≤ z ∧ z < a + n then d else cellGet d m z := by
  induction m with
  | nil => simp [cellsClear, cellGet]
  | cons q r ih =>
    obtain ⟨k, x⟩ := q
    by_cases hk : k < a ∨ a + n ≤ k
    · have hkeep : cellsClear ((k, x) :: r) a n = (k, x) :: cellsClear r a n :=
        List.filter_cons_of_pos (by simpa using hk)
      rw [hkeep, cellGet, ih, cellGet]
      by_cases hz : k = z
      · rw [if_pos hz, if_pos hz, if_neg (by omega)]
      · rw [if_neg hz, if_neg hz]
    · have hdrop : cellsClear ((k, x) :: r) a n = cellsClear r a n :=
        List.filter_cons_of_neg (by simpa using hk)
      rw [hdrop, ih, cellGet]
      by_cases hz : k = z
      · rw [if_pos (by omega), if_pos (by omega)]
      · rw [if_neg hz]

/-! ### Owners -/

/-- The owner of an object once it is zeroed: one being reclaimed becomes FREE (R160). -/
def ownerZeroed (o : BitVec 4) : BitVec 4 := if o = 0 then 0xF else o

theorem vmod_ownerZeroed {n : Nat} (v : Vector (BitVec 4) n) (i : Nat) :
    vmod v i ownerZeroed = if vget v i = 0 then vset v i 0xF else v := by
  by_cases h : vget v i = 0
  · simp [vmod, ownerZeroed, h]
  · rw [vmod, ownerZeroed, if_neg h, if_neg h, vset_vget]

/-! ### A page -/

section
variable (n : Nat) (s : State)

theorem pageZeroed_sram : (pageZeroed n s).mem.sram = cellsClear s.mem.sram (pageBase n) 0x1000 := by
  unfold pageZeroed; dsimp only; split <;> rfl

theorem pageZeroed_cores : (pageZeroed n s).cores = s.cores := by
  unfold pageZeroed; dsimp only; split <;> rfl

theorem pageZeroed_cus : (pageZeroed n s).cus =
    { s.cus with page := vmod s.cus.page n ownerZeroed, pageZero := s.cus.pageZero.filter fun x => decide (x ≠ n) } := by
  rw [vmod_ownerZeroed]
  unfold pageZeroed
  dsimp only
  split
  · next h => rw [if_pos (show vget s.cus.page n = 0 from h)]; rfl
  · next h => rw [if_neg (show vget s.cus.page n ≠ 0 from h)]; rfl

theorem pageZeroed_pageOwner (h : n < 1024) : (pageZeroed n s).pageOwner n = ownerZeroed (s.pageOwner n) := by
  rw [State.pageOwner, pageZeroed_cus]; exact vget_vset_same _ _ _ h

theorem pageZeroed_pageOwner_other (k : Nat) (h : k ≠ n) : (pageZeroed n s).pageOwner k = s.pageOwner k := by
  rw [State.pageOwner, pageZeroed_cus]; exact vget_vset_other _ _ _ _ h

end

/-! ### A bank -/

section
variable (c b : Nat) (s : State)

theorem bankZeroed_sram : (bankZeroed c b s).mem.sram = s.mem.sram := by
  unfold bankZeroed; dsimp only; split <;> rfl

theorem bankZeroed_cores : (bankZeroed c b s).cores =
    (setCore c (fun k => { k with dmem := cellsClear k.dmem (bankBase b) 0x8000 }) s).cores := by
  unfold bankZeroed; dsimp only; split <;> rfl

theorem bankZeroed_cus : (bankZeroed c b s).cus =
    { s.cus with bank := vmod s.cus.bank c fun v => vmod v b ownerZeroed,
                 bankZero := vmod s.cus.bankZero c fun l => l.filter fun x => decide (x ≠ b) } := by
  rw [vmod, vmod_ownerZeroed]
  unfold bankZeroed
  dsimp only
  split
  · next h => rw [if_pos (show vget (vget s.cus.bank c) b = 0 from h)]; rfl
  · next h => rw [if_neg (show vget (vget s.cus.bank c) b ≠ 0 from h), vset_vget]; rfl

theorem bankZeroed_core_dmem (h : c < 4) :
    ((bankZeroed c b s).core c).dmem = cellsClear (s.core c).dmem (bankBase b) 0x8000 := by
  rw [State.core, bankZeroed_cores, ← State.core, core_setCore _ _ _ h]

theorem bankZeroed_core_other (k : Nat) (h : k ≠ c) : (bankZeroed c b s).core k = s.core k := by
  rw [State.core, bankZeroed_cores, ← State.core, core_setCore_other _ _ _ _ h]

theorem bankZeroed_bankOwner (hc : c < 4) (hb : b < 8) :
    (bankZeroed c b s).bankOwner c b = ownerZeroed (s.bankOwner c b) := by
  rw [State.bankOwner, bankZeroed_cus]
  dsimp only
  rw [vmod, vget_vset_same _ _ _ hc, vmod, vget_vset_same _ _ _ hb]
  rfl

theorem bankZeroed_bankZero (hc : c < 4) :
    vget (bankZeroed c b s).cus.bankZero c = (vget s.cus.bankZero c).filter fun x => decide (x ≠ b) := by
  rw [bankZeroed_cus]; exact vget_vset_same _ _ _ hc

end

/-! ### ZEROING_DONE -/

theorem exec_zeroingDone (obj : ZeroObj) (s : State) : exec (.zeroingDone obj) s = execZeroingDone obj s := rfl

/-- Where no channel has a burst outstanding, none writes to an object. -/
theorem burstInto_idle (s : State) (hit : Nat → Nat → Bool) (h : ∀ ch < 16, (s.chan ch).out = []) :
    burstInto s hit = false := by
  rw [burstInto, List.any_eq_false]
  intro ch hch
  simp [h ch (List.mem_range.mp hch)]

/-- An engine whose page no burst holds back finishes it. -/
theorem exec_zeroingDone_page (n : Fin 1024) (s : State) (hq : s.cus.pageZero.head? = some n.val)
    (hb : ∀ ch < 16, (s.chan ch).out = []) : exec (.zeroingDone (.page n)) s = .next (pageZeroed n.val s) := by
  rw [exec_zeroingDone, execZeroingDone, burstInto_idle s _ hb]
  simp [hq]

/-- An engine whose bank no burst holds back finishes it. -/
theorem exec_zeroingDone_bank (c : Fin 4) (b : Fin 8) (s : State) (hq : (vget s.cus.bankZero c.val).head? = some b.val)
    (hb : ∀ ch < 16, (s.chan ch).out = []) : exec (.zeroingDone (.bank c b)) s = .next (bankZeroed c.val b.val s) := by
  rw [exec_zeroingDone, execZeroingDone, burstInto_idle s _ hb]
  simp [hq]

end Sys2Proof.Machine
end

section
/-! SUPPORT. What a write of a DEVICE word reaches: the block by the address, and what the CIC and the flash keep of it (R7, R37, R143,
R145). -/

namespace Sys2Proof.Machine

/-! ### Folds that keep a part of the state -/

/-- What no step of a fold changes, the fold leaves. -/
theorem forAll_keeps {α σ β : Type} (g : σ → β) (l : List α) (f : α → σ → σ) (s : σ) (h : ∀ a t, g (f a t) = g t) :
    g (forAll l f s) = g s := by
  induction l generalizing s with
  | nil => rfl
  | cons a r ih => exact (ih (f a s)).trans (h a s)

theorem forNat_keeps {σ β : Type} (g : σ → β) (n : Nat) (f : Nat → σ → σ) (s : σ) (h : ∀ i t, g (f i t) = g t) :
    g (forNat n f s) = g s := forAll_keeps g (List.range n) f s h

/-! ### What the CIC leaves as it sends candidates -/

/-- A part of the state that neither a source nor what was sent nor the gate toward the cores is in. -/
structure ApartFromSending {β : Type} (g : State → β) : Prop where
  src : ∀ n f t, g (setSrc n f t) = g t
  sent : ∀ v q t, g { t with cic := { t.cic with sent := v }, gates := { t.gates with fPair := q } } = g t

section
variable {β : Type} {g : State → β} (hg : ApartFromSending g)
include hg

theorem endPassed_keeps (s : State) : g (endPassed s) = g s := by
  refine forNat_keeps g 256 _ s fun n t => ?_
  split
  · rfl
  · refine forNat_keeps g 4 _ t fun c u => ?_
    split
    · exact hg.src _ _ _
    · rfl

theorem sendCand_keeps (c p n : Nat) (s : State) : g (sendCand c p n s) = g s := by
  unfold sendCand
  dsimp only
  split
  · exact (hg.src _ _ _).trans (hg.sent _ _ _)
  · exact hg.sent _ _ _

theorem cicUpdate_keeps (s : State) : g (cicUpdate s) = g s := by
  refine Eq.trans (forNat_keeps g 4 _ _ fun c t => ?_) (endPassed_keeps hg s)
  refine forAll_keeps g _ _ t fun p u => ?_
  generalize (if deliverable u c && u.placedOn p c && decide ((u.core c).cur = p) then candidate u c p else 0) = now
  dsimp only
  split
  · rfl
  · exact sendCand_keeps hg _ _ _ _

end

@[simp] theorem cicUpdate_isl (s : State) : (cicUpdate s).isl = s.isl :=
  cicUpdate_keeps ⟨fun _ _ _ => rfl, fun _ _ _ => rfl⟩ s

@[simp] theorem cicUpdate_thresh (s : State) : (cicUpdate s).cic.thresh = s.cic.thresh :=
  cicUpdate_keeps (g := fun t => t.cic.thresh) ⟨fun _ _ _ => rfl, fun _ _ _ => rfl⟩ s

/-! ### The block and the frame of an address (R141) -/

theorem regionOf_device (a : Nat) (h : 0x30000000 ≤ a) (h' : a < 0x30110000) :
    regionOf a = .device ((a - 0x30000000) / 0x1000) := by
  unfold regionOf
  rw [if_neg (by omega), if_neg (by omega), if_neg (by omega), if_neg (by omega), if_neg (by omega), if_pos ⟨h, h'⟩]

/-- The frame that an address of DEVICE space lies in. -/
theorem frame_of_regionOf_device (a f : Nat) (h : regionOf a = .device f) : f = (a - 0x30000000) / 0x1000 := by
  unfold regionOf at h
  split_ifs at h
  cases h
  rfl

/-- A write by a core whose person owns the frame reaches it (R143). -/
theorem coreRegWrite_owned (c a : Nat) (v : Word) (s : State) (h : 0x30000000 ≤ a) (h' : a < 0x30110000) (ha : a % 4 = 0)
    (ho : ownsFrame s c ((a - 0x30000000) / 0x1000) = true) : coreRegWrite c a v s = devWrite c (s.core c).cur a v s := by
  simp only [coreRegWrite, regionOf_device a h h', ha, ho, and_self, if_true]

/-- A write by a core whose person does not own the frame does nothing (log 39). -/
theorem coreRegWrite_foreign (c a : Nat) (v : Word) (s : State) (ho : ownsFrame s c ((a - 0x30000000) / 0x1000) = false) :
    coreRegWrite c a v s = s := by
  unfold coreRegWrite
  dsimp only
  split
  · next f hf => rw [frame_of_regionOf_device a f hf, ho, if_neg (by simp)]
  · rfl

/-- A write by the steward reaches every block but a mover's (R145, R229). -/
theorem stewardRegWrite_reaches (a : Nat) (v : Word) (s : State) (h : 0x30000000 ≤ a) (h' : a < 0x30110000) (ha : a % 4 = 0)
    (hb : devBlock a ≠ 2) : stewardRegWrite a v s = devWrite 4 0 a v s := by
  simp only [stewardRegWrite, regionOf_device a h h', ha, hb, ne_eq, not_false_eq_true, true_or, and_self, if_true]

theorem devWrite_cic (c p a : Nat) (v : Word) (s : State) (h : devBlock a = 1) :
    devWrite c p a v s = cicWrite c (devFrame a) (devOff a) v (stampArrival s) := by
  simp only [devWrite, h]

theorem devWrite_flc (c p a : Nat) (v : Word) (s : State) (h : devBlock a = 3) :
    devWrite c p a v s = flcWrite (devFrame a) (devOff a) v (stampArrival s) := by
  simp only [devWrite, h]

theorem devWrite_isl (c a : Nat) (v : Word) (s : State) (h : devBlock a = 0xE) :
    devWrite c 0 a v s = islWrite (devFrame a) (devOff a) v (stampArrival s) := by
  simp only [devWrite, h, if_true]

/-! ### The registers -/

theorem bits_low (w : Word) (hi : Nat) : bits w hi 0 = w.toNat % 2 ^ (hi + 1) := by simp [bits]

theorem leadOf_alone (s : State) (c p : Nat) (h : (s.witnessOn p).isNone = true) : leadOf s c p = c := by
  rw [Option.isNone_iff_eq_none] at h
  simp [leadOf, h]

/-- A threshold write of a person that is no witness person sets its threshold on the core, before the CIC sends (R213, R214). -/
theorem cicWrite_thresh (c p : Nat) (v : Word) (s : State) (hp : p ≠ 0) (hw : (s.witnessOn p).isNone = true) :
    cicWrite c p 8 v s =
      cicUpdate { s with cic := { s.cic with thresh := vmod s.cic.thresh p fun t => vset t c (bits v 3 0) } } := by
  simp [cicWrite, hp, leadOf_alone s c p hw]

theorem bank_setBank (b : Nat) (f : Bank → Bank) (s : State) (h : b < 4) : (setBank b f s).bank b = f (s.bank b) := by
  simp only [State.bank, setBank, vmod, vget_vset_same _ _ _ h]

/-- A write of the flash address keeps its writable bits and clears the unlock (R250). -/
theorem flcWrite_addr (b : Nat) (v : Word) (s : State) (h : b < 4) :
    (flcWrite (b + 1) 4 v s).bank b = { s.bank b with keyed := false, addr := v &&& 0x001FFFF0 } := by
  have hf : ¬(b + 1 = 0 ∨ 4 < b + 1) := by omega
  rw [flcWrite, if_neg hf]
  simp [bank_setBank, h]

/-! ### REGISTER_WRITE -/

section
variable (a : Nat) (v : Word) (s : State)

theorem exec_registerWrite_core (c : Fin 4) :
    exec (.registerWrite (.core c) a v) s = .next (coreRegWrite c.val a v s) := rfl

theorem exec_registerWrite_steward : exec (.registerWrite .steward a v) s = .next (stewardRegWrite a v s) := rfl

theorem exec_registerWrite_host : exec (.registerWrite .host a v) s = .next (hostWrite a (v.setWidth 16) s) := rfl

end

/-- A person's own write of its threshold reaches the CIC. -/
theorem coreRegWrite_cicThresh (c : Nat) (v : Word) (s : State) (hp : curOf c s < 7)
    (ho : ownsFrame s c (0x10 + curOf c s) = true) (hw : (s.witnessOn (curOf c s)).isNone = true) :
    coreRegWrite c (0x30010008 + curOf c s * 0x1000) v s =
      cicUpdate { stampArrival s with
        cic := { s.cic with thresh := vmod s.cic.thresh (curOf c s) fun t => vset t c (bits v 3 0) } } := by
  have h0 : curOf c s ≠ 0 := by
    intro h
    simp [ownsFrame, show (s.core c).cur = 0 from h] at ho
  generalize hq : curOf c s = p at *
  have hframe : (0x30010008 + p * 0x1000 - 0x30000000) / 0x1000 = 0x10 + p := by omega
  have hblock : devBlock (0x30010008 + p * 0x1000) = 1 := by unfold devBlock; omega
  have hfr : devFrame (0x30010008 + p * 0x1000) = p := by unfold devFrame; omega
  have hoff : devOff (0x30010008 + p * 0x1000) = 8 := by unfold devOff; omega
  rw [coreRegWrite_owned c _ v s (by omega) (by omega) (by omega) (by rw [hframe]; exact ho), devWrite_cic _ _ _ _ _ hblock, hfr, hoff]
  exact cicWrite_thresh c p v (stampArrival s) h0 hw

theorem stewardRegWrite_napDelay (v : Word) (s : State) : stewardRegWrite 0x300E0018 v s =
    { s with isl := { s.isl with arrival := s.isl.arrival + 1, napDelay := v.toNat % 65536 } } := by
  rw [stewardRegWrite_reaches _ v s (by decide) (by decide) (by decide) (by decide), devWrite_isl _ _ _ _ (by decide)]
  have hv : bits v 15 0 = v.toNat % 65536 := bits_low v 15
  rw [← hv]
  rfl

theorem stewardRegWrite_wakeCfg (v : Word) (s : State) : stewardRegWrite 0x300E0008 v s =
    { s with isl := { s.isl with arrival := s.isl.arrival + 1, wakeCfg := v.setWidth 4 } } := by
  rw [stewardRegWrite_reaches _ v s (by decide) (by decide) (by decide) (by decide), devWrite_isl _ _ _ _ (by decide)]
  have hv : BitVec.ofNat 4 (bits v 3 0) = v.setWidth 4 := by
    rw [bits_low]
    apply BitVec.eq_of_toNat_eq
    simp
  rw [← hv]
  rfl

theorem stewardRegWrite_flashAddr (k : Nat) (v : Word) (s : State) (hk : k < 4) :
    (stewardRegWrite (0x30031004 + k * 0x1000) v s).bank k = { s.bank k with keyed := false, addr := v &&& 0x001FFFF0 } := by
  have hblock : devBlock (0x30031004 + k * 0x1000) = 3 := by unfold devBlock; omega
  have hfr : devFrame (0x30031004 + k * 0x1000) = k + 1 := by unfold devFrame; omega
  have hoff : devOff (0x30031004 + k * 0x1000) = 4 := by unfold devOff; omega
  rw [stewardRegWrite_reaches _ v s (by omega) (by omega) (by omega) (by omega), devWrite_flc _ _ _ _ _ hblock, hfr, hoff,
    flcWrite_addr k v _ hk]
  rfl

theorem hostStir_live (s : State) (h : winLive s = true) : hostStir s = napStir s := by
  have ha : winAnswers s = true := by
    simp only [winLive, winAnswers, Bool.and_eq_true, decide_eq_true_eq] at h ⊢
    exact ⟨by omega, h.2⟩
  rw [hostStir, if_pos ha]

@[simp] theorem napStir_win (s : State) : (napStir s).win = s.win := by
  unfold napStir
  split <;> rfl

theorem winLive_napStir (s : State) : winLive (napStir s) = winLive s := by
  unfold napStir
  split <;> rfl

/-- The host's write of a leaf mask reaches it where the window is live, and stirs a device in NAP (R45, R343). -/
theorem hostWrite_mask (n : Nat) (w : BitVec 16) (s : State) (hn : n < 16) (h : winLive s = true) :
    hostWrite (0x211 + n) w s = setWin (fun q => { q with mask := vset q.mask n w }) (napStir s) := by
  have hlive : (!winLive (napStir s)) = false := by rw [winLive_napStir, h]; rfl
  unfold hostWrite
  dsimp only
  rw [hostStir_live s h, if_neg (by omega), hlive, if_neg (by decide), if_neg (by omega), if_pos (by omega), Nat.add_sub_cancel_left]

end Sys2Proof.Machine
end

section
/-! The obligation on zeroing and on writes to registers, part by part. -/

namespace Sys2Proof.Machine

theorem zeroingDone_page_yields (n : Fin 1024) (s : State) (hq : s.cus.pageZero.head? = some n.val)
    (hb : ∀ ch < 16, (s.chan ch).out = []) : yields (.zeroingDone (.page n)) s fun t =>
      (∀ a, cellGet 0 t.mem.sram a =
        if 0x10000000 + n.val * 4096 ≤ a ∧ a < 0x10000000 + (n.val + 1) * 4096 then 0 else cellGet 0 s.mem.sram a) ∧
      n.val ∉ t.cus.pageZero ∧ t.pageOwner n.val = ownerZeroed (s.pageOwner n.val) ∧
      (∀ k < 1024, k ≠ n.val → t.pageOwner k = s.pageOwner k) ∧ t.cus.bank = s.cus.bank ∧ t.cores = s.cores := by
  refine ⟨_, exec_zeroingDone_page n s hq hb, fun a => ?_, ?_, pageZeroed_pageOwner _ s n.isLt,
    fun k _ => pageZeroed_pageOwner_other _ s k, ?_, pageZeroed_cores _ s⟩
  · have hend : pageBase n.val + 0x1000 = 0x10000000 + (n.val + 1) * 4096 := by unfold pageBase; omega
    rw [pageZeroed_sram, cellGet_cellsClear, hend, pageBase]
  · simp [pageZeroed_cus]
  · rw [pageZeroed_cus]

theorem zeroingDone_bank_yields (c : Fin 4) (b : Fin 8) (s : State) (hq : (vget s.cus.bankZero c.val).head? = some b.val)
    (hb : ∀ ch < 16, (s.chan ch).out = []) : yields (.zeroingDone (.bank c b)) s fun t =>
      (∀ a, cellGet 0 (t.core c.val).dmem a =
        if 0x100000 + b.val * 0x8000 ≤ a ∧ a < 0x100000 + (b.val + 1) * 0x8000 then 0 else cellGet 0 (s.core c.val).dmem a) ∧
      b.val ∉ vget t.cus.bankZero c.val ∧ t.bankOwner c.val b.val = ownerZeroed (s.bankOwner c.val b.val) ∧
      (∀ k < 4, k ≠ c.val → t.core k = s.core k) ∧ t.cus.page = s.cus.page ∧ t.mem.sram = s.mem.sram := by
  refine ⟨_, exec_zeroingDone_bank c b s hq hb, fun a => ?_, ?_, bankZeroed_bankOwner _ _ s c.isLt b.isLt,
    fun k _ => bankZeroed_core_other _ _ s k, ?_, bankZeroed_sram _ _ s⟩
  · have hend : bankBase b.val + 0x8000 = 0x100000 + (b.val + 1) * 0x8000 := by unfold bankBase; omega
    rw [bankZeroed_core_dmem _ _ s c.isLt, cellGet_cellsClear, hend, bankBase]
  · simp [bankZeroed_bankZero _ _ s c.isLt]
  · rw [bankZeroed_cus]

theorem registerWrite_cicThresh_yields (c : Fin 4) (v : Word) (s : State) (hp : curOf c.val s < 7)
    (ho : ownsFrame s c.val (0x10 + curOf c.val s) = true) (hw : (s.witnessOn (curOf c.val s)).isNone = true) :
    yields (.registerWrite (.core c) (0x30010008 + curOf c.val s * 0x1000) v) s fun t =>
      vget (vget t.cic.thresh (curOf c.val s)) c.val = v.toNat % 16 ∧ t.isl.arrival = s.isl.arrival + 1 := by
  refine ⟨_, exec_registerWrite_core _ v s c, ?_⟩
  rw [coreRegWrite_cicThresh c.val v s hp ho hw]
  refine ⟨?_, congrArg Isl.arrival (cicUpdate_isl _)⟩
  have hv : bits v 3 0 = v.toNat % 16 := bits_low v 3
  rw [cicUpdate_thresh]
  dsimp only
  rw [vmod, vget_vset_same _ _ _ hp, vget_vset_same _ _ _ c.isLt, hv]

/-- Settles O30, from what a finished engine changes (`pageZeroed_cus`, `bankZeroed_cus`) and what each write reaches
(`devWrite_cic`, `devWrite_isl`, `devWrite_flc`, `hostWrite_mask`). -/
theorem zeroingAndRegisterWrites : Obligations.ZeroingAndRegisterWrites := by
  unfold Obligations.ZeroingAndRegisterWrites
  refine ⟨fun n c b s => ⟨zeroingDone_page_yields n s, zeroingDone_bank_yields c b s⟩, fun c v n k a s => ⟨fun ho => ?_,
    registerWrite_cicThresh_yields c v s, ?_, ?_, ?_, fun hl => ?_⟩⟩
  · exact ⟨_, exec_registerWrite_core a v s c, coreRegWrite_foreign c.val a v s ho⟩
  · exact ⟨_, exec_registerWrite_steward _ v s, stewardRegWrite_napDelay v s⟩
  · exact ⟨_, exec_registerWrite_steward _ v s, stewardRegWrite_wakeCfg v s⟩
  · refine ⟨_, exec_registerWrite_steward _ v s, ?_⟩
    have hk := stewardRegWrite_flashAddr k.val v s k.isLt
    exact ⟨congrArg Bank.addr hk, congrArg Bank.keyed hk⟩
  · refine ⟨_, exec_registerWrite_host _ v s, ?_⟩
    rw [hostWrite_mask n.val _ s n.isLt hl, setWin, napStir_win]

end Sys2Proof.Machine
end

section
/-! SUPPORT. Calls whose payload lies in a page that is being zeroed: they wait (R155), whatever else is wrong with them. -/

namespace Sys2Proof.Machine

/-- A call waits while its payload's page is being zeroed (R155). -/
theorem serveBuf_waits (core : Fin 4) (svc : Nat) (arg : Word) (len : List Nat → Nat)
    (f : Nat → ReplyTo → List Nat → State → State) (s : State) (h : payloadZeroing core svc arg len s = true) :
    serveBuf core svc arg len f s = s := if_pos h

theorem exec_oruneSend_waits (core : Fin 4) (arg : Word) (s : State)
    (h : payloadZeroing core 0x30 arg (fun w => w.getD 1 0) s = true) : exec (.oruneSend core arg) s = .next s :=
  congrArg Host.Outcome.next (serveBuf_waits core 0x30 arg _ _ s h)

theorem exec_stageWrite_waits (core : Fin 4) (arg : Word) (s : State)
    (h : payloadZeroing core 0x29 arg (fun w => w.getD 2 0) s = true) : exec (.stageWrite core arg) s = .next s :=
  congrArg Host.Outcome.next (serveBuf_waits core 0x29 arg _ _ s h)

/-- An order that has joined its slot stands behind those that were in it (R325). -/
theorem ordered_length {src party : Nat} {a : Act} {d : ReplyTo} {u t : State} (h : ordered src party a d u t) :
    t.oru.orders.length = u.oru.orders.length + 1 := by
  rw [ordered] at h
  subst h
  exact List.length_append

/-- Person 1 on core 0 has called a service with a descriptor in its page 0. Its page 1, which it was given a moment ago, is still being
zeroed (R152). It is the stager of a bundle of 16 bytes, none of them written, on a device that is BLANK. -/
def callAtGivenPage (svc : Nat) (desc : List Nat) : State :=
  { isl := { power := .run, step := 10 }
    cores := (Vector.replicate 4 {}).set 0
      { cur := 1, ctx := (Vector.replicate 7 {}).set 1
          { calls := [{ dest := 8, svc := svc, arg := 0x10000000, hold := 0, result := none }] } }
    mem := { sram := cellsPut 0 [] 0x10000000 (desc.flatMap (leBytes 4)) }
    cus := { page := ((Vector.replicate 1024 0xF).set 0 1).set 1 1, pageZero := [1] }
    bun := { st := .receiving, stager := 1, total := 16 } }

/-- A line of 251 characters to send, in the page that is being zeroed. -/
def longLineWaits : State := callAtGivenPage 0x30 [0x10001000, 251, 0, 0]

/-- The 16 bytes to stage, in the page that is being zeroed. -/
def stageWriteWaits : State := callAtGivenPage 0x29 [0x10001000, 0, 16, 0]

theorem longLineWaits_waits : payloadZeroing 0 0x30 0x10000000 (fun w => w.getD 1 0) longLineWaits = true := by decide +kernel

theorem stageWriteWaits_waits : payloadZeroing 0 0x29 0x10000000 (fun w => w.getD 2 0) stageWriteWaits = true := by decide +kernel

/-- Refutes O45: a call of ORUNE_SEND whose length is no line's is not answered while the payload's page is being zeroed
(`longLineWaits`); of the page the statement asks nothing. -/
theorem not_mailboxesServeTheirPerson : ¬ Obligations.MailboxesServeTheirPerson := by
  unfold Obligations.MailboxesServeTheirPerson
  intro h
  obtain ⟨hlong, -⟩ := h 0 0x10000000 1 0 default [] { car := .svc, tag := none, sfx := false, pos := none } []
    { party := 0, car := .svc, slot := 0 } longLineWaits
  obtain ⟨t, ht, hans⟩ := hlong (by decide +kernel) (by decide +kernel) (.inr (by decide +kernel))
  rw [exec_oruneSend_waits _ _ _ longLineWaits_waits] at ht
  cases ht
  obtain ⟨-, -, hcalls⟩ := hans
  exact absurd hcalls (by decide +kernel)

/-- Refutes O31: a STAGE_WRITE that its caller may give does not join the slot while the payload's page is being zeroed
(`stageWriteWaits`); the statement asks that the page is the caller's, not that its zeroing has ended. -/
theorem not_ordersJoinTheirSlot : ¬ Obligations.OrdersJoinTheirSlot := by
  unfold Obligations.OrdersJoinTheirSlot
  rintro ⟨-, h⟩
  obtain ⟨-, -, -, -, -, -, -, -, -, hdesc, -⟩ := h 0 0x10000000 1 0 0 0 0 0 .hold [] true stageWriteWaits
  obtain ⟨-, -, hwrite⟩ := hdesc (by decide +kernel)
  obtain ⟨t, ht, hjoined, -⟩ := hwrite (by decide +kernel) (by decide +kernel) (by decide +kernel) (by decide +kernel) (by decide +kernel)
  rw [exec_stageWrite_waits _ _ _ stageWriteWaits_waits] at ht
  cases ht
  exact absurd (ordered_length hjoined) (by decide +kernel)

end Sys2Proof.Machine
end

section
/-! SUPPORT. Shared SRAM without memory errors: what a read on a person's behalf gives, and what a run of bytes written leaves there
(R158, R162, R163, R169). -/

namespace Sys2Proof.Machine

/-! ### Reads -/

/-- The device after a read that met no error: the count of corrected ones stands at its ceiling at most (R162). -/
def readClean (s : State) : State := { s with cus := { s.cus with eccCorr := Nat.min 0xFFFF s.cus.eccCorr } }

section
variable {s : State} (hecc : s.mem.ecc = [])
include hecc

theorem eccBad_clean (space c a n : Nat) : eccBad space c a n s = false := by simp [eccBad, hecc]

theorem eccWords_clean (bad : Bool) (space c a n : Nat) : eccWords bad space c a n s = [] := by simp [eccWords, hecc]

theorem eccRead_clean (space c a n : Nat) : eccRead space c a n s = readClean s := by
  have hmem : { s.mem with ecc := [] } = s.mem := by rw [← hecc]
  simp [eccRead, eccWords_clean hecc, hecc, hmem, forAll, readClean]

theorem bufRead_clean (a n : Nat) : bufRead a n s = (some (s.sramRead a n), readClean s) := by
  simp [bufRead, eccBad_clean hecc, eccRead_clean hecc]

theorem eccOver_clean (space c a n : Nat) : eccOver space c a n s = s := by
  have hmem : { s.mem with ecc := [] } = s.mem := by rw [← hecc]
  simp [eccOver, hecc, hmem]

/-- The bytes of one ECC word commit (R163). -/
theorem commitWord_clean (w : Nat) (cs : List Host.Cell) : ∃ k, commitWord w cs s =
    { s with mem := { s.mem with sram := cellsOver 0 s.mem.sram (cs.filter fun q => decide (q.1 / 8 = w)) }, cus := k } := by
  unfold commitWord
  dsimp only
  rw [eccBad_clean hecc, Bool.and_false, if_neg Bool.false_ne_true, eccOver_clean hecc, eccRead_clean hecc]
  split
  · exact ⟨s.cus, rfl⟩
  · exact ⟨_, rfl⟩

end

/-! ### Bytes written -/

theorem asCells_cons (a : Nat) (b : Byte) (r : Bytes) : asCells a (b :: r) = (a, b) :: asCells (a + 1) r := by
  simp only [asCells, List.zipIdx_cons', List.map_cons, List.map_map, Nat.add_zero]
  congr 2
  funext q
  simp [Nat.add_assoc, Nat.add_comm 1]

/-- The cells of a run that lie in one ECC word, written over a memory. -/
theorem cellGet_cellsOver_asCells (d : Byte) (bs : Bytes) (m : List Host.Cell) (a w z : Nat) (hm : Memory.wf d m = true) :
    cellGet d (cellsOver d m ((asCells a bs).filter fun q => decide (q.1 / 8 = w))) z =
      if z / 8 = w ∧ a ≤ z ∧ z < a + bs.length then bs.getD (z - a) 0 else cellGet d m z := by
  induction bs generalizing a m with
  | nil => rw [if_neg (by simp)]; rfl
  | cons b r ih =>
    have hlen : (b :: r).length = r.length + 1 := rfl
    have hget : z ≠ a → a ≤ z → (b :: r).getD (z - a) 0 = r.getD (z - (a + 1)) 0 := fun h1 h2 => by
      rw [show z - a = (z - (a + 1)) + 1 by omega, List.getD_cons_succ]
    rw [asCells_cons]
    by_cases hw : a / 8 = w
    · rw [List.filter_cons_of_pos (by simpa using hw), cellsOver, List.foldl_cons, ← cellsOver, ih _ _ (cellSet_wf d m a b hm)]
      by_cases hz : z = a
      · subst hz
        rw [if_neg (by omega), if_pos (by omega), cellGet_cellSet_same d m z b 0 hm, Nat.sub_self, List.getD_cons_zero]
      · rw [cellGet_cellSet_other d m a z b hz]
        by_cases hin : z / 8 = w ∧ a + 1 ≤ z ∧ z < a + 1 + r.length
        · rw [if_pos hin, if_pos (by omega), hget hz (by omega)]
        · rw [if_neg hin, if_neg (by omega)]
    · rw [List.filter_cons_of_neg (by simpa using hw), ih _ _ hm]
      by_cases hin : z / 8 = w ∧ a + 1 ≤ z ∧ z < a + 1 + r.length
      · rw [if_pos hin, if_pos (by omega), hget (by omega) (by omega)]
      · rw [if_neg hin, if_neg]
        rintro ⟨h1, h2, h3⟩
        have hz : z ≠ a := fun h => hw (h ▸ h1)
        omega

theorem mem_dedup {α : Type} [DecidableEq α] (l : List α) (x : α) : x ∈ dedup l ↔ x ∈ l := by
  have hgen : ∀ (l acc : List α), x ∈ l.foldl (fun acc a => if a ∈ acc then acc else acc ++ [a]) acc ↔ x ∈ acc ∨ x ∈ l := by
    intro l
    induction l with
    | nil => simp
    | cons a r ih =>
      intro acc
      rw [List.foldl_cons, ih]
      by_cases ha : a ∈ acc
      · rw [if_pos ha, List.mem_cons]
        exact ⟨fun h => h.elim .inl fun h => .inr (.inr h),
          fun h => h.elim .inl fun h => h.elim (fun e => .inl (e ▸ ha)) .inr⟩
      · rw [if_neg ha, List.mem_append, List.mem_singleton, List.mem_cons, or_assoc]
  simpa [dedup] using hgen l []

/-- The words of a run commit one by one. -/
theorem commitWords_clean (ws : List Nat) (a : Nat) (bs : Bytes) (s : State) (hecc : s.mem.ecc = [])
    (hm : Memory.wf 0 s.mem.sram = true) : ∃ m k, forAll ws (fun w t => commitWord w (asCells a bs) t) s =
      { s with mem := { s.mem with sram := m }, cus := k } ∧ Memory.wf 0 m = true ∧
      ∀ z, cellGet 0 m z = if z / 8 ∈ ws ∧ a ≤ z ∧ z < a + bs.length then bs.getD (z - a) 0 else cellGet 0 s.mem.sram z := by
  induction ws generalizing s with
  | nil => exact ⟨s.mem.sram, s.cus, rfl, hm, fun z => by simp⟩
  | cons w ws ih =>
    obtain ⟨k, hk⟩ := commitWord_clean hecc w (asCells a bs)
    obtain ⟨m, k', hrest, hwf, hget⟩ := ih (commitWord w (asCells a bs) s) (by rw [hk]; exact hecc)
      (by rw [hk]; exact cellsOver_wf 0 _ _ hm)
    rw [hk] at hrest hget
    refine ⟨m, k', ?_, hwf, fun z => ?_⟩
    · show forAll ws _ (commitWord w (asCells a bs) s) = _
      rw [hk, hrest]
    · rw [hget z, cellGet_cellsOver_asCells 0 bs _ a w z hm]
      by_cases hin : z / 8 ∈ ws ∧ a ≤ z ∧ z < a + bs.length
      · rw [if_pos hin, if_pos ⟨List.mem_cons_of_mem _ hin.1, hin.2⟩]
      · rw [if_neg hin]
        by_cases hw : z / 8 = w ∧ a ≤ z ∧ z < a + bs.length
        · rw [if_pos hw, if_pos ⟨hw.1 ▸ List.mem_cons_self, hw.2⟩]
        · rw [if_neg hw, if_neg]
          rintro ⟨h1, h2⟩
          exact (List.mem_cons.mp h1).elim (fun e => hw ⟨e, h2⟩) fun e => hin ⟨e, h2⟩

/-! ### Lines that leave the caches (R36, R169) -/

/-- A part of the state that neither a core nor the CIC nor a gate is in. -/
structure ApartFromCores {β : Type} (g : State → β) : Prop where
  cores : ∀ v t, g { t with cores := v } = g t
  cic : ∀ v t, g { t with cic := v } = g t
  gates : ∀ v t, g { t with gates := v } = g t

section
variable {β : Type} {g : State → β} (hg : ApartFromCores g)
include hg

theorem setCore_keeps (c : Nat) (f : Core → Core) (s : State) : g (setCore c f s) = g s := hg.cores _ s

theorem setCtx_keeps (c p : Nat) (f : Ctx → Ctx) (s : State) : g (setCtx c p f s) = g s := hg.cores _ s

theorem candLands_keeps (t : CandTxn) (s : State) : g (candLands t s) = g s := by
  unfold candLands
  dsimp only
  split_ifs <;> simp only [setCtx_keeps hg, setCore_keeps hg]

theorem gateFlush_keeps (pr : Nat) (s : State) : g (gateFlush pr s) = g s := by
  unfold gateFlush
  dsimp only
  split
  · exact (forAll_keeps g _ _ _ fun _ _ => hg.cic _ _).trans (hg.gates _ _)
  · exact (forAll_keeps g _ _ _ fun t u => candLands_keeps hg t u).trans (hg.gates _ _)

theorem gateLines_keeps (writer : Option Nat) (lines : List Nat) (s : State) : g (gateLines writer lines s) = g s := by
  refine forAll_keeps g _ _ s fun pr t => ?_
  dsimp only
  split
  · exact gateFlush_keeps hg pr t
  · rfl

end

/-- The device once the lines of a run have left every cache (R169). -/
def linesDropped (a : Nat) (bs : Bytes) (s : State) : State :=
  let lines := dedup ((asCells a bs).map fun q => q.1 / 64)
  mapCores (fun _ k => forAll lines dropLine k) (gateLines none lines s)

theorem linesDropped_keeps {β : Type} {g : State → β} (hg : ApartFromCores g) (a : Nat) (bs : Bytes) (s : State) :
    g (linesDropped a bs s) = g s := (hg.cores _ _).trans (gateLines_keeps hg _ _ s)

theorem linesDropped_mem (a : Nat) (bs : Bytes) (s : State) : (linesDropped a bs s).mem = s.mem :=
  linesDropped_keeps (g := State.mem) ⟨fun _ _ => rfl, fun _ _ => rfl, fun _ _ => rfl⟩ a bs s

theorem div_mem_dedup_asCells (a z : Nat) (bs : Bytes) (h : a ≤ z) (h' : z < a + bs.length) :
    z / 8 ∈ dedup ((asCells a bs).map fun q => q.1 / 8) := by
  rw [mem_dedup]
  induction bs generalizing a with
  | nil => simp at h'; omega
  | cons b r ih =>
    rw [asCells_cons, List.map_cons, List.mem_cons]
    by_cases hz : z = a
    · exact .inl (by rw [hz])
    · exact .inr (ih (a + 1) (by omega) (by rw [List.length_cons] at h'; omega))

section
variable {s : State} (hecc : s.mem.ecc = []) (hm : Memory.wf 0 s.mem.sram = true)
include hecc hm

/-- Beside the caches, what waits on the gates toward them and the count of corrected errors, a run of bytes written changes its own
bytes. -/
theorem sramPut_clean (a : Nat) (bs : Bytes) : ∃ m k, sramPut a bs s =
      { linesDropped a bs s with mem := { s.mem with sram := m }, cus := k } ∧ Memory.wf 0 m = true ∧
      ∀ z, cellGet 0 m z = if a ≤ z ∧ z < a + bs.length then bs.getD (z - a) 0 else cellGet 0 s.mem.sram z := by
  have hmem := linesDropped_mem a bs s
  obtain ⟨m, k, hput, hwf, hget⟩ := commitWords_clean (dedup ((asCells a bs).map fun q => q.1 / 8)) a bs (linesDropped a bs s)
    (by rw [hmem]; exact hecc) (by rw [hmem]; exact hm)
  rw [hmem] at hput hget
  refine ⟨m, k, hput, hwf, fun z => (hget z).trans ?_⟩
  by_cases hz : a ≤ z ∧ z < a + bs.length
  · rw [if_pos hz, if_pos ⟨div_mem_dedup_asCells a z bs hz.1 hz.2, hz⟩]
  · rw [if_neg hz, if_neg fun h => hz h.2]

theorem sramPut_keeps {β : Type} {g : State → β} (hg : ApartFromCores g) (hmem : ∀ v k t, g { t with mem := v, cus := k } = g t)
    (a : Nat) (bs : Bytes) : g (sramPut a bs s) = g s := by
  obtain ⟨m, k, hput, -, -⟩ := sramPut_clean hecc hm a bs
  rw [hput]
  exact (hmem _ _ _).trans (linesDropped_keeps hg a bs s)

/-- A run of bytes written reads back. -/
theorem sramRead_sramPut (a : Nat) (bs : Bytes) : (sramPut a bs s).sramRead a bs.length = bs := by
  obtain ⟨m, k, hput, -, hget⟩ := sramPut_clean hecc hm a bs
  rw [hput]
  refine List.ext_getElem (by simp [State.sramRead, cellsRead]) fun i _ hi => ?_
  simp only [State.sramRead, cellsRead, List.getElem_map, List.getElem_range, hget]
  rw [if_pos (by omega), Nat.add_sub_cancel_left, List.getD_eq_getElem _ _ hi]

end

end Sys2Proof.Machine
end

section
/-! SUPPORT. What an engine of the seal makes of a person's job that is ready: what its operation reads, and the person's side of the seal
after it gave a status or a key (R158, R411, R415, R420). -/

namespace Sys2Proof.Machine

/-! ### A person's side of the seal -/

theorem sealOf_setSeal (p : Nat) (f : SealP → SealP) (s : State) (h : p < 7) : (setSeal p f s).sealOf p = f (s.sealOf p) := by
  rw [State.sealOf, setSeal, vmod]
  exact vget_vset_same _ _ _ h

theorem sealOf_sealRes (p status len : Nat) (s : State) (h : p < 7) : (sealRes p status len s).sealOf p =
    { s.sealOf p with job := (s.sealOf p).job.map fun j => { j with res := some (status, len) } } := sealOf_setSeal p _ s h

@[simp] theorem sealOf_readClean (p : Nat) (s : State) : (readClean s).sealOf p = s.sealOf p := rfl

/-! ### A job that is ready -/

/-- What the operation of a job reads. -/
def sealInput (p : Nat) (j : SealRun) (s : State) : SealIn :=
  { p := p, slots := (s.sealOf p).slot, slot := descW j 0 / 256 % 4, dest := descW j 0 / 4096 % 4, cap := descW j 4,
    inp := sealInp j s, aux := sealAux j s, rngFail := s.seals.rngFail }

section
variable {p code : Nat} {j : SealRun} {s : State} (hr : sealReady p code j s = true)
include hr

theorem sealReady_person : p < 7 := by
  simp only [sealReady, Bool.and_eq_true, decide_eq_true_eq] at hr
  omega

theorem sealReady_job : (s.sealOf p).job = some j := by
  simp only [sealReady, Bool.and_eq_true, decide_eq_true_eq] at hr
  exact hr.1.1.1.1.1.2

/-- The engine serves a job that is ready: its buffers are read, and what the operation gives is carried out. -/
theorem sealServe_ready (f : SealIn → SealOut) :
    sealServe p code f s = sealApply p j (f (sealInput p j s)) (readClean (readClean s)) := by
  simp only [sealReady, Bool.and_eq_true, decide_eq_true_eq, Option.isNone_iff_eq_none, Bool.not_eq_true',
    List.isEmpty_iff] at hr
  obtain ⟨⟨⟨⟨⟨⟨⟨-, -⟩, hjob⟩, hres⟩, hcode⟩, hzero⟩, hbufs⟩, hecc⟩ := hr
  have hwait : ¬(j.res.isSome = true ∨ descW j 0 % 256 ≠ code) := by simp [hres, hcode]
  have hecc' : (readClean s).mem.ecc = [] := hecc
  simp only [sealServe, hjob, if_neg hwait, hzero, hbufs, bufRead_clean hecc, bufRead_clean hecc', Bool.false_eq_true, if_false]
  rfl

/-- An operation that gives a status leaves memory and key slots (R420). -/
theorem sealServe_err (f : SealIn → SealOut) (e : Nat) (h : f (sealInput p j s) = .err e) :
    (sealServe p code f s).mem = s.mem ∧ sealServed p j e 0 s (sealServe p code f s) := by
  rw [sealServe_ready hr, h]
  refine ⟨rfl, ?_⟩
  have hjob := sealReady_job hr
  refine (sealOf_sealRes p e 0 _ (sealReady_person hr)).trans ?_
  simp only [sealOf_readClean, hjob, Option.map_some]

/-- An operation that gives a key leaves memory and the other key slots (R411, R417). -/
theorem sealServe_key (f : SealIn → SealOut) (n : Nat) (k : Key) (h : f (sealInput p j s) = .key n k) :
    (sealServe p code f s).mem = s.mem ∧ (sealServe p code f s).sealOf p =
      { s.sealOf p with slot := vset (s.sealOf p).slot n k, job := some { j with res := some (0, 0) } } := by
  rw [sealServe_ready hr, h]
  refine ⟨rfl, ?_⟩
  have hjob := sealReady_job hr
  refine (sealOf_sealRes p 0 0 _ (sealReady_person hr)).trans ?_
  simp only [sealOf_setSeal _ _ _ (sealReady_person hr), sealOf_readClean, hjob, Option.map_some]

end

/-! ### Operations that give a key -/

section
variable {i : SealIn} {k : Nat} {f : Key → SealOut} {admits : KeyType → Bool}

/-- A slot of an admitted type is used; EMPTY is admitted by no operation (R411). -/
theorem withKey_admits (h : admits (vget i.slots k).ty = true) (he : admits .empty = false) :
    withKey i k admits f = f (vget i.slots k) := by
  have hne : (vget i.slots k).ty ≠ .empty := fun e => by rw [e, he] at h; cases h
  have hfix : ¬((vget i.slots k).ty = .fixed ∧ (!admits .fixed) = true) := by
    rintro ⟨e, hf⟩
    rw [e] at h
    rw [h] at hf
    cases hf
  rw [withKey, if_neg hne, if_neg hfix, if_neg (by simp [h])]

theorem intoSlot_free {o : SealOut} (h : (vget i.slots k).ty ≠ .fixed) : intoSlot i k o = o := if_neg h

end

section
variable (i : SealIn)

/-- The bytes of a point on a key's curve. -/
def pointLen (k : Key) : Nat := 2 * (curveOf k.ty).len + 1

/-- ECDH with a key of a curve and a point that it has a product with (R417). -/
theorem opEcdh_key (ty : KeyType) (k : Key) (q : Nat × Nat) (z : Bytes) (hk : vget i.slots i.slot = k) (hec : isEc k.ty = true)
    (hinp : i.inp.length ≤ 64) (haux : pointLen k ≤ i.aux.length) (haux' : i.aux.length ≤ pointLen k + 255)
    (hq : ptRead (curveOf k.ty) (i.aux.take (pointLen k)) = some q) (hz : ecdhX (curveOf k.ty) (beNat k.key) q = some z)
    (hd : (vget i.slots i.dest).ty ≠ .fixed) : opEcdh ty i =
      .key i.dest { ty := ty, origin := 3, key := hkdf sha256P i.inp z (i.aux.drop (pointLen k)) 32 } := by
  subst hk
  rw [opEcdh, withKey_admits hec rfl]
  unfold pointLen at *
  dsimp only
  rw [if_neg (by omega), hq]
  dsimp only
  rw [hz]
  exact intoSlot_free hd

/-- KEY_DERIVE with an HMAC key (R417). -/
theorem opDerive_key (ty : KeyType) (hk : (vget i.slots i.slot).ty = .hmac) (hinp : i.inp.length ≤ 255) (haux : i.aux.length ≤ 64)
    (hd : (vget i.slots i.dest).ty ≠ .fixed) : opDerive ty i =
      .key i.dest { ty := ty, origin := 3, key := hkdf sha256P i.aux (vget i.slots i.slot).key i.inp 32 } := by
  rw [opDerive, if_neg (by omega), withKey_admits (by simp [isHmac, hk]) rfl]
  exact intoSlot_free hd

/-- KEY_GENERATE of a type that has a code, while the random source is sound (R411, R419). -/
theorem opGenerate_key (rnd : Bytes) (t : KeyType) (n : Nat) (ht : keyTypeOf (leAt i.inp 0 4) = some (t, n)) (hinp : 4 ≤ i.inp.length)
    (hrng : i.rngFail = false) (hd : (vget i.slots i.slot).ty ≠ .fixed) : opGenerate rnd i =
      .key i.slot { ty := t, origin := 1, key := if isEc t then beBytes n (scalarOf (curveOf t) rnd) else rnd.take n } := by
  rw [opGenerate, ht]
  dsimp only
  rw [if_neg (by omega), hrng, intoSlot_free hd, if_neg Bool.false_ne_true]

theorem opErase_key (hd : (vget i.slots i.slot).ty ≠ .fixed) : opErase i = .key i.slot {} := intoSlot_free hd

end

/-! ### KEY_IMPORT (R413) -/

/-- A wrapped key names its type, its length, the slot and the person it is for (R413). -/
def wrapsFor (i : SealIn) (t : KeyType) (n : Nat) : Prop :=
  keyTypeOf (leAt i.aux 97 1) = some (t, n) ∧ i.aux.length = 128 + n ∧ leAt i.aux 98 1 = i.slot ∧ leAt i.aux 99 1 = i.p

/-- A key that opens its wrapping is a key of its type: a scalar of the curve, or any bytes. -/
def importable (t : KeyType) (pt : Bytes) : Bool :=
  !isEc t || (decide (beNat pt ≠ 0) && decide (beNat pt < (curveOf t).n))

/-- The bytes in a wrapping that a transport key opens. -/
def unwrapped (i : SealIn) (n : Nat) (key : Bytes) : Option Bytes :=
  gcmDec key (slice i.aux 100 12) (deviceId ++ slice i.aux 97 3) (slice i.aux 112 n) (i.aux.drop (112 + n))

section
variable {i : SealIn} {t : KeyType} {n : Nat} (hw : wrapsFor i t n)
include hw

theorem opImport_zeroized (k : Option Bytes) : opImport true k i = .err stZeroized := by
  obtain ⟨ht, hlen, hslot, hp⟩ := hw
  simp [opImport, ht, hlen, hslot, hp]

theorem opImport_noKey : opImport false none i = .err stParam := by
  obtain ⟨ht, hlen, hslot, hp⟩ := hw
  simp [opImport, ht, hlen, hslot, hp]

theorem opImport_wrong (key : Bytes) (hpt : unwrapped i n key = none) : opImport false (some key) i = .err stAuth := by
  obtain ⟨ht, hlen, hslot, hp⟩ := hw
  rw [unwrapped] at hpt
  simp [opImport, ht, hlen, hslot, hp, hpt]

theorem opImport_bad (key pt : Bytes) (hpt : unwrapped i n key = some pt) (hg : importable t pt = false) :
    opImport false (some key) i = .err stParam := by
  obtain ⟨ht, hlen, hslot, hp⟩ := hw
  rw [unwrapped] at hpt
  have hbad : isEc t = true ∧ (beNat pt = 0 ∨ (curveOf t).n ≤ beNat pt) := by
    simp only [importable, Bool.or_eq_false_iff, Bool.not_eq_false', Bool.and_eq_false_iff, decide_eq_false_iff_not] at hg
    exact ⟨hg.1, by omega⟩
  simp only [opImport, ht, hlen, hslot, hp, hpt, if_pos hbad]
  simp

theorem opImport_key (key pt : Bytes) (hpt : unwrapped i n key = some pt) (hg : importable t pt = true)
    (hd : (vget i.slots i.slot).ty ≠ .fixed) : opImport false (some key) i = .key i.slot { ty := t, origin := 2, key := pt } := by
  obtain ⟨ht, hlen, hslot, hp⟩ := hw
  rw [unwrapped] at hpt
  have hgood : ¬(isEc t = true ∧ (beNat pt = 0 ∨ (curveOf t).n ≤ beNat pt)) := by
    simp only [importable, Bool.or_eq_true, Bool.not_eq_true', Bool.and_eq_true, decide_eq_true_eq] at hg
    rintro ⟨h1, h2⟩
    rw [h1] at hg
    simp only [Bool.true_eq_false, false_or] at hg
    omega
  simp only [opImport, ht, hlen, hslot, hp, hpt, if_neg hgood, intoSlot_free hd]
  simp

end

end Sys2Proof.Machine
end

section
/-! SUPPORT. What the steward leaves as it stops persons, makes records and shows its slots: the fuses and the seal (R22 to R26, R353,
R401, R421). -/

namespace Sys2Proof.Machine

/-- The fuses and the seal. -/
def fusesAndSeals (s : State) : Fuses × SealSt := (s.fuses, s.seals)

theorem fuses_of_kept {s t : State} (h : fusesAndSeals t = fusesAndSeals s) : t.fuses = s.fuses := congrArg Prod.fst h

theorem seals_of_kept {s t : State} (h : fusesAndSeals t = fusesAndSeals s) : t.seals = s.seals := congrArg Prod.snd h

theorem fusesAndSeals_apart_sending : ApartFromSending fusesAndSeals := ⟨fun _ _ _ => rfl, fun _ _ _ => rfl⟩

variable (s : State)

/-! ### Leaves, slots and events -/

theorem setLeafD_fusesAndSeals (b l : Nat) (ds : List (Nat × Nat)) : fusesAndSeals (setLeafD b l ds s) = fusesAndSeals s := by
  unfold setLeafD
  split_ifs <;> rfl

theorem setLeaf_fusesAndSeals (b l : Nat) : fusesAndSeals (setLeaf b l s) = fusesAndSeals s := setLeafD_fusesAndSeals s b l []

theorem logEvent_fusesAndSeals (src party : Nat) (code : String) (data : List Word) :
    fusesAndSeals (logEvent src party code data s) = fusesAndSeals s := by
  simp only [fusesAndSeals, logEvent]

theorem setPerson_fusesAndSeals (p : Nat) (f : Person → Person) : fusesAndSeals (setPerson p f s) = fusesAndSeals s := by
  simp only [fusesAndSeals, setPerson]

theorem opEval_fusesAndSeals (pr : Nat) : fusesAndSeals (opEval pr s) = fusesAndSeals s := by
  simp only [fusesAndSeals, opEval, setIsl]

theorem pubSlot_fusesAndSeals (n : Nat) : fusesAndSeals (pubSlot n s) = fusesAndSeals s := by
  unfold pubSlot
  split_ifs <;> rfl

/-! ### Records (R264 to R271) -/

theorem notBlank_fusesAndSeals (b : Nat) : fusesAndSeals (notBlank b s) = fusesAndSeals s := by
  unfold notBlank
  split_ifs <;> rfl

theorem bankKick_fusesAndSeals (fuel b : Nat) : fusesAndSeals (bankKick fuel b s) = fusesAndSeals s := by
  induction fuel generalizing s with
  | zero => rfl
  | succ f ih =>
    unfold bankKick
    dsimp only
    split
    · rfl
    · split
      · rfl
      · split
        · exact ih _
        · rfl
      · split
        · rfl
        · exact notBlank_fusesAndSeals s b
      · rfl
      · rfl

theorem startAppend_fusesAndSeals (d : RecDue) : fusesAndSeals (startAppend d s) = fusesAndSeals s := by
  unfold startAppend
  split_ifs <;> rfl

theorem recPump_fusesAndSeals : fusesAndSeals (recPump s) = fusesAndSeals s := by
  have hstart : ∀ (d : RecDue) (f : Rec → Rec), fusesAndSeals (kickBoth (startAppend d (setStore f s))) = fusesAndSeals s :=
    fun d f => (bankKick_fusesAndSeals _ 4 3).trans ((bankKick_fusesAndSeals _ 4 2).trans (startAppend_fusesAndSeals _ d))
  unfold recPump
  split
  · rfl
  · split
    · rfl
    · split
      · rfl
      · split
        · exact hstart _ _
        · exact hstart _ _

theorem recordDue_fusesAndSeals (d : RecDue) : fusesAndSeals (recordDue d s) = fusesAndSeals s := by
  unfold recordDue
  split_ifs
  · rfl
  · exact recPump_fusesAndSeals _
  · rfl

/-! ### The lifecycle and the run states of persons (R26, R353) -/

theorem lifeCheck_fusesAndSeals : fusesAndSeals (lifeCheck s) = fusesAndSeals s := by
  unfold lifeCheck
  dsimp only
  split
  · exact pubSlot_fusesAndSeals s 1
  · exact (recordDue_fusesAndSeals _ _).trans ((logEvent_fusesAndSeals _ _ _ _ _).trans ((setLeaf_fusesAndSeals _ _ _).trans
      (pubSlot_fusesAndSeals s 1)))

theorem setRun_fusesAndSeals (p : Nat) (r : PRun) : fusesAndSeals (setRun p r s) = fusesAndSeals s := by
  unfold setRun
  refine (lifeCheck_fusesAndSeals _).trans ((pubSlot_fusesAndSeals _ 2).trans ?_)
  split
  · rfl
  · exact setLeaf_fusesAndSeals _ _ _

/-! ### Persons that stop (R94, R160, R167) -/

theorem handOver_fusesAndSeals (fuel c : Nat) : fusesAndSeals (handOver fuel c s) = fusesAndSeals s := by
  induction fuel generalizing s with
  | zero => rfl
  | succ n ih =>
    unfold handOver
    dsimp only
    split
    · rfl
    · split
      · refine (ih _).trans ?_
        unfold dropTwin
        split_ifs <;> rfl
      · rfl

theorem pickPerson_fusesAndSeals (c : Nat) : fusesAndSeals (pickPerson c s) = fusesAndSeals s := by
  unfold pickPerson
  split_ifs <;> rfl

theorem dropCus_fusesAndSeals (c p : Nat) : fusesAndSeals (dropCus c p s) = fusesAndSeals s := by
  unfold dropCus
  dsimp only
  split_ifs <;> rfl

theorem leaveCores_fusesAndSeals (p : Nat) : fusesAndSeals (leaveCores p s) = fusesAndSeals s := by
  have hdrop : ∀ (m c : Nat) (t : State),
      fusesAndSeals (if maskBit m c then pickPerson c (dropCus c p t) else t) = fusesAndSeals t := fun m c t => by
    split
    · exact (pickPerson_fusesAndSeals _ c).trans (dropCus_fusesAndSeals t c p)
    · rfl
  unfold leaveCores
  dsimp only
  refine (opEval_fusesAndSeals _ 1).trans ((opEval_fusesAndSeals _ 0).trans ((cicUpdate_keeps fusesAndSeals_apart_sending _).trans
    ((forNat_keeps fusesAndSeals 4 _ _ fun c t => hdrop _ c t).trans (setPerson_fusesAndSeals s p _))))

theorem haltPerson_fusesAndSeals (p : Nat) (r : PRun) : fusesAndSeals (haltPerson p r s) = fusesAndSeals s :=
  (leaveCores_fusesAndSeals _ p).trans ((setRun_fusesAndSeals _ p r).trans
    (forAll_keeps fusesAndSeals _ _ s fun c _ => handOver_fusesAndSeals _ _ c))

theorem stopAll_fusesAndSeals : fusesAndSeals (stopAll s) = fusesAndSeals s := by
  refine forAll_keeps fusesAndSeals _ _ s fun p t => ?_
  split
  · rfl
  · exact (setPerson_fusesAndSeals _ p _).trans (haltPerson_fusesAndSeals t p _)

/-! ### Zeroization (R421) -/

theorem zeroizeEnd_marks : (zeroizeEnd s).fuses.zeroize = s.fuses.zeroize ∧ (zeroizeEnd s).seals.zeroized = true := by
  unfold zeroizeEnd
  dsimp only
  rw [fuses_of_kept (lifeCheck_fusesAndSeals _), seals_of_kept (lifeCheck_fusesAndSeals _)]
  exact ⟨rfl, rfl⟩

/-- After a zeroization ZEROIZE is blown and the seal serves no key any more. -/
theorem zeroize_marks (detail : Nat) : (zeroize detail s).fuses.zeroize = true ∧ (zeroize detail s).seals.zeroized = true := by
  unfold zeroize
  dsimp only
  rw [fuses_of_kept (pubSlot_fusesAndSeals _ 3), seals_of_kept (pubSlot_fusesAndSeals _ 3), (zeroizeEnd_marks _).1]
  exact ⟨rfl, (zeroizeEnd_marks _).2⟩

end Sys2Proof.Machine
end

section
/-! The obligation on seal jobs that change keys, job ends, the random source and the debug unlock, part by part. -/

namespace Sys2Proof.Machine

/-! ### Jobs that derive a key (R417) -/

/-- A job has left one derived key, in its slot only. -/
def keyDerived (p : Nat) (j : SealRun) (dest : Nat) (key : Bytes) (s t : State) : Prop :=
  t.mem = s.mem ∧ t.sealOf p = { s.sealOf p with slot := (t.sealOf p).slot, job := some { j with res := some (0, 0) } } ∧
  (vget (t.sealOf p).slot dest).key = key ∧ (vget (t.sealOf p).slot dest).origin = 3 ∧
  ((vget (t.sealOf p).slot dest).ty = .aes256 ∨ (vget (t.sealOf p).slot dest).ty = .hmac) ∧
  (∀ i < 4, i ≠ dest → vget (t.sealOf p).slot i = vget (s.sealOf p).slot i)

theorem derivedType_or (n : Nat) : derivedType n = .aes256 ∨ derivedType n = .hmac := by
  unfold derivedType
  split_ifs
  · exact .inl rfl
  · exact .inr rfl

theorem sealServe_derived {p code : Nat} {j : SealRun} {s : State} (hr : sealReady p code j s = true) (f : SealIn → SealOut)
    (dest n : Nat) (key : Bytes) (hd : dest < 4)
    (h : f (sealInput p j s) = .key dest { ty := derivedType n, origin := 3, key := key }) :
    keyDerived p j dest key s (sealServe p code f s) := by
  obtain ⟨hmem, hseal⟩ := sealServe_key hr f dest _ h
  rw [keyDerived, hseal]
  dsimp only
  rw [vget_vset_same _ _ _ hd]
  exact ⟨hmem, rfl, rfl, rfl, derivedType_or n, fun i _ hi => vget_vset_other _ _ _ _ hi⟩

/-! ### KEY_IMPORT (R413) -/

/-- The operation of KEY_IMPORT on a device: the transport key is the device's own product with the key in the wrapping. -/
def importOp (s : State) (i : SealIn) : SealOut := opImport s.fuses.zeroize (transportKey s (i.aux.take 97) "SEAL import") i

theorem exec_keyImport (p : Nat) (s : State) : exec (.keyImport p) s = .next (sealServe p 0x31 (importOp s) s) := rfl

section
variable {p : Nat} {j : SealRun} {s : State} (hr : sealReady p 0x31 j s = true) {ty : KeyType} {n : Nat}
  (hw : wrapsFor (sealInput p j s) ty n)
include hr hw

/-- KEY_IMPORT by what the wrapping holds: a key for the slot, no key of its type, bytes that do not open, no transport key. -/
theorem keyImport_yields (hz : s.fuses.zeroize = false) (hfix : (sealKey p j s).ty ≠ .fixed) :
    let slot := descW j 0 / 256 % 4
    let tkey := transportKey s ((sealAux j s).take 97) "SEAL import"
    yields (.keyImport p) s fun t => t.mem = s.mem ∧
      t.sealOf p = (match tkey.bind fun key => unwrapped (sealInput p j s) n key with
        | some pt =>
          if importable ty pt then
            { s.sealOf p with slot := vset (s.sealOf p).slot slot { ty := ty, origin := 2, key := pt }, job := some { j with res := some (0, 0) } }
          else { s.sealOf p with job := some { j with res := some (2, 0) } }
        | none => { s.sealOf p with job := some { j with res := some (if tkey.isSome then 7 else 2, 0) } }) := by
  intro slot tkey
  refine ⟨_, exec_keyImport p s, ?_⟩
  have hop : importOp s (sealInput p j s) = opImport false tkey (sealInput p j s) := by rw [importOp, hz]; rfl
  cases hkey : tkey with
  | none => exact sealServe_err hr _ _ ((hkey ▸ hop).trans (opImport_noKey hw))
  | some key =>
    rw [hkey] at hop
    rw [Option.bind_some]
    cases hpt : unwrapped (sealInput p j s) n key with
    | none => exact sealServe_err hr _ _ (hop.trans (opImport_wrong hw key hpt))
    | some pt =>
      dsimp only
      cases hg : importable ty pt with
      | false => exact sealServe_err hr _ _ (hop.trans (opImport_bad hw key pt hpt hg))
      | true => exact sealServe_key hr _ _ _ (hop.trans (opImport_key hw key pt hpt hg hfix))

theorem keyImport_zeroized_yields (hz : s.fuses.zeroize = true) : yields (.keyImport p) s (sealServed p j 9 0 s) := by
  refine ⟨_, exec_keyImport p s, (sealServe_err hr (importOp s) stZeroized ?_).2⟩
  rw [importOp, hz]
  exact opImport_zeroized hw _

end

/-! ### The end of a job (R415) -/

/-- A pulse changes the CIC, what it sends and the arrival numbers. -/
theorem cicPulse_keeps {β : Type} {g : State → β} (hg : ApartFromSending g) (hisl : ∀ k t, g { t with isl := k } = g t) (n : Nat)
    (s : State) : g (cicPulse n s) = g s := by
  have hstamp : g (stampSource n s) = g s := by
    unfold stampSource
    split
    · exact hisl _ _
    · rfl
  have hstir : ∀ t, g (napStir t) = g t := fun t => by
    unfold napStir
    split
    · exact hisl _ _
    · rfl
  unfold cicPulse srcEdge
  split
  · rfl
  · split
    · exact hstamp
    · exact (cicUpdate_keeps hg _).trans ((hstir _).trans ((hg.src _ _ _).trans hstamp))

theorem sealJobDone_yields (p st len : Nat) (j : SealRun) (s : State) (hp : p ≤ 6) (hjob : (s.sealOf p).job = some j)
    (hres : j.res = some (st, len)) (hm : Memory.wf 0 s.mem.sram = true) (hal : j.desc % 16 = 0)
    (hown : bufCheck s p j.desc 64 = .ok) (hz : bufZeroing s j.desc 64 = false) (hecc : s.mem.ecc = []) :
    yields (.sealJobDone p) s fun t =>
      t.sealOf p = { s.sealOf p with job := none, done := ((s.sealOf p).done + 1) % 65536, last := st } ∧
      t.sramRead (j.desc + 32) 8 = leBytes 4 len ++ leBytes 4 st := by
  have hexec : exec (.sealJobDone p) s = .next (sealFinish p st len s) := by
    show Host.Outcome.next _ = _
    simp only [hjob, hres, hz, Bool.false_eq_true, if_false]
  refine ⟨_, hexec, ?_⟩
  simp only [sealFinish, hjob, hal, hown, and_self, if_true]
  constructor
  · rw [State.sealOf, cicPulse_keeps (g := State.seals) ⟨fun _ _ _ => rfl, fun _ _ _ => rfl⟩ fun _ _ => rfl]
    refine (sealOf_setSeal p _ _ (by omega)).trans ?_
    rw [State.sealOf, sramPut_keeps hecc hm (g := State.seals) ⟨fun _ _ => rfl, fun _ _ => rfl, fun _ _ => rfl⟩ fun _ _ _ => rfl]
    rfl
  · rw [State.sramRead, cicPulse_keeps (g := State.mem) ⟨fun _ _ _ => rfl, fun _ _ _ => rfl⟩ fun _ _ => rfl,
      setSeal_mem, ← State.sramRead]
    have hlen : (leBytes 4 len ++ leBytes 4 st).length = 8 := by simp [leBytes_length]
    have hread := sramRead_sramPut hecc hm (j.desc + 32) (leBytes 4 len ++ leBytes 4 st)
    rwa [hlen] at hread

/-! ### The random source (R419) -/

theorem rngHealthFail_yields (s : State) : yields .rngHealthFail s fun t =>
    t.seals = { s.seals with rngFail := true } ∧ t.stw.elogNext = s.stw.elogNext + 1 ∧ t.mem = s.mem :=
  ⟨_, rfl, by simp only [logEvent, and_self]⟩

/-! ### The debug unlock (R30, R423) -/

/-- The token signs the challenge that stands in the test port's data register. -/
def unlocks (token : Bytes) (s : State) : Prop :=
  s.seals.challenge ≠ [] ∧ sigOk384 vendorKey (deviceId ++ s.seals.challenge) token = true

/-- The device after an unlock: zeroized, its persons stopped, its debug port open. -/
def debugOpened (s : State) : State :=
  let t := stopAll (zeroize 1 (tamper 0x0D 0 s))
  { t with seals := { t.seals with debugOpen := true, challenge := [] } }

section
variable {token : Bytes} {s : State} (ha : awake s = true) (hc : s.counter 0 ≠ 0)
include ha hc

theorem exec_debugUnlock_granted (hok : unlocks token s) : exec (.debugUnlock token) s = .next (debugOpened s) := by
  obtain ⟨hchal, hsig⟩ := hok
  show Host.Outcome.next _ = _
  rw [ha, hsig, decide_eq_false hc, if_neg (by simp), if_pos (by simpa using hchal)]
  rfl

theorem exec_debugUnlock_refused (hbad : ¬unlocks token s) :
    exec (.debugUnlock token) s = .next (newChallenge (logEvent 7 0 "DEBUG_UNLOCK" [] s)) := by
  show Host.Outcome.next _ = _
  rw [ha, decide_eq_false hc, if_neg (by simp), if_neg (by simpa [unlocks] using hbad)]

end

theorem debugOpened_seals (s : State) : (debugOpened s).fuses.zeroize = true ∧ (debugOpened s).seals.debugOpen = true ∧
    (debugOpened s).seals.challenge = [] ∧ (debugOpened s).seals.zeroized = true := by
  obtain ⟨hfuse, hseal⟩ := zeroize_marks (tamper 0x0D 0 s) 1
  have hkept := stopAll_fusesAndSeals (zeroize 1 (tamper 0x0D 0 s))
  unfold debugOpened
  dsimp only
  rw [fuses_of_kept hkept, seals_of_kept hkept]
  exact ⟨hfuse, rfl, rfl, hseal⟩

theorem debugUnlock_yields (token : Bytes) (s : State) (ha : awake s = true) (hc : s.counter 0 ≠ 0) :
    yields (.debugUnlock token) s fun t =>
      if s.seals.challenge ≠ [] ∧ sigOk384 vendorKey (deviceId ++ s.seals.challenge) token = true then
        t.fuses.zeroize = true ∧ t.seals.debugOpen = true ∧ t.seals.challenge = [] ∧ t.seals.zeroized = true
      else t.seals.challenge = (randomBytes 16 s).1 ∧ t.fuses = s.fuses ∧ t.seals.debugOpen = s.seals.debugOpen ∧
        t.stw.elogNext = s.stw.elogNext + 1 := by
  by_cases hok : unlocks token s
  · exact ⟨_, exec_debugUnlock_granted ha hc hok, (if_pos hok).mpr (debugOpened_seals s)⟩
  · refine ⟨_, exec_debugUnlock_refused ha hc hok, (if_neg hok).mpr ?_⟩
    simp only [newChallenge, randomBytes, logEvent, and_self]

/-- Settles O47: what an operation gives (`opEcdh_key`, `opImport_key` and the like) through what the engine makes of it
(`sealServe_key`, `sealServe_err`); the words of a job's end by `sramRead_sramPut`; the debug unlock by `zeroize_marks`. -/
theorem sealKeysAndJobEnds : Obligations.SealKeysAndJobEnds := by
  unfold Obligations.SealKeysAndJobEnds
  intro p n st len j ty q z token s
  dsimp only
  have hdest : descW j 0 / 4096 % 4 < 4 := Nat.mod_lt _ (by decide)
  refine ⟨fun hr hk hinp haux haux' hq hz hd => ?_, fun hr hk hinp haux hd => ?_, fun hty hr hok hd => ?_, fun hr _ hd => ?_,
    fun ⟨hr, hw⟩ hz hfix => keyImport_yields hr hw hz hfix, fun ⟨hr, hw⟩ hz => keyImport_zeroized_yields hr hw hz,
    fun _ hp hjob hres hm hal hown hz hecc => sealJobDone_yields p st len j s hp hjob hres hm hal hown hz hecc,
    rngHealthFail_yields s, ⟨_, rfl, rfl⟩, debugUnlock_yields token s⟩
  · exact ⟨_, rfl, sealServe_derived (s := bumpFree s) hr _ _ _ _ hdest (opEcdh_key _ _ _ q z rfl hk hinp haux haux' hq hz hd)⟩
  · exact ⟨_, rfl, sealServe_derived (s := bumpFree s) hr _ _ _ _ hdest (opDerive_key _ _ hk hinp haux hd)⟩
  · rw [Bool.and_eq_true, decide_eq_true_eq, Bool.not_eq_true'] at hok
    exact ⟨_, rfl, sealServe_key (s := (randomBytes 64 s).2) hr _ _ _ (opGenerate_key _ _ ty n hty hok.1 hok.2 hd)⟩
  · exact ⟨_, rfl, sealServe_key hr _ _ _ (opErase_key _ hd)⟩

end Sys2Proof.Machine
end

section
/-! SUPPORT. What a start begins from: every island but the sentinel without power (R51, R53, R57, R257). -/

namespace Sys2Proof.Machine

/-! ### Flash commands that are cut (R257) -/

/-- A part of the state that neither the flash nor the counter of the free values is in. -/
structure ApartFromFlash {β : Type} (g : State → β) : Prop where
  free : ∀ v t, g { t with free := v } = g t
  flash : ∀ v t, g { t with mem := { t.mem with flash := v } } = g t
  flc : ∀ v t, g { t with flc := v } = g t

theorem flashCut_keeps {β : Type} {g : State → β} (hg : ApartFromFlash g) (s : State) : g (flashCut s) = g s := by
  have hput : ∀ (b a n : Nat) (t : State), g (flashPut b a (freeBytes n t).1 (freeBytes n t).2) = g t := fun b a n t =>
    (hg.flash _ _).trans (hg.free _ _)
  have hundef : ∀ (b : Nat) (o : FlashOp) (t : State), g (flashUndefined b o t) = g t := fun b o t => by
    cases o with
    | program a d => exact hput b a 16 t
    | erase n => exact hput b (n * sectorBytes) sectorBytes t
    | blank n => rfl
    | eraseAll => exact hput b 0 0x200000 t
  refine forNat_keeps g 4 _ s fun b t => (hg.flc _ _).trans ?_
  split
  · exact hundef b _ t
  · rfl

/-! ### What the loss of power leaves and takes (R51, R53, R57) -/

/-- What a start keeps: fuses, the sentinel, seconds, the queue and the clean mark. -/
def startKeeps (s t : State) : Prop :=
  t.fuses = s.fuses ∧ t.snt = s.snt ∧ t.secs = s.secs ∧ t.pending = s.pending ∧ t.isl.clean = s.isl.clean

/-- What a start takes: shared SRAM, the cores, the CIC and the orders that were collected. -/
def startLoses (t : State) : Prop := t.mem.sram = [] ∧ (∀ c < 4, t.core c = {}) ∧ t.cic = {} ∧ t.oru.orders = []

section
variable (pw : Power) (s : State)

/-- What the loss of power keeps is what cutting the flash commands keeps. -/
theorem powerLost_keeps : startKeeps s (powerLost pw s) := by
  have h := fun (β : Type) (g : State → β) (hg : ApartFromFlash g) => flashCut_keeps hg s
  unfold startKeeps powerLost
  dsimp only
  exact ⟨h _ State.fuses ⟨fun _ _ => rfl, fun _ _ => rfl, fun _ _ => rfl⟩, h _ State.snt ⟨fun _ _ => rfl, fun _ _ => rfl, fun _ _ => rfl⟩,
    h _ State.secs ⟨fun _ _ => rfl, fun _ _ => rfl, fun _ _ => rfl⟩, h _ State.pending ⟨fun _ _ => rfl, fun _ _ => rfl, fun _ _ => rfl⟩,
    congrArg Isl.clean (h _ State.isl ⟨fun _ _ => rfl, fun _ _ => rfl, fun _ _ => rfl⟩)⟩

theorem powerLost_loses : startLoses (powerLost pw s) := by
  unfold startLoses powerLost
  refine ⟨rfl, fun c h => ?_, rfl, rfl⟩
  simp [State.core, vget, h]

end

/-- The islands' state when all but the sentinel have lost power: what retention keeps of it (R52). -/
def islandsOff (pw : Power) (k : Isl) : Isl :=
  { power := pw, causeReg := k.causeReg, next := k.next, startSeq := k.startSeq, wake := k.wake, wakeLatch := k.wakeLatch,
    wakeCfg := k.wakeCfg, clean := k.clean, railsValid := k.railsValid, porstLow := k.porstLow, vioW := k.vioW, vioW33 := k.vioW33,
    vstbyLostSeen := k.vstbyLostSeen, pairSt := Vector.replicate 2 .off, fabric := .off, port := .off, host := .off }

theorem powerLost_isl (pw : Power) (s : State) : (powerLost pw s).isl = islandsOff pw s.isl := by
  unfold powerLost
  dsimp only
  rw [flashCut_keeps (g := State.isl) ⟨fun _ _ => rfl, fun _ _ => rfl, fun _ _ => rfl⟩]
  rfl

/-- The islands' state at t0 of a start (R53). -/
def islandsAtT0 (f : Causes → Causes) (an : Bool) (k : Isl) : Isl :=
  { islandsOff .starting k with
    next := f k.next, fabric := .run, port := .run, host := .run,
    pairSt := Vector.ofFn fun i : Fin 2 => if i.val = 1 ∧ an = true then .fusedOff else .starting }

theorem beginStart_eq (f : Causes → Causes) (s : State) :
    beginStart f s = { powerLost .starting s with isl := islandsAtT0 f (decide (s.fuses.part = .an)) s.isl } := by
  have hfuses : (powerLost .starting s).fuses = s.fuses := (powerLost_keeps .starting s).1
  unfold beginStart setIsl
  dsimp only
  rw [hfuses, powerLost_isl]
  simp only [islandsAtT0, decide_eq_true_eq]
  rfl

/-- A start has begun with these causes: what a start keeps and loses, at t0 (R51, R53). -/
def startBegun (k : Causes) (s t : State) : Prop :=
  startKeeps s t ∧ startLoses t ∧ t.isl.power = .starting ∧ t.isl.step = 0 ∧ t.isl.next = k

/-- A start begins with the causes that were collected and the one it adds. -/
theorem beginStart_begun (f : Causes → Causes) (s : State) : startBegun (f s.isl.next) s (beginStart f s) := by
  have hkeep := powerLost_keeps .starting s
  have hlose := powerLost_loses .starting s
  rw [beginStart_eq]
  simp only [startBegun, startKeeps, startLoses, State.core] at hkeep hlose ⊢
  obtain ⟨hfuses, hsnt, hsecs, hpending, -⟩ := hkeep
  exact ⟨⟨hfuses, hsnt, hsecs, hpending, rfl⟩, hlose, rfl, rfl, rfl⟩

/-- The device rests in OFF with what a start keeps (R57, R477). -/
theorem enterOff_off (s : State) : startKeeps s (enterOff s) ∧ startLoses (enterOff s) ∧ (enterOff s).isl = islandsOff .off s.isl := by
  unfold enterOff
  exact ⟨powerLost_keeps .off s, powerLost_loses .off s, powerLost_isl .off s⟩

theorem mayStart_of (s : State) (hr : s.isl.railsValid = true) (hp : s.isl.porstLow = false) (hv : s.snt.vstbyOk = true) :
    mayStart s = true := by simp [mayStart, hr, hp, hv]

/-! ### The commands that begin a start -/

/-- Rails that become valid in OFF begin a start where nothing else holds it back (R474). -/
theorem mainRailsValid_yields (s : State) (hoff : s.isl.power = .off) (hp : s.isl.porstLow = false) (hv : s.snt.vstbyOk = true) :
    yields .mainRailsValid s (startBegun { s.isl.next with powerOn := true } s) := by
  have hstart := beginStart_begun (fun c => { c with powerOn := true }) (setIsl (fun k => { k with railsValid := true }) s)
  exact ⟨_, congrArg Host.Outcome.next (if_pos ⟨hoff, mayStart_of _ rfl hp hv⟩), hstart⟩

/-- PORST_N that rises in OFF begins a start with the causes that were collected (R51). -/
theorem porstRelease_yields (s : State) (hoff : s.isl.power = .off) (hp : s.isl.porstLow = true) (hr : s.isl.railsValid = true)
    (hv : s.snt.vstbyOk = true) : yields .porstRelease s fun t => startBegun s.isl.next s t ∧ t.isl.porstLow = false := by
  have hstart := beginStart_begun id (setIsl (fun k => { k with porstLow := false }) s)
  refine ⟨_, congrArg Host.Outcome.next (if_pos ⟨hp, hoff, mayStart_of _ hr rfl hv⟩), hstart, ?_⟩
  rw [beginStart_eq]
  rfl

theorem watchdogExpiry_yields (s : State) (h : awake s = true ∨ s.isl.power = .starting) :
    yields .watchdogExpiry s (startBegun { s.isl.next with watchdog := true } s) := by
  have hon : (awake s || decide (s.isl.power = .starting)) = true := by simpa using h
  exact ⟨_, congrArg Host.Outcome.next (if_pos hon), beginStart_begun (fun c => { c with watchdog := true }) s⟩

theorem porstAssert_yields (s : State) : yields .porstAssert s fun t => startKeeps s t ∧ startLoses t ∧ t.isl.power = .off ∧
    t.isl.porstLow = true ∧ t.isl.next = { s.isl.next with porst := true } := by
  let u := setIsl (fun k => { k with porstLow := true, next := { k.next with porst := true } }) s
  obtain ⟨hkeep, hlose, hisl⟩ := enterOff_off u
  refine ⟨enterOff u, rfl, hkeep, hlose, ?_⟩
  rw [hisl]
  exact ⟨rfl, rfl, rfl⟩

theorem railFail_yields (rail : Rail) (s : State) : yields (.railFail rail) s fun t => startKeeps s t ∧ startLoses t ∧
    t.isl.power = .off ∧ t.isl.railsValid = false ∧ t.isl.next = { s.isl.next with powerOn := true } := by
  obtain ⟨hkeep, hlose, hisl⟩ := enterOff_off (setIsl (fun k => { k with railsValid := false, next := { k.next with powerOn := true } }) s)
  refine ⟨_, by cases rail <;> rfl, hkeep, hlose, ?_⟩
  rw [hisl]
  exact ⟨rfl, rfl, rfl⟩

/-- Settles O23: every start begins with what the loss of power leaves (`beginStart_begun`), and OFF holds the same (`enterOff_off`). -/
theorem startEventsBeginStarts : Obligations.StartEventsBeginStarts := by
  unfold Obligations.StartEventsBeginStarts
  exact fun s rail => ⟨mainRailsValid_yields s, porstRelease_yields s, porstAssert_yields s, watchdogExpiry_yields s, railFail_yields rail s⟩

end Sys2Proof.Machine
end

section
/-! SUPPORT. A pair's glitch with two persons of one rank: the lower one stays placed (O26). -/

namespace Sys2Proof.Machine

/-- A charter whose persons 1 and 2 are present and both of rank 0. -/
def equalRanks : Charter := { rows := vset (vset (Vector.replicate 7 {}) 1 { present := 1 }) 2 { present := 1 } }

/-- Person 2 runs on core 0 under that charter; pair A starts. -/
def lowerOfEqualRankRuns : State :=
  { stw := { charter := some equalRanks, persons := vset (Vector.replicate 7 {}) 2 { run := .running, cores := 1 } } }

/-- The glitch of pair A leaves person 2 where it is: the persons by rank name only the first of each rank. -/
theorem equalRank_staysPlaced :
    lowerOfEqualRankRuns.present 2 = true ∧ vget lowerOfEqualRankRuns.isl.pairSt 0 = .starting ∧
      (pairGlitch 0 false lowerOfEqualRankRuns).placedOn 2 0 = true := by
  decide +kernel

/-- Refutes O26: the statement does not ask that the ranks of a charter differ (R16), and of two persons of one rank a glitch takes only
the first off its pair, since `State.byRank` names one person for each rank. -/
theorem not_sleepAndIslands : ¬ Obligations.SleepAndIslands := by
  unfold Obligations.SleepAndIslands
  intro h
  obtain ⟨hpresent, hstarting, hplaced⟩ := equalRank_staysPlaced
  obtain ⟨_, _, _, _, hglitch, _⟩ := h.2 lowerOfEqualRankRuns .a false
  obtain ⟨t, ht, _, _, _, hgone⟩ := hglitch (.inr hstarting)
  have hexec : exec (.islandGlitch .pairA false) lowerOfEqualRankRuns = .next (pairGlitch 0 false lowerOfEqualRankRuns) :=
    congrArg Host.Outcome.next (if_pos (by dsimp only; rw [hstarting]; rfl))
  have hstate : pairGlitch 0 false lowerOfEqualRankRuns = t := Host.Outcome.next.inj (hexec.symm.trans ht)
  have hoff := hgone 2 (by decide) hpresent 0 (by decide) rfl
  rw [← hstate, hplaced] at hoff
  exact Bool.noConfusion hoff

end Sys2Proof.Machine
end

section
/-! SUPPORT. What the steward's reports leave as it was: tree leaves, mirror slots, events and tamper entries, records, levels at the CIC,
verdicts of the survey (R212, R261 to R271, R346, R353, R364, R383, R403, R407). -/

namespace Sys2Proof.Machine

/-! ### Leaves, slots, events -/

/-- A part of the state that no leaf, no mirror slot and no event is in. -/
structure ApartFromReports {β : Type} (g : State → β) : Prop where
  latched : ∀ v t, g { t with snt := { t.snt with latched := v } } = g t
  gfH : ∀ v t, g { t with gates := { t.gates with gfH := v } } = g t
  seqs : ∀ v t, g { t with win := { t.win with seqs := v } } = g t
  shown : ∀ v t, g { t with win := { t.win with pub := v } } = g t
  events : ∀ v n t, g { t with stw := { t.stw with elog := v, elogNext := n } } = g t

section
variable {β : Type} {g : State → β} (hg : ApartFromReports g)
include hg

theorem setLeafD_keeps (b l : Nat) (ds : List (Nat × Nat)) (s : State) : g (setLeafD b l ds s) = g s := by
  unfold setLeafD
  split
  · split
    · exact hg.latched _ s
    · rfl
  · exact hg.gfH _ s

theorem setLeaf_keeps (b l : Nat) (s : State) : g (setLeaf b l s) = g s := setLeafD_keeps hg b l [] s

theorem logEvent_keeps (src party : Nat) (code : String) (data : List Word) (s : State) : g (logEvent src party code data s) = g s :=
  hg.events _ _ s

theorem pubAlways_keeps (n : Nat) (s : State) : g (pubAlways n s) = g s :=
  (hg.gfH _ _).trans ((hg.seqs _ { s with win := { s.win with pub := vset s.win.pub n (slotValue s n) } }).trans (hg.shown _ s))

theorem pubSlot_keeps (n : Nat) (s : State) : g (pubSlot n s) = g s := by
  unfold pubSlot
  split
  · rfl
  · exact pubAlways_keeps hg n s

end

/-! ### The tamper log -/

/-- A part of the state that the tamper log is not in either. -/
structure ApartFromTamper {β : Type} (g : State → β) : Prop extends ApartFromReports g where
  tlog : ∀ v q i o t, g { t with snt := { t.snt with tlog := v, tseq := q, tindex := i, overflowing := o } } = g t

section
variable {β : Type} {g : State → β} (hg : ApartFromTamper g)
include hg

theorem tamperShown_keeps (i : Nat) (s : State) : g (tamperShown i s) = g s :=
  (pubSlot_keeps hg.toApartFromReports 3 _).trans ((setLeafD_keeps hg.toApartFromReports 0 6 _ _).trans (hg.tlog _ _ i _ s))

theorem tamperN_keeps (cause detail count : Nat) (s : State) : g (tamperN cause detail count s) = g s := by
  unfold tamperN
  dsimp only
  split
  · exact (tamperShown_keeps hg _ _).trans (hg.tlog _ _ s.snt.tindex _ s)
  · refine (tamperShown_keeps hg _ _).trans ?_
    split
    · exact hg.tlog _ s.snt.tseq s.snt.tindex _ s
    · exact (hg.tlog _ (setLeaf 0 7 s).snt.tseq (setLeaf 0 7 s).snt.tindex _ (setLeaf 0 7 s)).trans
        (setLeaf_keeps hg.toApartFromReports 0 7 s)

theorem tamper_keeps (cause detail : Nat) (s : State) : g (tamper cause detail s) = g s :=
  (logEvent_keeps hg.toApartFromReports _ _ _ _ _).trans (tamperN_keeps hg cause detail 1 s)

end

/-! ### Records and the lifecycle -/

/-- A part of the state that neither the record store nor its flash commands are in, nor what was last shown of the lifecycle. -/
structure ApartFromRecords {β : Type} (g : State → β) : Prop extends ApartFromReports g where
  store : ∀ v t, g { t with store := v } = g t
  flc : ∀ v t, g { t with flc := v } = g t
  lifeShown : ∀ v t, g { t with stw := { t.stw with lifeShown := v } } = g t

section
variable {β : Type} {g : State → β} (hg : ApartFromRecords g)
include hg

theorem giveOwn_keeps (b : Nat) (o : FlashOp) (a : Nat) (r : List FlashStep) (s : State) : g (giveOwn b o a r s) = g s := hg.flc _ s

theorem notBlank_keeps (b : Nat) (s : State) : g (notBlank b s) = g s := by
  unfold notBlank
  split
  · exact hg.flc _ s
  · exact (hg.store _ _).trans (hg.flc _ s)

theorem bankKick_keeps (fuel b : Nat) (s : State) : g (bankKick fuel b s) = g s := by
  induction fuel generalizing s with
  | zero => rfl
  | succ f ih =>
    unfold bankKick
    dsimp only
    split
    · rfl
    · split
      · rfl
      · split
        · exact (ih _).trans (hg.flc _ s)
        · exact giveOwn_keeps hg b _ _ _ s
      · split
        · exact (giveOwn_keeps hg b _ _ _ _).trans (hg.flc _ s)
        · exact notBlank_keeps hg b s
      · exact giveOwn_keeps hg b _ _ _ s
      · rfl

theorem planSame_keeps (p : List FlashStep) (s : State) : g (planSame p s) = g s := (hg.flc _ _).trans (hg.flc _ s)

theorem startAppend_keeps (d : RecDue) (s : State) : g (startAppend d s) = g s := by
  unfold startAppend
  split
  · exact (planSame_keeps hg _ _).trans (hg.store _ s)
  · exact (planSame_keeps hg _ _).trans (hg.store _ s)

theorem recPump_keeps (s : State) : g (recPump s) = g s := by
  have hbegin : ∀ (d : RecDue) (f : Rec → Rec), g (kickBoth (startAppend d (setStore f s))) = g s := fun d f =>
    (bankKick_keeps hg 4 3 _).trans ((bankKick_keeps hg 4 2 _).trans ((startAppend_keeps hg d _).trans (hg.store _ s)))
  unfold recPump
  split
  · rfl
  · split
    · rfl
    · split
      · rfl
      · split
        · exact hbegin _ _
        · exact hbegin _ _

theorem recordDue_keeps (d : RecDue) (s : State) : g (recordDue d s) = g s := by
  unfold recordDue
  split_ifs
  · rfl
  · exact (recPump_keeps hg _).trans (hg.store _ s)
  · exact hg.store _ s

theorem lifeCheck_keeps (s : State) : g (lifeCheck s) = g s := by
  have hr := hg.toApartFromReports
  unfold lifeCheck
  dsimp only
  split
  · exact pubSlot_keeps hr 1 s
  · exact (recordDue_keeps hg _ _).trans ((logEvent_keeps hr _ _ _ _ _).trans ((setLeaf_keeps hr 14 0 _).trans
      ((hg.lifeShown _ _).trans (pubSlot_keeps hr 1 s))))

end

/-! ### Levels at the CIC (R212) -/

/-- A part of the state that neither the CIC's sending nor the arrival number nor the wake mark of NAP is in. -/
structure ApartFromLevels {β : Type} (g : State → β) : Prop extends ApartFromSending g where
  stir : ∀ n w t, g { t with isl := { t.isl with arrival := n, napWake := w } } = g t

section
variable {β : Type} {g : State → β} (hg : ApartFromLevels g)
include hg

theorem stampArrival_keeps (s : State) : g (stampArrival s) = g s := hg.stir _ s.isl.napWake s

theorem napStir_keeps (s : State) : g (napStir s) = g s := by
  unfold napStir
  split
  · exact hg.stir s.isl.arrival _ s
  · rfl

theorem srcEdge_keeps (n : Nat) (s : State) : g (srcEdge n s) = g s := by
  unfold srcEdge
  split
  · rfl
  · exact (cicUpdate_keeps hg.toApartFromSending _).trans ((napStir_keeps hg _).trans (hg.src _ _ s))

theorem cicLevel_keeps (n : Nat) (b : Bool) (s : State) : g (cicLevel n b s) = g s := by
  have hraw : ∀ f, g (setSrc n f (if (s.src n).raw = b then s else stampSource n s)) = g s := fun f => by
    refine (hg.src n f _).trans ?_
    split
    · rfl
    · unfold stampSource
      split
      · exact stampArrival_keeps hg s
      · rfl
  unfold cicLevel
  split
  · rfl
  · dsimp only
    split
    · exact (srcEdge_keeps hg n _).trans (hraw _)
    · exact hraw _

theorem chainLevels_keeps (s : State) : g (chainLevels s) = g s :=
  (cicLevel_keeps hg 90 _ _).trans ((cicLevel_keeps hg 89 _ _).trans ((cicLevel_keeps hg 88 _ _).trans (cicLevel_keeps hg 87 _ s)))

theorem surveyLevels_keeps (s : State) : g (surveyLevels s) = g s := by
  unfold surveyLevels
  simp only [cicLevel_keeps hg]

end

/-! ### Verdicts of the survey (R383, R384) -/

/-- What a channel was measured at, and its baseline. -/
def measured (q : SrvChan) : Nat × Nat × Option Baseline := (q.value, q.status, q.base)

/-- A part of the state that neither a report, a record, a level nor a hold is in, and of the channels a view only that leaves out what the
tamper log has of them. -/
structure ApartFromEntries {α β : Type} (view : SrvChan → α) (g : State → β) : Prop
    extends ApartFromTamper g, ApartFromRecords g, ApartFromLevels g where
  hold : ∀ v t, g { t with snt := { t.snt with hold := v } } = g t
  aside : ∀ q sec m, view { q with tampSec := sec, merged := m } = view q
  noted : ∀ n f t, (∀ q, view (f q) = view q) → g (setCh n f t) = g t

/-- A part of the state that a verdict on a channel is not in: of the channels what was measured only. -/
abbrev ApartFromVerdicts {β : Type} (g : State → β) : Prop := ApartFromEntries measured g

section
variable {α β : Type} {view : SrvChan → α} {g : State → β} (hg : ApartFromEntries view g)
include hg

theorem openHold_keeps (c : Nat) (s : State) : g (openHold c s) = g s := by
  unfold openHold
  split
  · rfl
  · exact (lifeCheck_keeps hg.toApartFromRecords _).trans ((recordDue_keeps hg.toApartFromRecords _ _).trans
      ((setLeaf_keeps hg.toApartFromReports 14 1 _).trans (hg.hold _ s)))

theorem deviationEntry_keeps (n : Nat) (s : State) : g (deviationEntry n s) = g s := by
  have hnew : ∀ m, g (tamperN 9 n m (setCh n (fun q => { q with tampSec := some s.secs, merged := 0 }) s)) = g s := fun m =>
    (tamperN_keeps hg.toApartFromTamper 9 n m _).trans (hg.noted _ _ _ fun q => hg.aside q _ _)
  unfold deviationEntry
  dsimp only
  split
  · split
    · exact hg.noted _ _ _ fun q => hg.aside q q.tampSec _
    · exact hnew _
  · exact hnew _

theorem slot4_keeps (s : State) : g (pubSlot 4 (surveyLevels s)) = g s :=
  (pubSlot_keeps hg.toApartFromReports 4 _).trans (surveyLevels_keeps hg.toApartFromLevels s)

end

section
variable {β : Type} {g : State → β} (hg : ApartFromVerdicts g)
include hg

theorem deviationBegin_keeps (n cause : Nat) (s : State) : g (deviationBegin n cause s) = g s := by
  have hr := hg.toApartFromReports
  unfold deviationBegin
  split
  · rfl
  · refine (slot4_keeps hg _).trans ?_
    have hbegun : ∀ (f : SrvChan → SrvChan) (l : Nat) (w : List Word), (∀ q, measured (f q) = measured q) →
        g (logEvent 7 0 "SURVEY.DEVIATION" w (setLeafD 1 l [(7, n)] (setCh n f s))) = g s := fun f l w hf =>
      (logEvent_keeps hr _ _ _ _ _).trans ((setLeafD_keeps hr _ _ _ _).trans (hg.noted n f s hf))
    split
    · exact (openHold_keeps hg 3 _).trans ((deviationEntry_keeps hg n _).trans ((setLeaf_keeps hr 1 4 _).trans
        (hbegun _ _ _ fun _ => rfl)))
    · exact hbegun _ _ _ fun _ => rfl

theorem deviationClass_keeps (n : Nat) (s : State) : g (deviationClass n s) = g s := by
  unfold deviationClass
  dsimp only
  split
  · rfl
  · exact (slot4_keeps hg _).trans (hg.noted _ _ _ fun _ => rfl)

theorem deviationEnd_keeps (n : Nat) (s : State) : g (deviationEnd n s) = g s :=
  (slot4_keeps hg _).trans ((logEvent_keeps hg.toApartFromReports _ _ _ _ _).trans (hg.noted _ _ _ fun _ => rfl))

theorem judge_keeps (n : Nat) (out : Option Nat) (s : State) : g (judge n out s) = g s := by
  unfold judge
  split
  · split
    · exact deviationEnd_keeps hg n s
    · rfl
  · split
    · exact deviationBegin_keeps hg n _ s
    · split
      · rfl
      · exact (deviationClass_keeps hg n _).trans (hg.noted _ _ _ fun _ => rfl)
    · exact deviationEnd_keeps hg n s
    · rfl

theorem feedJudge_keeps (n : Nat) (s : State) : g (feedJudge n s) = g s := by
  unfold feedJudge
  dsimp only
  split
  · exact cicLevel_keeps hg.toApartFromLevels _ _ s
  · exact (judge_keeps hg _ _ _).trans (cicLevel_keeps hg.toApartFromLevels _ _ s)

end

/-! ### The trailer and the calls (R119, R167, R190) -/

section
variable {β : Type} {g : State → β} (hg : ApartFromCores g)
include hg

theorem dropTwin_keeps (c : Nat) (e : SbEntry) (s : State) : g (dropTwin c e s) = g s := by
  unfold dropTwin
  split
  · exact setCore_keeps hg _ _ s
  · rfl

theorem handOver_keeps (fuel c : Nat) (s : State) : g (handOver fuel c s) = g s := by
  induction fuel generalizing s with
  | zero => rfl
  | succ n ih =>
    unfold handOver
    dsimp only
    split
    · rfl
    · split
      · exact (ih _).trans ((hg.gates _ _).trans ((dropTwin_keeps hg _ _ _).trans (setCore_keeps hg _ _ s)))
      · rfl

theorem mirrorTrail_keeps (c p : Nat) (s : State) : g (mirrorTrail c p s) = g s := by
  unfold mirrorTrail
  split
  · exact (handOver_keeps hg _ _ _).trans (setCore_keeps hg _ _ s)
  · rfl

theorem takeCall_keeps (c p : Nat) (s : State) : g (takeCall c p s) = g s :=
  (mirrorTrail_keeps hg c p _).trans (setCtx_keeps hg c p _ s)

theorem callResult_keeps (c p svc : Nat) (arg : Word) (code : Nat) (s : State) : g (callResult c p svc arg code s) =
    g (setMbox p (fun b => { b with svc := svc, res := code, calls := b.calls + 1 }) s) :=
  (mirrorTrail_keeps hg c p _).trans (setCtx_keeps hg c p _ _)

end

end Sys2Proof.Machine
end

section
/-! The obligation on the steps of a start, step by step (R52, R53, R144, R201, R344). -/

namespace Sys2Proof.Machine

/-! ### ISL_RESET_CAUSE (R53) -/

theorem bitN_le_one (b : Bool) : bitN b ≤ 1 := by cases b <;> decide

theorem bitN_eq_one (b : Bool) : bitN b = 1 ↔ b = true := by cases b <;> decide

/-- The cause word of a start: the start count above, the islands' glitch and the causes below. -/
def causeFields (w : Word) (s : State) : Prop :=
  w.toNat / 65536 = s.isl.startSeq ∧
  (w.toNat / 128 % 2 = 1 ↔ s.isl.vstbyLostSeen = true) ∧ (w.toNat / 64 % 2 = 1 ↔ s.isl.clean = false) ∧
  (w.toNat / 32 % 2 = 1 ↔ s.isl.next.glitch = true) ∧ (w.toNat / 16 % 2 = 1 ↔ s.isl.next.watchdog = true) ∧
  (w.toNat / 8 % 2 = 1 ↔ s.isl.next.restart = true) ∧ (w.toNat / 4 % 2 = 1 ↔ s.isl.next.wake = true) ∧
  (w.toNat / 2 % 2 = 1 ↔ s.isl.next.porst = true) ∧ (w.toNat % 2 = 1 ↔ s.isl.next.powerOn = true)

/-- Each field of the cause word stands in its own bits. -/
theorem causeWord_fields (s : State) (hseq : s.isl.startSeq < 65536) : causeFields (causeWord s) s := by
  have hisland : bits (w32 s.isl.next.glitchIsland) 2 0 < 8 := by rw [bits_low]; omega
  have hclean : bitN (!s.isl.clean) = 1 ↔ s.isl.clean = false := by rw [bitN_eq_one, Bool.not_eq_true']
  unfold causeFields
  rw [← hclean]
  simp only [← bitN_eq_one, causeWord, w32, BitVec.toNat_ofNat]
  have h7 := bitN_le_one s.isl.vstbyLostSeen
  have h6 := bitN_le_one (!s.isl.clean)
  have h5 := bitN_le_one s.isl.next.glitch
  have h4 := bitN_le_one s.isl.next.watchdog
  have h3 := bitN_le_one s.isl.next.restart
  have h2 := bitN_le_one s.isl.next.wake
  have h1 := bitN_le_one s.isl.next.porst
  have h0 := bitN_le_one s.isl.next.powerOn
  rw [Nat.mod_eq_of_lt (by unfold w32 at hisland; omega)]
  unfold w32 at hisland
  generalize bits (BitVec.ofNat 32 s.isl.next.glitchIsland) 2 0 = island at *
  generalize bitN s.isl.vstbyLostSeen = b7 at *
  generalize bitN (!s.isl.clean) = b6 at *
  generalize bitN s.isl.next.glitch = b5 at *
  generalize bitN s.isl.next.watchdog = b4 at *
  generalize bitN s.isl.next.restart = b3 at *
  generalize bitN s.isl.next.wake = b2 at *
  generalize bitN s.isl.next.porst = b1 at *
  generalize bitN s.isl.next.powerOn = b0 at *
  refine ⟨?_, ?_, ?_, ?_, ?_, ?_, ?_, ?_, ?_⟩ <;> omega

/-! ### Running the steps -/

/-- The device once step n of a start is done. -/
def stepDone (n : Nat) (t : State) : State := setIsl (fun k => { k with step := n }) t

theorem stepDone_win (n : Nat) (t : State) : (stepDone n t).win = t.win := rfl

section
variable (env : StartEnv) (last fuel : Nat) (s : State)

theorem startRun_done (h : last ≤ s.isl.step) : startRun env last fuel s = s := by
  cases fuel with
  | zero => rfl
  | succ m => exact if_pos (by omega)

/-- A step after which no start has begun anew is followed by the next one. -/
theorem startRun_step (n : Nat) (t : State) (hn : s.isl.step + 1 = n) (hl : n ≤ last) (ht : startStep env n s = (false, t)) :
    startRun env last (fuel + 1) s = startRun env last fuel (stepDone n t) := by
  rw [startRun, if_neg (by omega), hn, ht]
  rfl

end

theorem exec_start (last : Fin 11) (env : StartEnv) (s : State) (h : s.isl.power = .starting) :
    exec (.start last env) s = .next (startRun env last.val 10 s) := congrArg Host.Outcome.next (if_pos h)

/-- One step more is run where only one is asked for. -/
theorem exec_start_one (last : Fin 11) (env : StartEnv) (s t : State) (h : s.isl.power = .starting) (hn : s.isl.step + 1 = last.val)
    (ht : startStep env last.val s = (false, t)) :
    exec (.start last env) s = .next (stepDone last.val t) := by
  rw [exec_start last env s h, startRun_step env last.val 9 s last.val t hn (le_refl _) ht, startRun_done env last.val 9 (stepDone last.val t) (le_refl last.val)]

/-! ### Steps 1 to 3 (R53, R344) -/

/-- The islands after step 2: the count goes on, the causes are taken, retention's marks are cleared. -/
def causesTaken (k : Isl) (w : Word) : Isl :=
  { k with startSeq := (k.startSeq + 1) % 0x10000, causeReg := w, clean := false, vstbyLostSeen := false, next := {},
           wake := if k.next.wake then k.wakeLatch else 0, wakeLatch := 0 }

/-- With retention good and no zeroization cut short, step 2 makes the cause word of the next start count. -/
theorem startStep2_isl (env : StartEnv) (s : State) (hr : env.retentionBad = false) (hz : s.fuses.zeroize = false) :
    (startStep2 env s).isl = causesTaken s.isl (causeWord (setIsl (fun k => { k with startSeq := (k.startSeq + 1) % 0x10000 }) s)) := by
  have hleaf : ∀ t, (if s.isl.vstbyLostSeen = true then setLeaf 0 2 t else t).isl = t.isl := fun t => by
    split
    · exact setLeaf_keeps (g := State.isl) ⟨fun _ _ => rfl, fun _ _ => rfl, fun _ _ => rfl, fun _ _ => rfl, fun _ _ _ => rfl⟩ 0 2 t
    · rfl
  unfold startStep2
  simp only [hr, hz, setIsl, Bool.false_eq_true, false_and, if_false]
  exact (hleaf _).trans rfl

theorem startSteps1to3_yields (s : State) (env : StartEnv) (hp : s.isl.power = .starting) (h0 : s.isl.step = 0)
    (hr : env.retentionBad = false) (hz : s.fuses.zeroize = false) :
    yields (.start 3 env) s fun t =>
      t.isl.step = 3 ∧ t.isl.arrival = 0 ∧ t.win.state = 1 ∧ t.isl.rstoutLow = false ∧ t.isl.next = {} ∧ t.isl.clean = false ∧
      t.isl.startSeq = (s.isl.startSeq + 1) % 65536 ∧ t.isl.causeReg.toNat / 65536 = t.isl.startSeq ∧
      (t.isl.causeReg.toNat / 128 % 2 = 1 ↔ s.isl.vstbyLostSeen = true) ∧ (t.isl.causeReg.toNat / 64 % 2 = 1 ↔ s.isl.clean = false) ∧
      (t.isl.causeReg.toNat / 32 % 2 = 1 ↔ s.isl.next.glitch = true) ∧ (t.isl.causeReg.toNat / 16 % 2 = 1 ↔ s.isl.next.watchdog = true) ∧
      (t.isl.causeReg.toNat / 8 % 2 = 1 ↔ s.isl.next.restart = true) ∧ (t.isl.causeReg.toNat / 4 % 2 = 1 ↔ s.isl.next.wake = true) ∧
      (t.isl.causeReg.toNat / 2 % 2 = 1 ↔ s.isl.next.porst = true) ∧ (t.isl.causeReg.toNat % 2 = 1 ↔ s.isl.next.powerOn = true) := by
  let s1 := stepDone 1 (startStep1 s)
  let s2 := stepDone 2 (startStep2 env s1)
  have hisl := startStep2_isl env s1 hr hz
  have hword := causeWord_fields (setIsl (fun k => { k with startSeq := (k.startSeq + 1) % 0x10000 }) s1) (Nat.mod_lt _ (by decide))
  have hrun : startRun env 3 10 s = stepDone 3 (startStep3 s2) := by
    rw [startRun_step env 3 9 s 1 _ (by rw [h0]) (by decide) rfl, startRun_step env 3 8 s1 2 _ rfl (by decide) rfl,
      startRun_step env 3 7 s2 3 _ rfl (by decide) rfl, startRun_done env 3 7 (stepDone 3 (startStep3 s2)) (le_refl 3)]
  refine ⟨_, (exec_start 3 env s hp).trans (congrArg Host.Outcome.next hrun), ?_⟩
  have hgoal : (stepDone 3 (startStep3 s2)).isl =
      { (startStep2 env s1).isl with step := 3, rstoutLow := false } := rfl
  dsimp only
  rw [hgoal, hisl]
  exact ⟨rfl, rfl, rfl, rfl, rfl, rfl, rfl, hword⟩

/-! ### Step 5 (R52, R144, R201) -/

theorem startStep5_yields (s : State) (env : StartEnv) (hp : s.isl.power = .starting) (h4 : s.isl.step = 4) :
    yields (.start 5 env) s fun t =>
      t.isl.step = 5 ∧ t.mem.sram = [] ∧ t.mem.flash = s.mem.flash ∧ (∀ n < 1024, t.pageOwner n = 0xF) ∧
      (∀ c < 4, (∀ b < 8, t.bankOwner c b = 0xF) ∧ (t.core c).imem = [] ∧ (t.core c).dmem = [] ∧
        (t.core c).fenced = maskBit s.snt.fences c) := by
  refine ⟨_, exec_start_one 5 env s (startStep5 s) hp (by rw [h4]; rfl) rfl, rfl, rfl, rfl, fun n hn => ?_, fun c hc => ⟨fun b hb => ?_, ?_⟩⟩
  · simp [stepDone, setIsl, startStep5, mapCores, State.pageOwner, vget, hn]
  · simp [stepDone, setIsl, startStep5, mapCores, State.bankOwner, vget, hb, hc]
  · simp [stepDone, setIsl, startStep5, mapCores, State.core, vget, hc]

/-! ### Step 7 (R53) -/

/-- A line of its own on SVC or HST leaves on the carrier only. -/
theorem unsolicited_svc_win (t : Text) (s : State) : (unsolicited .svc t s).win = s.win := by
  have hcar : ∀ f, (setCar .svc f s).win = s.win := fun f => by unfold setCar; split <;> rfl
  unfold unsolicited sendLine
  dsimp only
  split
  · exact hcar _
  · exact hcar _

theorem unsolicited_hst_win (t : Text) (s : State) : (unsolicited .hst t s).win = s.win := by
  unfold unsolicited sendLine emit setCar
  dsimp only
  split <;> rfl

theorem startStep7_winState (s : State) : (startStep7 s).win.state = 3 := by
  unfold startStep7
  dsimp only
  rw [unsolicited_hst_win, unsolicited_svc_win,
    chainLevels_keeps (g := State.win) ⟨⟨fun _ _ _ => rfl, fun _ _ _ => rfl⟩, fun _ _ _ => rfl⟩]
  rfl

theorem startStep7_yields (s : State) (env : StartEnv) (hp : s.isl.power = .starting) (h6 : s.isl.step = 6) :
    yields (.start 7 env) s fun t => t.isl.step = 7 ∧ t.win.state = 3 :=
  ⟨stepDone 7 (startStep7 s), exec_start_one 7 env s (startStep7 s) hp (by rw [h6]; rfl) rfl, rfl,
    (congrArg Win.state (stepDone_win 7 (startStep7 s))).trans (startStep7_winState s)⟩

/-- Settles O24: each step that the statement names is the only one its command runs, or follows those before it (`startRun_step`). -/
theorem startStepsPrepareTheDevice : Obligations.StartStepsPrepareTheDevice := by
  unfold Obligations.StartStepsPrepareTheDevice
  exact fun s env hp => ⟨startSteps1to3_yields s env hp, startStep5_yields s env hp, startStep7_yields s env hp,
    ⟨_, exec_start 0 env s hp, startRun_done env 0 10 s (Nat.zero_le _)⟩⟩

end Sys2Proof.Machine
end

section
/-! The obligation on the reference and the operating points, part by part (R32, R33, R40 to R43, R56, R452, R484). -/

namespace Sys2Proof.Machine

theorem isl_apart_tamper : ApartFromTamper State.isl :=
  ⟨⟨fun _ _ => rfl, fun _ _ => rfl, fun _ _ => rfl, fun _ _ => rfl, fun _ _ _ => rfl⟩, fun _ _ _ _ _ => rfl⟩

theorem port_apart_tamper : ApartFromTamper State.port :=
  ⟨⟨fun _ _ => rfl, fun _ _ => rfl, fun _ _ => rfl, fun _ _ => rfl, fun _ _ _ => rfl⟩, fun _ _ _ _ _ => rfl⟩

theorem vget_map {α β : Type} [Inhabited α] [Inhabited β] {n : Nat} (v : Vector α n) (f : α → β) (i : Nat) (h : i < n) :
    vget (v.map f) i = f (vget v i) := by
  simp [vget, h]

/-! ### The reference (R33, R56, R484) -/

/-- The oscillators run free and the CAN controllers in NORMAL are held. -/
def refGone (s t : State) : Prop := t.isl.refFault = true ∧ t.isl.refOk = false ∧ t.isl.fllLock = 0 ∧
  (∀ k < 2, (vget s.port.can k).mode = 1 → (vget t.port.can k).hold = true)

/-- The loops of the islands that have power are locked. -/
def refLocked (s t : State) : Prop := t.isl.refFault = false ∧ t.isl.refOk = true ∧ t.isl.fllLock = lockMask s ∧ t.port.can = s.port.can

section
variable (s : State)

theorem refLost_keeps {β : Type} {g : State → β} (hg : ApartFromTamper g) (t : State) :
    g (pubSlot 3 (setLeaf 0 4 (tamper 6 0 t))) = g t :=
  (pubSlot_keeps hg.toApartFromReports 3 _).trans ((setLeaf_keeps hg.toApartFromReports 0 4 _).trans (tamper_keeps hg 6 0 t))

theorem refLost_isl (h : s.isl.refFault = false) :
    (refLost s).isl = { s.isl with refFault := true, refOk := false, fllLock := 0 } := by
  unfold refLost
  rw [if_neg (by rw [h]; exact Bool.false_ne_true)]
  exact refLost_keeps isl_apart_tamper _

theorem refLost_can (h : s.isl.refFault = false) :
    (refLost s).port.can = s.port.can.map fun q => if q.mode = 1 then { q with hold := true } else q := by
  unfold refLost
  rw [if_neg (by rw [h]; exact Bool.false_ne_true)]
  exact congrArg Ports.can (refLost_keeps port_apart_tamper _)

theorem refLost_gone (h : s.isl.refFault = false) : refGone s (refLost s) := by
  rw [refGone, refLost_isl s h, refLost_can s h]
  refine ⟨rfl, rfl, rfl, fun k hk hmode => ?_⟩
  rw [vget_map _ _ _ hk, if_pos hmode]

theorem refBack_locked : refLocked s (refBack s) := by
  have hkeep : ∀ {β : Type} {g : State → β} (_ : ApartFromTamper g) (t : State),
      g (if s.isl.refFault = true then pubSlot 3 (tamper 6 1 t) else t) = g t := fun hg t => by
    split
    · exact (pubSlot_keeps hg.toApartFromReports 3 _).trans (tamper_keeps hg 6 1 t)
    · rfl
  unfold refLocked refBack
  dsimp only
  rw [hkeep isl_apart_tamper, hkeep port_apart_tamper]
  exact ⟨rfl, rfl, rfl, rfl⟩

theorem refFault_yields (ha : s.isl.refArmed = true) (hf : s.isl.refFault = false) : yields .refFault s (refGone s) :=
  ⟨_, congrArg Host.Outcome.next (if_pos ha), refLost_gone s hf⟩

theorem refFault_unarmed_yields (ha : s.isl.refArmed = false) : yields .refFault s fun t => t = s :=
  ⟨_, congrArg Host.Outcome.next (if_neg (by rw [ha]; exact Bool.false_ne_true)), rfl⟩

theorem refCompare_off_yields (hz : Nat) (unbroken : Bool) (hf : s.isl.refFault = false) (ha : s.isl.refArmed = true)
    (h : hz < 24875000 ∨ 25125000 < hz) : yields (.refCompare hz unbroken) s (refGone s) :=
  ⟨_, congrArg Host.Outcome.next ((if_pos h).trans (if_pos ha)), refLost_gone s hf⟩

theorem refCompare_in_yields (hz : Nat) (unbroken : Bool) (hlow : 24875000 ≤ hz) (hhigh : hz ≤ 25125000) (hu : unbroken = true) :
    yields (.refCompare hz unbroken) s (refLocked s) :=
  ⟨_, congrArg Host.Outcome.next ((if_neg (by omega)).trans (if_pos hu)), refBack_locked s⟩

/-- The check once armed: what the reference is then decides at once (R56). -/
theorem clockCheckArm_present_yields (present : Bool) (hf : s.isl.refFault = false) (hp : present = true) :
    yields (.clockCheckArm present) s fun t => t.isl.refArmed = true ∧ refLocked s t := by
  have hnot : ¬ s.isl.refFault = true := by rw [hf]; exact Bool.false_ne_true
  let u := setIsl (fun k => { k with refArmed := true }) s
  have hback : refBack u = setIsl (fun k => { k with refFault := false, refOk := true, fllLock := lockMask u }) u := if_neg hnot
  refine ⟨_, congrArg Host.Outcome.next ((if_pos hp).trans (if_neg hnot)), ?_, refBack_locked u⟩
  exact congrArg (fun t => t.isl.refArmed) hback

theorem clockCheckArm_absent_yields (present : Bool) (hf : s.isl.refFault = false) (hp : present = false) :
    yields (.clockCheckArm present) s fun t => t.isl.refArmed = true ∧ refGone s t := by
  let u := setIsl (fun k => { k with refArmed := true }) s
  refine ⟨refLost u, congrArg Host.Outcome.next (if_neg (by rw [hp]; exact Bool.false_ne_true)), ?_, refLost_gone u hf⟩
  rw [refLost_isl u hf]
  rfl

end

/-! ### Operating points (R40 to R43) -/

theorem foldl_max_le (l : List Nat) (a b : Nat) (ha : a ≤ b) (h : ∀ x ∈ l, x ≤ b) : l.foldl Nat.max a ≤ b := by
  induction l generalizing a with
  | nil => exact ha
  | cons x r ih =>
    exact ih (Nat.max a x) (Nat.max_le.mpr ⟨ha, h x List.mem_cons_self⟩) fun y hy => h y (List.mem_cons_of_mem x hy)

/-- A pair is never set on its way to a point its rail does not permit (R40). -/
theorem opPick_le (s : State) (pr : Nat) : opPick s pr ≤ vget s.isl.opMax pr := by
  unfold opPick
  dsimp only
  split_ifs
  · exact Nat.min_le_right 1 _
  · split
    · exact Nat.min_le_right 3 _
    · exact foldl_max_le _ 0 _ (Nat.zero_le _) fun x hx => of_decide_eq_true (List.mem_filter.mp hx).2

theorem pairNo_lt (pr : Pair) : pairNo pr < 2 := by cases pr <;> decide

section
variable (s : State)

theorem opChangeDone_yields (pr : Pair) (t : Nat) (h : vget s.isl.opTarget (pairNo pr) = some t) : yields (.opChangeDone pr) s fun u =>
    vget u.isl.opCur (pairNo pr) = t ∧ vget u.isl.opTarget (pairNo pr) = none ∧ vget u.isl.opHalved (pairNo pr) = false ∧
    u = { s with isl := u.isl } := by
  have hn := pairNo_lt pr
  have hexec : exec (.opChangeDone pr) s = execOpChangeDone pr s := rfl
  unfold execOpChangeDone at hexec
  dsimp only at hexec
  rw [h] at hexec
  exact ⟨_, hexec, vget_vset_same _ _ _ hn, vget_vset_same _ _ _ hn, vget_vset_same _ _ _ hn, rfl⟩

/-- A rail that is measured permits its point of R40's table, which bounds where the pair is bound. -/
theorem railBelowPoint_yields (pr : Pair) (mv : Nat) (h : mv < opMin (vget s.isl.opCur (pairNo pr))) :
    yields (.railBelowPoint pr mv) s fun u => vget u.isl.opHalved (pairNo pr) = true ∧ vget u.isl.opMax (pairNo pr) = opPermit mv ∧
      vget u.isl.railAvg (pairNo pr) = mv ∧ vget u.isl.opCur (pairNo pr) = vget s.isl.opCur (pairNo pr) ∧
      ∀ q, vget u.isl.opTarget (pairNo pr) = some q → q ≤ opPermit mv := by
  have hn := pairNo_lt pr
  refine ⟨_, congrArg Host.Outcome.next (if_pos h), ?_⟩
  dsimp only
  rw [setLeaf_keeps isl_apart_tamper.toApartFromReports]
  generalize pairNo pr = n at hn
  unfold railIs
  generalize hu : setIsl (fun k => { k with railAvg := vset k.railAvg n mv, opMax := vset k.opMax n (opPermit mv) })
    (setIsl (fun k => { k with opHalved := vset k.opHalved n true }) s) = u
  have hmax : vget u.isl.opMax n = opPermit mv := by subst hu; exact vget_vset_same _ _ _ hn
  refine ⟨?_, hmax, ?_, ?_, fun q hq => ?_⟩
  · subst hu; exact vget_vset_same _ _ _ hn
  · subst hu; exact vget_vset_same _ _ _ hn
  · subst hu; rfl
  · have htarget : vget (opEval n u).isl.opTarget n = if opPick u n = vget u.isl.opCur n then none else some (opPick u n) :=
      vget_vset_same _ _ _ hn
    rw [htarget] at hq
    split at hq
    · cases hq
    · cases hq
      exact hmax ▸ opPick_le u n

end

/-! ### OP_REQUEST (R41, R119) -/

/-- A result that a call gets shows in its person's mailbox (R321). -/
theorem callResult_answered (c p svc : Nat) (arg : Word) (code : Nat) (s t : State) (hp : p < 7) (ht : t.oru = s.oru) :
    answered p svc code s (callResult c p svc arg code t) := by
  have hmbox : (callResult c p svc arg code t).mbox p = { t.mbox p with svc := svc, res := code, calls := (t.mbox p).calls + 1 } :=
    (callResult_keeps (g := fun u => u.mbox p) ⟨fun _ _ => rfl, fun _ _ => rfl, fun _ _ => rfl⟩ c p svc arg code t).trans
      (vget_vset_same _ _ _ hp)
  unfold answered
  rw [hmbox, State.mbox, ht]
  exact ⟨rfl, rfl, rfl⟩

theorem callResult_isl (c p svc : Nat) (arg : Word) (code : Nat) (s : State) : (callResult c p svc arg code s).isl = s.isl :=
  callResult_keeps (g := State.isl) ⟨fun _ _ => rfl, fun _ _ => rfl, fun _ _ => rfl⟩ c p svc arg code s

/-- A call that is taken up and stamped: the arrival number goes on. -/
theorem callTaken_isl (c p : Nat) (s : State) : (callTaken c p s).isl = { s.isl with arrival := s.isl.arrival + 1 } :=
  takeCall_keeps (g := State.isl) ⟨fun _ _ => rfl, fun _ _ => rfl, fun _ _ => rfl⟩ c p _

theorem callTaken_oru (c p : Nat) (s : State) : (callTaken c p s).oru = s.oru :=
  takeCall_keeps (g := State.oru) ⟨fun _ _ => rfl, fun _ _ => rfl, fun _ _ => rfl⟩ c p _

/-- A call whose result is known at once is taken up, acts, and gets its result. -/
theorem serveNow_of_caller {core : Fin 4} {svc p : Nat} {arg : Word} {s : State} (h : callerOf s core.val svc arg = some p)
    (f : Nat → State → Nat × State) (code : Nat) (t : State) (hf : f p (callTaken core.val p s) = (code, t)) (hcode : code ≠ 201) :
    serveNow core svc arg f s = callResult core.val p svc arg code t := by
  unfold serveNow serve
  rw [h]
  dsimp only
  rw [show takeCall core.val p (stampArrival s) = callTaken core.val p s from rfl, hf]
  dsimp only
  split
  · rfl
  · exact congrArg (callResult core.val p svc arg code) (if_neg hcode)

section
variable {core : Fin 4} {p : Nat} {arg : Word} {s : State} (hc : callerOf s core.val 0x01 arg = some p) (hp : p < 7)
include hc hp

theorem opRequest_point_yields (h5 : arg.toNat % 8 ≠ 5) (h6 : arg.toNat % 8 ≠ 6) : yields (.opRequest core arg) s fun u =>
    vget (vget u.isl.opReq (core.val / 2)) p = arg.toNat % 8 ∧ answered p 0x01 0 s u := by
  have hv : bits arg 2 0 = arg.toNat % 8 := bits_low arg 2
  let t := callTaken core.val p s
  let r := opEval (pairOf core.val) (setIsl (fun k => { k with
    opReq := vmod k.opReq (pairOf core.val) fun l => vset l p (bits arg 2 0) }) t)
  have hexec := serveNow_of_caller hc (fun p s => opRequest core.val p arg s) 0 r (if_neg (by rw [hv]; omega)) (by decide)
  refine ⟨_, congrArg Host.Outcome.next hexec, ?_, callResult_answered _ _ _ _ _ s r hp (callTaken_oru core.val p s)⟩
  rw [callResult_isl]
  have hpair : core.val / 2 < 2 := by omega
  have hreq : r.isl.opReq = vmod t.isl.opReq (core.val / 2) fun l => vset l p (bits arg 2 0) := rfl
  rw [hreq, vmod, vget_vset_same _ _ _ hpair, vget_vset_same _ _ _ (by omega), hv]

theorem opRequest_refused_yields (h : arg.toNat % 8 = 5 ∨ arg.toNat % 8 = 6) : yields (.opRequest core arg) s fun u =>
    u.isl.opReq = s.isl.opReq ∧ answered p 0x01 302 s u := by
  have hv : bits arg 2 0 = arg.toNat % 8 := bits_low arg 2
  have hexec := serveNow_of_caller hc (fun p s => opRequest core.val p arg s) 302 (callTaken core.val p s)
    (if_pos (by rw [hv]; exact h)) (by decide)
  refine ⟨_, congrArg Host.Outcome.next hexec, ?_, callResult_answered _ _ _ _ _ s _ hp (callTaken_oru core.val p s)⟩
  rw [callResult_isl, callTaken_isl]

end

/-- Settles O25: what is lost and found of the reference is `refLost_gone` and `refBack_locked`; a point is bounded by `opPick_le`. -/
theorem referenceAndOperatingPoints : Obligations.ReferenceAndOperatingPoints := by
  unfold Obligations.ReferenceAndOperatingPoints
  refine ⟨fun s hz unbroken present => ⟨refFault_yields s, refFault_unarmed_yields s, refCompare_off_yields s hz unbroken,
      refCompare_in_yields s hz unbroken, clockCheckArm_present_yields s present, clockCheckArm_absent_yields s present⟩,
    fun s pr p mv t core arg => ⟨opChangeDone_yields s pr t, railBelowPoint_yields s pr mv, fun hc hp => opRequest_point_yields hc hp,
      fun hc hp => opRequest_refused_yields hc hp⟩⟩

end Sys2Proof.Machine
end

section
/-! SUPPORT. A custody syllable on a core free to issue, up to what the custody controller answers (R91, R148 to R151, R154, R182). -/

namespace Sys2Proof.Machine

/-! ### A sentence of one syllable comes to its faults (R91) -/

/-- What `quiet` says beside `quiet_parts`: no store's fault, no interrupt and no custody operation waits, and the sentence lies in the
window. -/
theorem quiet_rest {c n : Nat} {s : State} (h : quiet c n s = true) :
    (s.ctx c (curOf c s)).storeFaults = [] ∧ s.cus.held = none ∧ (s.ctx c (curOf c s)).cus = none ∧ irqDue s c = false ∧
      s.inWindow c (curOf c s) (s.ctx c (curOf c s)).pc.toNat (4 * n) = true := by
  simp only [quiet, Bool.and_eq_true, Bool.not_eq_true', Option.isNone_iff_eq_none, List.isEmpty_iff] at h
  obtain ⟨⟨⟨⟨⟨⟨⟨⟨⟨⟨_, hsf⟩, _⟩, _⟩, _⟩, _⟩, _⟩, hheld⟩, hcus⟩, hirq⟩, hwin⟩ := h
  exact ⟨hsf, hheld, hcus, hirq, hwin⟩

/-- Landing what is due changes registers and the results in flight of a context only. -/
theorem seen_shape (c : Nat) (s : State) :
    ∃ a b d e i, seen c s = { s.ctx c (curOf c s) with w := a, x := b, p := d, acc := e, infl := i } := landDue_shape _

/-- On a core free to issue, a sentence of one syllable that breaks no rule comes to its own faults, waits and effects. -/
theorem issue_legal (c : Nat) (y : Syl) (s : State) (hc : c < 4) (hq : quiet c (oneSyllable y).len s = true)
    (hbad : (oneSyllable y).bad = none) :
    issue c (some (oneSyllable y)) s =
      trySwitch c (mirrorTrail c (curOf c s) (issueLegal c (curOf c s) (seen c s) (oneSyllable y) (landed c s))) := by
  obtain ⟨hl, hw, hbr, -, hd, -, -, hlo, hca, -, hwi⟩ := quiet_parts hq
  obtain ⟨hsf, -, hcu, hirq, hwin⟩ := quiet_rest hq
  obtain ⟨_, _, _, _, _, hseen⟩ := seen_shape c s
  have hctx := ctx_landed c s hc hl
  have hcur : ((landed c s).core c).cur = curOf c s := curOf_setCtx c _ _ s hc
  have hbr0 : (s.ctx c (curOf c s)).br = none := by rw [hseen] at hbr; exact hbr
  have hland : setCtx c (curOf c s) landNow s = landed c s := by
    apply setCtx_congr
    show landNow _ = seen c s
    unfold landNow
    rw [show landDue (s.ctx c (curOf c s)) = seen c s from rfl]
    dsimp only
    rw [hd]
  have hirq' : irqDue (landed c s) c = false := by
    rw [← hirq]
    simp only [irqDue, hcur, show ((landed c s).core c).cand = (s.core c).cand by simp only [landed, setCtx, core_setCore _ _ _ hc], hctx]
    rw [hseen]
    rfl
  have hwin' : (landed c s).inWindow c (curOf c s) (seen c s).pc.toNat (4 * (oneSyllable y).len) = true := by
    simp only [State.inWindow, hctx]
    rw [hseen]
    exact hwin
  have hill : illegalOf (seen c s) (oneSyllable y) = none := by
    simp only [illegalOf, hbr, hbad]
    rfl
  have hstall : regStall (seen c s) (oneSyllable y).syls = false := by
    have hn : touches y [] = false := List.any_eq_false.2 fun r _ => by cases r <;> simp
    simp only [regStall, outstanding, hlo, hca, hd, oneSyllable, List.any_cons, List.any_nil, List.flatMap_nil, List.map_nil,
      List.append_nil, hn, Bool.or_false]
  have hjoin : joinTrail c s = s := by
    have hwi0 : (s.witnessOn (s.core c).cur).isNone = true := hwi
    simp only [joinTrail, hwi0, Bool.true_or, if_true]
  unfold issue
  dsimp only
  rw [hjoin, show (s.core c).cur = curOf c s from rfl, hl, leaving_none s c _ hbr0, hw]
  simp only [Bool.not_true, Bool.false_eq_true, if_false]
  rw [hland, hctx]
  unfold attempt
  have hsf' : (seen c s).storeFaults = [] := by rw [hseen]; exact hsf
  have hcu' : (seen c s).cus = none := by rw [hseen]; exact hcu
  simp only [hcu', Option.isSome_none, hirq', hsf', List.isEmpty_nil, Bool.not_true, Bool.false_eq_true, if_false, hwin', hill, hstall]

/-! ### A store buffer with nothing in it (R167) -/

theorem setCore_self (c : Nat) (f : Core → Core) (s : State) (h : f (s.core c) = s.core c) : setCore c f s = s := by
  have hv : vmod s.cores c f = s.cores := (congrArg (vset s.cores c) h).trans (vset_vget _ _)
  unfold setCore
  rw [hv]

/-- An empty buffer has nothing to drain. -/
theorem drainAll_empty (c : Nat) (s : State) (h : (s.core c).sb = []) : drainAll c s = s := by
  have hdue : allDue (s.core c) = s.core c := by rw [allDue, h, List.map_nil, ← h]
  rw [drainAll, setCore_self c allDue s hdue, drain, h]
  rfl

/-- A syllable without results changes no register as it issues. -/
theorem putResults_none (x : Ctx) (ct : Bool) (now : Nat) (y : Syl) (h : evalUnit x ct y = {}) : putResults x ct now [(0, y)] x = x := by
  have hall : putResults x ct now [(0, y)] x = { x with flags := flagsOr x.flags {}, fpPending := x.fpPending || false } := by
    simp only [putResults, forAll_one, h]
    rfl
  rw [hall, flagsOr_none, Bool.or_false]

/-- The controller, free, answers an operation that it neither refuses nor holds: its effect, then the status for the core (R149). -/
theorem cusServe_answers (c p : Nat) (r : CusRun) (s : State) (hheld : s.cus.held = none)
    (hans : cusCheck s r.kind c p r.addr r.recip ≠ .fault)
    (hfull : cusCheck s r.kind c p r.addr r.recip = .done → cusQueueFull s r.kind c p r.addr = false) :
    cusServe c p r s = setCtx c p (fun x => advance r.next
      { x with infl := insertFl { due := x.seq, wr := .w r.dest (w32 (cusStatus (cusCheck s r.kind c p r.addr r.recip))) false } x.infl })
      (cusEffect (cusCheck s r.kind c p r.addr r.recip) r.kind c p r.addr r.recip
        (setCtx c p (fun x => { x with cus := none }) (stampArrival s))) := by
  have hnone : s.cus.held ≠ some c := by rw [hheld]; exact nofun
  have hdrop : dropHeld c (stampArrival s) = stampArrival s := if_neg hnone
  have hcheck : cusCheck (stampArrival s) r.kind c p r.addr r.recip = cusCheck s r.kind c p r.addr r.recip := rfl
  have hqueue : cusQueueFull (stampArrival s) r.kind c p r.addr = cusQueueFull s r.kind c p r.addr := rfl
  unfold cusServe
  dsimp only
  rw [if_neg hnone, hcheck, hqueue, hdrop, if_neg (fun hd => Bool.noConfusion (hd.2.symm.trans (hfull hd.1))), if_neg hans]

/-! ### What a custody syllable asks for (R120, R148) -/

/-- A custody syllable on a core ready for it, none of whose own stores is under way. -/
structure Custody (c : Nat) (y : Syl) (k : CusKind) (a q : Nat) (s : State) : Prop where
  core : c < 4
  ready : quiet c 1 s = true
  len : (oneSyllable y).len = 1
  legal : (oneSyllable y).bad = none
  guard : guardOn (seen c s) y = true
  unit : y.unit = .b
  op : y.op = .claim ∨ y.op = .give ∨ y.op = .free
  req : cusReq (seen c s) y = some (k, a, q)
  clean : poisonOf (seen c s) [(0, y)] = none
  buffer : (s.core c).sb = []
  flight : ownInFlight s c = []

section
variable {c : Nat} {y : Syl} {k : CusKind} {a q : Nat} {s : State} (h : Custody c y k a q s)
include h

theorem Custody.ofOp {P : Op → Prop} (hc : P .claim) (hg : P .give) (hf : P .free) : P y.op := by
  rcases h.op with e | e | e <;> rw [e] <;> assumption

theorem Custody.noAcc : accOf (seen c s) y = none := by
  have hop : (isLoad y.op || isStore y.op) = false := h.ofOp (P := fun o => (isLoad o || isStore o) = false) rfl rfl rfl
  rw [accOf, hop]
  rfl

theorem Custody.asks (l : List (Nat × Syl)) : cusOf (seen c s) ((0, y) :: l) = some (0, y, k, a, q) := by
  simp [cusOf, firstOf, h.req]

/-- The only fault of its own is the controller's refusal (R150). -/
theorem Custody.faultOf_eq : faultOf (landed c s) c (curOf c s) (seen c s) [(0, y)] =
    if cusCheck s k c (curOf c s) a q = .fault then some { code := 9, info := (seen c s).rw y.s1.toNat } else none := by
  have hrow : (landed c s).row (curOf c s) = s.row (curOf c s) := rfl
  have hpriv : privOf [(0, y)] = none := by
    have hne := h.ofOp (P := fun o => o ≠ .mtc) (by decide) (by decide) (by decide)
    simp [privOf, firstOf, hne]
  have hflow : ∀ m, flowFault (seen c s) m [(0, y)] = none := fun m => by
    have hne := h.ofOp (P := fun o => o ≠ .loop) (by decide) (by decide) (by decide)
    have hrs : rsFault (seen c s) m y.op = false := h.ofOp (P := fun o => rsFault (seen c s) m o = false) rfl rfl rfl
    simp [flowFault, firstOf, hne, hrs]
  have hacc : ∀ n f, accFault (seen c s) [(0, y)] n f = none := fun n f => by simp [accFault, firstOf, h.noAcc]
  have hdivz : divzOf (seen c s) [(0, y)] = none := by
    have hdiv : isDivide y.op = false := h.ofOp (P := fun o => isDivide o = false) rfl rfl rfl
    simp [divzOf, firstOf, hdiv]
  have hfp : ∀ r, fpOf (seen c s) r [(0, y)] = none := fun r => by
    have hunit : evalUnit (seen c s) r.constTime y = {} := by rw [evalUnit, h.unit]
    have htrap : ({} : Sticky).trap = false := rfl
    simp [fpOf, firstOf, hunit, htrap]
  have hcus : bCustody (landed c s) c (curOf c s) (seen c s) [(0, y)] =
      if cusCheck s k c (curOf c s) a q = .fault then some { code := 9, info := (seen c s).rw y.s1.toNat } else none := by
    have hne := h.ofOp (P := fun o => o ≠ .publish) (by decide) (by decide) (by decide)
    have hsame : cusCheck (landed c s) k c (curOf c s) a q = cusCheck s k c (curOf c s) a q := rfl
    simp [bCustody, firstOf, hne, h.req, hsame]
  unfold faultOf
  simp only [hrow, hpriv, h.clean, hflow, hacc, hcus, hdivz, hfp]
  simp

/-- Nothing holds it back but a queue that is full (R154). -/
theorem Custody.held_eq : cusHeld (landed c s) c (curOf c s) (seen c s) [(0, y)] =
    (decide (cusCheck s k c (curOf c s) a q = .done) && cusQueueFull s k c (curOf c s) a) := by
  have hsb : ((landed c s).core c).sb = [] := by simp only [landed, setCtx, core_setCore _ _ _ h.core, h.buffer]
  have hflight : ownInFlight (landed c s) c = [] := h.flight
  have hheld : (landed c s).cus.held = none := (quiet_rest h.ready).2.1
  have hcheck : cusCheck (landed c s) k c (curOf c s) a q = cusCheck s k c (curOf c s) a q := rfl
  have hfull : cusQueueFull (landed c s) k c (curOf c s) a = cusQueueFull s k c (curOf c s) a := rfl
  simp only [cusHeld, inUnitOrder_one, h.asks, hsb, hflight, hheld, hcheck, hfull, List.isEmpty_nil, Bool.not_true, Bool.false_or]

theorem Custody.noStall : memStall (landed c s) c (curOf c s) (seen c s) [(0, y)] = false := by
  have hacc : sharedAccs (landed c s) c (curOf c s) (seen c s) [(0, y)] = [] := by simp [sharedAccs, inUnitOrder_one, h.noAcc]
  have hne := h.ofOp (P := fun o => o ≠ .scall) (by decide) (by decide) (by decide)
  simp [memStall, hacc, hne, h.noAcc]

/-- An operation that is not refused goes to the controller, with the registers as its sentence leaves them. -/
theorem Custody.goes (hans : cusCheck s k c (curOf c s) a q ≠ .fault)
    (hfull : cusCheck s k c (curOf c s) a q = .done → cusQueueFull s k c (curOf c s) a = false) :
    issueLegal c (curOf c s) (seen c s) (oneSyllable y) (landed c s) =
      issueGo c (curOf c s) (seen c s) (oneSyllable y) [(0, y)] (landed c s) := by
  have hsyls : (oneSyllable y).syls = [(0, y)] := rfl
  have hfp : (seen c s).fpPending = false := (quiet_parts h.ready).2.2.2.2.2.1
  have hex : inUnitOrder ([(0, y)].filter fun r => guardOn (seen c s) r.2) = [(0, y)] := by
    simp only [List.filter_cons, h.guard, if_true, List.filter_nil, inUnitOrder_one]
  have hheld : cusHeld (landed c s) c (curOf c s) (seen c s) [(0, y)] = false := by
    rw [h.held_eq]
    by_cases hd : cusCheck s k c (curOf c s) a q = .done
    · rw [hfull hd, Bool.and_false]
    · rw [decide_eq_false hd, Bool.false_and]
  have hwit : (landed c s).witnessOn (curOf c s) = none := Option.isNone_iff_eq_none.mp (quiet_parts h.ready).2.2.2.2.2.2.2.2.2.2
  unfold issueLegal
  dsimp only
  rw [hsyls, hex, h.faultOf_eq, if_neg hans]
  simp only [barrierOf, hfp, h.noStall, hheld, issuePair, hwit, Bool.false_eq_true, if_false]

/-- The registers of a core that waits for the custody controller. -/
def awaiting (x : Ctx) (r : CusRun) : Ctx :=
  { x with seq := x.seq + 1, sentences := x.sentences + 1, cycles := x.cycles + 1, cus := some r }

/-- The operation as its core sends it. -/
def cusRunOf (c : Nat) (y : Syl) (k : CusKind) (a q : Nat) (s : State) : CusRun :=
  { kind := k, addr := a, recip := q, dest := y.d.toNat, next := (seen c s).pc + w32 4, hold := (s.core c).stamp }

theorem Custody.issueGo_eq : issueGo c (curOf c s) (seen c s) (oneSyllable y) [(0, y)] (landed c s) =
    cusTry c (curOf c s) (setCtx c (curOf c s) (fun _ => awaiting (seen c s) (cusRunOf c y k a q s)) s) := by
  have hsyls : (oneSyllable y).syls = [(0, y)] := rfl
  have hp := cur_lt c s (quiet_parts h.ready).1
  have hstamp : ∀ f, ((setCtx c (curOf c s) f s).core c).stamp = (s.core c).stamp := fun f => by
    simp only [setCtx, core_setCore _ _ _ h.core]
  have hput : ∀ ct now, putResults (seen c s) ct now [(0, y)] (seen c s) = seen c s := fun ct now =>
    putResults_none _ _ _ _ (by rw [evalUnit, h.unit])
  have haddr : ∀ z, putAddr (seen c s) y z = z := fun z => by
    have hres : addrRes (seen c s) y = [] := by rcases h.op with e | e | e <;> simp only [addrRes, e]
    rw [putAddr_res _ _ _ h.noAcc, hres]
    rfl
  unfold issueGo
  simp only [hsyls, bankClash_one _ _ _ _ _ h.noAcc, h.asks, List.filterMap_cons, List.filterMap_nil, h.noAcc, List.filter_nil,
    Bool.false_eq_true, if_false, forAll_nil, forAll_one, setCtx_setCtx _ _ _ _ _ h.core hp]
  rw [drainAll_empty]
  · refine congrArg (cusTry c (curOf c s)) ?_
    unfold landed
    simp only [setCtx_setCtx _ _ _ _ _ h.core hp]
    refine setCtx_congr _ _ _ _ _ ?_
    rw [hput, haddr, hstamp, h.len]
    rfl
  · simp only [setCtx, landed, core_setCore _ _ _ h.core, h.buffer]

/-- With nothing before it, the operation reaches the controller at once (R148, R168, R182). -/
theorem Custody.try_serves : cusTry c (curOf c s) (setCtx c (curOf c s) (fun _ => awaiting (seen c s) (cusRunOf c y k a q s)) s) =
    cusServe c (curOf c s) (cusRunOf c y k a q s) (setCtx c (curOf c s) (fun _ => awaiting (seen c s) (cusRunOf c y k a q s)) s) := by
  obtain ⟨hl, -, -, -, -, -, -, hlo, hca, -, -⟩ := quiet_parts h.ready
  let t := setCtx c (curOf c s) (fun _ => awaiting (seen c s) (cusRunOf c y k a q s)) s
  have hctx : t.ctx c (curOf c s) = awaiting (seen c s) (cusRunOf c y k a q s) := ctx_setCtx _ _ _ _ h.core (cur_lt c s hl)
  have hbefore : ∀ n, storesBefore t c n = false := fun n => by
    have hsb : (t.core c).sb = [] := by simp only [t, setCtx, core_setCore _ _ _ h.core, h.buffer]
    have hflight : ownInFlight t c = [] := h.flight
    simp only [storesBefore, hsb, hflight, List.any_nil, Bool.or_false]
  have hloads : (awaiting (seen c s) (cusRunOf c y k a q s)).loads = [] := hlo
  have hcalls : (awaiting (seen c s) (cusRunOf c y k a q s)).calls = [] := hca
  have hcus : (awaiting (seen c s) (cusRunOf c y k a q s)).cus = some (cusRunOf c y k a q s) := rfl
  have hheld : t.cus.held = none := (quiet_rest h.ready).2.1
  show cusTry c (curOf c s) t = _
  simp only [cusTry, hctx, hcus, hbefore, hloads, hcalls, hheld, List.isEmpty_nil, Bool.not_true, Bool.and_false, Bool.or_false,
    Bool.false_eq_true, if_false]
  rfl

end

end Sys2Proof.Machine
end

section
/-! SUPPORT. What the answers of the custody controller leave of the device (R148 to R151). -/

namespace Sys2Proof.Machine

/-! ### The core that asked -/

theorem ctx_setCtx_other (c p d r : Nat) (f : Ctx → Ctx) (s : State) (hc : c < 4) (h : d ≠ c ∨ r ≠ p) :
    (setCtx d r f s).ctx c p = s.ctx c p := by
  by_cases hd : d = c
  · subst hd
    simp only [State.ctx, setCtx, core_setCore _ _ _ hc, vmod, vget_vset_other _ _ _ _ (Ne.symm (h.resolve_left fun n => n rfl))]
  · simp only [State.ctx, setCtx, core_setCore_other _ _ _ _ (Ne.symm hd)]

/-- What decides whether a core moves on: its stores, whom it runs, whether a switch is due, and that person's registers. -/
def standing (c p : Nat) (s : State) : List SbEntry × Nat × Bool × Ctx :=
  ((s.core c).sb, (s.core c).cur, (s.core c).switchDue, s.ctx c p)

/-- A core without a switch due, whose person does not wait, keeps it (R95). -/
theorem trySwitch_idle (c : Nat) (s : State) (hdue : (s.core c).switchDue = false) (hw : (s.ctx c (curOf c s)).waiting = false) :
    trySwitch c s = s := by
  unfold trySwitch
  simp only [hdue, show (s.ctx c (s.core c).cur).waiting = false from hw, Bool.false_and, Bool.or_false, Bool.not_false, Bool.true_or, if_true]
  split <;> simp

/-- Nothing follows on a core without a switch due, whose person is no witness person and does not wait (R95, R188). -/
theorem settle_standing (c p : Nat) (s : State) (x : Ctx) (b : List SbEntry) (h : standing c p s = (b, p, false, x)) (hw : s.witnessOn p = none)
    (hx : x.waiting = false) : trySwitch c (mirrorTrail c p s) = s := by
  simp only [standing, Prod.mk.injEq] at h
  obtain ⟨-, hcur, hdue, hctx⟩ := h
  have hm : mirrorTrail c p s = s := by
    unfold mirrorTrail
    rw [hw]
    rfl
  rw [hm]
  exact trySwitch_idle c s hdue (by rw [curOf, hcur, hctx, hx])

/-- The same, where that person's registers have just been set. -/
theorem settle_set (c p : Nat) (s : State) (x z : Ctx) (hc : c < 4) (hp : p < 7) (b : List SbEntry)
    (h : standing c p s = (b, p, false, x)) (hw : s.witnessOn p = none) (hz : z.waiting = false) :
    trySwitch c (mirrorTrail c p (setCtx c p (fun _ => z) s)) = setCtx c p (fun _ => z) s := by
  refine settle_standing c p _ z b ?_ hw hz
  rw [standing, ctx_setCtx _ _ _ _ hc hp]
  simp only [setCtx, core_setCore _ _ _ hc]
  exact congrArg (fun r => (r.1, r.2.1, r.2.2.1, z)) h

/-- A person on a core ends its WAIT where a candidate other than a withdrawal has come (R116). -/
def woken (d r src : Nat) (s : State) : State :=
  if src ≠ 0 ∧ (s.ctx d r).waiting then setCtx d r (fun x => { x with waiting := false }) s else s

theorem candLands_eq (t : CandTxn) (s : State) : candLands t s =
    let u := woken t.core t.person t.src (setCore t.core (fun k => { k with cand := vset k.cand t.person t.src }) s)
    if (u.witnessOn t.person).isSome then woken (t.core + 1) t.person t.src u else u := rfl

section
variable (c p : Nat) (hc : c < 4)
include hc

theorem woken_standing (d r src : Nat) (s : State) (hw : (s.ctx c p).waiting = false) :
    standing c p (woken d r src s) = standing c p s := by
  unfold woken
  split
  · next hon =>
    have hne : d ≠ c ∨ r ≠ p := by
      by_contra hsame
      simp only [not_or, not_not] at hsame
      rw [hsame.1, hsame.2, hw] at hon
      exact Bool.noConfusion hon.2
    rw [standing, ctx_setCtx_other c p d r _ s hc hne]
    by_cases hd : d = c
    · subst hd
      simp only [standing, setCtx, core_setCore _ _ _ hc]
    · simp only [standing, setCtx, core_setCore_other _ _ _ _ (Ne.symm hd)]
  · rfl

/-- A candidate that lands wakes who waits, and no one else. -/
theorem candLands_standing (t : CandTxn) (s : State) (hw : (s.ctx c p).waiting = false) :
    standing c p (candLands t s) = standing c p s := by
  let u := setCore t.core (fun k => { k with cand := vset k.cand t.person t.src }) s
  have hu : standing c p u = standing c p s := by
    by_cases hd : t.core = c
    · simp only [standing, State.ctx, u, hd, core_setCore _ _ _ hc]
    · simp only [standing, State.ctx, u, core_setCore_other _ _ _ _ (Ne.symm hd)]
  have hwake : ∀ (d : Nat) (z : State), standing c p z = standing c p s → standing c p (woken d t.person t.src z) = standing c p s :=
    fun d z hz => by
      have hctx : z.ctx c p = s.ctx c p := congrArg (fun r => r.2.2.2) hz
      exact (woken_standing c p hc d t.person t.src z (by rw [hctx, hw])).trans hz
  rw [candLands_eq]
  dsimp only
  split
  · exact hwake _ _ (hwake _ _ hu)
  · exact hwake _ _ hu

omit hc in
/-- What leaves the standing of a core that does not wait, step by step, leaves it. -/
theorem forAll_standing {α : Type} (l : List α) (f : α → State → State) (s : State) (hw : (s.ctx c p).waiting = false)
    (h : ∀ a t, (t.ctx c p).waiting = false → standing c p (f a t) = standing c p t) : standing c p (forAll l f s) = standing c p s := by
  induction l generalizing s with
  | nil => rfl
  | cons a r ih =>
    have ha := h a s hw
    exact (ih (f a s) (by rw [show (f a s).ctx c p = s.ctx c p from congrArg (fun z => z.2.2.2) ha, hw])).trans ha

theorem gateLines_standing (writer : Option Nat) (lines : List Nat) (s : State) (hw : (s.ctx c p).waiting = false) :
    standing c p (gateLines writer lines s) = standing c p s := by
  refine forAll_standing c p _ _ s hw fun pr t ht => ?_
  dsimp only
  split
  · unfold gateFlush
    dsimp only
    split
    · exact forAll_keeps (standing c p) _ _ _ fun _ _ => rfl
    · exact forAll_standing c p _ _ { t with gates := { t.gates with fPair := vset t.gates.fPair pr [] } } ht fun q u hu =>
        candLands_standing c p hc q u hu
  · rfl

theorem cusMove_standing (o : CusObj) (cs : List Nat) (code : BitVec 4) (zero : Bool) (s : State) (hw : (s.ctx c p).waiting = false) :
    standing c p (cusMove o cs code zero s) = standing c p s := by
  cases o with
  | page n =>
    have hqueue : standing c p (if zero = true then queuePage n (setPageOwner n code s) else setPageOwner n code s) = standing c p s := by
      split <;> rfl
    have hmap : ∀ t, standing c p (mapCores (fun _ k => dropPage n k) t) = standing c p t := fun t => by
      simp [standing, State.ctx, State.core, mapCores, vget, hc, dropPage]
    exact (hmap _).trans ((gateLines_standing c p hc _ _ _ (by split <;> exact hw)).trans hqueue)
  | bank b => exact forAll_keeps (standing c p) _ _ _ fun d t => by split <;> rfl

theorem cusEffect_standing (ans : CusAns) (k : CusKind) (d r a q : Nat) (s : State) (hw : (s.ctx c p).waiting = false) :
    standing c p (cusEffect ans k d r a q s) = standing c p s := by
  have hg : ApartFromReports (standing c p) := ⟨fun _ _ => rfl, fun _ _ => rfl, fun _ _ => rfl, fun _ _ => rfl, fun _ _ _ => rfl⟩
  unfold cusEffect
  split
  · exact (logEvent_keeps hg _ _ _ _ _).trans (setLeaf_keeps hg 10 1 _)
  · exact (logEvent_keeps hg _ _ _ _ _).trans (setLeaf_keeps hg 10 0 _)
  · rfl
  · unfold cusDo
    split
    · rfl
    · split <;> exact cusMove_standing c p hc _ _ _ _ s hw

end

end Sys2Proof.Machine
end

section
/-! The obligation on CLAIM, GIVE and FREE of pages, answer by answer (R37, R148 to R152). -/

namespace Sys2Proof.Machine

/-! ### What an answer leaves (R148, R150, R151) -/

/-- A part of the state that neither a report nor a core nor the controller is in. -/
structure ApartFromCustody {β : Type} (g : State → β) : Prop extends ApartFromReports g, ApartFromCores g where
  cus : ∀ v t, g { t with cus := v } = g t

section
variable {β : Type} {g : State → β} (hg : ApartFromCustody g)
include hg

theorem cusMove_keeps (o : CusObj) (cs : List Nat) (code : BitVec 4) (zero : Bool) (s : State) : g (cusMove o cs code zero s) = g s := by
  cases o with
  | page n =>
    refine (hg.cores _ _).trans ((gateLines_keeps hg.toApartFromCores _ _ _).trans ?_)
    split
    · exact (hg.cus _ _).trans (hg.cus _ s)
    · exact hg.cus _ s
  | bank b =>
    refine forAll_keeps g _ _ s fun d t => ?_
    split
    · exact (hg.cus _ _).trans (hg.cus _ t)
    · exact hg.cus _ t

theorem cusEffect_keeps (ans : CusAns) (k : CusKind) (c p a q : Nat) (s : State) : g (cusEffect ans k c p a q s) = g s := by
  have hr := hg.toApartFromReports
  unfold cusEffect
  split
  · exact (logEvent_keeps hr _ _ _ _ _).trans ((setLeaf_keeps hr 10 1 _).trans ((hg.cus _ _).trans (hg.cus _ s)))
  · exact (logEvent_keeps hr _ _ _ _ _).trans ((setLeaf_keeps hr 10 0 _).trans ((hg.cus _ _).trans (hg.cus _ s)))
  · rfl
  · unfold cusDo
    split
    · rfl
    · split <;> exact cusMove_keeps hg _ _ _ _ s

end

section
variable (s : State)

theorem cus_apart_reports : ApartFromReports State.cus :=
  ⟨fun _ _ => rfl, fun _ _ => rfl, fun _ _ => rfl, fun _ _ => rfl, fun _ _ _ => rfl⟩

theorem doubleFree_cus (c p a : Nat) : (doubleFree c p a s).cus =
    { s.cus with doubleFree := satInc s.cus.doubleFree 0xFFFF, last := w32 (7 * 32 + c * 8 + p), lastAddr := w32 a } :=
  (logEvent_keeps cus_apart_reports _ _ _ _ _).trans (setLeaf_keeps cus_apart_reports 10 0 _)

theorem foreignFree_cus (kind c p a : Nat) : (foreignFree kind c p a s).cus =
    { s.cus with foreignFree := satInc s.cus.foreignFree 0xFFFF, last := w32 (kind * 32 + c * 8 + p), lastAddr := w32 a } :=
  (logEvent_keeps cus_apart_reports _ _ _ _ _).trans (setLeaf_keeps cus_apart_reports 10 1 _)

/-- A refusal is one event. -/
theorem foreignFree_elogNext (kind c p a : Nat) : (foreignFree kind c p a s).stw.elogNext = s.stw.elogNext + 1 := by
  have hleaf : ∀ t, (setLeaf 10 1 t).stw = t.stw := fun t => by
    unfold setLeaf setLeafD
    split_ifs <;> rfl
  exact congrArg (fun z => z.elogNext + 1) (hleaf _)

/-- A page that moves gets its new owner and is queued where it left one. -/
theorem cusMove_page_cus (n : Nat) (cs : List Nat) (code : BitVec 4) (zero : Bool) (h : s.cus.pageZero.contains n = false) :
    (cusMove (.page n) cs code zero s).cus =
      { s.cus with page := vset s.cus.page n code, pageZero := if zero then s.cus.pageZero ++ [n] else s.cus.pageZero } := by
  refine (gateLines_keeps (g := State.cus) ⟨fun _ _ => rfl, fun _ _ => rfl, fun _ _ => rfl⟩ _ _ _).trans ?_
  cases zero
  · rfl
  · simp only [queuePage, setPageOwner, h, if_true, Bool.false_eq_true, if_false]

end

/-! ### The sentence as a whole -/

/-- The registers of a core once its sentence has gone to the controller. -/
def asked (x : Ctx) : Ctx := { x with seq := x.seq + 1, sentences := x.sentences + 1, cycles := x.cycles + 1, cus := none }

section
variable {c : Nat} {y : Syl} {k : CusKind} {a q : Nat} {s : State} (h : Custody c y k a q s)
include h

/-- The device after the controller's answer, before its status is in flight. -/
theorem Custody.asked_standing (ans : CusAns) : standing c (curOf c s)
    (cusEffect ans k c (curOf c s) a q (setCtx c (curOf c s) (fun _ => asked (seen c s)) (stampArrival s))) =
      ([], curOf c s, false, asked (seen c s)) := by
  obtain ⟨hl, -, -, -, -, -, hw, -, -, hsw, -⟩ := quiet_parts h.ready
  have hctx : (setCtx c (curOf c s) (fun _ => asked (seen c s)) (stampArrival s)).ctx c (curOf c s) = asked (seen c s) :=
    ctx_setCtx _ _ _ _ h.core (cur_lt c s hl)
  rw [cusEffect_standing c _ h.core _ _ _ _ _ _ _ (by rw [hctx]; exact hw), standing, hctx]
  simp only [setCtx, core_setCore _ _ _ h.core]
  exact Prod.ext h.buffer (Prod.ext rfl (Prod.ext hsw rfl))

/-- A core moves on with the status of its operation in flight (R149). -/
def withStatus (next : Word) (d st : Nat) (x : Ctx) : Ctx :=
  advance next { x with infl := insertFl { due := x.seq, wr := .w d (w32 st) false } x.infl }

theorem Custody.withStatus_eq (st : Nat) : withStatus ((seen c s).pc + w32 4) y.d.toNat st (asked (seen c s)) =
    nextCtx (seen c s) 1 [(1, .w y.d.toNat (w32 st) false)] {} := by
  obtain ⟨-, -, hbr, hld, -, -, -, -, -, -, -⟩ := quiet_parts h.ready
  obtain ⟨_, _, _, _, _, hseen⟩ := seen_shape c s
  have hcus : (seen c s).cus = none := by rw [hseen]; exact (quiet_rest h.ready).2.2.1
  have htrap : ({} : Sticky).trap = false := rfl
  rw [withStatus, advance_plain _ _ (by exact hbr) (by exact hld)]
  simp only [nextCtx, asked, flagsOr_none, hcus, htrap, Bool.or_false]
  rfl

/-- What the controller makes of the operation. -/
theorem Custody.serve_eq (hans : cusCheck s k c (curOf c s) a q ≠ .fault)
    (hfull : cusCheck s k c (curOf c s) a q = .done → cusQueueFull s k c (curOf c s) a = false) :
    cusServe c (curOf c s) (cusRunOf c y k a q s) (setCtx c (curOf c s) (fun _ => awaiting (seen c s) (cusRunOf c y k a q s)) s) =
      setCtx c (curOf c s) (withStatus ((seen c s).pc + w32 4) y.d.toNat (cusStatus (cusCheck s k c (curOf c s) a q)))
        (cusEffect (cusCheck s k c (curOf c s) a q) k c (curOf c s) a q
          (setCtx c (curOf c s) (fun _ => asked (seen c s)) (stampArrival s))) := by
  have hgone : setCtx c (curOf c s) (fun x => { x with cus := none })
      (stampArrival (setCtx c (curOf c s) (fun _ => awaiting (seen c s) (cusRunOf c y k a q s)) s)) =
        setCtx c (curOf c s) (fun _ => asked (seen c s)) (stampArrival s) :=
    setCtx_setCtx c (curOf c s) (fun _ => awaiting (seen c s) (cusRunOf c y k a q s)) _ (stampArrival s) h.core
      (cur_lt c s (quiet_parts h.ready).1)
  refine (cusServe_answers c (curOf c s) (cusRunOf c y k a q s)
    (setCtx c (curOf c s) (fun _ => awaiting (seen c s) (cusRunOf c y k a q s)) s) (quiet_rest h.ready).2.1 hans hfull).trans ?_
  rw [hgone]
  rfl

/-- A custody syllable that the controller neither refuses nor holds: the effect of its answer, and the status in flight (R149). -/
theorem Custody.issue_eq (hans : cusCheck s k c (curOf c s) a q ≠ .fault)
    (hfull : cusCheck s k c (curOf c s) a q = .done → cusQueueFull s k c (curOf c s) a = false) :
    issue c (some (oneSyllable y)) s =
      setCtx c (curOf c s)
        (fun _ => nextCtx (seen c s) 1 [(1, .w y.d.toNat (w32 (cusStatus (cusCheck s k c (curOf c s) a q))) false)] {})
        (cusEffect (cusCheck s k c (curOf c s) a q) k c (curOf c s) a q
          (setCtx c (curOf c s) (fun _ => asked (seen c s)) (stampArrival s))) := by
  have hp := cur_lt c s (quiet_parts h.ready).1
  have hstand := h.asked_standing (cusCheck s k c (curOf c s) a q)
  have hissue := issue_legal c y s h.core (by rw [h.len]; exact h.ready) h.legal
  rw [h.goes hans hfull, h.issueGo_eq, h.try_serves, h.serve_eq hans hfull] at hissue
  have hwit : (cusEffect (cusCheck s k c (curOf c s) a q) k c (curOf c s) a q
      (setCtx c (curOf c s) (fun _ => asked (seen c s)) (stampArrival s))).witnessOn (curOf c s) = none :=
    (cusEffect_keeps (g := fun t => t.witnessOn (curOf c s)) ⟨⟨fun _ _ => rfl, fun _ _ => rfl, fun _ _ => rfl, fun _ _ => rfl,
      fun _ _ _ => rfl⟩, ⟨fun _ _ => rfl, fun _ _ => rfl, fun _ _ => rfl⟩, fun _ _ => rfl⟩ _ _ _ _ _ _ _).trans
      (Option.isNone_iff_eq_none.mp (quiet_parts h.ready).2.2.2.2.2.2.2.2.2.2)
  rw [hissue]
  generalize cusEffect (cusCheck s k c (curOf c s) a q) k c (curOf c s) a q
    (setCtx c (curOf c s) (fun _ => asked (seen c s)) (stampArrival s)) = u at hstand hwit ⊢
  have hctx : u.ctx c (curOf c s) = asked (seen c s) := congrArg (fun z => z.2.2.2) hstand
  have hset := setCtx_congr c (curOf c s) _ (fun _ => nextCtx (seen c s) 1
    [(1, .w y.d.toNat (w32 (cusStatus (cusCheck s k c (curOf c s) a q))) false)] {}) u (by rw [hctx]; exact h.withStatus_eq _)
  rw [hset]
  exact settle_set c (curOf c s) u _ _ h.core hp [] hstand hwit (quiet_parts h.ready).2.2.2.2.2.2.1

end

end Sys2Proof.Machine
end

section
/-! The obligation on CLAIM, GIVE and FREE of pages: what the controller refuses. -/

namespace Sys2Proof.Machine

/-- The registers of a person that enters its fault handler, as the statements write them (R92). -/
def handlerOf (code : Nat) (info : Word) (x : Ctx) : Ctx :=
  { x with epc := x.pc, ebt := 0, estat := x.ie, eldepth := x.ldepth, ldepth := 0, ie := false, ecause := w32 code,
           einfo := info, pc := x.vec, faultOpen := true,
           els := #v[vget x.ls 0, vget x.le 0, vget x.lc 0, vget x.ls 1, vget x.le 1, vget x.lc 1,
                     vget x.ls 2, vget x.le 2, vget x.lc 2] }

/-- Landing the rest changes registers and the results in flight where no divide runs. -/
theorem landAll_shape (x : Ctx) (hd : x.div = none) : ∃ a b d e, landAll x = { x with w := a, x := b, p := d, acc := e, infl := [] } := by
  obtain ⟨a, b, d, e, hx⟩ := applyWrs_shape x.infl x
  refine ⟨a, b, d, e, ?_⟩
  simp only [landAll, hx, hd]

/-- An entry with no transfer under way, no divide and no WAIT is the statements' (R92). -/
theorem enter_eq_handlerOf (code : Nat) (info : Word) (x : Ctx) (hbr : x.br = none) (hw : x.waiting = false) (hd : x.div = none) :
    { enter code info true x with fpPending := x.fpPending } = handlerOf code info (landAll x) := by
  obtain ⟨a, b, d, e, hx⟩ := landAll_shape x hd
  simp only [enter, handlerOf, hx, hbr, hw, ebtOf, Bool.true_or]
  rfl

/-- A fault that is no double fault, with nothing outstanding, is entered (R92). -/
theorem takeFault_enters (c p : Nat) (f : Flt) (s : State) (hset : settled (s.ctx c p) = true) (hfp : (s.ctx c p).fpPending = false)
    (hdouble : isDouble (s.ctx c p) = false) (hheld : s.cus.held = none) : takeFault c p f s =
      setCtx c p (fun x => { enter f.code f.info true x with fpPending := if f.code = 0xC then false else x.fpPending }) s := by
  have hdrop : dropHeld c s = s := if_neg (by rw [hheld]; exact nofun)
  unfold takeFault
  simp only [hset, hfp, hdrop, hdouble, Bool.not_true, Bool.false_and, Bool.false_eq_true, if_false]

section
variable {c : Nat} {y : Syl} {k : CusKind} {a q : Nat} {s : State} (h : Custody c y k a q s)
include h

/-- A foreign FREE or GIVE takes its fault, and is counted (R150). -/
theorem Custody.issue_refused (hans : cusCheck s k c (curOf c s) a q = .fault) (hmay : mayFault c s = true) :
    ∃ t, issue c (some (oneSyllable y)) s = t ∧ t.ctx c (curOf c s) = (faulted c 9 ((seen c s).rw y.s1.toNat) s).ctx c (curOf c s) ∧
      ∀ {β : Type} (g : State → β), ApartFromCores g → g t = g (foreignFree (if k = .give then 3 else 2) c (curOf c s) a (stampArrival (landed c s))) := by
  obtain ⟨hl, -, hbr, -, hd, hfp, hw, hlo, hca, hsw, hwi⟩ := quiet_parts h.ready
  obtain ⟨_, _, _, _, _, hseen⟩ := seen_shape c s
  have hp := cur_lt c s hl
  have hcus : (seen c s).cus = none := by rw [hseen]; exact (quiet_rest h.ready).2.2.1
  have hsettled : settled (seen c s) = true := by simp only [settled, hlo, hca, hcus, List.isEmpty_nil, Option.isNone_none, Bool.and_self]
  have hdouble : isDouble (seen c s) = false := by
    simp only [mayFault, Bool.or_eq_true, Bool.not_eq_true'] at hmay
    simp only [isDouble, hbr, Bool.or_false, Bool.and_eq_false_iff, Bool.not_eq_false']
    exact hmay
  have hlegal : issueLegal c (curOf c s) (seen c s) (oneSyllable y) (landed c s) =
      takeFault c (curOf c s) { code := 9, info := (seen c s).rw y.s1.toNat }
        (foreignFree (if k = .give then 3 else 2) c (curOf c s) a (stampArrival (landed c s))) := by
    have hsyls : (oneSyllable y).syls = [(0, y)] := rfl
    have hex : inUnitOrder ([(0, y)].filter fun r => guardOn (seen c s) r.2) = [(0, y)] := by
      simp only [List.filter_cons, h.guard, if_true, List.filter_nil, inUnitOrder_one]
    have hheld : cusHeld (landed c s) c (curOf c s) (seen c s) [(0, y)] = false := by rw [h.held_eq, hans]; rfl
    have hacc : ∀ n f, accFault (seen c s) [(0, y)] n f = none := fun n f => by simp [accFault, firstOf, h.noAcc]
    have hcheck : cusCheck (landed c s) k c (curOf c s) a q = .fault := hans
    unfold issueLegal
    dsimp only
    rw [hsyls, hex, h.faultOf_eq, if_pos hans]
    simp only [issueFault, hsyls, hheld, h.asks, hcheck, hacc, hsettled, hfp, cusEffect, and_false, Bool.not_false, and_self,
      Bool.false_eq_true, if_true, if_false]
  have hissue := issue_legal c y s h.core (by rw [h.len]; exact h.ready) h.legal
  rw [hlegal] at hissue
  have hstand : standing c (curOf c s) (foreignFree (if k = .give then 3 else 2) c (curOf c s) a (stampArrival (landed c s))) =
      ([], curOf c s, false, seen c s) := by
    have hctx : (stampArrival (landed c s)).ctx c (curOf c s) = seen c s := ctx_landed c s h.core hl
    refine (cusEffect_standing c _ h.core .fault k c (curOf c s) a q _ (by rw [hctx]; exact hw)).trans ?_
    have hcore : ((landed c s).core c).sb = [] ∧ ((landed c s).core c).cur = curOf c s ∧ ((landed c s).core c).switchDue = false := by
      simp only [landed, setCtx, core_setCore _ _ _ h.core]
      exact ⟨h.buffer, rfl, hsw⟩
    exact Prod.ext hcore.1 (Prod.ext hcore.2.1 (Prod.ext hcore.2.2 hctx))
  have hheld : (foreignFree (if k = .give then 3 else 2) c (curOf c s) a (stampArrival (landed c s))).cus.held = none := by
    rw [foreignFree_cus]
    exact (quiet_rest h.ready).2.1
  have hwit : (foreignFree (if k = .give then 3 else 2) c (curOf c s) a (stampArrival (landed c s))).witnessOn (curOf c s) = none :=
    (cusEffect_keeps (g := fun t => t.witnessOn (curOf c s)) ⟨⟨fun _ _ => rfl, fun _ _ => rfl, fun _ _ => rfl, fun _ _ => rfl,
      fun _ _ _ => rfl⟩, ⟨fun _ _ => rfl, fun _ _ => rfl, fun _ _ => rfl⟩, fun _ _ => rfl⟩ .fault k c (curOf c s) a q _).trans
      (Option.isNone_iff_eq_none.mp hwi)
  generalize foreignFree (if k = .give then 3 else 2) c (curOf c s) a (stampArrival (landed c s)) = u at hissue hstand hheld hwit ⊢
  have hctx : u.ctx c (curOf c s) = seen c s := congrArg (fun z => z.2.2.2) hstand
  have hend := takeFault_enters c (curOf c s) { code := 9, info := (seen c s).rw y.s1.toNat } u (by rw [hctx]; exact hsettled)
    (by rw [hctx]; exact hfp) (by rw [hctx]; exact hdouble) hheld
  have hset := setCtx_congr c (curOf c s) (fun x => { enter 9 ((seen c s).rw y.s1.toNat) true x with fpPending := x.fpPending })
    (fun _ => handlerOf 9 ((seen c s).rw y.s1.toNat) (landAll (seen c s))) u
    (by rw [hctx]; exact enter_eq_handlerOf 9 _ _ hbr hw hd)
  have hcalm : (handlerOf 9 ((seen c s).rw y.s1.toNat) (landAll (seen c s))).waiting = false := by
    rw [← enter_eq_handlerOf 9 _ _ hbr hw hd]
    rfl
  rw [hend.trans hset, settle_set c (curOf c s) u _ _ h.core hp [] hstand hwit hcalm] at hissue
  refine ⟨_, hissue, ?_, fun g hg => setCtx_keeps hg _ _ _ u⟩
  have hfaulted : faulted c 9 ((seen c s).rw y.s1.toNat) s =
      setCtx c (curOf c s) (fun _ => handlerOf 9 ((seen c s).rw y.s1.toNat) (landAll (seen c s))) s := rfl
  rw [hfaulted, ctx_setCtx _ _ _ _ h.core hp, ctx_setCtx _ _ _ _ h.core hp]

end

end Sys2Proof.Machine
end

section
/-! The obligation on CLAIM, GIVE and FREE of pages: the checks of R149, and the answers together. -/

namespace Sys2Proof.Machine

/-! ### The checks of R149 on a page -/

theorem cusObj_page (a : Nat) (hlow : 0x10000000 ≤ a) (hhigh : a < 0x10400000) : cusObj a = some (.page ((a - 0x10000000) / 4096)) := by
  rw [cusObj, regionOf, if_neg (by omega), if_neg (by omega), if_pos ⟨hlow, hhigh⟩]

section
variable {s : State} {c p a n q : Nat} (ha : cusObj a = some (.page n))
include ha

theorem cusCheck_claim_page : cusCheck s .claim c p a q =
    if s.pageOwner n = ownerCode p then .status 2 else if s.pageOwner n ≠ 0xF then .status 3
    else if (s.row p).pageQuota < s.pagesHeld p + 1 then .status 4 else .done := by
  simp [cusCheck, ha, cusOwners, overQuota]

theorem cusCheck_free_page : cusCheck s .free c p a q =
    if s.pageOwner n = 0xF then .status 1 else if s.pageOwner n ≠ ownerCode p then .fault else .done := by
  simp [cusCheck, ha, cusOwners]

theorem cusCheck_give_page : cusCheck s .give c p a q =
    if s.pageOwner n ≠ ownerCode p then .fault else if q = p then .status 2
    else if canReceive s (cusCores s c p) (.page n) q = false then .status 5
    else if (s.row q).pageQuota < s.pagesHeld q + 1 then .status 4 else .done := by
  simp [cusCheck, ha, cusOwners, overQuota]

end

/-- A recipient can take a page where it is a present person that is not DEAD (R149 check 6). -/
theorem canReceive_page (s : State) (cs : List Nat) (n q : Nat) : canReceive s cs (.page n) q = true ↔
    1 ≤ q ∧ q ≤ 6 ∧ s.present q = true ∧ (s.person q).run ≠ .dead := by
  simp [canReceive, and_assoc]

/-- No person's code is that of FREE. -/
theorem ownerCode_ne_free (p : Nat) (hp : p < 7) : ownerCode p ≠ 0xF := by
  interval_cases p <;> decide

/-! ### The three syllables -/

/-- No source of a sentence of one syllable is poisoned where its w registers are clean (R77). -/
theorem poisonOf_clean (c : Nat) (y : Syl) (rs : List Nat) (s : State) (hcl : clean c rs s = true)
    (hsrc : ∀ r, Reg.w r ∈ sourcesOf y → r.toNat ∈ rs) : poisonOf (seen c s) [(0, y)] = none := by
  have hnone : firstOf (sourcesOf y) (poisonReg (seen c s)) = none := by
    refine List.findSome?_eq_none_iff.mpr fun r hr => ?_
    cases r with
    | w k =>
      have hk := List.all_eq_true.mp hcl _ (hsrc k hr)
      exact if_neg (by simpa using hk)
    | _ => rfl
  simp only [poisonOf, firstOf, List.findSome?_cons, List.findSome?_nil] at hnone ⊢
  simp [hnone]

def claimSyl (d s1 : BitVec 6) (g : Guard) : Syl := { unit := .b, op := .claim, mode := .off, d := d, s1 := s1, s2 := .reg 0, guard := g }
def giveSyl (d s1 s2 : BitVec 6) (g : Guard) : Syl := { unit := .b, op := .give, mode := .off, d := d, s1 := s1, s2 := .reg s2, guard := g }
def freeSyl (d s1 : BitVec 6) (g : Guard) : Syl := { unit := .b, op := .free, mode := .off, d := d, s1 := s1, s2 := .reg 0, guard := g }

section
variable (c : Fin 4) (d s1 s2 : BitVec 6) (g : Guard) (s : State)

theorem exec_claim : exec (.claim c d s1 g) s = .next (issue c.val (some (oneSyllable (claimSyl d s1 g))) s) := rfl
theorem exec_give : exec (.give c d s1 s2 g) s = .next (issue c.val (some (oneSyllable (giveSyl d s1 s2 g))) s) := rfl
theorem exec_free : exec (.free c d s1 g) s = .next (issue c.val (some (oneSyllable (freeSyl d s1 g))) s) := rfl

/-- The registers the three syllables read. -/
theorem sources_claim : sourcesOf (claimSyl d s1 g) = [.w s1] := rfl
theorem sources_free : sourcesOf (freeSyl d s1 g) = [.w s1] := rfl
theorem sources_give : sourcesOf (giveSyl d s1 s2 g) = [.w s1, .w s2] := rfl

variable {c d s1 s2 g s} (hr : ready c.val 1 g [s1.toNat, s2.toNat] s = true) (hsb : (s.core c.val).sb = [])
  (hfl : ownInFlight s c.val = [])
include hr hsb hfl

theorem claim_custody : Custody c.val (claimSyl d s1 g) .claim ((seen c.val s).rw s1.toNat).toNat 0 s := by
  simp only [ready, Bool.and_eq_true] at hr
  obtain ⟨⟨hq, hg⟩, hcl⟩ := hr
  exact ⟨c.isLt, hq, rfl, rfl, hg, rfl, .inl rfl, rfl,
    poisonOf_clean _ _ _ s hcl (by simp [sources_claim]), hsb, hfl⟩

theorem free_custody : Custody c.val (freeSyl d s1 g) .free ((seen c.val s).rw s1.toNat).toNat 0 s := by
  simp only [ready, Bool.and_eq_true] at hr
  obtain ⟨⟨hq, hg⟩, hcl⟩ := hr
  exact ⟨c.isLt, hq, rfl, rfl, hg, rfl, .inr (.inr rfl), rfl,
    poisonOf_clean _ _ _ s hcl (by simp [sources_free]), hsb, hfl⟩

theorem give_custody : Custody c.val (giveSyl d s1 s2 g) .give ((seen c.val s).rw s1.toNat).toNat
    ((seen c.val s).rw s2.toNat).toNat s := by
  simp only [ready, Bool.and_eq_true] at hr
  obtain ⟨⟨hq, hg⟩, hcl⟩ := hr
  exact ⟨c.isLt, hq, rfl, rfl, hg, rfl, .inr (.inl rfl), rfl,
    poisonOf_clean _ _ _ s hcl (by simp [sources_give]), hsb, hfl⟩

end

/-! ### The answers (R37, R148, R149, R151, R152) -/

/-- An operation on a page is over: the status in flight, the page's owner, the queue and the counters. -/
def cusEnds (c n d st : Nat) (o : BitVec 4) (queued : Bool) (frees : Nat) (s t : State) : Prop :=
  t.ctx c (curOf c s) = nextCtx (seen c s) 1 [(1, .w d (w32 st) false)] {} ∧ t.pageOwner n = o ∧
  t.cus.page = vset s.cus.page n o ∧ t.mem = s.mem ∧ t.cus.bank = s.cus.bank ∧ t.isl.arrival = s.isl.arrival + 1 ∧
  t.cus.pageZero = (if queued then s.cus.pageZero ++ [n] else s.cus.pageZero) ∧
  t.cus.doubleFree = min (s.cus.doubleFree + frees) 0xFFFF ∧ t.cus.foreignFree = s.cus.foreignFree

/-- What an answer leaves of the controller itself. -/
def cusLeft (n : Nat) (o : BitVec 4) (queued : Bool) (frees : Nat) (k v : Cus) : Prop :=
  v.page = vset k.page n o ∧ v.bank = k.bank ∧ v.pageZero = (if queued then k.pageZero ++ [n] else k.pageZero) ∧
  v.doubleFree = min (k.doubleFree + frees) 0xFFFF ∧ v.foreignFree = k.foreignFree

section
variable {c n : Nat} {y : Syl} {k : CusKind} {a q : Nat} {s : State} (h : Custody c y k a q s) (hn : n < 1024)
include h hn

/-- An answer is over with its status; what it leaves of the controller is what its effect does. -/
theorem Custody.ends_of (ans : CusAns) (o : BitVec 4) (queued : Bool) (frees : Nat) (hc : cusCheck s k c (curOf c s) a q = ans)
    (hans : ans ≠ .fault) (hfull : ans = .done → cusQueueFull s k c (curOf c s) a = false)
    (hleft : ∀ t, t.cus = s.cus → cusLeft n o queued frees s.cus (cusEffect ans k c (curOf c s) a q t).cus) :
    ∃ t, issue c (some (oneSyllable y)) s = t ∧ cusEnds c n y.d.toNat (cusStatus ans) o queued frees s t := by
  subst hc
  refine ⟨_, h.issue_eq hans hfull, ?_⟩
  have hg : ∀ {β : Type} (g : State → β), (∀ v t, g { t with cores := v } = g t) → ApartFromCustody g →
      g (setCtx c (curOf c s) (fun _ => nextCtx (seen c s) 1
        [(1, .w y.d.toNat (w32 (cusStatus (cusCheck s k c (curOf c s) a q))) false)] {})
        (cusEffect (cusCheck s k c (curOf c s) a q) k c (curOf c s) a q
          (setCtx c (curOf c s) (fun _ => asked (seen c s)) (stampArrival s)))) = g (stampArrival s) := fun g hcores hg =>
    (hcores _ _).trans ((cusEffect_keeps hg _ _ _ _ _ _ _).trans (hcores _ _))
  have hmem := hg State.mem (fun _ _ => rfl) ⟨⟨fun _ _ => rfl, fun _ _ => rfl, fun _ _ => rfl, fun _ _ => rfl, fun _ _ _ => rfl⟩,
    ⟨fun _ _ => rfl, fun _ _ => rfl, fun _ _ => rfl⟩, fun _ _ => rfl⟩
  have hisl := hg State.isl (fun _ _ => rfl) ⟨⟨fun _ _ => rfl, fun _ _ => rfl, fun _ _ => rfl, fun _ _ => rfl, fun _ _ _ => rfl⟩,
    ⟨fun _ _ => rfl, fun _ _ => rfl, fun _ _ => rfl⟩, fun _ _ => rfl⟩
  obtain ⟨hpage, hbank, hzero, hdouble, hforeign⟩ := hleft (setCtx c (curOf c s) (fun _ => asked (seen c s)) (stampArrival s)) rfl
  refine ⟨ctx_setCtx _ _ _ _ h.core (cur_lt c s (quiet_parts h.ready).1), ?_, hpage, hmem, hbank, congrArg Isl.arrival hisl, hzero, hdouble, hforeign⟩
  exact (congrArg (fun v => vget v n) hpage).trans (vget_vset_same _ _ _ hn)

variable (hfrees : s.cus.doubleFree ≤ 0xFFFF)
include hfrees

/-- A status other than 1 changes nothing (R149). -/
theorem Custody.ends_status (st : Nat) (hst : st ≠ 1) (hc : cusCheck s k c (curOf c s) a q = .status st) :
    ∃ t, issue c (some (oneSyllable y)) s = t ∧ cusEnds c n y.d.toNat st (s.pageOwner n) false 0 s t := by
  refine h.ends_of hn _ _ _ _ hc nofun nofun fun t ht => ?_
  have hcus : (cusEffect (.status st) k c (curOf c s) a q t).cus = s.cus := by
    unfold cusEffect
    split
    · next e => cases e
    · next e => cases e; exact absurd rfl hst
    · exact ht
    · next e => cases e
  rw [hcus]
  exact ⟨(vset_vget _ _).symm, rfl, rfl, by omega, rfl⟩

/-- A double free is counted (R151). -/
theorem Custody.ends_doubleFree (hc : cusCheck s k c (curOf c s) a q = .status 1) :
    ∃ t, issue c (some (oneSyllable y)) s = t ∧ cusEnds c n y.d.toNat 1 (s.pageOwner n) false 1 s t := by
  refine h.ends_of hn _ _ _ _ hc nofun nofun fun t ht => ?_
  have hcus : (cusEffect (.status 1) k c (curOf c s) a q t).cus = _ := doubleFree_cus t c (curOf c s) a
  rw [hcus, ht]
  refine ⟨(vset_vget _ _).symm, rfl, rfl, ?_, rfl⟩
  unfold satInc
  dsimp only
  split <;> omega

/-- A page that passes every check moves (R149 row 8). -/
theorem Custody.ends_done (ha : cusObj a = some (.page n)) (hlen : s.cus.pageZero.length < 16) (hzero : s.cus.pageZero.contains n = false)
    (hc : cusCheck s k c (curOf c s) a q = .done) : ∃ t, issue c (some (oneSyllable y)) s = t ∧ cusEnds c n y.d.toNat 0
      (match k with | .claim => ownerCode (curOf c s) | .give => ownerCode q | .free => 0xF) (decide (k ≠ .claim)) 0 s t := by
  refine h.ends_of hn _ _ _ _ hc nofun (fun _ => ?_) fun t ht => ?_
  · cases k <;> simp [cusQueueFull, ha]
    · omega
    · omega
  · have hleft : ∀ (cs : List Nat) (code : BitVec 4) (zero : Bool),
        cusLeft n code zero 0 s.cus (cusMove (.page n) cs code zero t).cus := fun cs code zero => by
      rw [cusMove_page_cus t n cs code zero (by rw [ht]; exact hzero), ht]
      exact ⟨rfl, rfl, rfl, by dsimp only; omega, rfl⟩
    cases k <;> simp only [cusEffect, cusDo, ha] <;> exact hleft _ _ _

end

/-- A refused operation on a page: the fault with its address, the count and the event, the page as it was (R150). -/
def cusRefused (c : Nat) (info : Word) (s t : State) : Prop :=
  t.ctx c (curOf c s) = (faulted c 9 info s).ctx c (curOf c s) ∧ t.mem = s.mem ∧ t.cus.page = s.cus.page ∧
  t.cus.pageZero = s.cus.pageZero ∧ t.cus.foreignFree = satInc s.cus.foreignFree 0xFFFF ∧
  t.stw.elogNext = s.stw.elogNext + 1 ∧ t.isl.arrival = s.isl.arrival + 1

section
variable {c : Nat} {y : Syl} {k : CusKind} {a q : Nat} {s : State} (h : Custody c y k a q s)
include h

theorem Custody.refused (hans : cusCheck s k c (curOf c s) a q = .fault) (hmay : mayFault c s = true) :
    ∃ t, issue c (some (oneSyllable y)) s = t ∧ cusRefused c ((seen c s).rw y.s1.toNat) s t := by
  obtain ⟨t, ht, hctx, hg⟩ := h.issue_refused hans hmay
  have hmem := hg State.mem ⟨fun _ _ => rfl, fun _ _ => rfl, fun _ _ => rfl⟩
  have hcus := hg State.cus ⟨fun _ _ => rfl, fun _ _ => rfl, fun _ _ => rfl⟩
  have hlog := hg (fun u => u.stw.elogNext) ⟨fun _ _ => rfl, fun _ _ => rfl, fun _ _ => rfl⟩
  have hisl := hg State.isl ⟨fun _ _ => rfl, fun _ _ => rfl, fun _ _ => rfl⟩
  have hkeep : ∀ {β : Type} (g : State → β), ApartFromCustody g →
      g (foreignFree (if k = .give then 3 else 2) c (curOf c s) a (stampArrival (landed c s))) = g (stampArrival s) := fun g hgc =>
    (cusEffect_keeps hgc .fault k c (curOf c s) a q _).trans (hgc.cores _ (stampArrival s))
  have hmem' := hkeep State.mem ⟨⟨fun _ _ => rfl, fun _ _ => rfl, fun _ _ => rfl, fun _ _ => rfl, fun _ _ _ => rfl⟩,
    ⟨fun _ _ => rfl, fun _ _ => rfl, fun _ _ => rfl⟩, fun _ _ => rfl⟩
  have hisl' := hkeep State.isl ⟨⟨fun _ _ => rfl, fun _ _ => rfl, fun _ _ => rfl, fun _ _ => rfl, fun _ _ _ => rfl⟩,
    ⟨fun _ _ => rfl, fun _ _ => rfl, fun _ _ => rfl⟩, fun _ _ => rfl⟩
  have hcus' := foreignFree_cus (stampArrival (landed c s)) (if k = .give then 3 else 2) c (curOf c s) a
  rw [hcus'] at hcus
  refine ⟨t, ht, hctx, hmem.trans hmem', ?_, ?_, ?_, hlog.trans (foreignFree_elogNext _ _ _ _ _), congrArg Isl.arrival (hisl.trans hisl')⟩
  · rw [hcus]; rfl
  · rw [hcus]; rfl
  · rw [hcus]; rfl

/-- An address that names no object gives status 6, and nothing else happens (R149 check 1). -/
theorem Custody.no_object (ha : cusObj a = none) :
    issue c (some (oneSyllable y)) s = issued c 1 [(1, .w y.d.toNat 6 false)] {} (stampArrival s) := by
  have hc : cusCheck s k c (curOf c s) a q = .status 6 := by rw [cusCheck, ha]
  have hissue := h.issue_eq (by rw [hc]; exact nofun) (by rw [hc]; exact nofun)
  rw [hc] at hissue
  exact hissue.trans (setCtx_setCtx c (curOf c s) _ _ (stampArrival s) h.core (cur_lt c s (quiet_parts h.ready).1))

end

theorem next_of_issue {i : Instr} {c : Nat} {y : Syl} {s : State} {P : State → Prop}
    (hexec : exec i s = .next (issue c (some (oneSyllable y)) s)) (h : ∃ t, issue c (some (oneSyllable y)) s = t ∧ P t) :
    ∃ t, exec i s = .next t ∧ P t := by
  obtain ⟨t, ht, hP⟩ := h
  exact ⟨t, by rw [hexec, ht], hP⟩

/-- An instruction ends an operation on a page. -/
def answers (c n d : Nat) (s : State) (i : Instr) (st : Nat) (o : BitVec 4) (queued : Bool) (frees : Nat) : Prop :=
  ∃ t, exec i s = .next t ∧ cusEnds c n d st o queued frees s t

section
variable {c : Fin 4} {d s1 s2 : BitVec 6} {g : Guard} {s : State} {n : Nat} (hr : ready c.val 1 g [s1.toNat, s2.toNat] s = true)
  (hsb : (s.core c.val).sb = []) (hfl : ownInFlight s c.val = []) (ha : cusObj ((seen c.val s).rw s1.toNat).toNat = some (.page n))
  (hn : n < 1024) (hlen : s.cus.pageZero.length < 16) (hzero : s.cus.pageZero.contains n = false) (hfrees : s.cus.doubleFree ≤ 0xFFFF)
include hr hsb hfl ha hn hlen hzero hfrees

/-- CLAIM: the page is the person's already, another's, beyond the quota, or moves (R149). -/
theorem claim_answers :
    let p := curOf c.val s
    let own := s.pageOwner n
    let ends := answers c.val n d.toNat s (.claim c d s1 g)
    (own = ownerCode p → ends 2 own false 0) ∧ (own ≠ ownerCode p → own ≠ 0xF → ends 3 own false 0) ∧
    (own = 0xF → (s.row p).pageQuota < s.pagesHeld p + 1 → ends 4 own false 0) ∧
    (own = 0xF → s.pagesHeld p + 1 ≤ (s.row p).pageQuota → ends 0 (ownerCode p) false 0) := by
  have hclaim := claim_custody (d := d) hr hsb hfl
  have hne := ownerCode_ne_free (curOf c.val s) (cur_lt c.val s (quiet_parts hclaim.ready).1)
  dsimp only
  refine ⟨fun hown => ?_, fun hmine hfreed => ?_, fun hown hover => ?_, fun hown hroom => ?_⟩
  · refine next_of_issue (exec_claim c d s1 g s) (hclaim.ends_status hn hfrees 2 (by decide) ?_)
    rw [cusCheck_claim_page ha, if_pos hown]
  · refine next_of_issue (exec_claim c d s1 g s) (hclaim.ends_status hn hfrees 3 (by decide) ?_)
    rw [cusCheck_claim_page ha, if_neg hmine, if_pos hfreed]
  · refine next_of_issue (exec_claim c d s1 g s) (hclaim.ends_status hn hfrees 4 (by decide) ?_)
    rw [cusCheck_claim_page ha, hown, if_neg hne.symm, if_neg (not_not.mpr rfl), if_pos hover]
  · refine next_of_issue (exec_claim c d s1 g s) (hclaim.ends_done hn hfrees ha hlen hzero ?_)
    rw [cusCheck_claim_page ha, hown, if_neg hne.symm, if_neg (not_not.mpr rfl), if_neg (by omega)]

/-- FREE: a double free, or the page is on its way to FREE (R149, R151). -/
theorem free_answers :
    let own := s.pageOwner n
    let ends := answers c.val n d.toNat s (.free c d s1 g)
    (own = 0xF → ends 1 own false 1) ∧ (own = ownerCode (curOf c.val s) → ends 0 0xF true 0) := by
  have hfree := free_custody (d := d) hr hsb hfl
  have hne := ownerCode_ne_free (curOf c.val s) (cur_lt c.val s (quiet_parts hfree.ready).1)
  dsimp only
  refine ⟨fun hown => ?_, fun hown => ?_⟩
  · refine next_of_issue (exec_free c d s1 g s) (hfree.ends_doubleFree hn hfrees ?_)
    rw [cusCheck_free_page ha, if_pos hown]
  · refine next_of_issue (exec_free c d s1 g s) (hfree.ends_done hn hfrees ha hlen hzero ?_)
    rw [cusCheck_free_page ha, hown, if_neg hne, if_neg (not_not.mpr rfl)]

/-- GIVE of a page of the person: to itself, to nobody that can take it, beyond the recipient's quota, or it moves (R149). -/
theorem give_answers (hown : s.pageOwner n = ownerCode (curOf c.val s)) :
    let q := ((seen c.val s).rw s2.toNat).toNat
    let own := s.pageOwner n
    let ends := answers c.val n d.toNat s (.give c d s1 s2 g)
    (q = curOf c.val s → ends 2 own false 0) ∧
    (q ≠ curOf c.val s → (q = 0 ∨ 6 < q ∨ s.present q = false ∨ (s.person q).run = .dead) → ends 5 own false 0) ∧
    (q ≠ curOf c.val s → 1 ≤ q → q ≤ 6 → s.present q = true → (s.person q).run ≠ .dead →
      ((s.row q).pageQuota < s.pagesHeld q + 1 → ends 4 own false 0) ∧
      (s.pagesHeld q + 1 ≤ (s.row q).pageQuota → ends 0 (ownerCode q) true 0)) := by
  have hgive := give_custody (d := d) hr hsb hfl
  dsimp only
  refine ⟨fun hself => ?_, fun hother hnot => ?_, fun hother hlow hhigh hpres hlive => ?_⟩
  · refine next_of_issue (exec_give c d s1 s2 g s) (hgive.ends_status hn hfrees 2 (by decide) ?_)
    rw [cusCheck_give_page ha, if_neg (not_not.mpr hown), if_pos hself]
  · refine next_of_issue (exec_give c d s1 s2 g s) (hgive.ends_status hn hfrees 5 (by decide) ?_)
    have hcan : canReceive s (cusCores s c.val (curOf c.val s)) (.page n) ((seen c.val s).rw s2.toNat).toNat = false := by
      rw [← Bool.not_eq_true, canReceive_page]
      rintro ⟨hlow, hhigh, hpres, hlive⟩
      rcases hnot with h0 | h6 | habs | hdead
      · omega
      · omega
      · exact Bool.noConfusion (hpres.symm.trans habs)
      · exact hlive hdead
    rw [cusCheck_give_page ha, if_neg (not_not.mpr hown), if_neg hother, if_pos hcan]
  · have hcan : ¬canReceive s (cusCores s c.val (curOf c.val s)) (.page n) ((seen c.val s).rw s2.toNat).toNat = false := by
      rw [(canReceive_page _ _ _ _).mpr ⟨hlow, hhigh, hpres, hlive⟩]
      exact Bool.noConfusion
    refine ⟨fun hover => ?_, fun hroom => ?_⟩
    · refine next_of_issue (exec_give c d s1 s2 g s) (hgive.ends_status hn hfrees 4 (by decide) ?_)
      rw [cusCheck_give_page ha, if_neg (not_not.mpr hown), if_neg hother, if_neg hcan, if_pos hover]
    · refine next_of_issue (exec_give c d s1 s2 g s) (hgive.ends_done hn hfrees ha hlen hzero ?_)
      rw [cusCheck_give_page ha, if_neg (not_not.mpr hown), if_neg hother, if_neg hcan, if_neg (by omega)]

end

section
variable (c : Fin 4) (d s1 s2 : BitVec 6) (g : Guard) (s : State)

/-- What the controller refuses, and the addresses that name no object. -/
theorem custody_refusals (hr : ready c.val 1 g [s1.toNat, s2.toNat] s = true) (hsb : (s.core c.val).sb = [])
    (hfl : ownInFlight s c.val = []) :
    let a := ((seen c.val s).rw s1.toNat).toNat
    let own := s.pageOwner ((a - 0x10000000) / 4096)
    let refused := fun (i : Instr) => ∃ t, exec i s = .next t ∧ cusRefused c.val ((seen c.val s).rw s1.toNat) s t
    let none6 := issued c.val 1 [(1, .w d.toNat 6 false)] {} (stampArrival s)
    (cusObj a = none → exec (.claim c d s1 g) s = .next none6 ∧ exec (.free c d s1 g) s = .next none6 ∧
      exec (.give c d s1 s2 g) s = .next none6) ∧
    (mayFault c.val s = true → 0x10000000 ≤ a → a < 0x10400000 → own ≠ ownerCode (curOf c.val s) →
      refused (.give c d s1 s2 g) ∧ (own ≠ 0xF → refused (.free c d s1 g))) := by
  have hclaim := claim_custody (d := d) hr hsb hfl
  have hfree := free_custody (d := d) hr hsb hfl
  have hgive := give_custody (d := d) hr hsb hfl
  dsimp only
  refine ⟨fun ha => ⟨?_, ?_, ?_⟩, fun hmay hlow hhigh hown => ⟨?_, fun hkept => ?_⟩⟩
  · exact (exec_claim c d s1 g s).trans (congrArg Host.Outcome.next (hclaim.no_object ha))
  · exact (exec_free c d s1 g s).trans (congrArg Host.Outcome.next (hfree.no_object ha))
  · exact (exec_give c d s1 s2 g s).trans (congrArg Host.Outcome.next (hgive.no_object ha))
  · refine next_of_issue (exec_give c d s1 s2 g s) (hgive.refused ?_ hmay)
    rw [cusCheck_give_page (cusObj_page _ hlow hhigh), if_pos hown]
  · refine next_of_issue (exec_free c d s1 g s) (hfree.refused ?_ hmay)
    rw [cusCheck_free_page (cusObj_page _ hlow hhigh), if_neg hkept, if_pos hown]

end

/-- Settles O20: the checks of R149 on a page (`cusCheck_claim_page` and its kin) decide which answer ends the sentence. -/
theorem custodySyllablesMovePages : Obligations.CustodySyllablesMovePages := by
  unfold Obligations.CustodySyllablesMovePages
  refine ⟨fun c d s1 s2 g s => ?_, fun c d s1 s2 g s => ?_⟩
  · intro x p a n q own me ends hr hlow hhigh hsb hfl hlen hzero hfrees
    have ha : cusObj a = some (.page n) := cusObj_page a hlow hhigh
    have hn : n < 1024 := by omega
    obtain ⟨hmine, hothers, hquota, hclaimed⟩ := claim_answers (d := d) hr hsb hfl ha hn hlen hzero hfrees
    obtain ⟨hdouble, hfreed⟩ := free_answers (d := d) hr hsb hfl ha hn hlen hzero hfrees
    have hgives := give_answers (d := d) hr hsb hfl ha hn hlen hzero hfrees
    exact ⟨hmine, hothers, hquota, hclaimed, hdouble, hfreed, fun hown => (hgives hown).1, fun hown => (hgives hown).2.1,
      fun hown => (hgives hown).2.2⟩
  · intro x p a n own refused none6 hr hsb hfl
    exact custody_refusals c d s1 s2 g s hr hsb hfl

end Sys2Proof.Machine
end

section
/-! The obligation on stores, slots and candidates that cross the gates (R35, R37, R143, R156, R167, R168, R183, R213, R346). -/

namespace Sys2Proof.Machine

/-! ### Nothing follows on a pair that waits for nothing (R95, R148, R197, R202) -/

/-- A core that waits for no place in the gate and for no commit. -/
structure CoreStill (d : Nat) (s : State) : Prop where
  buffer : (s.core d).sb = []
  switch : (s.core d).switchDue = false
  runs : (s.ctx d (curOf d s)).waiting = false
  custody : (s.ctx d (curOf d s)).cus = none

/-- No fence is on its way, and nobody waits for a place. -/
structure PlacesStill (s : State) : Prop where
  fences : ∀ i < 4, vget s.wit.fencing i = false
  starts : ∀ i < 7, (s.person i).run ≠ .restarting

theorem CoreStill.of_standing {d : Nat} {s t : State} (h : CoreStill d s) (e : standing d (curOf d s) t = standing d (curOf d s) s) :
    CoreStill d t := by
  simp only [standing, Prod.mk.injEq] at e
  obtain ⟨hsb, hcur, hdue, hctx⟩ := e
  have hctx' : t.ctx d (curOf d t) = s.ctx d (curOf d s) := by rw [show curOf d t = curOf d s from hcur, hctx]
  exact ⟨hsb.trans h.buffer, hdue.trans h.switch, by rw [hctx', h.runs], by rw [hctx', h.custody]⟩

theorem PlacesStill.of_eq {s t : State} (h : PlacesStill s) (hw : t.wit.fencing = s.wit.fencing) (hp : t.stw.persons = s.stw.persons) :
    PlacesStill t := by
  refine ⟨fun i hi => by rw [hw]; exact h.fences i hi, fun i hi => ?_⟩
  have he : t.person i = s.person i := congrArg (fun v => vget v i) hp
  rw [he]
  exact h.starts i hi

/-- An empty buffer hands nothing over, no operation goes to the controller, no switch is made. -/
theorem CoreStill.goesOn {d : Nat} {s : State} (h : CoreStill d s) : trySwitch d (custodyGoes d (drain d s)) = s := by
  have hdrain : drain d s = s := by
    unfold drain
    rw [h.buffer]
    rfl
  have hcustody : custodyGoes d s = s := by
    unfold custodyGoes
    refine if_neg fun hon => ?_
    have hnone : (s.ctx d (s.core d).cur).cus = none := h.custody
    rw [hnone] at hon
    exact absurd hon.1 (by decide)
  rw [hdrain, hcustody, trySwitch_idle d s h.switch h.runs]

theorem PlacesStill.placesOn {s : State} (h : PlacesStill s) : placesOn s = s := by
  have hfence : ∀ c < 4, tryFence c s = s := fun c hc => if_neg (by rw [h.fences c hc]; simp)
  have hfences : forNat 4 (fun c t => tryFence c t) s = s := by
    show tryFence 3 (tryFence 2 (tryFence 1 (tryFence 0 s))) = s
    rw [hfence 0 (by decide), hfence 1 (by decide), hfence 2 (by decide), hfence 3 (by decide)]
  have hstarts : (s.stw.persons.any fun q => decide (q.run = .restarting) && decide (q.moveTo ≠ 0)) = false := by
    refine Vector.any_eq_false.2 fun i hi => ?_
    have hrun : s.stw.persons[i].run ≠ .restarting := by
      have := h.starts i hi
      simpa [State.person, vget, hi] using this
    simp [hrun]
  unfold Machine.placesOn
  dsimp only
  rw [hfences, hstarts]
  rfl

/-- A place in the gate or a commit lets nothing go on, where nothing waits for it. -/
theorem pairOn_still (m : Nat) (s : State) (hq : forwardSlots (vget s.gates.commitQ m).length m s = s) (h0 : CoreStill (2 * m) s)
    (h1 : CoreStill (2 * m + 1) s) (hp : PlacesStill s) : pairOn m s = s := by
  unfold pairOn
  dsimp only
  rw [hq]
  show placesOn (trySwitch (2 * m + 1) (custodyGoes (2 * m + 1) (drain (2 * m + 1)
    (trySwitch (2 * m) (custodyGoes (2 * m) (drain (2 * m) s)))))) = s
  rw [h0.goesOn, h1.goesOn, hp.placesOn]

/-! ### From the buffer to the gate (R35, R167) -/

/-- An entry that falls due crosses to the gate while it accepts. -/
theorem drain_hands_over (c : Nat) (e : SbEntry) (s : State) (hsb : (s.core c).sb = [e]) (hdue : e.due = true)
    (hw : (s.witnessOn e.person).isNone = true) (hroom : (vget s.gates.pairF (c / 2)).length < 8)
    (hopen : vget s.gates.closed (c / 2) = false) (hload : loadBefore (s.core c) e.last = false) :
    drain c s = { setCore c (fun k => { k with sb := [] }) s with
      gates := { s.gates with pairF := vmod s.gates.pairF (c / 2) fun l =>
        l ++ [{ core := c, person := e.person, stamp := e.stamp, what := e.what }] } } := by
  have htwin : dropTwin c e (setCore c (fun k => { k with sb := [] }) s) = setCore c (fun k => { k with sb := [] }) s := by
    refine if_neg fun hon => ?_
    have hsome : (s.witnessOn e.person).isSome = true := hon.1
    rw [Option.isNone_iff_eq_none.mp hw] at hsome
    exact Bool.noConfusion hsome
  have hmatch : matched s c e = true := by
    unfold matched
    rw [hw]
    rfl
  have hroom' : decide ((vget s.gates.pairF (pairOf c)).length < 8) = true := decide_eq_true hroom
  have hopen' : vget s.gates.closed (pairOf c) = false := hopen
  unfold drain
  rw [hsb]
  simp only [List.length_singleton, handOver, hsb, hdue, hroom', hload, hopen', hmatch, Bool.not_false, Bool.and_true, if_true, htwin]
  rfl

theorem storeBufferDue_hands_over (core : Fin 4) (e : SbEntry) (s : State) (hsb : (s.core core.val).sb = [e]) (hdue : e.due = false)
    (hw : (s.witnessOn e.person).isNone = true) (hroom : (vget s.gates.pairF (core.val / 2)).length < 8)
    (hopen : vget s.gates.closed (core.val / 2) = false) (hload : loadBefore (s.core core.val) e.last = false)
    (hsw : (s.core core.val).switchDue = false) (hruns : (s.ctx core.val (curOf core.val s)).waiting = false) :
    yields (.storeBufferDue core) s fun u => (u.core core.val).sb = [] ∧
      vget u.gates.pairF (core.val / 2) =
        vget s.gates.pairF (core.val / 2) ++ [{ core := core.val, person := e.person, stamp := e.stamp, what := e.what }] ∧
      u.mem = s.mem := by
  have hc : core.val < 4 := core.isLt
  have hcore := core_setCore core.val (fun k => { k with sb := dueOne k.sb }) s hc
  have hdueOne : dueOne (s.core core.val).sb = [{ e with due := true }] := by
    rw [hsb]
    simp only [dueOne, hdue, Bool.false_eq_true, if_false]
  have hdrain := drain_hands_over core.val { e with due := true } (setCore core.val (fun k => { k with sb := dueOne k.sb }) s)
    (by rw [hcore]; exact hdueOne) rfl hw hroom hopen (by rw [hcore]; exact hload)
  rw [setCore_setCore _ _ _ _ hc] at hdrain
  refine ⟨_, congrArg (fun u => Host.Outcome.next (trySwitch core.val u)) hdrain, ?_⟩
  have hcore' := core_setCore core.val (fun k => { k with sb := [] }) s hc
  rw [trySwitch_idle]
  · refine ⟨congrArg Core.sb hcore', ?_, rfl⟩
    exact vget_vset_same _ _ _ (by show core.val / 2 < 2; omega)
  · exact (congrArg Core.switchDue hcore').trans hsw
  · have hcur : curOf core.val (setCore core.val (fun k => { k with sb := [] }) s) = curOf core.val s :=
      (congrArg Core.cur hcore').trans rfl
    refine Eq.trans ?_ hruns
    show ((setCore core.val (fun k => { k with sb := [] }) s).ctx core.val
      (curOf core.val (setCore core.val (fun k => { k with sb := [] }) s))).waiting = _
    rw [hcur]
    exact (congrArg (fun k => (vget k.ctx (curOf core.val s)).waiting) hcore').trans rfl

/-! ### Into FABRIC (R37) -/

/-- What is not a slot waits for its commit. -/
theorem forwardSlots_gran (m b : Nat) (cs : List Host.Cell) (t : StTxn) (ts : List StTxn) (s : State)
    (hq : vget s.gates.commitQ m = t :: ts) (ht : t.what = .gran b cs) : forwardSlots (vget s.gates.commitQ m).length m s = s := by
  rw [hq, List.length_cons, forwardSlots.eq_def, hq]
  simp only [ht]

theorem pairCross_gran (m : Nat) (hm : m < 2) (t : StTxn) (later : List StTxn) (b : Nat) (cs : List Host.Cell) (s : State)
    (hq : vget s.gates.pairF m = t :: later) (ht : t.what = .gran b cs) (hempty : vget s.gates.commitQ m = [])
    (h0 : CoreStill (2 * m) s) (h1 : CoreStill (2 * m + 1) s) (hp : PlacesStill s) :
    pairCross m s = stampArrival { s with gates :=
      { s.gates with pairF := vset s.gates.pairF m later, commitQ := vset s.gates.commitQ m [t] } } := by
  have hadd : vmod s.gates.commitQ m (fun l => l ++ [t]) = vset s.gates.commitQ m [t] := by rw [vmod, hempty]; rfl
  unfold pairCross
  rw [hq]
  dsimp only
  rw [ht, hadd]
  dsimp only
  exact pairOn_still m _ (forwardSlots_gran m b cs t [] _ (vget_vset_same _ _ _ hm) ht) (h0.of_standing rfl) (h1.of_standing rfl)
    (hp.of_eq rfl rfl)

/-! ### Into its memory (R156, R168, R169, R183) -/

section
variable {s : State}

/-- A transaction of one byte names that byte. -/
theorem txnAddr_byte (t : StTxn) (a : Nat) (b : Byte) (ht : t.what = .gran (a / 16) [(a, b)]) : txnAddr t = a := by
  unfold txnAddr
  rw [ht]
  show Nat.min (16 * (a / 16) + 15) a = a
  exact Nat.min_eq_right (by omega)

theorem candLands_gates (t : CandTxn) (s : State) : (candLands t s).gates = s.gates := by
  unfold candLands
  dsimp only
  split_ifs <;> rfl

/-- Deliveries of the CIC that cross leave what a pair has sent. -/
theorem gateLines_commitQ (writer : Option Nat) (lines : List Nat) (s : State) :
    (gateLines writer lines s).gates.commitQ = s.gates.commitQ := by
  refine forAll_keeps (fun u => u.gates.commitQ) _ _ s fun pr t => ?_
  dsimp only
  split
  · unfold gateFlush
    dsimp only
    split
    · exact forAll_keeps (fun u : State => u.gates.commitQ) _ _ _ fun _ _ => rfl
    · exact forAll_keeps (fun u : State => u.gates.commitQ) _ _ _ fun q u => congrArg Gates.commitQ (candLands_gates q u)
  · rfl

/-- The device once the caches of the other cores have dropped the line of a byte (R169). -/
def lineLeft (writer a : Nat) (s : State) : State :=
  mapCores (fun c k => if some writer = some c then k else dropLine (a / 64) k) (gateLines (some writer) [a / 64] s)

theorem lineLeft_standing (writer a c p : Nat) (hc : c < 4) (hw : (s.ctx c p).waiting = false) :
    standing c p (lineLeft writer a s) = standing c p s := by
  refine Eq.trans ?_ (gateLines_standing c p hc (some writer) [a / 64] s hw)
  have hcore : (lineLeft writer a s).core c = if some writer = some c then (gateLines (some writer) [a / 64] s).core c
      else dropLine (a / 64) ((gateLines (some writer) [a / 64] s).core c) := by
    simp [lineLeft, State.core, mapCores, vget, hc]
  unfold standing State.ctx
  rw [hcore]
  split <;> rfl

theorem lineLeft_keeps {β : Type} {g : State → β} (hg : ApartFromCores g) (writer a : Nat) (s : State) : g (lineLeft writer a s) = g s :=
  (hg.cores _ _).trans (gateLines_keeps hg _ _ s)

/-- A byte that commits: the line leaves the other caches, and the memory holds the byte. -/
theorem commitCells_byte (writer a : Nat) (b : Byte) (hecc : s.mem.ecc = []) (hm : Memory.wf 0 s.mem.sram = true) :
    ∃ m k, commitCells (some writer) [(a, b)] s = { lineLeft writer a s with mem := { s.mem with sram := m }, cus := k } ∧
      ∀ z, cellGet 0 m z = if z = a then b else cellGet 0 s.mem.sram z := by
  have hmem : (lineLeft writer a s).mem = s.mem :=
    lineLeft_keeps (g := State.mem) ⟨fun _ _ => rfl, fun _ _ => rfl, fun _ _ => rfl⟩ writer a s
  obtain ⟨m, k, hput, -, hget⟩ := commitWords_clean [a / 8] a [b] (lineLeft writer a s) (by rw [hmem]; exact hecc)
    (by rw [hmem]; exact hm)
  rw [hmem] at hput hget
  refine ⟨m, k, hput, fun z => (hget z).trans ?_⟩
  by_cases hz : z = a
  · subst hz
    rw [if_pos (by simp), if_pos rfl, Nat.sub_self]
    rfl
  · rw [if_neg (by rw [List.length_singleton]; omega), if_neg hz]

end

section
variable {m : Nat} {t : StTxn} {a : Nat} {b : Byte} {s : State} (hm : m < 2) (hq : vget s.gates.commitQ m = [t])
  (ht : t.what = .gran (a / 16) [(a, b)]) (h0 : CoreStill (2 * m) s) (h1 : CoreStill (2 * m + 1) s) (hp : PlacesStill s)
  (hz : s.zeroing t.core a = false)
include hm hq ht h0 h1 hz

/-- A store commits, and nothing waited for it. -/
theorem storeCommit_performs (u : State) (hu : perform t { s with gates := { s.gates with commitQ := vset s.gates.commitQ m [] } } = u)
    (hgates : u.gates.commitQ = vset s.gates.commitQ m [])
    (hstill : ∀ d, CoreStill d s → d < 4 → CoreStill d u) (hplaces : PlacesStill u) : storeCommit m s = u := by
  have hempty : vget u.gates.commitQ m = [] := by rw [hgates]; exact vget_vset_same _ _ _ hm
  unfold storeCommit
  rw [hq]
  dsimp only
  rw [txnAddr_byte t a b ht, hz, if_neg Bool.false_ne_true, hu]
  refine pairOn_still m u ?_ (hstill _ h0 (by omega)) (hstill _ h1 (by omega)) hplaces
  rw [hempty]
  rfl

include hp in
theorem storeCommit_byte (hecc : s.mem.ecc = []) (hwf : Memory.wf 0 s.mem.sram = true) (hmay : s.mayWrite t.core t.person a = true) :
    vget (storeCommit m s).gates.commitQ m = [] ∧
      ∀ z, cellGet 0 (storeCommit m s).mem.sram z = if z = a then b else cellGet 0 s.mem.sram z := by
  let s' := { s with gates := { s.gates with commitQ := vset s.gates.commitQ m [] } }
  obtain ⟨sram, k, hcommit, hget⟩ := commitCells_byte (s := s') t.core a b hecc hwf
  have hperform : perform t s' = { lineLeft t.core a s' with mem := { s.mem with sram := sram }, cus := k } := by
    have hmay' : s'.mayWrite t.core t.person a = true := hmay
    unfold perform
    rw [txnAddr_byte t a b ht, hmay', ht]
    exact hcommit
  have hwhole : storeCommit m s = { lineLeft t.core a s' with mem := { s.mem with sram := sram }, cus := k } := by
    refine storeCommit_performs hm hq ht h0 h1 hz _ hperform ?_ ?_ ?_
    · exact gateLines_commitQ (some t.core) [a / 64] s'
    · exact fun d hd hd4 => hd.of_standing (lineLeft_standing (s := s') t.core a d (curOf d s) hd4 hd.runs)
    · exact hp.of_eq
        (lineLeft_keeps (g := fun u => u.wit.fencing) ⟨fun _ _ => rfl, fun _ _ => rfl, fun _ _ => rfl⟩ t.core a s')
        (lineLeft_keeps (g := fun u => u.stw.persons) ⟨fun _ _ => rfl, fun _ _ => rfl, fun _ _ => rfl⟩ t.core a s')
  rw [hwhole]
  refine ⟨?_, hget⟩
  show vget (lineLeft t.core a s').gates.commitQ m = []
  rw [show (lineLeft t.core a s').gates.commitQ = s'.gates.commitQ from gateLines_commitQ (some t.core) [a / 64] s']
  exact vget_vset_same _ _ _ hm

end

/-! ### A store that is refused (R156, R183) -/

/-- A foreign access is reported; everything else stays. -/
theorem foreignAccess_keeps {β : Type} {g : State → β} (hg : ApartFromReports g) (hcus : ∀ v t, g { t with cus := v } = g t)
    (kind core person addr : Nat) (s : State) : g (foreignAccess kind core person addr s) = g s :=
  (logEvent_keeps hg _ _ _ _ _).trans ((setLeaf_keeps hg 10 2 _).trans ((hcus _ _).trans (hcus _ s)))

/-- The trailer of a person that is no witness person mirrors nothing (R188). -/
theorem mirrorTrail_alone (c p : Nat) (s : State) (h : s.witnessOn p = none) : mirrorTrail c p s = s := by
  unfold mirrorTrail
  rw [h]
  rfl

/-- A store's fault that waits changes nothing a core moves on by. -/
theorem CoreStill.storeFault {d : Nat} {s : State} (h : CoreStill d s) (c p : Nat) (hc : c < 4) (hp : p < 7) (l : List Word) :
    CoreStill d (setCtx c p (fun x => { x with storeFaults := x.storeFaults ++ l }) s) := by
  by_cases hd : d = c
  · subst hd
    have hcore := core_setCore d (fun k => { k with ctx := vmod k.ctx p fun x => { x with storeFaults := x.storeFaults ++ l } }) s hc
    have hcur : curOf d (setCtx d p (fun x => { x with storeFaults := x.storeFaults ++ l }) s) = curOf d s := curOf_setCtx d _ _ s hc
    refine ⟨(congrArg Core.sb hcore).trans h.buffer, (congrArg Core.switchDue hcore).trans h.switch, ?_, ?_⟩ <;> rw [hcur] <;>
      by_cases hq : p = curOf d s
    · subst hq
      rw [ctx_setCtx _ _ _ _ hc hp]
      exact h.runs
    · rw [ctx_setCtx_other _ _ _ _ _ _ hc (.inr hq)]
      exact h.runs
    · subst hq
      rw [ctx_setCtx _ _ _ _ hc hp]
      exact h.custody
    · rw [ctx_setCtx_other _ _ _ _ _ _ hc (.inr hq)]
      exact h.custody
  · exact h.of_standing (by simp only [standing, State.ctx, setCtx, core_setCore_other _ _ _ _ hd])

section
variable {m : Nat} {t : StTxn} {a : Nat} {b : Byte} {s : State} (hm : m < 2) (hq : vget s.gates.commitQ m = [t])
  (ht : t.what = .gran (a / 16) [(a, b)]) (h0 : CoreStill (2 * m) s) (h1 : CoreStill (2 * m + 1) s) (hp : PlacesStill s)
  (hz : s.zeroing t.core a = false)
include hm hq ht h0 h1 hp hz

theorem storeCommit_refused (hmay : s.mayWrite t.core t.person a = false) (hplaced : s.placedOn t.person t.core = true)
    (hw : (s.witnessOn t.person).isNone = true) (hc : t.core < 4) (hperson : t.person < 7) :
    vget (storeCommit m s).gates.commitQ m = [] ∧ (storeCommit m s).mem.sram = s.mem.sram ∧
      ((storeCommit m s).ctx t.core t.person).storeFaults = (s.ctx t.core t.person).storeFaults ++ [w32 a] := by
  let s' := { s with gates := { s.gates with commitQ := vset s.gates.commitQ m [] } }
  have hperform : perform t s' = discardStore t s' := by
    have hmay' : s'.mayWrite t.core t.person a = false := hmay
    unfold perform
    rw [txnAddr_byte t a b ht, hmay']
    rfl
  have hdiscard : discardStore t s' = (if (foreignAccess 1 t.core t.person a s').placedOn t.person t.core then
      mirrorTrail t.core t.person (setCtx t.core t.person (fun x => { x with storeFaults := x.storeFaults ++ [w32 a] })
        (foreignAccess 1 t.core t.person a s')) else foreignAccess 1 t.core t.person a s') := by
    unfold discardStore
    rw [txnAddr_byte t a b ht]
  have htold : (fun z : State => (z.cores, z.stw.persons, z.wit.fencing, z.gates.commitQ, z.mem)) (foreignAccess 1 t.core t.person a s') =
      (s.cores, s.stw.persons, s.wit.fencing, vset s.gates.commitQ m [], s.mem) :=
    foreignAccess_keeps (g := fun z : State => (z.cores, z.stw.persons, z.wit.fencing, z.gates.commitQ, z.mem))
      ⟨fun _ _ => rfl, fun _ _ => rfl, fun _ _ => rfl, fun _ _ => rfl, fun _ _ _ => rfl⟩ (fun _ _ => rfl) 1 t.core t.person a s'
  rw [hdiscard] at hperform
  generalize foreignAccess 1 t.core t.person a s' = told at hperform htold
  simp only [Prod.mk.injEq] at htold
  obtain ⟨hcores, hpersons, hfencing, hqueue, hmem⟩ := htold
  have hcore : ∀ d, told.core d = s.core d := fun d => congrArg (fun v => vget v d) hcores
  have hctx : told.ctx t.core t.person = s.ctx t.core t.person := by
    simp only [State.ctx, hcore]
  have hrecord : told.person t.person = s.person t.person := congrArg (fun v => vget v t.person) hpersons
  have hplaced' : told.placedOn t.person t.core = true := by
    rw [← hplaced]
    simp only [State.placedOn, State.running, hrecord]
  have hwit : told.witnessOn t.person = none := by
    rw [← Option.isNone_iff_eq_none.mp hw]
    simp only [State.witnessOn, hrecord]
  rw [hplaced', if_pos rfl] at hperform
  have hstill : ∀ d, CoreStill d s → d < 4 → CoreStill d (setCtx t.core t.person
      (fun x => { x with storeFaults := x.storeFaults ++ [w32 a] }) told) := fun d hd _ => by
    have htold : CoreStill d told := hd.of_standing (by simp only [standing, State.ctx, hcore])
    exact htold.storeFault t.core t.person hc hperson [w32 a]
  have hctx' : (setCtx t.core t.person (fun x => { x with storeFaults := x.storeFaults ++ [w32 a] }) told).ctx t.core t.person =
      { s.ctx t.core t.person with storeFaults := (s.ctx t.core t.person).storeFaults ++ [w32 a] } := by
    rw [ctx_setCtx _ _ _ _ hc hperson, hctx]
  have hmirror : mirrorTrail t.core t.person (setCtx t.core t.person (fun x => { x with storeFaults := x.storeFaults ++ [w32 a] }) told) =
      setCtx t.core t.person (fun x => { x with storeFaults := x.storeFaults ++ [w32 a] }) told :=
    mirrorTrail_alone _ _ _ hwit
  rw [hmirror] at hperform
  have hwhole := storeCommit_performs hm hq ht h0 h1 hz _ hperform hqueue hstill (hp.of_eq hfencing hpersons)
  rw [hwhole]
  refine ⟨?_, congrArg Mem.sram hmem, congrArg Ctx.storeFaults hctx'⟩
  show vget told.gates.commitQ m = []
  rw [hqueue]
  exact vget_vset_same _ _ _ hm

end

/-! ### Candidates, slots and the host's clears (R36, R213, R346) -/

theorem woken_cand (d r src c : Nat) (s : State) : ((woken d r src s).core c).cand = (s.core c).cand := by
  unfold woken
  split
  · by_cases hd : c = d
    · subst hd
      by_cases hc : c < 4
      · simp only [setCtx, core_setCore _ _ _ hc]
      · simp [State.core, setCtx, setCore, vget, hc]
    · exact congrArg Core.cand (core_setCore_other d c _ s hd)
  · rfl

theorem candLands_cand (k : CandTxn) (s : State) (hc : k.core < 4) (hp : k.person < 7) :
    vget ((candLands k s).core k.core).cand k.person = k.src := by
  have hset : ∀ t : State, (t.core k.core).cand =
      ((setCore k.core (fun z => { z with cand := vset z.cand k.person k.src }) s).core k.core).cand →
        vget (t.core k.core).cand k.person = k.src := fun t ht => by
    rw [ht, core_setCore _ _ _ hc]
    exact vget_vset_same _ _ _ hp
  rw [candLands_eq]
  dsimp only
  split
  · exact hset _ ((woken_cand _ _ _ _ _).trans (woken_cand _ _ _ _ _))
  · exact hset _ (woken_cand _ _ _ _ _)

/-- A candidate that crosses toward a pair that runs reaches its core. -/
theorem candCross_lands (m : Nat) (hm : m < 2) (k : CandTxn) (ks : List CandTxn) (s : State) (hq : vget s.gates.fPair m = k :: ks)
    (hopen : vget s.gates.closed m = false) (hrun : vget s.isl.pairSt m = .run) (hpower : s.isl.power = .run)
    (hw : (s.ctx k.core k.person).waiting = false) (hc : k.core < 4) (hp : k.person < 7) :
    vget (candCross m s).gates.fPair m = ks ∧ vget ((candCross m s).core k.core).cand k.person = k.src := by
  let s' := { s with gates := { s.gates with fPair := vset s.gates.fPair m ks } }
  have hlands : candArrives k s' = candLands k s' := if_pos (.inr (by
    rw [show (s'.ctx k.core k.person).waiting = false from hw]
    rfl))
  have hcross : candCross m s = candLands k s' := by
    unfold candCross
    rw [hq]
    dsimp only
    rw [hopen, hrun, hpower, if_neg (by simp), if_neg (by simp)]
    exact hlands
  rw [hcross]
  refine ⟨?_, candLands_cand k s' hc hp⟩
  rw [candLands_gates]
  exact vget_vset_same _ _ _ hm

/-- A slot that crosses shows in the mirror. -/
theorem gfHCross_slot (n q : Nat) (v : BitVec 64) (hs : List HTxn) (s : State) (hq : s.gates.gfH = .slot n v q :: hs) (hn : n < 128) :
    (gfHCross s).gates.gfH = hs ∧ vget (gfHCross s).win.live n = (v, q) := by
  unfold gfHCross
  rw [hq]
  exact ⟨rfl, vget_vset_same _ _ _ hn⟩

/-- The host's clear of leaves only takes its arrival number. -/
theorem hostCross_leafClear (n w : Nat) (gs : List GTxn) (s : State) (hq : s.gates.ghF = .leafClear n w :: gs)
    (htaken : s.gates.ghTaken = []) (hpower : s.isl.power = .run) : hostCross s =
      { s with gates := { s.gates with ghF := gs }, isl := { s.isl with arrival := s.isl.arrival + 1 } } := by
  unfold hostCross
  rw [hq]
  dsimp only
  rw [if_neg (show ¬(stampArrival { s with gates := { s.gates with ghF := gs } }).isl.power = .nap by
    rw [show (stampArrival { s with gates := { s.gates with ghF := gs } }).isl.power = .run from hpower]
    exact nofun)]
  unfold hostSends takeHeld
  rw [show (stampArrival { s with gates := { s.gates with ghF := gs } }).gates.ghTaken = [] from htaken]
  rw [forAll_nil, ← htaken]
  rfl

/-- Settles O29: each clause is its transfer's own lemma, where nothing on the pair waits for what the transfer brings. -/
theorem storesAndCandidatesCrossTheGates : Obligations.StoresAndCandidatesCrossTheGates := by
  unfold Obligations.StoresAndCandidatesCrossTheGates
  intro core pr e t later k ks n w q a v b hs gs s
  dsimp only
  have hm : pairNo pr < 2 := by cases pr <;> decide
  have hstill : ∀ d, ((s.core d).sb.isEmpty && !(s.core d).switchDue && !(s.ctx d (curOf d s)).waiting &&
      (s.ctx d (curOf d s)).cus.isNone) = true → CoreStill d s := fun d h => by
    simp only [Bool.and_eq_true, Bool.not_eq_true', List.isEmpty_iff, Option.isNone_iff_eq_none] at h
    obtain ⟨⟨⟨hsb, hdue⟩, hw⟩, hcus⟩ := h
    exact ⟨hsb, hdue, hw, hcus⟩
  refine ⟨?_, ?_, ?_, ?_, ?_, ?_⟩
  · rintro ⟨hsb, hdue, hw, hroom, hopen, hload, hsw, hruns⟩
    exact storeBufferDue_hands_over core e s hsb hdue hw hroom hopen hload hsw hruns
  · rintro ⟨hq, ht, hempty, h0, h1⟩ ⟨hfences, hstarts⟩
    have hcross := pairCross_gran (pairNo pr) hm t later _ _ s hq ht hempty (hstill _ h0) (hstill _ h1) ⟨hfences, hstarts⟩
    refine ⟨_, congrArg Host.Outcome.next (Eq.trans (by cases pr <;> rfl) hcross), ?_⟩
    exact ⟨vget_vset_same _ _ _ hm, vget_vset_same _ _ _ hm, rfl, rfl⟩
  · rintro ⟨hq, ht, rfl, h0, h1, hz, -, hwf, hecc⟩ ⟨hfences, hstarts⟩
    have hexec : exec (.storeCommit pr []) s = .next (storeCommit (pairNo pr) s) := by
      have hnone : addUpsets [] s = s := by
        unfold addUpsets
        rw [List.append_nil]
      exact congrArg (fun u => Host.Outcome.next (storeCommit (pairNo pr) u)) hnone
    refine ⟨fun hmay => ⟨_, hexec, ?_⟩, fun hmay hplaced hw hc hp => ⟨_, hexec, ?_⟩⟩
    · exact storeCommit_byte hm hq ht (hstill _ h0) (hstill _ h1) ⟨hfences, hstarts⟩ hz hecc hwf hmay
    · exact storeCommit_refused hm hq ht (hstill _ h0) (hstill _ h1) ⟨hfences, hstarts⟩ hz hmay hplaced hw hc hp
  · rintro ⟨hq, hopen, hrun, hpower, hw, hc, hp⟩
    exact ⟨candCross (pairNo pr) s, by cases pr <;> rfl, candCross_lands (pairNo pr) hm k ks s hq hopen hrun hpower hw hc hp⟩
  · rintro ⟨hq, hn⟩
    exact ⟨gfHCross s, rfl, gfHCross_slot n q v hs s hq hn⟩
  · rintro ⟨hq, htaken, hpower⟩
    exact ⟨hostCross s, rfl, hostCross_leafClear n w gs s hq htaken hpower⟩

end Sys2Proof.Machine
end

section
/-! The obligation on survey measurements and output faults (R40, R369, R372 to R374, R376 to R378, R383, R465). -/

namespace Sys2Proof.Machine

/-! ### Loops that each touch one place -/

theorem forNat_succ {σ : Type} (n : Nat) (f : Nat → σ → σ) (s : σ) : forNat (n + 1) f s = f n (forNat n f s) := by
  unfold forNat
  rw [List.range_succ, List.foldl_append]
  rfl

/-- What one step of a loop alone changes is at its end what that step made of it. -/
theorem forNat_once {σ β : Type} (w : σ → β) (n : Nat) (f : Nat → σ → σ) (s : σ) (i : Nat) (hi : i < n)
    (h : ∀ j, j ≠ i → ∀ t, w (f j t) = w t) : ∃ t, w t = w s ∧ w (forNat n f s) = w (f i t) := by
  induction n with
  | zero => exact absurd hi (Nat.not_lt_zero i)
  | succ n ih =>
    rw [forNat_succ]
    by_cases hn : n = i
    · subst hn
      have hbefore : ∀ m ≤ n, w (forNat m f s) = w s := fun m hm => by
        induction m with
        | zero => rfl
        | succ m ihm => rw [forNat_succ, h m (by omega), ihm (by omega)]
      exact ⟨_, hbefore n (Nat.le_refl n), rfl⟩
    · obtain ⟨t, ht, hend⟩ := ih (by omega)
      exact ⟨t, ht, (h n hn _).trans hend⟩

/-! ### Channels and outputs one by one -/

section
variable (n m : Nat) (s : State)

theorem sch_setCh (f : SrvChan → SrvChan) (h : n < 46) : (setCh n f s).sch n = f (s.sch n) := vget_vset_same _ _ _ h

theorem sch_setCh_other (f : SrvChan → SrvChan) (h : m ≠ n) : (setCh n f s).sch m = s.sch m := vget_vset_other _ _ _ _ h

theorem feed_setFeed (f : Feed → Feed) (h : n < 8) : (setFeed n f s).feed n = f (s.feed n) := vget_vset_same _ _ _ h

theorem feed_setFeed_other (f : Feed → Feed) (h : m ≠ n) : (setFeed n f s).feed m = s.feed m := vget_vset_other _ _ _ _ h

/-- A change of a channel that a view does not see. -/
theorem sch_setCh_view {α : Type} (view : SrvChan → α) (f : SrvChan → SrvChan) (h : ∀ q, view (f q) = view q) :
    view ((setCh n f s).sch m) = view (s.sch m) := by
  by_cases hm : m = n
  · subst hm
    by_cases hn : m < 46
    · rw [sch_setCh m s f hn, h]
    · simp [State.sch, setCh, vmod, vset, vget, hn]
  · rw [sch_setCh_other n m s f hm]

end

/-! ### What no verdict changes -/

/-- The outputs, the rails, what was measured of the channels, and the survey apart from them. -/
structure Surveyed where
  port : Ports
  rails : Vector Nat 2
  vstby : Nat
  srv : Srv
  chan : Nat → Nat × Nat × Option Baseline

def surveyed (s : State) : Surveyed where
  port := s.port
  rails := s.isl.railAvg
  vstby := s.snt.vstbyMv
  srv := { s.srv with chan := Vector.replicate 46 {} }
  chan n := measured (s.sch n)

theorem surveyed_apart : ApartFromVerdicts surveyed where
  latched _ _ := rfl
  gfH _ _ := rfl
  seqs _ _ := rfl
  shown _ _ := rfl
  events _ _ _ := rfl
  tlog _ _ _ _ _ := rfl
  store _ _ := rfl
  flc _ _ := rfl
  lifeShown _ _ := rfl
  src _ _ _ := rfl
  sent _ _ _ := rfl
  stir _ _ _ := rfl
  hold _ _ := rfl
  aside _ _ _ := rfl
  noted n f t h := congrArg (Surveyed.mk t.port t.isl.railAvg t.snt.vstbyMv { t.srv with chan := Vector.replicate 46 {} })
    (funext fun m => sch_setCh_view n m t measured f h)

section
variable {s t : State} (h : surveyed t = surveyed s)
include h

theorem port_of_surveyed : t.port = s.port := congrArg Surveyed.port h

theorem rails_of_surveyed : t.isl.railAvg = s.isl.railAvg ∧ t.snt.vstbyMv = s.snt.vstbyMv :=
  ⟨congrArg Surveyed.rails h, congrArg Surveyed.vstby h⟩

theorem refBad_of_surveyed : t.srv.refBad = s.srv.refBad := congrArg (fun z => z.srv.refBad) h

theorem sig_of_surveyed : t.srv.sig = s.srv.sig ∧ t.srv.dist = s.srv.dist :=
  ⟨congrArg (fun z => z.srv.sig) h, congrArg (fun z => z.srv.dist) h⟩

theorem tdr_of_surveyed : t.srv.tdr = s.srv.tdr ∧ t.srv.jobs = s.srv.jobs :=
  ⟨congrArg (fun z => z.srv.tdr) h, congrArg (fun z => z.srv.jobs) h⟩

theorem feed_of_surveyed (n : Nat) : t.feed n = s.feed n := by
  simp only [State.feed, port_of_surveyed h]

theorem measured_of_surveyed (n : Nat) : (t.sch n).value = (s.sch n).value ∧ (t.sch n).status = (s.sch n).status ∧
    (t.sch n).base = (s.sch n).base := by
  have hn : measured (t.sch n) = measured (s.sch n) := congrArg (fun z => z.chan n) h
  simpa only [measured, Prod.mk.injEq] using hn

end

theorem surveyed_pubSlot (n : Nat) (s : State) : surveyed (pubSlot n s) = surveyed s :=
  pubSlot_keeps surveyed_apart.toApartFromReports n s

/-! ### Averages (R40, R369, R372) -/

section
variable (place val : Nat → Nat) (n st i : Nat) (s : State)

/-- Channels written one after another, each at its place. -/
theorem sch_forNat (hi : i < n) (hp : place i < 46) (hne : ∀ j, j ≠ i → place j ≠ place i) :
    ((forNat n (fun k t => setCh (place k) (fun q => { q with value := val k, status := st }) t) s).sch (place i)).value = val i ∧
    ((forNat n (fun k t => setCh (place k) (fun q => { q with value := val k, status := st }) t) s).sch (place i)).status = st := by
  obtain ⟨t, -, ht⟩ := forNat_once (fun t : State => t.sch (place i)) n
    (fun k t => setCh (place k) (fun q => { q with value := val k, status := st }) t) s i hi
    fun j hj t => sch_setCh_other (place j) (place i) t _ (Ne.symm (hne j hj))
  rw [ht, sch_setCh (place i) t _ hp]
  exact ⟨rfl, rfl⟩

theorem sch_forNat_other (hne : ∀ k, place k ≠ i) :
    (forNat n (fun k t => setCh (place k) (fun q => { q with value := val k, status := st }) t) s).sch i = s.sch i :=
  forNat_keeps (fun t : State => t.sch i) n _ s fun k t => sch_setCh_other (place k) i t _ (Ne.symm (hne k))

theorem refBad_forNat : (forNat n (fun k t => setCh (place k) (fun q => { q with value := val k, status := st }) t) s).srv.refBad =
    s.srv.refBad := forNat_keeps (fun t : State => t.srv.refBad) n _ s fun _ _ => rfl

end

/-- The channels take their averages. -/
def measures (v : Nat → Nat) (st : Nat) (s : State) : State :=
  forNat 8 (fun n t => setCh (16 + n) (fun q => { q with value := v (10 + n), status := st }) t)
    (forNat 14 (fun n t => setCh n (fun q => { q with value := v (chanInput n), status := st }) t) s)

theorem measures_supply (v : Nat → Nat) (st i : Nat) (s : State) (hi : i < 14) :
    ((measures v st s).sch i).value = v (chanInput i) ∧ ((measures v st s).sch i).status = st := by
  have hfeeds := sch_forNat_other (fun n => 16 + n) (fun n => v (10 + n)) 8 st i
    (forNat 14 (fun n t => setCh n (fun q => { q with value := v (chanInput n), status := st }) t) s) fun k => by omega
  have hown := sch_forNat (fun n => n) (fun n => v (chanInput n)) 14 st i s hi (by omega) fun j hj => hj
  unfold measures
  rw [hfeeds]
  exact hown

theorem measures_feed (v : Nat → Nat) (st i : Nat) (s : State) (hi : i < 8) :
    ((measures v st s).sch (16 + i)).value = v (10 + i) ∧ ((measures v st s).sch (16 + i)).status = st := by
  have hplace : 16 + i < 46 := by omega
  have hown := sch_forNat (fun n => 16 + n) (fun n => v (10 + n)) 8 st i
    (forNat 14 (fun n t => setCh n (fun q => { q with value := v (chanInput n), status := st }) t) s) hi hplace
    fun j hj => fun h => hj (Nat.add_left_cancel h)
  unfold measures
  exact hown

theorem measures_refBad (v : Nat → Nat) (st : Nat) (s : State) : (measures v st s).srv.refBad = s.srv.refBad := by
  unfold measures
  rw [refBad_forNat (fun n => 16 + n) (fun n => v (10 + n)), refBad_forNat (fun n => n) (fun n => v (chanInput n))]

/-- The channels are judged, unless the reference is out. -/
def averagesJudged (bad : Bool) (s : State) : State :=
  pubSlot 4 (if bad then s else forNat 8 (fun n t => feedJudge n t) (forNat 14 (fun n t => judge n (supplyVerdict n (t.sch n)) t) s))

theorem surveyed_averagesJudged (bad : Bool) (s : State) : surveyed (averagesJudged bad s) = surveyed s := by
  refine (surveyed_pubSlot 4 _).trans ?_
  split
  · rfl
  · exact (forNat_keeps surveyed 8 _ _ fun n t => feedJudge_keeps surveyed_apart n t).trans
      (forNat_keeps surveyed 14 _ s fun n t => judge_keeps surveyed_apart n _ t)

/-- The reference's verdict, and what follows for the status of the channels. -/
def refOut (v : Nat → Nat) : Bool := decide (v 23 < 990) || decide (1010 < v 23)

theorem exec_surveyAverage (av : List Nat) (s : State) (h : av.length = 24) :
    exec (.surveyAverage av) s = .next (averagesJudged (refOut fun i => av.getD i 0)
      (measures (fun i => av.getD i 0) (if refOut fun i => av.getD i 0 then 4 else 1)
        { s with srv := { s.srv with refBad := refOut fun i => av.getD i 0 } })) := by
  show execSurveyAverage av s = _
  unfold execSurveyAverage averagesJudged measures refOut
  rw [if_neg (fun hn => hn h)]

theorem surveyAverage_values (av : List Nat) (s : State) (h : av.length = 24) : yields (.surveyAverage av) s fun t =>
    t.srv.refBad = refOut (fun i => av.getD i 0) ∧
    (∀ i < 14, (t.sch i).value = av.getD (if i ≤ 9 then i else i + 8) 0 ∧
      (t.sch i).status = if refOut (fun i => av.getD i 0) then 4 else 1) ∧
    (∀ i < 8, (t.sch (16 + i)).value = av.getD (10 + i) 0 ∧
      (t.sch (16 + i)).status = if refOut (fun i => av.getD i 0) then 4 else 1) := by
  refine ⟨_, exec_surveyAverage av s h, ?_⟩
  generalize refOut (fun i => av.getD i 0) = bad
  generalize (if bad then 4 else 1) = st
  have hsame := surveyed_averagesJudged bad (measures (fun i => av.getD i 0) st { s with srv := { s.srv with refBad := bad } })
  refine ⟨(refBad_of_surveyed hsame).trans (measures_refBad (fun i => av.getD i 0) st _), fun i hi => ?_, fun i hi => ?_⟩
  · obtain ⟨hval, hst, -⟩ := measured_of_surveyed hsame i
    obtain ⟨hv, hs⟩ := measures_supply (fun i => av.getD i 0) st i { s with srv := { s.srv with refBad := bad } } hi
    exact ⟨hval.trans hv, hst.trans hs⟩
  · obtain ⟨hval, hst, -⟩ := measured_of_surveyed hsame (16 + i)
    obtain ⟨hv, hs⟩ := measures_feed (fun i => av.getD i 0) st i { s with srv := { s.srv with refBad := bad } } hi
    exact ⟨hval.trans hv, hst.trans hs⟩

/-- An output takes its current; one no longer open is judged again. -/
def feedMeasured (v : Nat → Nat) (n : Nat) (t : State) : State :=
  let u := setFeed n (fun f => { f with cur := v (10 + n) }) t
  if (u.feed n).fault = 1 ∧ 50 ≤ v (10 + n) then feedJudge n (setFeed n (fun f => { f with fault := 0 }) u) else u

theorem cur_feedMeasured (v : Nat → Nat) (n : Nat) (t : State) (hn : n < 8) : ((feedMeasured v n t).feed n).cur = v (10 + n) := by
  unfold feedMeasured
  dsimp only
  split
  · rw [feed_of_surveyed (feedJudge_keeps surveyed_apart n _) n, feed_setFeed n _ _ hn, feed_setFeed n _ _ hn]
  · rw [feed_setFeed n _ _ hn]

theorem feed_feedMeasured_other (v : Nat → Nat) (n m : Nat) (t : State) (h : m ≠ n) : (feedMeasured v n t).feed m = t.feed m := by
  unfold feedMeasured
  dsimp only
  split
  · rw [feed_of_surveyed (feedJudge_keeps surveyed_apart n _) m, feed_setFeed_other n m _ _ h, feed_setFeed_other n m _ _ h]
  · rw [feed_setFeed_other n m _ _ h]

theorem rails_feedMeasured (v : Nat → Nat) (n : Nat) (t : State) :
    (feedMeasured v n t).isl.railAvg = t.isl.railAvg ∧ (feedMeasured v n t).snt.vstbyMv = t.snt.vstbyMv := by
  unfold feedMeasured
  dsimp only
  split
  · have hsame := feedJudge_keeps surveyed_apart n
      (setFeed n (fun f => { f with fault := 0 }) (setFeed n (fun f => { f with cur := v (10 + n) }) t))
    obtain ⟨hrails, hvstby⟩ := rails_of_surveyed hsame
    exact ⟨hrails, hvstby⟩
  · exact ⟨rfl, rfl⟩

/-- The rails and VSTBY take their averages. -/
def railsMeasured (v : Nat → Nat) (s : State) : State :=
  let t := railIs 0 (v 1) s
  pubSlot 3 (setSnt (fun q => { q with vstbyMv := v 8 }) (if t.fuses.part = .an then t else railIs 1 (v 2) t))

theorem oneMsAverage_values (av : List Nat) (s : State) (h : av.length = 24) : yields (.oneMsAverage av) s fun t =>
    vget t.isl.railAvg 0 = av.getD 1 0 ∧ t.snt.vstbyMv = av.getD 8 0 ∧
      vget t.isl.railAvg 1 = (if s.fuses.part = .an then vget s.isl.railAvg 1 else av.getD 2 0) ∧
      ∀ i < 8, (t.feed i).cur = av.getD (10 + i) 0 := by
  let v := fun i => av.getD i 0
  refine ⟨forNat 8 (fun n t => feedMeasured v n t) (railsMeasured v s), congrArg Host.Outcome.next (if_neg fun hn => hn h), ?_⟩
  have hrails : (forNat 8 (fun n t => feedMeasured v n t) (railsMeasured v s)).isl.railAvg = (railsMeasured v s).isl.railAvg :=
    forNat_keeps (fun t : State => t.isl.railAvg) 8 _ _ fun n t => (rails_feedMeasured v n t).1
  have hvstby : (forNat 8 (fun n t => feedMeasured v n t) (railsMeasured v s)).snt.vstbyMv = (railsMeasured v s).snt.vstbyMv :=
    forNat_keeps (fun t : State => t.snt.vstbyMv) 8 _ _ fun n t => (rails_feedMeasured v n t).2
  have hpub := surveyed_pubSlot 3 (setSnt (fun q => { q with vstbyMv := v 8 })
    (if (railIs 0 (v 1) s).fuses.part = .an then railIs 0 (v 1) s else railIs 1 (v 2) (railIs 0 (v 1) s)))
  have hset : (railsMeasured v s).isl.railAvg =
      if s.fuses.part = .an then vset s.isl.railAvg 0 (v 1) else vset (vset s.isl.railAvg 0 (v 1)) 1 (v 2) := by
    refine (rails_of_surveyed hpub).1.trans ?_
    show (setSnt _ (if s.fuses.part = .an then _ else _)).isl.railAvg = _
    split <;> rfl
  refine ⟨?_, hvstby.trans (rails_of_surveyed hpub).2, ?_, fun i hi => ?_⟩
  · rw [hrails, hset]
    split
    · exact vget_vset_same _ _ _ (by decide)
    · exact (vget_vset_other _ _ _ _ (by decide)).trans (vget_vset_same _ _ _ (by decide))
  · rw [hrails, hset]
    split
    · exact vget_vset_other _ _ _ _ (by decide)
    · exact vget_vset_same _ _ _ (by decide)
  · obtain ⟨t, -, ht⟩ := forNat_once (fun t : State => t.feed i) 8 (fun n t => feedMeasured v n t) (railsMeasured v s) i hi
      fun j hj t => feed_feedMeasured_other v j i t (Ne.symm hj)
    rw [ht]
    exact cur_feedMeasured v i t hi

end Sys2Proof.Machine
end

section
/-! SUPPORT. What a fault, a signature, a profile and a partner's verdict leave of the survey (R372 to R378, R383, R465). -/

namespace Sys2Proof.Machine

/-! ### Outputs and their faults (R372, R373, R465) -/

section
variable (n : Nat) (s : State)

theorem feed_feedJudge (m : Nat) : (feedJudge m s).feed n = s.feed n := feed_of_surveyed (feedJudge_keeps surveyed_apart m s) n

/-- Another output that is switched on from its edge leaves an output as it was. -/
theorem feed_feedEdge_other (m : Nat) (h : n ≠ m) : (feedEdge m s).feed n = s.feed n := by
  unfold feedEdge
  rw [feed_feedJudge]
  exact feed_setFeed_other m n s _ h

/-- The end of a burst switches on no output but one that was held back. -/
theorem feed_burstEnd (h : n ∉ s.port.heldOn) : (burstEnd s).feed n = s.feed n := by
  unfold burstEnd
  dsimp only
  split
  · rfl
  · next m r hheld =>
    have hne : n ≠ m := fun e => h (by rw [show s.port.heldOn = m :: r from hheld, e]; exact List.mem_cons_self)
    rw [feed_feedEdge_other n _ m hne]
    rfl

theorem feed_feedTurnOff (hn : n < 8) :
    (feedTurnOff n s).feed n = { s.feed n with on := false, fault := if (s.feed n).fault = 1 then 0 else (s.feed n).fault } := by
  have hoff := feed_setFeed n s (fun f => { f with on := false, fault := if f.fault = 1 then 0 else f.fault }) hn
  unfold feedTurnOff
  dsimp only
  rw [feed_feedJudge]
  split
  · rw [feed_burstEnd]
    · exact hoff
    · simp
  · exact hoff

/-- An overload or a short switches the output off and latches. -/
theorem feed_feedTrip (code : Nat) (hn : n < 8) (hcode : code ≠ 1) (hon : (s.feed n).on = true) :
    (feedTrip n code s).feed n = { s.feed n with on := false, latched := true, fault := code } := by
  unfold feedTrip
  rw [if_pos hon, feed_feedTurnOff n _ hn, feed_setFeed n s _ hn, if_neg hcode]

theorem feedOpen_shows (hn : n < 8) (hon : (s.feed n).on = true) (hfault : (s.feed n).fault = 0) :
    ((if (s.feed n).on ∧ (s.feed n).fault = 0 then feedJudge n (setFeed n (fun f => { f with fault := 1 }) s) else s).feed n) =
      { s.feed n with fault := 1 } := by
  rw [if_pos ⟨hon, hfault⟩, feed_feedJudge, feed_setFeed n s _ hn]

end

/-! ### Signatures (R373) -/

section
variable (n : Nat) (s : State)

/-- The next burst clears its output's verdict, and leaves what signatures there are. -/
theorem sig_burstEnd : (burstEnd s).srv.sig = s.srv.sig ∧ (burstEnd s).srv.dist = s.srv.dist := by
  unfold burstEnd
  dsimp only
  split
  · exact ⟨rfl, rfl⟩
  · unfold feedEdge
    dsimp only
    obtain ⟨hsig, hdist⟩ := sig_of_surveyed (feedJudge_keeps surveyed_apart _ _)
    exact ⟨hsig, hdist⟩

theorem burst_burstEnd (h : s.port.heldOn = []) : (burstEnd s).port.burst = none := by
  unfold burstEnd
  dsimp only
  rw [h]

/-- A signature is kept, with its distance from the baseline where it states one. -/
def signed (samples : List Nat) (s : State) : State :=
  let s := { s with srv := { s.srv with sig := vset s.srv.sig n (some samples) } }
  match (s.sch (16 + n)).base with
  | none => s
  | some b =>
    let r := match sigDistance samples b.sig with
      | some d => (d, s)
      | none => freeNat s
    { r.2 with srv := { r.2.srv with dist := vset r.2.srv.dist n (Nat.min 255 r.1),
                                     sigOut := vset r.2.srv.sigOut n (decide (b.win < r.1)) } }

theorem signed_sig (samples : List Nat) (hn : n < 8) : vget (signed n samples s).srv.sig n = some samples := by
  have hset : (signed n samples s).srv.sig = vset s.srv.sig n (some samples) := by
    unfold signed
    dsimp only
    split
    · rfl
    · split <;> rfl
  rw [hset]
  exact vget_vset_same _ _ _ hn

theorem signed_port (samples : List Nat) : (signed n samples s).port = s.port := by
  unfold signed
  dsimp only
  split
  · rfl
  · split <;> rfl

theorem signed_dist (samples : List Nat) (b : Baseline) (hn : n < 8) (hb : (s.sch (16 + n)).base = some b) (hden : b.sig.sum ≠ 0) :
    vget (signed n samples s).srv.dist n = min 255
      ((200 * (List.zipWith (fun x y => if x < y then y - x else x - y) samples b.sig).sum + b.sig.sum) / (2 * b.sig.sum)) := by
  have hbase : ({ s with srv := { s.srv with sig := vset s.srv.sig n (some samples) } }.sch (16 + n)).base = some b := hb
  unfold signed
  dsimp only
  rw [hbase]
  simp only [sigDistance, if_neg hden]
  exact vget_vset_same _ _ _ hn

theorem signatureDone_values (f : Fin 8) (samples : List Nat) (hburst : s.port.burst = some f.val) (hlen : samples.length = 64) :
    yields (.signatureDone f samples) s fun t => vget t.srv.sig f.val = some samples ∧ (s.port.heldOn = [] → t.port.burst = none) ∧
      ∀ b, (s.sch (16 + f.val)).base = some b → b.sig.sum ≠ 0 → vget t.srv.dist f.val = min 255
        ((200 * (List.zipWith (fun x y => if x < y then y - x else x - y) samples b.sig).sum + b.sig.sum) / (2 * b.sig.sum)) := by
  have hgo : ¬(s.port.burst ≠ some f.val ∨ samples.length ≠ 64) := by
    rw [hburst, hlen]
    exact fun h => h.elim (fun e => e rfl) (fun e => e rfl)
  refine ⟨burstEnd (feedJudge f.val (signed f.val samples s)), congrArg Host.Outcome.next (if_neg hgo), ?_⟩
  have hsame := feedJudge_keeps surveyed_apart f.val (signed f.val samples s)
  obtain ⟨hsig, hdist⟩ := sig_burstEnd (feedJudge f.val (signed f.val samples s))
  obtain ⟨hsig', hdist'⟩ := sig_of_surveyed hsame
  refine ⟨?_, fun hheld => burst_burstEnd _ ?_, fun b hb hden => ?_⟩
  · rw [hsig, hsig']
    exact signed_sig f.val s samples f.isLt
  · rw [port_of_surveyed hsame, signed_port, hheld]
  · rw [hdist, hdist']
    exact signed_dist f.val s samples b f.isLt hb hden

end

/-! ### Cables (R374, R376, R377) -/

section
variable (k : Nat) (s : State)

theorem cableJudge_surveyed (r : Tdr) : surveyed (cableJudge k r s) = surveyed s := by
  have hstreak : ∀ m, surveyed (setCh (24 + k) (fun q => { q with streak := m }) s) = surveyed s :=
    fun m => surveyed_apart.noted _ _ s fun _ => rfl
  unfold cableJudge
  dsimp only
  split
  · rfl
  · split
    · exact (judge_keeps surveyed_apart _ _ _).trans (hstreak 0)
    · split
      · exact judge_keeps surveyed_apart _ _ s
      · exact hstreak 1

/-- Nobody waits for a baseline: a measurement joins nothing. -/
theorem baseJobs_none (n : Nat) (r : Tdr) (t : State) (h : t.srv.jobs = []) : baseJobs n r t = t := by
  unfold baseJobs
  dsimp only
  rw [h]
  show { t with srv := { t.srv with jobs := [] } } = t
  rw [← h]

theorem tdrMeasurementDone_values (f : Fin 10) (r : Tdr) (hrun : (vget s.srv.tdr f.val).running = true) (hjobs : s.srv.jobs = []) :
    yields (.tdrMeasurementDone f r) s fun t =>
      vget t.srv.tdr f.val = { last := some (tdrNorm r), running := false, kept := 0 } ∧ (t.sch (24 + f.val)).value = r.len ∧
      (t.sch (24 + f.val)).status = (if (tdrNorm r).cls = 3 then 2 else 1) := by
  let u := setCh (24 + f.val) (fun q => { q with value := (tdrNorm r).len, status := if (tdrNorm r).cls = 3 then 2 else 1 })
    (setTdr f.val (fun u => { u with last := some (tdrNorm r), running := false, kept := 0 }) s)
  have hsame : surveyed (tdrDone f.val r s) = surveyed u := (surveyed_pubSlot 4 _).trans (cableJudge_surveyed f.val u (tdrNorm r))
  obtain ⟨htdr, hnone⟩ := tdr_of_surveyed hsame
  have hdone : exec (.tdrMeasurementDone f r) s = .next (tdrDone f.val r s) :=
    (congrArg Host.Outcome.next (if_pos hrun)).trans (congrArg Host.Outcome.next (baseJobs_none _ _ _ (hnone.trans hjobs)))
  have hchan : 24 + f.val < 46 := by have := f.isLt; omega
  have hu : u.sch (24 + f.val) = _ := sch_setCh (24 + f.val) _ _ hchan
  obtain ⟨hval, hst, -⟩ := measured_of_surveyed hsame (24 + f.val)
  refine ⟨tdrDone f.val r s, hdone, ?_, ?_, ?_⟩
  · rw [htdr]
    exact vget_vset_same _ _ _ f.isLt
  · rw [hval, hu]
    rfl
  · rw [hst, hu]

theorem tdrMeasurementAbandon_values (f : Fin 10) (hrun : (vget s.srv.tdr f.val).running = true) :
    yields (.tdrMeasurementAbandon f) s fun t => (vget t.srv.tdr f.val).running = false ∧ (t.sch (24 + f.val)).status = 3 := by
  let u := setCh (24 + f.val) (fun q => { q with status := 3 }) (setTdr f.val (fun u => { u with running := false, kept := 0 }) s)
  have hsame : surveyed (pubSlot 4 u) = surveyed u := surveyed_pubSlot 4 u
  have hchan : 24 + f.val < 46 := by have := f.isLt; omega
  refine ⟨pubSlot 4 u, congrArg Host.Outcome.next (if_pos hrun), ?_, ?_⟩
  · rw [(tdr_of_surveyed hsame).1]
    exact congrArg TdrUnit.running (vget_vset_same _ _ _ f.isLt)
  · rw [(measured_of_surveyed hsame _).2.1]
    exact congrArg SrvChan.status (sch_setCh _ _ _ hchan)

theorem tdrMeasureStart_runs : yields .tdrMeasureStart s fun t => ∀ i < 10, (vget t.srv.tdr i).running = true ∧
    (vget t.srv.tdr i).kept = (if (vget s.srv.tdr i).running then (vget s.srv.tdr i).kept else 0) := by
  refine ⟨_, rfl, fun i hi => ?_⟩
  obtain ⟨t, ht, hend⟩ := forNat_once (fun t : State => vget t.srv.tdr i) 10
    (fun k t => if (vget t.srv.tdr k).running then t else setTdr k (fun u => { u with running := true, kept := 0 }) t) s i hi
    fun j hj t => by
      split
      · rfl
      · exact vget_vset_other _ _ _ _ (Ne.symm hj)
  rw [hend, ← ht]
  split
  · next h => exact ⟨h, rfl⟩
  · rw [show vget (setTdr i _ t).srv.tdr i = _ from vget_vset_same _ _ _ hi]
    exact ⟨rfl, rfl⟩

end

end Sys2Proof.Machine
end

section
/-! The obligation on the survey: deviations that begin, partners, streams, and its clauses together (R369, R376, R378, R383, R385). -/

namespace Sys2Proof.Machine

/-! ### A deviation begins (R383) -/

/-- Whether a channel deviates, and why. -/
def deviates (q : SrvChan) : Bool × Nat := (q.dev, q.cause)

theorem deviates_apart (n : Nat) : ApartFromEntries deviates fun t => deviates (t.sch n) where
  latched _ _ := rfl
  gfH _ _ := rfl
  seqs _ _ := rfl
  shown _ _ := rfl
  events _ _ _ := rfl
  tlog _ _ _ _ _ := rfl
  store _ _ := rfl
  flc _ _ := rfl
  lifeShown _ _ := rfl
  src _ _ _ := rfl
  sent _ _ _ := rfl
  stir _ _ _ := rfl
  hold _ _ := rfl
  aside _ _ _ := rfl
  noted m f t h := sch_setCh_view m n t deviates f h

section
variable (n cause : Nat) (s : State)

theorem deviationBegin_shows (k : ChKind) (hk : chKind n = some k) (hn : n < 46) :
    ((deviationBegin n cause s).sch n).dev = true ∧ ((deviationBegin n cause s).sch n).cause = cause := by
  have hg := deviates_apart n
  have hr := hg.toApartFromReports
  have hbegun : ∀ (tc : Bool) (w : List Word), deviates ((logEvent 7 0 "SURVEY.DEVIATION" w (setLeafD 1 (kindNo k) [(7, n)]
      (setCh n (fun q => { q with dev := true, cause := cause, tamper := tc, devcount := satInc q.devcount 255, streak := 0 }) s))).sch n) =
        (true, cause) := fun tc w =>
    (logEvent_keeps hr _ _ _ _ _).trans ((setLeafD_keeps hr _ _ _ _).trans (congrArg deviates (sch_setCh n s _ hn)))
  have hshows : deviates ((deviationBegin n cause s).sch n) = (true, cause) := by
    unfold deviationBegin
    rw [hk]
    refine (slot4_keeps hg _).trans ?_
    split
    · exact (openHold_keeps hg 3 _).trans ((deviationEntry_keeps hg n _).trans ((setLeaf_keeps hr 1 4 _).trans (hbegun _ _)))
    · exact hbegun _ _
  exact ⟨congrArg Prod.fst hshows, congrArg Prod.snd hshows⟩

/-- A channel with a baseline that does not deviate yet begins to. -/
theorem judge_begins (b : Baseline) (hb : (s.sch n).base = some b) (hpeer : n ≠ 40 ∧ n ≠ 41) (hdev : (s.sch n).dev = false) :
    judge n (some cause) s = deviationBegin n cause s := by
  have hbased : based s n = true := by
    unfold based
    rw [if_neg (fun h => h.elim hpeer.1 hpeer.2), hb]
    rfl
  unfold judge
  rw [hbased, hdev]
  rfl

end

theorem chKind_cable (k : Nat) (h : k < 10) : chKind (24 + k) = some .cable := by
  unfold chKind
  rw [if_neg (by omega), if_neg (by omega), if_pos (by omega)]

theorem chKind_canPartner (k : Nat) (h : k < 2) : chKind (42 + k) = some .partner := by
  unfold chKind
  rw [if_neg (by omega), if_neg (by omega), if_neg (by omega), if_pos (by omega)]

section
variable (s : State) (b : Baseline)

theorem starvedTimeout_deviates (k : Fin 10) (hst : (s.sch (24 + k.val)).status = 3) (hb : (s.sch (24 + k.val)).base = some b)
    (hdev : (s.sch (24 + k.val)).dev = false) : yields (.starvedTimeout k) s fun t =>
      (t.sch (24 + k.val)).dev = true ∧ (t.sch (24 + k.val)).cause = 12 := by
  have hk := k.isLt
  have hjudge := judge_begins (24 + k.val) 12 s b hb (by omega) hdev
  exact ⟨deviationBegin (24 + k.val) 12 s, congrArg Host.Outcome.next ((if_pos hst).trans hjudge),
    deviationBegin_shows (24 + k.val) 12 s .cable (chKind_cable k.val hk) (by omega)⟩

/-! ### Partners on CAN (R378) -/

theorem canPartnerTimeout_deviates (c : Fin 2) (hb : (s.sch (42 + c.val)).base = some b)
    (hdiff : b.value ≠ bitN (vget s.port.can c.val).present) (hoff : (vget s.port.can c.val).busOff = false)
    (hdev : (s.sch (42 + c.val)).dev = false) : yields (.canPartnerTimeout c) s fun t =>
      (t.sch (42 + c.val)).dev = true ∧ (t.sch (42 + c.val)).cause = 14 := by
  have hc := c.isLt
  have hjudge := judge_begins (42 + c.val) 14 s b hb (by omega) hdev
  have hexec : exec (.canPartnerTimeout c) s = .next (deviationBegin (42 + c.val) 14 s) := by
    show execCanPartnerTimeout c s = _
    unfold execCanPartnerTimeout
    dsimp only
    rw [hb]
    dsimp only
    rw [if_pos ⟨hdiff, by rw [hoff]; rfl⟩, hjudge]
  exact ⟨_, hexec, deviationBegin_shows (42 + c.val) 14 s .partner (chKind_canPartner c.val hc) (by omega)⟩

end

/-- A partner that is inside its baseline again ends its deviation; one that changes lets slot 4 follow. -/
def partnerFollows (k : Nat) (b : Bool) (s : State) : State :=
  match (s.sch (42 + k)).base with
  | some x => if x.value = bitN b ∧ (s.sch (42 + k)).dev then judge (42 + k) none s else pubSlot 4 s
  | none => pubSlot 4 s

theorem surveyed_partnerFollows (k : Nat) (b : Bool) (s : State) : surveyed (partnerFollows k b s) = surveyed s := by
  unfold partnerFollows
  split
  · split
    · exact judge_keeps surveyed_apart _ _ s
    · exact surveyed_pubSlot 4 s
  · exact surveyed_pubSlot 4 s

/-- A controller's partner as it is now, with its channel. -/
def partnerIs (k : Nat) (b : Bool) (s : State) : State :=
  setCh (42 + k) (fun c => { c with value := bitN b, status := 1 })
    { s with port := { s.port with can := vmod s.port.can k fun c => { c with present := b } } }

theorem canPresent_eq (k : Nat) (b : Bool) (s : State) : canPresent k b s =
    partnerFollows k b (if (vget s.port.can k).present = b then partnerIs k b s else setLeaf 8 (4 + k) (partnerIs k b s)) := rfl

/-- A partner's value shows at once, whatever follows of it. -/
theorem surveyed_canPresent (k : Nat) (b : Bool) (s : State) : surveyed (canPresent k b s) = surveyed (partnerIs k b s) := by
  rw [canPresent_eq, surveyed_partnerFollows]
  split
  · rfl
  · exact setLeaf_keeps surveyed_apart.toApartFromReports 8 (4 + k) _

theorem canPresenceLapse_values (c : Fin 2) (s : State) (hoff : (vget s.port.can c.val).busOff = false) :
    yields (.canPresenceLapse c) s fun t => (vget t.port.can c.val).present = false ∧ (t.sch (42 + c.val)).value = 0 := by
  have hc := c.isLt
  have hsame := surveyed_canPresent c.val false s
  refine ⟨canPresent c.val false s, congrArg Host.Outcome.next (if_neg (by rw [hoff]; exact Bool.false_ne_true)), ?_, ?_⟩
  · rw [port_of_surveyed hsame]
    exact congrArg Can.present (vget_vset_same _ _ _ hc)
  · rw [(measured_of_surveyed hsame (42 + c.val)).1]
    exact congrArg SrvChan.value (sch_setCh (42 + c.val) _ _ (by omega))

/-! ### Streams (R369, R385) -/

theorem srv_apart_levels {β : Type} (g : Srv → β) : ApartFromLevels fun t => g t.srv :=
  ⟨⟨fun _ _ _ => rfl, fun _ _ _ => rfl⟩, fun _ _ _ => rfl⟩

theorem srvFifoRead_takes (core : Fin 4) (g : Fin 8) (e : Word) (rest : List Word) (s : State)
    (hown : ownsFrame s core.val 0x51 = true) (hq : vget s.srv.fifo g.val = e :: rest) : yields (.srvFifoRead core g) s fun t =>
      (t.core core.val).lastDev = e ∧ vget t.srv.fifo g.val = rest := by
  have htake : fifoTake g.val s = (e, surveyLevels { s with srv := { s.srv with fifo := vset s.srv.fifo g.val rest } }) := by
    unfold fifoTake
    rw [hq]
  have hexec : exec (.srvFifoRead core g) s = .next (toCore core.val (fifoTake g.val s)) := congrArg Host.Outcome.next (if_pos hown)
  rw [htake] at hexec
  have hfifo : (surveyLevels { s with srv := { s.srv with fifo := vset s.srv.fifo g.val rest } }).srv.fifo = vset s.srv.fifo g.val rest := 
    surveyLevels_keeps (srv_apart_levels Srv.fifo) { s with srv := { s.srv with fifo := vset s.srv.fifo g.val rest } }
  generalize surveyLevels { s with srv := { s.srv with fifo := vset s.srv.fifo g.val rest } } = z at hexec hfifo
  refine ⟨_, hexec, ?_, ?_⟩
  · exact congrArg Core.lastDev (core_setCore core.val (fun k => { k with lastDev := e }) z core.isLt)
  · show vget z.srv.fifo g.val = rest
    rw [hfifo]
    exact vget_vset_same _ _ _ g.isLt

section
variable {β : Type} {g : State → β} (hg : ApartFromSending g) (hisl : ∀ k t, g { t with isl := k } = g t)
  (hmov : ∀ v t, g { t with mov := v } = g t)
include hg hisl hmov

theorem matrixEvent_keeps (fuel ch : Nat) (e : MovEvt) (s : State) : g (matrixEvent fuel ch e s) = g s := by
  induction fuel generalizing ch e s with
  | zero => rfl
  | succ f ih =>
    unfold matrixEvent
    refine forNat_keeps g _ _ s fun n t => ?_
    split
    · refine (forNat_keeps g _ _ _ fun k u => ?_).trans ?_
      · split
        · dsimp only
          split
          · exact (ih _ _ _).trans (hmov _ u)
          · exact hmov _ u
        · rfl
      · split
        · exact cicPulse_keeps hg hisl _ t
        · rfl
    · rfl

/-- A request reaches the movers and the CIC only (R235, R243). -/
theorem raiseLine_keeps (n : Nat) (s : State) : g (raiseLine n s) = g s := by
  unfold raiseLine
  split
  · rfl
  · refine (forNat_keeps g _ _ _ fun k u => ?_).trans (hisl _ s)
    split
    · dsimp only
      split
      · exact (matrixEvent_keeps hg hisl hmov 16 k .error _).trans (hmov _ u)
      · exact hmov _ u
    · rfl

end

/-- The entry a scan makes of an input. -/
def streamEntry (vals : List Nat) (i : Nat) : Word := w32 (0x80000000 + i * 0x10000 + vals.getD i 0 % 0x10000)

/-- An input's entry enters its group's FIFO, or is lost. -/
def streamPut (g i : Nat) (vals : List Nat) (t : State) : State :=
  if (vget t.srv.fifo g).length < 16 then
    { t with srv := { t.srv with fifo := vmod t.srv.fifo g fun l => l ++ [streamEntry vals (3 * g + i)] } }
  else { t with srv := { t.srv with ovf := t.srv.ovf ||| BitVec.ofNat 8 (2 ^ g) } }

theorem streamPut_room (g i : Nat) (vals : List Nat) (t : State) (hg : g < 8) (h : (vget t.srv.fifo g).length < 16) :
    vget (streamPut g i vals t).srv.fifo g = vget t.srv.fifo g ++ [streamEntry vals (3 * g + i)] := by
  unfold streamPut
  rw [if_pos h]
  exact vget_vset_same _ _ _ hg

theorem streamPut_other (g h i : Nat) (vals : List Nat) (t : State) (hne : h ≠ g) :
    vget (streamPut g i vals t).srv.fifo h = vget t.srv.fifo h := by
  unfold streamPut
  split
  · exact vget_vset_other _ _ _ _ hne
  · rfl

theorem streamPut_rest (g i : Nat) (vals : List Nat) (t : State) :
    (streamPut g i vals t).srv.en = t.srv.en ∧ (streamPut g i vals t).srv.scans = t.srv.scans := by
  unfold streamPut
  split <;> exact ⟨rfl, rfl⟩

theorem streamGroup_eq (g : Nat) (vals : List Nat) (s : State) : streamGroup g vals s =
    if !s.srv.en.getLsbD g then s
    else
      let t := streamPut g 2 vals (streamPut g 1 vals (streamPut g 0 vals s))
      if (vget s.srv.fifo g).length < 4 ∧ 4 ≤ (vget t.srv.fifo g).length then surveyLevels t else t := rfl

/-- What the entries of a group leave, its requests leave. -/
theorem streamGroup_keeps {β : Type} (w : Srv → β) (g : Nat) (vals : List Nat) (s : State)
    (h : ∀ i t, w (streamPut g i vals t).srv = w t.srv) : w (streamGroup g vals s).srv = w s.srv := by
  have hputs : w (streamPut g 2 vals (streamPut g 1 vals (streamPut g 0 vals s))).srv = w s.srv := by rw [h, h, h]
  rw [streamGroup_eq]
  dsimp only
  split
  · rfl
  · split
    · exact (surveyLevels_keeps (srv_apart_levels w) _).trans hputs
    · exact hputs

theorem streamGroup_room (g : Nat) (vals : List Nat) (s : State) (hg : g < 8) (hen : s.srv.en.getLsbD g = true)
    (hroom : (vget s.srv.fifo g).length ≤ 13) : vget (streamGroup g vals s).srv.fifo g =
      vget s.srv.fifo g ++ [streamEntry vals (3 * g), streamEntry vals (3 * g + 1), streamEntry vals (3 * g + 2)] := by
  have h0 := streamPut_room g 0 vals s hg (by omega)
  have h1 := streamPut_room g 1 vals (streamPut g 0 vals s) hg (by rw [h0, List.length_append, List.length_singleton]; omega)
  have h2 := streamPut_room g 2 vals (streamPut g 1 vals (streamPut g 0 vals s)) hg
    (by rw [h1, h0]; simp only [List.length_append, List.length_singleton]; omega)
  have hputs : vget (streamPut g 2 vals (streamPut g 1 vals (streamPut g 0 vals s))).srv.fifo g =
      vget s.srv.fifo g ++ [streamEntry vals (3 * g), streamEntry vals (3 * g + 1), streamEntry vals (3 * g + 2)] := by
    rw [h2, h1, h0, List.append_assoc, List.append_assoc]
    rfl
  rw [streamGroup_eq, hen]
  dsimp only
  rw [if_neg (by simp)]
  split
  · exact (surveyLevels_keeps (srv_apart_levels fun z => vget z.fifo g) _).trans hputs
  · exact hputs

theorem converterScan_streams (g : Nat) (hg : g < 8) (vals : List Nat) (s : State) (hrun : s.isl.port = .run) (hlen : vals.length = 24)
    (hdue : s.srv.decim ≤ s.srv.scans) (hen : s.srv.en.getLsbD g = true) (hroom : (vget s.srv.fifo g).length ≤ 13) :
    yields (.converterScan vals) s fun t => vget t.srv.fifo g =
      vget s.srv.fifo g ++ [streamEntry vals (3 * g), streamEntry vals (3 * g + 1), streamEntry vals (3 * g + 2)] ∧ t.srv.scans = 0 := by
  let u : State := { s with srv := { s.srv with scans := 0 } }
  have hstore : scanStore vals s = forNat 8 (fun g t => streamGroup g vals t) u := by
    unfold scanStore
    rw [if_neg (fun h => h hlen), decide_eq_true hdue]
    rfl
  have hexec : exec (.converterScan vals) s =
      .next (forAll (newRequests s (scanStore vals s)) (fun g u => raiseLine (28 + g) u) (scanStore vals s)) :=
    congrArg Host.Outcome.next (if_neg fun h => h hrun)
  have hraised : (forAll (newRequests s (scanStore vals s)) (fun g u => raiseLine (28 + g) u) (scanStore vals s)).srv =
      (scanStore vals s).srv :=
    forAll_keeps State.srv _ _ _ fun g u => raiseLine_keeps ⟨fun _ _ _ => rfl, fun _ _ _ => rfl⟩ (fun _ _ => rfl) (fun _ _ => rfl) (28 + g) u
  have hscans : (scanStore vals s).srv.scans = 0 := by
    rw [hstore]
    exact forNat_keeps (fun t : State => t.srv.scans) 8 _ u fun g t =>
      streamGroup_keeps Srv.scans g vals t fun i t => (streamPut_rest g i vals t).2
  obtain ⟨t, ht, hend⟩ := forNat_once (fun t : State => (t.srv.en, vget t.srv.fifo g)) 8 (fun g t => streamGroup g vals t) u g hg
    fun j hj t => streamGroup_keeps (fun z => (z.en, vget z.fifo g)) j vals t fun i t =>
      Prod.ext (streamPut_rest j i vals t).1 (streamPut_other j g i vals t (Ne.symm hj))
  simp only [Prod.mk.injEq] at ht hend
  refine ⟨_, hexec, ?_, ?_⟩
  · rw [hraised, hstore, hend.2, streamGroup_room g vals t hg (by rw [ht.1]; exact hen) (by rw [ht.2]; exact hroom), ht.2]
  · rw [hraised, hscans]

/-! ### The clauses together -/

/-- Settles O39: each clause is its command's own lemma; a verdict on a channel leaves what was measured. -/
theorem surveyRecordsWhatItMeasures : Obligations.SurveyRecordsWhatItMeasures := by
  unfold Obligations.SurveyRecordsWhatItMeasures
  intro core n g k c av sm vals r e rest b kept s
  dsimp only
  refine ⟨surveyAverage_values av s, oneMsAverage_values av s, fun hon hfault => ?_, fun hon => ?_, fun hon => ?_, fun hburst hlen => ?_,
    tdrMeasureStart_runs s, fun hrun => ?_, tdrMeasurementDone_values s k r, tdrMeasurementAbandon_values s k, starvedTimeout_deviates s b k,
    canPartnerTimeout_deviates s b c, canPresenceLapse_values c s, srvFifoRead_takes core g e rest s, ?_⟩
  · refine ⟨_, rfl, ?_⟩
    dsimp only
    rw [feedOpen_shows n.val s n.isLt hon hfault]
    exact ⟨rfl, hon⟩
  · refine ⟨_, rfl, ?_⟩
    dsimp only
    rw [feed_feedTrip n.val s 2 n.isLt (by decide) hon]
    exact ⟨rfl, rfl, rfl⟩
  · refine ⟨_, rfl, ?_⟩
    dsimp only
    rw [feed_feedTrip n.val s 3 n.isLt (by decide) hon]
    exact ⟨rfl, rfl, rfl⟩
  · obtain ⟨t, ht, hsig, hheld, hdist⟩ := signatureDone_values s n sm hburst hlen
    exact ⟨t, ht, hsig, hheld, fun hb hden _ => hdist b hb hden⟩
  · cases kept
    · exact ⟨s, congrArg Host.Outcome.next (if_neg fun h => Bool.noConfusion h.2), rfl⟩
    · exact ⟨_, congrArg Host.Outcome.next (if_pos ⟨hrun, rfl⟩), rfl⟩
  · exact fun hrun hlen hdue hen hroom => converterScan_streams g.val g.isLt vals s hrun hlen hdue hen hroom

end Sys2Proof.Machine
end

section
/-! SUPPORT. A line that is accepted, its tag and its reply: what they leave of the device (R300, R304, R307, R309 to R312, R320, R361). -/

namespace Sys2Proof.Machine

/-! ### A carrier's own record -/

theorem find_car_map (c : Carrier) (f : CarSt → CarSt) (hf : ∀ q, (f q).car = q.car) (l : List CarSt) :
    (l.map fun q => if q.car = c then f q else q).find? (fun q => decide (q.car = c)) =
      (l.find? fun q => decide (q.car = c)).map f := by
  induction l with
  | nil => rfl
  | cons q r ih =>
    by_cases hq : q.car = c
    · simp [hq, hf]
    · simp [hq, ih]

/-- A carrier reads as its change made it. -/
theorem car_setCar (c : Carrier) (f : CarSt → CarSt) (s : State) (hf : ∀ q, (f q).car = q.car) : (setCar c f s).car c = f (s.car c) := by
  unfold setCar
  split
  · next h =>
    obtain ⟨q, hq⟩ := Option.isSome_iff_exists.1 ((List.find?_isSome).2 (List.any_eq_true.1 h))
    simp [State.car, setOru, find_car_map c f hf, hq]
  · next h =>
    have hnone : (s.oru.cars.find? fun q => decide (q.car = c)) = none :=
      List.find?_eq_none.2 fun q hq hc => h (List.any_eq_true.2 ⟨q, hq, hc⟩)
    simp [State.car, setOru, List.find?_append, hnone, hf]

/-! ### A reply on its way -/

/-- A part of the state that neither a leaf nor a line that leaves is in. -/
structure ApartFromLines {β : Type} (g : State → β) : Prop extends ApartFromLevels g where
  latched : ∀ v t, g { t with snt := { t.snt with latched := v } } = g t
  gfH : ∀ v t, g { t with gates := { t.gates with gfH := v } } = g t
  mbox : ∀ v t, g { t with oru := { t.oru with mbox := v } } = g t
  queued : ∀ q b t, g { t with win := { t.win with rxQ := q, lineLost := b } } = g t
  chn : ∀ v t, g { t with chn := v } = g t

section
variable {β : Type} {g : State → β} (hg : ApartFromLines g)
include hg

theorem toMailbox_keeps (p : Nat) (final : Bool) (kind : Nat) (t : Text) (s : State) : g (toMailbox p final kind t s) = g s := by
  unfold toMailbox
  split
  · exact hg.mbox _ s
  · exact (cicLevel_keeps hg.toApartFromLevels _ _ _).trans (hg.mbox _ s)

theorem sendOrune_keeps (dst kind carrier origin : Nat) (t : Text) (s : State) : g (sendOrune dst kind carrier origin t s) = g s := by
  unfold sendOrune
  split
  · rfl
  · unfold sendKeyed
    split
    · rfl
    · exact hg.chn _ s

theorem winLeaf_keeps (l : Nat) (s : State) : g (setLeaf 6 l s) = g s := by
  unfold setLeaf setLeafD
  split
  · split
    · exact hg.latched _ s
    · rfl
  · exact hg.gfH _ s

theorem winSend_keeps (final : Bool) (t : Text) (s : State) : g (winSend final t s) = g s := by
  unfold winSend
  split
  · exact (winLeaf_keeps hg 2 _).trans (hg.gfH _ s)
  · split
    · exact hg.queued _ s.win.lineLost s
    · exact (winLeaf_keeps hg 3 _).trans (hg.queued s.win.rxQ _ s)

/-- A line that leaves touches no carrier but SVC and HST. -/
theorem sendLine_keeps (c : Carrier) (final : Bool) (kind : Nat) (t : Text) (s : State)
    (hemit : ∀ u, c = .svc ∨ c = .hst → g (emit c u s) = g s) : g (sendLine c final kind t s) = g s := by
  unfold sendLine
  split
  · dsimp only
    split
    · exact hemit _ (.inl rfl)
    · exact hemit _ (.inl rfl)
  · exact hemit _ (.inr rfl)
  · exact winSend_keeps hg final t s
  · exact toMailbox_keeps hg _ final kind t s
  · exact sendOrune_keeps hg _ _ _ _ t s

section
variable (hcars : ∀ v t, g { t with oru := { t.oru with cars := v } } = g t)
include hcars

omit hg in
theorem setCar_keeps (c : Carrier) (f : CarSt → CarSt) (s : State) : g (setCar c f s) = g s := by
  unfold setCar
  split <;> exact hcars _ s

theorem replyText_keeps (ln : Ln) (final : Bool) (mark : Char) (t : Text) (s : State) : g (replyText ln final mark t s) = g s := by
  have hone : ∀ final mark t s, g (replyOne ln final mark t s) = g s := fun final mark t s =>
    sendLine_keeps hg _ final 1 _ s fun u _ => setCar_keeps hcars ln.car _ s
  exact (hone final mark _ _).trans (forAll_keeps g _ _ s fun q u => hone false '~' q u)

/-- A reply to a line leaves what is apart from lines and carriers. -/
theorem replyOk_keeps (ln : Ln) (t : Text) (s : State) : g (replyOk ln t s) = g s := by
  unfold replyOk finalReply
  split
  · exact (replyText_keeps hg hcars ln true '+' t _).trans (setCar_keeps hcars ln.car _ s)
  · rfl

end

end

/-! ### The carrier a reply leaves on -/

theorem cars_apart : ApartFromLines fun t => t.oru.cars where
  src _ _ _ := rfl
  sent _ _ _ := rfl
  stir _ _ _ := rfl
  latched _ _ := rfl
  gfH _ _ := rfl
  mbox _ _ := rfl
  queued _ _ _ := rfl
  chn _ _ := rfl

theorem car_emit (c : Carrier) (t : Text) (s : State) : (emit c t s).car c = { s.car c with out := (s.car c).out ++ t } :=
  car_setCar c _ s fun _ => rfl

/-- A view of a carrier apart from what it has sent. -/
theorem sendLine_car {α : Type} (view : CarSt → α) (hview : ∀ q o, view { q with out := o } = view q) (c : Carrier) (final : Bool)
    (kind : Nat) (t : Text) (s : State) : view ((sendLine c final kind t s).car c) = view (s.car c) := by
  have hemit : ∀ u, view ((emit c u s).car c) = view (s.car c) := fun u => by rw [car_emit, hview]
  have hapart : ∀ z : State, z.oru.cars = s.oru.cars → view (z.car c) = view (s.car c) := fun z hz => by
    unfold State.car
    rw [hz]
  cases c with
  | svc =>
    unfold sendLine
    dsimp only
    split
    · exact hemit _
    · exact hemit _
  | hst => exact hemit _
  | win => exact hapart _ (winSend_keeps cars_apart final t s)
  | core p => exact hapart _ (toMailbox_keeps cars_apart p final kind t s)
  | chain n o => exact hapart _ (sendOrune_keeps cars_apart n _ o n t s)

theorem replyText_car {α : Type} (view : CarSt → α) (hview : ∀ q o, view { q with out := o } = view q) (ln : Ln) (final : Bool)
    (mark : Char) (t : Text) (s : State) : view ((replyText ln final mark t s).car ln.car) = view (s.car ln.car) :=
  (sendLine_car view hview ln.car final 1 _ _).trans
    (forAll_keeps (fun z : State => view (z.car ln.car)) _ _ s fun _ u => sendLine_car view hview ln.car false 1 _ u)

/-! ### Tags (R309) -/

theorem car_openTag (ln : Ln) (n : Nat) (s : State) : (openTag ln n s).car ln.car =
    { s.car ln.car with tags := (s.car ln.car).tags ++ [{ tag := ln.tag, node := n, sfx := ln.sfx }] } :=
  car_setCar ln.car _ s fun _ => rfl

theorem car_closeTag (c : Carrier) (tag : Option Nat) (s : State) : (closeTag c tag s).car c =
    { s.car c with
      tags := (s.car c).tags.filter fun k => decide (k.tag ≠ tag)
      chBuf := if (s.car c).tags.any fun k => decide (k.tag = tag) && k.installs then [] else (s.car c).chBuf } :=
  car_setCar c _ s fun _ => rfl

/-- An accepted line's tag is not outstanding yet (R300, R309). -/
theorem tag_fresh (ln : Ln) (s : State) (h : tagRefusal s ln = none) : ∀ q ∈ (s.car ln.car).tags, q.tag ≠ ln.tag := by
  intro q hq htag
  unfold tagRefusal at h
  dsimp only at h
  split at h
  · exact absurd h (by simp)
  · split at h
    · next t ht =>
      have hany : ((s.car ln.car).tags.any fun q => decide (q.tag = some t)) = true :=
        List.any_eq_true.2 ⟨q, hq, by rw [htag, ht]; simp⟩
      rw [if_pos hany] at h
      exact absurd h (by simp)
    · next ht =>
      have hany : ((s.car ln.car).tags.any fun q => q.tag.isNone) = true :=
        List.any_eq_true.2 ⟨q, hq, by rw [htag, ht]; rfl⟩
      rw [if_pos (.inr hany)] at h
      exact absurd h (by simp)

/-! ### A line that is taken (R37, R307, R312) -/

section
variable (ln : Ln) (s : State)

/-- A line that comes touches its carrier and of the islands' record neither the step of the start nor the requests. -/
theorem lineTaken_keeps {β : Type} {g : State → β}
    (hg : ∀ k o t, k.step = t.isl.step → k.opReq = t.isl.opReq → g { t with isl := k, oru := o } = g t) : g (lineTaken ln s) = g s := by
  have hcar : ∀ f t, g (setCar ln.car f t) = g t := fun f t =>
    setCar_keeps (fun v u => hg u.isl { u.oru with cars := v } u rfl rfl) ln.car f t
  have hcome : g (stampArrival (napEnd s)) = g s := by
    refine (hg { (napEnd s).isl with arrival := (napEnd s).isl.arrival + 1 } (napEnd s).oru (napEnd s) rfl rfl).trans ?_
    unfold napEnd
    split
    · exact hg _ s.oru s rfl rfl
    · rfl
  unfold lineTaken openTag lineCome
  rw [hcar, hcar, hcome]

theorem oru_napEnd : (napEnd s).oru = s.oru := by
  unfold napEnd
  split <;> rfl

theorem car_lineCome : (lineCome ln s).car ln.car = { s.car ln.car with lastSfx := ln.sfx } := by
  have hsame : (stampArrival (napEnd s)).car ln.car = s.car ln.car := by
    show (napEnd s).car ln.car = _
    unfold State.car
    rw [oru_napEnd s]
  unfold lineCome
  rw [car_setCar ln.car (fun q => { q with lastSfx := ln.sfx }) _ fun _ => rfl, hsame]

theorem car_lineTaken : (lineTaken ln s).car ln.car =
    { s.car ln.car with lastSfx := ln.sfx, tags := (s.car ln.car).tags ++ [{ tag := ln.tag, node := 0, sfx := ln.sfx }] } := by
  unfold lineTaken
  rw [car_openTag, car_lineCome]

theorem sessOf_lineTaken : sessOf (lineTaken ln s) ln.car = sessOf s ln.car := by
  unfold sessOf
  split
  · rfl
  · rw [car_lineTaken]

theorem partyOf_lineTaken : partyOf (lineTaken ln s) ln.car = partyOf s ln.car := by
  unfold partyOf
  rw [sessOf_lineTaken]

theorem opReq_lineTaken : (lineTaken ln s).isl.opReq = s.isl.opReq := lineTaken_keeps ln s (g := fun t => t.isl.opReq) fun _ _ _ _ h => h

theorem tagOpen_lineTaken : tagOpen (lineTaken ln s) ln = true := by
  unfold tagOpen
  rw [car_lineTaken]
  simp

/-- An accepted line with a session comes to its pair. -/
theorem takeLine_needs (f : State → State) (h : lineAccepted ln s = true) (hsess : (sessOf s ln.car).isSome = true) :
    takeLine ln (needs f) s = f (lineTaken ln s) := by
  simp only [lineAccepted, Bool.and_eq_true, Option.isNone_iff_eq_none] at h
  obtain ⟨⟨hheard, hhere⟩, htag⟩ := h
  have htag' : tagRefusal (lineCome ln s) ln = none := by
    rw [← htag]
    unfold tagRefusal
    rw [car_lineCome]
  have hsess' : (sessOf (lineTaken ln s) ln.car).isNone = false := by
    rw [sessOf_lineTaken, ← Option.not_isSome, hsess]
    rfl
  unfold takeLine
  rw [hheard, hhere]
  show (match tagRefusal (lineCome ln s) ln with
    | some q => refuseTag ln q (lineCome ln s)
    | none => lineHere ln (needs f) (openTag ln 0 (lineCome ln s))) = _
  rw [htag']
  show (if (true && (sessOf (lineTaken ln s) ln.car).isNone) = true then _ else f (lineTaken ln s)) = _
  rw [hsess']
  rfl

end

end Sys2Proof.Machine
end

section
/-! The obligation on pairs that act at once (R41, R51, R307, R311, R331, R332, R338). -/

namespace Sys2Proof.Machine

/-! ### What lines leave of requests and of the steward's records -/

theorem opReq_apart : ApartFromLines fun t => t.isl.opReq where
  src _ _ _ := rfl
  sent _ _ _ := rfl
  stir _ _ _ := rfl
  latched _ _ := rfl
  gfH _ _ := rfl
  mbox _ _ := rfl
  queued _ _ _ := rfl
  chn _ _ := rfl

theorem stw_apart : ApartFromLines State.stw where
  src _ _ _ := rfl
  sent _ _ _ := rfl
  stir _ _ _ := rfl
  latched _ _ := rfl
  gfH _ _ := rfl
  mbox _ _ := rfl
  queued _ _ _ := rfl
  chn _ _ := rfl

section
variable (ln : Ln) (s : State)

theorem partyRight_lineTaken (p bit : Nat) : partyRight (lineTaken ln s) p bit = partyRight s p bit :=
  lineTaken_keeps ln s (g := fun t => partyRight t p bit) fun _ _ _ _ _ => rfl

theorem life_lineTaken : (lineTaken ln s).life = s.life := 
  lineTaken_keeps ln s (g := State.life) fun k o t hstep _ => by
    have hin : ({ t with isl := k, oru := o } : State).inService = t.inService := by
      unfold State.inService
      rw [show ({ t with isl := k, oru := o } : State).isl.step = t.isl.step from hstep]
      rfl
    unfold State.life
    rw [hin]
    rfl

theorem stw_lineTaken : (lineTaken ln s).stw = s.stw := lineTaken_keeps ln s (g := State.stw) fun _ _ _ _ _ => rfl

/-! ### SET OPPOINT (R41) -/

/-- A party with the right sets its request, and its line is answered. -/
theorem setOppoint_requests (n v : Nat) (hn : n < 2) (hright : partyRight s (partyOf s ln.car) 10 = true)
    (hpair : n = 0 ∨ s.fuses.part = .ah) :
    vget (setOppoint ln n v s).isl.opReq n = vset (vget s.isl.opReq n) (8 + partyOf s ln.car) v := by
  have hneed : needRight s (partyOf s ln.car) 10 = none := if_pos hright
  have hpart : ¬(n = 1 ∧ s.fuses.part = .an) := by
    rintro ⟨h1, han⟩
    rcases hpair with h0 | hah
    · omega
    · rw [han] at hah
      exact absurd hah (by decide)
  unfold setOppoint
  rw [hneed]
  dsimp only
  rw [if_neg hpart, show ∀ t u, (replyOk ln t u).isl.opReq = u.isl.opReq from fun t u => replyOk_keeps opReq_apart (fun _ _ => rfl) ln t u]
  exact vget_vset_same _ _ _ hn

/-! ### WRITE CHARTER (R332) -/

/-- An answer discards no buffer but that of an INSTALL CHARTER. -/
theorem chBuf_replyOk (t : Text) (h : ((s.car ln.car).tags.any fun k => decide (k.tag = ln.tag) && k.installs) = false) :
    ((replyOk ln t s).car ln.car).chBuf = (s.car ln.car).chBuf := by
  unfold replyOk finalReply
  split
  · rw [replyText_car CarSt.chBuf (fun _ _ => rfl), car_closeTag]
    dsimp only
    rw [h]
    rfl
  · rfl

/-- The tag of an accepted line belongs to no INSTALL CHARTER. -/
theorem lineTaken_installs (h : tagRefusal s ln = none) :
    (((lineTaken ln s).car ln.car).tags.any fun k => decide (k.tag = ln.tag) && k.installs) = false := by
  rw [car_lineTaken, List.any_append, Bool.or_eq_false_iff]
  refine ⟨List.any_eq_false.2 fun q hq hon => ?_, by simp⟩
  rw [Bool.and_eq_true, decide_eq_true_eq] at hon
  exact tag_fresh ln s h q hq hon.1

theorem writeCharter_appends (at_ : Nat) (data : Bytes) (htag : tagRefusal s ln = none)
    (hright : s.life = 1 ∨ partyRight s (partyOf s ln.car) 12 = true) (hat : at_ = (s.car ln.car).chBuf.length)
    (hfit : at_ + data.length ≤ 792) (hunit : data.length % 16 = 0 ∨ at_ + data.length = 792) :
    ((writeCharter ln at_ data (lineTaken ln s)).car ln.car).chBuf = (s.car ln.car).chBuf ++ data ∧
      (writeCharter ln at_ data (lineTaken ln s)).stw = s.stw := by
  have hbuf : ((lineTaken ln s).car ln.car).chBuf = (s.car ln.car).chBuf := by rw [car_lineTaken]
  have hopen : charterRight (lineTaken ln s) (partyOf (lineTaken ln s) ln.car) = none := by
    unfold charterRight blankOpen needRight
    rw [life_lineTaken, partyOf_lineTaken, partyRight_lineTaken]
    rcases hright with h | h
    · rw [if_pos (by rw [h]; rfl)]
    · rw [if_pos h]
      split <;> rfl
  have hgood : ¬(at_ ≠ (s.car ln.car).chBuf.length ∨ charterLen < at_ + data.length ∨
      (data.length % 16 ≠ 0 ∧ at_ + data.length ≠ charterLen)) := by
    unfold charterLen
    omega
  unfold writeCharter
  dsimp only
  rw [hopen]
  dsimp only
  rw [hbuf, if_neg hgood]
  have hcar := car_setCar ln.car (fun q => { q with chBuf := (s.car ln.car).chBuf ++ data }) (lineTaken ln s) fun _ => rfl
  refine ⟨?_, ?_⟩
  · rw [chBuf_replyOk, hcar]
    rw [hcar]
    exact lineTaken_installs ln s htag
  · refine (replyOk_keeps stw_apart (fun _ _ => rfl) ln _ _).trans ?_
    exact (setCar_keeps (g := State.stw) (fun _ _ => rfl) ln.car _ _).trans (stw_lineTaken ln s)

/-! ### RESTART DEVICE (R51, R304, R307, R338) -/

theorem decAux_length (f n : Nat) (acc : Text) : (decAux f n acc).length ≤ f + acc.length := by
  induction f generalizing n acc with
  | zero => exact Nat.le_add_left _ _
  | succ f ih =>
    unfold decAux
    split
    · rw [List.length_cons]
      omega
    · have h := ih (n / 10) (digit n :: acc)
      rw [List.length_cons] at h
      omega

theorem decText_length (n : Nat) : (decText n).length ≤ 80 := decAux_length 80 n []

omit s in
/-- A short text always finds its room behind a reply's head. -/
theorem replyHead_length (mark : Char) : (replyHead ln mark).length ≤ 163 := by
  have hend : ∀ h : Text, h.length ≤ 82 →
      (h ++ mark :: (match ln.tag with | some t => decText t | none => [])).length ≤ 163 := fun h hh => by
    rw [List.length_append, List.length_cons]
    split
    · next t _ =>
      have := decText_length t
      omega
    · exact Nat.le_trans (Nat.add_le_add_right hh 1) (by decide)
  unfold replyHead
  split
  · next n _ =>
    split
    · exact hend [] (by decide)
    · refine hend _ ?_
      have := decText_length n
      simp only [List.length_append, List.length_cons, List.length_nil]
      omega
  · exact hend [] (by decide)

/-- A serial carrier on which no line is being typed. -/
def serialFree (c : Carrier) (s : State) : Prop := c = .hst ∨ (c = .svc ∧ (s.car .svc).inp = [])

theorem out_sendLine (c : Carrier) (final : Bool) (kind : Nat) (t : Text) (h : serialFree c s) :
    ((sendLine c final kind t s).car c).out = (s.car c).out ++ (t ++ crlf) := by
  rcases h with rfl | ⟨rfl, hinp⟩
  · exact congrArg CarSt.out (car_emit .hst _ s)
  · unfold sendLine
    dsimp only
    rw [hinp]
    exact congrArg CarSt.out (car_emit .svc _ s)

/-- A short answer leaves as one line. -/
theorem out_replyOk (t : Text) (hopen : tagOpen s ln = true) (hfree : serialFree ln.car s) (hne : t ≠ [])
    (hroom : t.length ≤ 80) : ((replyOk ln t s).car ln.car).out =
      (s.car ln.car).out ++ checked ln.car ln.sfx (replyHead ln '+' ++ ' ' :: t) ++ crlf := by
  have hclosed : serialFree ln.car (closeTag ln.car ln.tag s) := by
    rcases hfree with h | ⟨h, hinp⟩
    · exact .inl h
    · refine .inr ⟨h, ?_⟩
      rw [h] at *
      rw [car_closeTag]
      exact hinp
  have hshort : t.length ≤ 250 - (replyHead ln '+').length - 1 - 3 := by
    have := replyHead_length ln '+'
    omega
  have hsome : ¬(t.isEmpty = true ∧ ln.tag.isSome = true) := fun h => hne (List.isEmpty_iff.1 h.1)
  unfold replyOk finalReply
  rw [if_pos hopen]
  unfold replyText
  dsimp only
  rw [if_pos hshort]
  show ((replyOne ln true '+' t (closeTag ln.car ln.tag s)).car ln.car).out = _
  unfold replyOne
  dsimp only
  rw [if_neg hsome, out_sendLine _ _ _ _ _ hclosed, car_closeTag, List.append_assoc]

/-- What a serial carrier has sent stands when the islands lose power. -/
theorem find_car_kept (c : Carrier) (hc : c = .svc ∨ c = .hst) (l : List CarSt) :
    (((l.filter fun q => decide (q.car = .svc) || decide (q.car = .hst)).map fun q => ({ car := q.car, out := q.out } : CarSt)).find?
      fun q => decide (q.car = c)) = (l.find? fun q => decide (q.car = c)).map fun q => { car := q.car, out := q.out } := by
  induction l with
  | nil => rfl
  | cons q r ih =>
    by_cases hq : q.car = c
    · rcases hc with rfl | rfl <;> simp [hq]
    · by_cases hkept : (decide (q.car = .svc) || decide (q.car = .hst)) = true
      · simp only [List.filter_cons, hkept, if_true, List.map_cons, List.find?_cons, decide_eq_false hq, ih]
      · simp only [List.filter_cons, hkept, if_false, List.find?_cons, decide_eq_false hq, ih, Bool.false_eq_true]

theorem out_powerLost (pw : Power) (c : Carrier) (hc : c = .svc ∨ c = .hst) : ((powerLost pw s).car c).out = (s.car c).out := by
  have horu : (flashCut s).oru = s.oru := flashCut_keeps ⟨fun _ _ => rfl, fun _ _ => rfl, fun _ _ => rfl⟩ s
  have hcars : (powerLost pw s).oru.cars =
      ((flashCut s).oru.cars.filter fun q => decide (q.car = .svc) || decide (q.car = .hst)).map fun q =>
        { car := q.car, out := q.out } := by
    simp only [powerLost]
  unfold State.car
  rw [hcars, horu, find_car_kept c hc]
  cases s.oru.cars.find? fun q => decide (q.car = c) <;> rfl

theorem restartDevice_begins (t : State) : (restartDevice t).isl.power = .starting ∧ (restartDevice t).isl.next.restart = true ∧
    (restartDevice t).isl.clean = true := by
  unfold restartDevice
  rw [beginStart_eq]
  exact ⟨rfl, rfl, rfl⟩

theorem out_restartDevice (c : Carrier) (hc : c = .svc ∨ c = .hst) (t : State) : ((restartDevice t).car c).out = (t.car c).out := by
  have hlost := out_powerLost (setIsl (fun k => { k with clean := true }) t) .starting c hc
  unfold restartDevice
  rw [beginStart_eq]
  generalize powerLost .starting (setIsl (fun k => { k with clean := true }) t) = z at hlost ⊢
  exact hlost

/-- A party with the right, or in BLANK, gets its answer, and the start begins. -/
theorem restartDeviceBy_goes (hright : s.life = 1 ∨ partyRight s (partyOf s ln.car) 13 = true) (hlife : s.life ≠ 5) :
    restartDeviceBy ln s = restartDevice (replyOk ln (tx "DEVICE RESTART") s) := by
  have hopen : (if blankOpen s then none else needRight s (partyOf s ln.car) 13) = (none : Option Err) := by
    unfold blankOpen needRight
    rcases hright with h | h
    · rw [if_pos (by rw [h]; rfl)]
    · rw [if_pos h]
      split <;> rfl
  unfold restartDeviceBy
  rw [hopen, if_neg hlife]
  rfl

/-! ### HOLD LIFECYCLE (R331, R334) -/

/-- Zeros behind the bytes of a number add nothing. -/
theorem leNat_zeros (l : Bytes) (n : Nat) : leNat (l ++ List.replicate n 0) = leNat l := by
  induction l with
  | nil =>
    induction n with
    | zero => rfl
    | succ n ih =>
      show (0 : Byte).toNat + 256 * leNat (List.replicate n 0) = 0
      rw [show leNat (List.replicate n 0) = 0 from ih]
      rfl
  | cons b r ih => exact congrArg (fun m => b.toNat + 256 * m) ih

/-- The reason's characters, at most 20 and zeros behind them, are the words of the event. -/
theorem leAt_padTo (b : Bytes) (i : Nat) (h : i < 5) : leAt (padTo 20 b) (4 * i) 4 = leAt b (4 * i) 4 := by
  have hcut : ((b.take 20).drop (4 * i)).take 4 = (b.drop (4 * i)).take 4 := by
    rw [List.drop_take, List.take_take, Nat.min_eq_left (by omega)]
  unfold leAt slice padTo
  rw [List.drop_append, List.take_append, List.drop_replicate, List.take_replicate, leNat_zeros, hcut]

/-- An order that cancels a retirement leaves the orders and the event log. -/
theorem cancelRetire_keeps (src party : Nat) : (cancelRetire src party s).oru = s.oru ∧
    (cancelRetire src party s).stw.elog = s.stw.elog ∧ (cancelRetire src party s).stw.elogNext = s.stw.elogNext := by
  have hslot : ∀ t, (pubSlot 1 t).oru = t.oru ∧ (pubSlot 1 t).stw = t.stw := fun t => by
    unfold pubSlot
    split <;> exact ⟨rfl, rfl⟩
  unfold cancelRetire
  split
  · exact ⟨rfl, rfl, rfl⟩
  · rw [(hslot _).1, (hslot _).2]
    exact ⟨rfl, rfl, rfl⟩

/-- A HOLD that may be given joins its slot; it cancels a retirement that waits, and does nothing else. -/
theorem submit_hold (src party : Nat) (hmay : mayOrder party (some ln.car) .hold s = true) :
    ∃ t, submit src party .hold (.line ln) s =
      setOru (fun q => { q with orders := q.orders ++
        [{ arr := s.isl.arrival, src := src, party := party, rank := partyRank s party, act := .hold, objs := [.lifecycle], dest := .line ln }] }) t ∧
      t.oru = s.oru ∧ t.stw.elog = s.stw.elog ∧ t.stw.elogNext = s.stw.elogNext := by
  simp only [mayOrder, Bool.and_eq_true, Option.isNone_iff_eq_none] at hmay
  obtain ⟨hright, hstate⟩ := hmay
  refine ⟨if contradicts .hold && !(s.oru.orders.any fun q => decide (q.act = .confirm)) then cancelRetire src party s else s, ?_, ?_⟩
  · unfold submit
    rw [hright, show actState s party (carOf (.line ln)) .hold = none from hstate]
    rfl
  · split
    · exact cancelRetire_keeps s src party
    · exact ⟨rfl, rfl, rfl⟩

/-- A new event is the latest of the log. -/
theorem logEvent_last (src party : Nat) (code : String) (data : List Word) (h : data.length = 5) :
    (logEvent src party code data s).stw.elog.getLast?.map (fun e => (e.code, e.data)) = some (tx code, data) := by
  have htake : data.take 5 = data := List.take_of_length_le (by omega)
  unfold logEvent
  dsimp only
  rw [List.getLast?_drop, if_neg (by rw [List.length_append, List.length_singleton]; omega), List.getLast?_append, htake]
  rfl

theorem partyOf_apart (c : Carrier) : ApartFromReports fun t => partyOf t c :=
  ⟨fun _ _ => rfl, fun _ _ => rfl, fun _ _ => rfl, fun _ _ => rfl, fun _ _ _ => rfl⟩

theorem partyRank_apart (p : Nat) : ApartFromReports fun t => partyRank t p :=
  ⟨fun _ _ => rfl, fun _ _ => rfl, fun _ _ => rfl, fun _ _ => rfl, fun _ _ _ => rfl⟩

theorem life_apart : ApartFromReports State.life where
  latched _ _ := by unfold State.life; rfl
  gfH _ _ := by unfold State.life; rfl
  seqs _ _ := by unfold State.life; rfl
  shown _ _ := by unfold State.life; rfl
  events _ _ _ := by unfold State.life; rfl

/-- An event changes neither the right to HOLD nor the states that allow it. -/
theorem mayOrder_hold_logEvent (src party : Nat) (code : String) (data : List Word) (p : Nat) (o : Option Carrier) :
    mayOrder p o .hold (logEvent src party code data s) = mayOrder p o .hold s := by
  have hlife : (logEvent src party code data s).life = s.life := logEvent_keeps life_apart src party code data s
  have hright : actRight (logEvent src party code data s) p .hold = actRight s p .hold :=
    logEvent_keeps (g := fun t => actRight t p .hold)
      ⟨fun _ _ => rfl, fun _ _ => rfl, fun _ _ => rfl, fun _ _ => rfl, fun _ _ _ => rfl⟩ src party code data s
  simp only [mayOrder, hright, actState, wrongLife, hlife]

/-- A reason is noted in the event log, then the order joins its slot: the note is the latest event. -/
theorem holdLifecycle_notes (reason : Text) (hr : reason ≠ []) (hmay : mayOrder (partyOf s ln.car) (some ln.car) .hold s = true) :
    (holdLifecycle ln reason s).oru.orders = s.oru.orders ++
      [{ arr := s.isl.arrival, src := carSrc ln.car, party := partyOf s ln.car, rank := partyRank s (partyOf s ln.car),
         act := .hold, objs := [.lifecycle], dest := .line ln }] ∧
    (holdLifecycle ln reason s).stw.elogNext = s.stw.elogNext + 1 ∧
    (holdLifecycle ln reason s).stw.elog.getLast?.map (fun e => (e.code, e.data)) =
      some (tx "HOLD_REASON", (List.range 5).map fun i => w32 (leAt (textBytes reason) (4 * i) 4)) := by
  let words := (List.range 5).map fun i => w32 (leAt (padTo 20 (textBytes reason)) (4 * i) 4)
  let noted := logEvent (carSrc ln.car) (partyOf s ln.car) "HOLD_REASON" words s
  have hwords : words = (List.range 5).map fun i => w32 (leAt (textBytes reason) (4 * i) 4) :=
    List.map_congr_left fun i hi => congrArg w32 (leAt_padTo _ i (List.mem_range.1 hi))
  have hparty : partyOf noted ln.car = partyOf s ln.car := logEvent_keeps (partyOf_apart ln.car) _ _ _ words s
  have hrank : partyRank noted (partyOf s ln.car) = partyRank s (partyOf s ln.car) := logEvent_keeps (partyRank_apart _) _ _ _ words s
  have hmay' : mayOrder (partyOf s ln.car) (some ln.car) .hold noted = true := (mayOrder_hold_logEvent s _ _ _ words _ _).trans hmay
  have hnote : holdLifecycle ln reason s = submit (carSrc ln.car) (partyOf s ln.car) .hold (.line ln) noted := by
    unfold holdLifecycle lineOrder
    dsimp only
    rw [if_neg (by simpa using hr)]
    exact congrArg (fun p => submit (carSrc ln.car) p .hold (.line ln) noted) hparty
  obtain ⟨t, ht, horu, helog, hnext⟩ := submit_hold ln noted (carSrc ln.car) (partyOf s ln.car) hmay'
  rw [hnote, ht]
  refine ⟨?_, hnext, ?_⟩
  · show t.oru.orders ++ _ = _
    rw [horu, hrank]
    rfl
  · show t.stw.elog.getLast?.map _ = _
    rw [helog, ← hwords]
    exact logEvent_last s _ _ _ words (by simp [words])

end

/-- Settles O42: each pair acts on the device that has taken its line (`takeLine_needs`), and its reply leaves what it did. -/
theorem pairsActAtOnce : Obligations.PairsActAtOnce := by
  unfold Obligations.PairsActAtOnce
  intro ln pr v at_ data reason s
  dsimp only
  intro hacc hsess
  have htag : tagRefusal s ln = none := by
    simp only [lineAccepted, Bool.and_eq_true, Option.isNone_iff_eq_none] at hacc
    exact hacc.2
  have hser : serialLine ln s = true → serialFree ln.car (lineTaken ln s) := fun h => by
    simp only [serialLine, Bool.and_eq_true, Bool.or_eq_true, decide_eq_true_eq, List.isEmpty_iff] at h
    refine h.2.imp_right fun hsvc => ⟨hsvc.1, ?_⟩
    have hcar := car_lineTaken ln s
    rw [hsvc.1] at hcar
    rw [hcar]
    exact hsvc.2
  have hparty := partyOf_lineTaken ln s
  refine ⟨fun hright hpair => ?_, fun hright hat hfit hunit hlow hhigh => ?_, fun hright hlife => ?_, fun hr hmay => ?_⟩
  · refine ⟨_, congrArg Host.Outcome.next (takeLine_needs ln s _ hacc hsess), ?_⟩
    have hset := setOppoint_requests ln (lineTaken ln s) (pairNo pr) (match v with | some k => k.val | none => 7) (by cases pr <;> decide)
      (by rw [hparty, partyRight_lineTaken]; exact hright)
      (hpair.imp_right fun h => (lineTaken_keeps ln s (g := fun t => t.fuses.part) fun _ _ _ _ _ => rfl).trans h)
    rw [opReq_lineTaken, hparty] at hset
    exact hset
  · have hdata : dataOk data (needs (writeCharter ln at_ data)) = needs (writeCharter ln at_ data) :=
      if_pos (by rw [decide_eq_true hlow, decide_eq_true hhigh]; rfl)
    have hexec : exec (.writeCharter ln at_ data) s = .next (takeLine ln (dataOk data (needs (writeCharter ln at_ data))) s) := rfl
    rw [hdata, takeLine_needs ln s _ hacc hsess] at hexec
    exact ⟨_, hexec, writeCharter_appends ln s at_ data htag hright hat hfit hunit⟩
  · have hgoes := restartDeviceBy_goes ln (lineTaken ln s) (by rw [life_lineTaken, hparty, partyRight_lineTaken]; exact hright)
      (by rw [life_lineTaken]; exact hlife)
    have hexec : exec (.restartDevice ln) s = .next (takeLine ln (needs (restartDeviceBy ln)) s) := rfl
    rw [takeLine_needs ln s _ hacc hsess, hgoes] at hexec
    obtain ⟨hpower, hcause, hclean⟩ := restartDevice_begins (replyOk ln (tx "DEVICE RESTART") (lineTaken ln s))
    refine ⟨_, hexec, hpower, hcause, hclean, fun hserial => ?_⟩
    have hfree := hser hserial
    rw [out_restartDevice ln.car (hfree.elim .inr fun h => .inl h.1),
      out_replyOk ln _ (tx "DEVICE RESTART") (tagOpen_lineTaken ln s) hfree (by decide) (by decide), car_lineTaken]
    rfl
  · obtain ⟨horders, hnext, hlast⟩ := holdLifecycle_notes ln (lineTaken ln s) reason hr (by rw [hparty]; exact hmay)
    have hrank : partyRank (lineTaken ln s) (partyOf s ln.car) = partyRank s (partyOf s ln.car) :=
      lineTaken_keeps ln s (g := fun t => partyRank t (partyOf s ln.car)) fun _ _ _ _ _ => rfl
    rw [hparty, hrank] at horders
    rw [stw_lineTaken] at hnext
    exact ⟨_, congrArg Host.Outcome.next (takeLine_needs ln s _ hacc hsess), horders, hnext, hlast⟩

end Sys2Proof.Machine
end

section
/-! SUPPORT. A syllable that only computes, on a core ready for it: its results and its flags go to its person's registers, and nothing
else happens (R65, R67, R68, R91). -/

namespace Sys2Proof.Machine

/-! ### A syllable that breaks no rule (R60, R65, R66) -/

theorem oneSyllable_len (y : Syl) : (oneSyllable y).len = src2Len y.s2 := by
  obtain ⟨unit, op, mode, d, s1, s2, guard⟩ := y
  cases s2 with
  | reg r => rfl
  | imm i => cases i <;> rfl

/-- A second source names a register its class allows, or a legal immediate. -/
def src2Fits (o : Op) (q : Src2) : Bool :=
  match q with
  | .reg r => fieldOk (s2Class o) r
  | .imm i => src2Ok (zeroExt o) (.imm i)

theorem sylOk_of_fields (y : Syl) (hcrc : crcOk y.op = true) (hd : fieldOk (dClass y.op) y.d = true)
    (h1 : fieldOk (s1Class y.op) y.s1 = true) (h2 : src2Fits y.op y.s2 = true) (hl : y.op ≠ .loop) : sylOk y = true := by
  unfold sylOk
  rw [hcrc, hd, h1]
  cases h : y.s2 with
  | reg r => rw [h] at h2; exact h2
  | imm i =>
    rw [h] at h2
    obtain ⟨v, hv⟩ := Option.isSome_iff_exists.mp (show (immValue (zeroExt y.op) i).isSome = true from h2)
    simp [hv, hl]

/-- An operation that only computes, is no divide, and that every unit of its kind has; no pair is its destination. -/
def plainOp (o : Op) : Bool := computes o && !m1Only o && !isDivide o && decide (dClass o ≠ .pairs)

theorem plainOp_facts {o : Op} (h : plainOp o = true) :
    computes o = true ∧ m1Only o = false ∧ isDivide o = false ∧ dClass o ≠ .pairs := by
  simpa [plainOp, and_assoc] using h

theorem computes_facts {o : Op} (h : computes o = true) : isLoad o = false ∧ isStore o = false ∧ o ≠ .loop := by
  simp only [computes, Bool.and_eq_true, Bool.not_eq_true'] at h
  exact ⟨h.1.1, h.1.2, (isB_ne h.2).2.1⟩

theorem regsOf_nodup {k : FClass} (f : BitVec 6) (h : k ≠ .pairs) : (regsOf k f).Nodup := by
  cases k with
  | pairs => exact absurd rfl h
  | unused => exact List.nodup_nil
  | _ => exact List.nodup_singleton _

theorem plainOp_legal (y : Syl) (hop : plainOp y.op = true) (hok : sylOk y = true) : (oneSyllable y).bad = none := by
  obtain ⟨hcomp, hm1, -, hd⟩ := plainOp_facts hop
  obtain ⟨hload, hstore, -⟩ := computes_facts hcomp
  have hdests : destsOf y = regsOf (dClass y.op) y.d := by simp [destsOf, updatesX, hload, hstore]
  simp [oneSyllable, hok, hm1, hdests, regsOf_nodup y.d hd]

/-! ### The registers it reads (R77, R96) -/

/-- The w registers a syllable reads. -/
def sourceRegs (y : Syl) : List Nat := (sourcesOf y).filterMap fun r => match r with | .w k => some k.toNat | _ => none

theorem mem_sourceRegs {y : Syl} {k : BitVec 6} (h : Reg.w k ∈ sourcesOf y) : k.toNat ∈ sourceRegs y :=
  List.mem_filterMap.2 ⟨.w k, h, rfl⟩

/-- The registers whose poison a syllable faults on: all it reads, but none for TSTP (R77). -/
def faultRegs (y : Syl) : List Nat := if y.op = .tstp then [] else sourceRegs y

/-- Operations that read a third operand from their destination field (R112, R124, R132). -/
def readsThird (o : Op) : Bool :=
  match o with
  | .ins | .fmaS | .fmsS | .fnmaS | .fmaD => true
  | .mac | .macu | .msu | .macs | .mac2h | .mac2hq | .msu2h => true
  | _ => false

theorem sourcesOf_two {y : Syl} (h3 : readsThird y.op = false) (hs : isStore y.op = false) :
    sourcesOf y = regsOf (s1Class y.op) y.s1 ++
      (match y.s2 with | .reg r => if s2Class y.op = .unused then [] else regsOf (s2Class y.op) r | .imm _ => []) := by
  have hthird : (match y.op with
      | .ins | .fmaS | .fmsS | .fnmaS | .fmaD => regsOf (dClass y.op) y.d
      | .mac | .macu | .msu | .macs | .mac2h | .mac2hq | .msu2h => regsOf .accu y.d
      | _ => []) = [] := by
    revert h3
    cases y.op <;> simp [readsThird]
  unfold sourcesOf
  rw [hs]
  simp only [Bool.false_eq_true, if_false, List.append_nil]
  exact (congrArg _ hthird).trans (List.append_nil _)

/-- A plain operation on w registers: source 1, and source 2 where it is a register. -/
def wordOp (o : Op) : Bool := plainOp o && !readsThird o && decide (o ≠ .tstp) && decide (s1Class o = .wreg)

theorem wordOp_facts {o : Op} (h : wordOp o = true) : plainOp o = true ∧ readsThird o = false ∧ o ≠ .tstp ∧ s1Class o = .wreg := by
  simpa [wordOp, and_assoc] using h

theorem faultRegs_binary {y : Syl} (h : wordOp y.op = true) (h2 : s2Class y.op = .wreg) :
    faultRegs y = y.s1.toNat :: src2Regs y.s2 := by
  obtain ⟨hp, h3, ht, h1⟩ := wordOp_facts h
  rw [faultRegs, if_neg ht, sourceRegs, sourcesOf_two h3 (computes_facts (plainOp_facts hp).1).2.1, h1, h2]
  cases y.s2 <;> rfl

theorem faultRegs_unary {y : Syl} (h : wordOp y.op = true) (h2 : s2Class y.op = .unused) : faultRegs y = [y.s1.toNat] := by
  obtain ⟨hp, h3, ht, h1⟩ := wordOp_facts h
  rw [faultRegs, if_neg ht, sourceRegs, sourcesOf_two h3 (computes_facts (plainOp_facts hp).1).2.1, h1, h2]
  cases y.s2 <;> rfl

/-! ### What it does -/

/-- A plain syllable on a core ready for it: its results go in flight and its flags are entered. -/
theorem plain_issued (c : Fin 4) (y : Syl) (ws : List (Nat × Wr)) (fl : Sticky) (s : State)
    (hr : ready c (src2Len y.s2) y.guard (faultRegs y) s = true) (hop : plainOp y.op = true) (hok : sylOk y = true) (hb : y.unit ≠ .b)
    (ho : evalUnit (seen c s) (s.row (curOf c s)).constTime y = { res := ws, fl := fl }) (ht : fl.trap = false) :
    issueOne c y s = issued c (src2Len y.s2) (ws ++ addrRes (seen c s) y) fl s := by
  obtain ⟨hcomp, -, hnodiv, -⟩ := plainOp_facts hop
  have hread : y.op ≠ .tstp → ∀ k, Reg.w k ∈ sourcesOf y → k.toNat ∈ faultRegs y := fun hne k hk => by
    rw [faultRegs, if_neg hne]; exact mem_sourceRegs hk
  have hrun := ready_run c y (faultRegs y) s (by rw [oneSyllable_len]; exact hr) (plainOp_legal y hop hok) hcomp hb hread
    (fun h => by rw [hnodiv] at h; contradiction) (.inr (by rw [ho]; exact ht))
  rw [hrun, oneSyllable_len, ho]
  rfl

/-- A command whose effect is one syllable's. -/
theorem exec_next {i : Instr} {s t u : State} (h : exec i s = .next t) (e : t = u) : exec i s = .next u := h.trans (congrArg _ e)

section
variable {c : Fin 4} {u : FUnit} {v : AUnit} {o : Op} {d s1 : BitVec 6} {s2 : Src2} {g : Guard} {s : State} {ws : List (Nat × Wr)}
  {fl : Sticky}

/-- The same, from what each field of the syllable must meet. -/
theorem unit_issued (hr : ready c (src2Len s2) g (faultRegs ⟨u, o, .off, d, s1, s2, g⟩) s = true)
    (hd : fieldOk (dClass o) d = true) (h1 : fieldOk (s1Class o) s1 = true) (h2 : src2Fits o s2 = true)
    (ho : evalUnit (seen c s) (s.row (curOf c s)).constTime ⟨u, o, .off, d, s1, s2, g⟩ = { res := ws, fl := fl })
    (hb : u ≠ .b) (hop : plainOp o = true := by rfl) (hcrc : crcOk o = true := by rfl) (ht : fl.trap = false := by rfl) :
    issueOne c ⟨u, o, .off, d, s1, s2, g⟩ s =
      issued c (src2Len s2) (ws ++ addrRes (seen c s) ⟨u, o, .off, d, s1, s2, g⟩) fl s :=
  plain_issued c _ ws fl s hr hop (sylOk_of_fields ⟨u, o, .off, d, s1, s2, g⟩ hcrc hd h1 h2 (computes_facts (plainOp_facts hop).1).2.2)
    hb ho ht

/-- The same, of a syllable with a word for its first operand and one for its second. -/
theorem binary_issued (hr : ready c (src2Len s2) g (s1.toNat :: src2Regs s2) s = true) (hd : fieldOk (dClass o) d = true)
    (h2 : src2Ok (zeroExt o) s2 = true)
    (ho : evalUnit (seen c s) (s.row (curOf c s)).constTime ⟨u, o, .off, d, s1, s2, g⟩ = { res := ws, fl := fl }) (hb : u ≠ .b)
    (hop : wordOp o = true := by rfl) (hs2 : s2Class o = .wreg := by rfl) (hcrc : crcOk o = true := by rfl)
    (ht : fl.trap = false := by rfl) :
    issueOne c ⟨u, o, .off, d, s1, s2, g⟩ s =
      issued c (src2Len s2) (ws ++ addrRes (seen c s) ⟨u, o, .off, d, s1, s2, g⟩) fl s := by
  obtain ⟨hp, -, -, h1⟩ := wordOp_facts hop
  refine unit_issued ?_ hd (by rw [h1]; rfl) ?_ ho hb hp hcrc ht
  · rw [faultRegs_binary (y := ⟨u, o, .off, d, s1, s2, g⟩) hop hs2]; exact hr
  · cases s2 with
    | reg r => rw [src2Fits, hs2]; rfl
    | imm i => exact h2

/-- The same, of a syllable that reads its first operand alone. -/
theorem unary_issued (hr : ready c (src2Len s2) g [s1.toNat] s = true) (hd : fieldOk (dClass o) d = true)
    (h2 : src2Ok (zeroExt o) s2 = true)
    (ho : evalUnit (seen c s) (s.row (curOf c s)).constTime ⟨u, o, .off, d, s1, s2, g⟩ = { res := ws, fl := fl }) (hb : u ≠ .b)
    (hop : wordOp o = true := by rfl) (hs2 : s2Class o = .unused := by rfl) (hcrc : crcOk o = true := by rfl)
    (ht : fl.trap = false := by rfl) :
    issueOne c ⟨u, o, .off, d, s1, s2, g⟩ s =
      issued c (src2Len s2) (ws ++ addrRes (seen c s) ⟨u, o, .off, d, s1, s2, g⟩) fl s := by
  obtain ⟨hp, -, -, h1⟩ := wordOp_facts hop
  refine unit_issued ?_ hd (by rw [h1]; rfl) ?_ ho hb hp hcrc ht
  · rw [faultRegs_unary (y := ⟨u, o, .off, d, s1, s2, g⟩) hop hs2]; exact hr
  · cases s2 with
    | reg r => rw [src2Fits, hs2]; rfl
    | imm i => exact h2

/-! ### The A units -/

theorem aUnit_ne (v : AUnit) : aUnit v ≠ .b := by cases v <;> exact nofun

theorem evalUnit_aUnit (x : Ctx) (ct : Bool) (v : AUnit) (o : Op) (d s1 : BitVec 6) (s2 : Src2) (g : Guard) :
    evalUnit x ct ⟨aUnit v, o, .off, d, s1, s2, g⟩ = evalA x ⟨aUnit v, o, .off, d, s1, s2, g⟩ := by cases v <;> rfl

/-- An A syllable with two word operands. -/
theorem aBinary_issued (hr : ready c (src2Len s2) g (s1.toNat :: src2Regs s2) s = true) (h2 : src2Ok (zeroExt o) s2 = true)
    (hd : fieldOk (dClass o) d = true)
    (ho : evalA (seen c s) ⟨aUnit v, o, .off, d, s1, s2, g⟩ = { res := ws, fl := fl })
    (hop : wordOp o = true := by rfl) (hs2 : s2Class o = .wreg := by rfl) (hcrc : crcOk o = true := by rfl)
    (ha : addrRes (seen c s) ⟨aUnit v, o, .off, d, s1, s2, g⟩ = [] := by rfl) (ht : fl.trap = false := by rfl) :
    issueOne c ⟨aUnit v, o, .off, d, s1, s2, g⟩ s = issued c (src2Len s2) ws fl s := by
  rw [binary_issued hr hd h2 ((evalUnit_aUnit _ _ _ _ _ _ _ _).trans ho) (aUnit_ne v) hop hs2 hcrc ht, ha, List.append_nil]

/-- An A syllable, from what each of its fields must meet. -/
theorem aUnit_issued (hr : ready c (src2Len s2) g (faultRegs ⟨aUnit v, o, .off, d, s1, s2, g⟩) s = true)
    (hd : fieldOk (dClass o) d = true) (h1 : fieldOk (s1Class o) s1 = true) (h2 : src2Fits o s2 = true)
    (ho : evalA (seen c s) ⟨aUnit v, o, .off, d, s1, s2, g⟩ = { res := ws, fl := fl }) (hop : plainOp o = true := by rfl)
    (hcrc : crcOk o = true := by rfl) (ha : addrRes (seen c s) ⟨aUnit v, o, .off, d, s1, s2, g⟩ = [] := by rfl)
    (ht : fl.trap = false := by rfl) :
    issueOne c ⟨aUnit v, o, .off, d, s1, s2, g⟩ s = issued c (src2Len s2) ws fl s := by
  rw [unit_issued hr hd h1 h2 ((evalUnit_aUnit _ _ _ _ _ _ _ _).trans ho) (aUnit_ne v) hop hcrc ht, ha, List.append_nil]
end

/-! ### Results of the A units (R106 to R108) -/

theorem wrapOvf_eq (v : Int) : wrapOvf v = (iw v, { ovf := outside 32 v }) := by
  rw [wrapOvf, sat_outside]; rfl

theorem sat32_eq (v : Int) : sat32 v = (iw (limit 32 v), { sat := outside 32 v }) := by
  rw [sat32, sat_outside, sat_limit]; rfl

theorem aluAbs_eq (a : Word) : aluAbs a = (iw (limit 32 |a.toInt|), { sat := outside 32 |a.toInt| }) := by
  have habs : (if a.toInt < 0 then -a.toInt else a.toInt) = |a.toInt| := by
    split
    · next h => exact (abs_of_neg h).symm
    · next h => exact (abs_of_nonneg (not_lt.mp h)).symm
  rw [aluAbs, habs, sat32_eq]

theorem aluNeg_eq (a : Word) : aluNeg a = (iw (-a.toInt), { ovf := outside 32 (-a.toInt) }) := by
  rw [aluNeg, zero_sub, wrapOvf_eq]

theorem aluMin_eq (a b : Word) : aluMin a b = iw (min a.toInt b.toInt) := by
  rw [aluMin, min_def, iw]
  split <;> exact (BitVec.ofInt_toInt).symm

theorem aluMax_eq (a b : Word) : aluMax a b = iw (max a.toInt b.toInt) := by
  rw [aluMax, max_def, iw]
  split <;> exact (BitVec.ofInt_toInt).symm

theorem aluMinu_eq (a b : Word) : aluMinu a b = w32 (min a.toNat b.toNat) := by
  rw [aluMinu, min_def, w32]
  split <;> simp

theorem aluMaxu_eq (a b : Word) : aluMaxu a b = w32 (max a.toNat b.toNat) := by
  rw [aluMaxu, max_def, w32]
  split <;> simp

/-! ### Shifts (R107) -/

theorem aluShl_eq (a b : Word) : aluShl a b = w32 (a.toNat * 2 ^ (b.toNat % 64)) := by
  apply BitVec.eq_of_toNat_eq
  simp [aluShl, shiftCount, w32, Nat.shiftLeft_eq]

theorem aluShr_eq (a b : Word) : aluShr a b = w32 (a.toNat / 2 ^ (b.toNat % 64)) := by
  apply BitVec.eq_of_toNat_eq
  have hlt : a.toNat / 2 ^ (b.toNat % 64) < 2 ^ 32 := (Nat.div_le_self _ _).trans_lt a.isLt
  rw [aluShr, shiftCount, w32, BitVec.toNat_ushiftRight, Nat.shiftRight_eq_div_pow, BitVec.toNat_ofNat, Nat.mod_eq_of_lt hlt]

theorem aluSra_eq (a b : Word) : aluSra a b = iw (a.toInt / 2 ^ (b.toNat % 64)) := by
  rw [aluSra, shiftCount, BitVec.sshiftRight, Int.shiftRight_eq_div_pow, iw]
  push_cast
  rfl

/-- What leaves a word on the right enters it on the left: the two parts share no bit, so their sum is their union. -/
theorem aluRor_eq (a b : Word) : aluRor a b =
    w32 (a.toNat / 2 ^ (b.toNat % 64 % 32) + a.toNat % 2 ^ (b.toNat % 64 % 32) * 2 ^ (32 - b.toNat % 64 % 32)) := by
  have hr : b.toNat % 64 % 32 = b.toNat % 32 := by omega
  have hlt : b.toNat % 32 < 32 := Nat.mod_lt _ (by norm_num)
  rw [hr, aluRor]
  generalize b.toNat % 32 = r at hlt
  have hsplit : 2 ^ 32 = 2 ^ r * 2 ^ (32 - r) := by rw [← pow_add]; congr 1; omega
  have hhigh : a.toNat <<< (32 - r) % 2 ^ 32 = 2 ^ (32 - r) * (a.toNat % 2 ^ r) := by
    rw [Nat.shiftLeft_eq, hsplit, Nat.mul_mod_mul_right, Nat.mul_comm]
  have hlow : a.toNat / 2 ^ r < 2 ^ (32 - r) := by
    rw [Nat.div_lt_iff_lt_mul (by positivity), Nat.mul_comm, ← hsplit]; exact a.isLt
  have hsum : (a.rotateRight r).toNat = a.toNat / 2 ^ r + a.toNat % 2 ^ r * 2 ^ (32 - r) := by
    rw [BitVec.toNat_rotateRight, Nat.mod_eq_of_lt hlt, hhigh, Nat.shiftRight_eq_div_pow, Nat.lor_comm,
      ← Nat.two_pow_add_eq_or_of_lt hlow, Nat.add_comm, Nat.mul_comm]
  apply BitVec.eq_of_toNat_eq
  rw [← hsum, w32, BitVec.toNat_ofNat, Nat.mod_eq_of_lt (BitVec.isLt _)]

end Sys2Proof.Machine
end

section
/-! The obligation on the A syllables, group by group (R106 to R109). -/

namespace Sys2Proof.Machine

/-- A predicate field names one of the eight predicates (R60). -/
theorem preg_ok {f : BitVec 6} (h : f.toNat ≤ 7) : fieldOk .preg f = true := decide_eq_true h

/-- A compare of words: a predicate, and no flag. -/
theorem aCompare_issued {c : Fin 4} {u : AUnit} {o : Op} {d s1 : BitVec 6} {s2 : Src2} {g : Guard} {s : State} {b : Bool}
    (hr : ready c (src2Len s2) g (s1.toNat :: src2Regs s2) s = true) (hd : d.toNat ≤ 7) (h2 : src2Ok (zeroExt o) s2 = true)
    (ho : evalA (seen c s) ⟨aUnit u, o, .off, d, s1, s2, g⟩ = outP d b) (hdest : dClass o = .preg := by rfl)
    (hop : wordOp o = true := by rfl) (hs2 : s2Class o = .wreg := by rfl) (hcrc : crcOk o = true := by rfl)
    (ha : addrRes (seen c s) ⟨aUnit u, o, .off, d, s1, s2, g⟩ = [] := by rfl) :
    issueOne c ⟨aUnit u, o, .off, d, s1, s2, g⟩ s = issued c (src2Len s2) [(1, .p d.toNat b)] {} s :=
  aBinary_issued hr h2 (by rw [hdest]; exact preg_ok hd) ho hop hs2 hcrc ha

/-- Settles O7: each syllable is issued as its unit computes it (`aBinary_issued`), and its unit's result is the one named
(`wrapOvf_eq`, `sat32_eq`, `aluRor_eq` and their kin). -/
theorem integerSyllablesCompute : Obligations.IntegerSyllablesCompute := by
  refine ⟨?sums, ?logic, ?compares, ?predicates⟩
  case sums =>
    intro c u d s1 r im s2 g s x n a b k j v
    refine ⟨fun hr => ?_, fun hr => ⟨?_, ?_⟩, fun hr h2 => ⟨?_, ?_, ?_, ?_⟩, fun hr h2 => ?_, fun hr h2 => ?_,
      fun hr => ⟨?_, ?_, ?_, ?_⟩⟩
    · exact exec_next rfl (aUnit_issued hr rfl rfl rfl rfl)
    · exact exec_next rfl (aUnit_issued hr rfl rfl rfl (congrArg (outF 1 d) (aluAbs_eq _)))
    · exact exec_next rfl (aUnit_issued hr rfl rfl rfl (congrArg (outF 1 d) (aluNeg_eq _)))
    · exact exec_next rfl (aBinary_issued hr h2 rfl (congrArg (outF 1 d) (wrapOvf_eq _)))
    · exact exec_next rfl (aBinary_issued hr h2 rfl (congrArg (outF 1 d) (sat32_eq _)))
    · exact exec_next rfl (aBinary_issued hr h2 rfl (congrArg (outW 1 d) (aluMin_eq _ _)))
    · exact exec_next rfl (aBinary_issued hr h2 rfl (congrArg (outW 1 d) (aluMax_eq _ _)))
    · exact exec_next rfl (aBinary_issued (s2 := .imm im) hr h2 rfl (congrArg (outF 1 d) (wrapOvf_eq _)))
    · exact exec_next rfl (aUnit_issued hr rfl rfl h2 (congrArg (outW 1 d) (BitVec.ofInt_toInt).symm))
    · exact exec_next rfl (aBinary_issued (s2 := .reg r) hr rfl rfl (congrArg (outF 1 d) (wrapOvf_eq _)))
    · exact exec_next rfl (aBinary_issued (s2 := .reg r) hr rfl rfl (congrArg (outF 1 d) (sat32_eq _)))
    · exact exec_next rfl (aBinary_issued (s2 := .reg r) hr rfl rfl (congrArg (outW 1 d) (aluMinu_eq _ _)))
    · exact exec_next rfl (aBinary_issued (s2 := .reg r) hr rfl rfl (congrArg (outW 1 d) (aluMaxu_eq _ _)))
  case logic =>
    intro c u d s1 q s2 g s x n a b k r
    refine ⟨fun hr h2 => ⟨?_, ?_, ?_, ?_, ?_, ?_, ?_⟩, fun hr => ?_⟩
    · exact exec_next rfl (aBinary_issued hr h2 rfl rfl)
    · exact exec_next rfl (aBinary_issued hr h2 rfl rfl)
    · exact exec_next rfl (aBinary_issued hr h2 rfl rfl)
    · exact exec_next rfl (aBinary_issued hr h2 rfl (congrArg (outW 1 d) (aluShl_eq _ _)))
    · exact exec_next rfl (aBinary_issued hr h2 rfl (congrArg (outW 1 d) (aluShr_eq _ _)))
    · exact exec_next rfl (aBinary_issued hr h2 rfl (congrArg (outW 1 d) (aluSra_eq _ _)))
    · exact exec_next rfl (aBinary_issued hr h2 rfl (congrArg (outW 1 d) (aluRor_eq _ _)))
    · exact exec_next rfl (aBinary_issued (s2 := .reg q) hr rfl rfl rfl)
  case compares =>
    intro c u d s1 s2 g s x n a b z hr hd
    refine ⟨fun h2 => ⟨?_, ?_, ?_, ?_, ?_, ?_⟩, fun h2 => ⟨?_, ?_⟩⟩
    · exact exec_next rfl (aCompare_issued hr hd h2 rfl)
    · exact exec_next rfl (aCompare_issued hr hd h2 (congrArg (outP d) (by rw [decide_not]; rfl)))
    · exact exec_next rfl (aCompare_issued hr hd h2 rfl)
    · exact exec_next rfl (aCompare_issued hr hd h2 rfl)
    · exact exec_next rfl (aCompare_issued hr hd h2 rfl)
    · exact exec_next rfl (aCompare_issued hr hd h2 rfl)
    · exact exec_next rfl (aCompare_issued hr hd h2 rfl)
    · exact exec_next rfl (aCompare_issued hr hd h2 rfl)
  case predicates =>
    intro c u d s1 s2 g s a b hr hd h1
    refine ⟨?_, fun h2 => ⟨?_, ?_, ?_⟩⟩
    · exact exec_next rfl (aUnit_issued hr (preg_ok hd) (preg_ok h1) rfl rfl)
    · exact exec_next rfl (aUnit_issued hr (preg_ok hd) (preg_ok h1) (preg_ok h2) rfl)
    · exact exec_next rfl (aUnit_issued hr (preg_ok hd) (preg_ok h1) (preg_ok h2) rfl)
    · exact exec_next rfl (aUnit_issued hr (preg_ok hd) (preg_ok h1) (preg_ok h2) rfl)

end Sys2Proof.Machine
end

section
/-! The obligation on the address-register syllables and on the updates of R99 and R100. -/

namespace Sys2Proof.Machine

/-! ### Address-register syllables (R105) -/

/-- An address syllable: its result comes from the address unit alone, and it has no flag. -/
theorem lUnit_issued {c : Fin 4} {u : LUnit} {o : Op} {d s1 : BitVec 6} {s2 : Src2} {g : Guard} {s : State}
    (hr : ready c (src2Len s2) g (faultRegs ⟨lUnit u, o, .off, d, s1, s2, g⟩) s = true) (hd : fieldOk (dClass o) d = true)
    (h1 : fieldOk (s1Class o) s1 = true) (h2 : src2Fits o s2 = true) (hop : plainOp o = true := by rfl)
    (hcrc : crcOk o = true := by rfl) :
    issueOne c ⟨lUnit u, o, .off, d, s1, s2, g⟩ s =
      issued c (src2Len s2) (addrRes (seen c s) ⟨lUnit u, o, .off, d, s1, s2, g⟩) {} s :=
  unit_issued (ws := []) hr hd h1 h2 (by cases u <;> rfl) (by cases u <;> exact nofun) hop hcrc

/-- An address-register field names x0 to x15 or ds (R60). -/
theorem xreg_ok {f : BitVec 6} (h : f.toNat ≤ 16) : fieldOk .xreg f = true := decide_eq_true h

/-! ### Updates (R99, R100) -/

theorem length_ne_zero {v : Word} : v ≠ 0 ↔ v.toNat ≠ 0 := not_congr BitVec.toNat_eq

theorem w32_base (b : Word) (k : Nat) : w32 (b.toNat + k) = b + w32 k := by
  rw [w32, BitVec.ofNat_add, BitVec.ofNat_toNat, BitVec.setWidth_eq]
  rfl

theorem upd_plain (x : Ctx) (n : Nat) (m : Int) (h : 7 < n ∨ (vget x.mlen n).toNat = 0) : upd x n m = x.rx n + iw m := by
  refine if_neg fun hmod => ?_
  exact h.elim (fun hn => absurd hmod.1 (by omega)) fun hlen => length_ne_zero.mp hmod.2 hlen

/-- The modulo update stays in its buffer: the offset is taken modulo the buffer's length. -/
theorem upd_modulo (x : Ctx) (n : Nat) (m : Int) (hn : n ≤ 7) (hlen : (vget x.mlen n).toNat ≠ 0) :
    ∃ j < (vget x.mlen n).toNat, upd x n m = vget x.mbase n + w32 j ∧
      (j : Int) % (vget x.mlen n).toNat = (((x.rx n).toNat : Int) - (vget x.mbase n).toNat + m) % (vget x.mlen n).toNat := by
  have hupd : upd x n m = BitVec.ofInt 32 (((vget x.mbase n).toNat : Int) +
      (((x.rx n).toNat : Int) - (vget x.mbase n).toNat + m) % (vget x.mlen n).toNat) := if_pos ⟨hn, length_ne_zero.mpr hlen⟩
  generalize (vget x.mlen n).toNat = len at *
  obtain ⟨j, hj⟩ := Int.eq_ofNat_of_zero_le (Int.emod_nonneg (((x.rx n).toNat : Int) - (vget x.mbase n).toNat + m)
    (Int.natCast_ne_zero.mpr hlen))
  have hlt : (j : Int) < len := hj ▸ Int.emod_lt_of_pos _ (by omega)
  rw [hj] at hupd ⊢
  refine ⟨j, by omega, ?_, Int.emod_eq_of_lt (by omega) hlt⟩
  rw [hupd, ← Int.natCast_add, BitVec.ofInt_natCast]
  exact w32_base _ _

theorem revBits_lt (b v : Nat) : revBits b v < 2 ^ b := by
  induction b generalizing v with
  | zero => simp [revBits]
  | succ k ih =>
    have hbit : v % 2 * 2 ^ k ≤ 2 ^ k := by nlinarith [Nat.mod_lt v (by norm_num : 0 < 2), Nat.two_pow_pos k]
    have hrest := ih (v / 2)
    rw [revBits, pow_succ]
    omega

theorem brupd_plain (x : Ctx) (n : Nat) (k : Word) (sz : Nat) (h : 7 < n ∨ (vget x.mlen n).toNat < 2 * sz) :
    brupd x n k sz = x.rx n + k :=
  if_neg (by omega)

/-- The bit-reversed update lands on an element: the reversed sum has as many bits as there are of the element's number. -/
theorem brupd_element (x : Ctx) (n : Nat) (k : Word) (sz : Nat) (hn : n ≤ 7) (hlen : 2 * sz ≤ (vget x.mlen n).toNat) :
    ∃ i < 2 ^ Nat.log2 ((vget x.mlen n).toNat / sz), brupd x n k sz = vget x.mbase n + w32 (i * sz) := by
  obtain ⟨v, hv⟩ : ∃ v, brupd x n k sz = w32 ((vget x.mbase n).toNat + revBits (Nat.log2 ((vget x.mlen n).toNat / sz)) v * sz) :=
    ⟨_, if_pos ⟨hn, hlen⟩⟩
  exact ⟨_, revBits_lt _ v, hv.trans (w32_base _ _)⟩

/-- Settles O16: each address syllable is issued with its result alone (`lUnit_issued`); the updates are `upd_plain`, `upd_modulo`,
`brupd_plain` and `brupd_element`. -/
theorem addressSyllablesAndUpdates : Obligations.AddressSyllablesAndUpdates := by
  refine ⟨fun c u im d s1 s2 g s => ?_, fun x n k m sz => ?_⟩
  · refine ⟨fun hr h2 hd h1 => ?_, fun hr hd h1 => ?_, fun hr hd => ?_, fun hr h1 => ?_⟩
    · exact exec_next rfl (lUnit_issued hr (xreg_ok hd) (xreg_ok h1) h2)
    · exact exec_next rfl (lUnit_issued hr (xreg_ok hd) (xreg_ok h1) rfl)
    · exact exec_next rfl (lUnit_issued hr (xreg_ok hd) rfl rfl)
    · exact exec_next rfl (lUnit_issued hr rfl (xreg_ok h1) rfl)
  · exact ⟨upd_plain x n m, upd_modulo x n m, brupd_plain x n k sz, fun hn _ hlen => brupd_element x n k sz hn hlen⟩

end Sys2Proof.Machine
end

section
/-! SUPPORT. A store of a byte on a device whose count of corrected errors has passed its ceiling: the read of the word the byte lies in
brings the count back to 0xFFFF (O15). -/

namespace Sys2Proof.Machine

/-- Person 1 runs on core 0, with its own bank 0 at x0; the counter of corrected errors (R162), a number of the state, stands one past
the 16 bits that it is shown in. -/
def corrPastCeiling : State :=
  { isl := { pairSt := Vector.replicate 2 .run }
    stw := { persons := vset (Vector.replicate 7 {}) 1 { run := .running, cores := 1 } }
    cores := vset (Vector.replicate 4 {}) 0
      { cur := 1, ctx := vset (Vector.replicate 7 {}) 1 { x := vset (Vector.replicate 17 0) 0 0x100000, codeLimit := 0x100 } }
    cus := { bank := vset (Vector.replicate 4 (Vector.replicate 8 0xF)) 0 (vset (Vector.replicate 8 0xF) 0 1), eccCorr := 0x10000 } }

/-- ST.B w0,[x0],0 on L0. -/
def storeByte : Syl := { unit := .l0, op := .stB, mode := .off, d := 0, s1 := 0, s2 := .imm (.short 0), guard := ⟨0, false⟩ }

/-- No error stands in memory, and still the byte's word is read to be written back (R163), which limits the count. -/
theorem storeByte_limits_count : (issueOne 0 storeByte corrPastCeiling).cus.eccCorr = 0xFFFF := by decide +kernel

/-- Refutes O15: of the count of corrected errors the statement asks nothing, and a store of a byte brings one above 0xFFFF back to
0xFFFF (`corrPastCeiling`), where the statement leaves all but the byte and the core's registers as it was. -/
theorem not_localStoresWriteAndReadBack : ¬ Obligations.LocalStoresWriteAndReadBack := by
  unfold Obligations.LocalStoresWriteAndReadBack
  intro h
  obtain ⟨hstore, -⟩ := h.1 0 .l0 .b (.off (.short 0)) (.short 0) 0 0 ⟨0, false⟩ corrPastCeiling (by decide)
  have hexec := hstore (by decide +kernel) (by decide +kernel) (by decide +kernel)
  have hcount := congrArg (fun t => t.cus.eccCorr) (Host.Outcome.next.inj hexec)
  exact absurd (storeByte_limits_count.symm.trans hcount) (by decide)

end Sys2Proof.Machine
end

section
/-! SUPPORT. The C unit bit by bit: counts of bits, reversals, fields and carry-less products (R110, R112). -/

namespace Sys2Proof.Machine

/-! ### Counts of bits -/

theorem countBits_succ (n : Nat) (f : Nat → Bool) : countBits (n + 1) f = (f 0).toNat + countBits n fun i => f (i + 1) := by
  unfold countBits
  rw [List.range_succ_eq_map, List.filter_cons, List.filter_map, ← Function.comp_def f Nat.succ]
  cases f 0 <;> simp [Nat.add_comm, Function.comp_def]

theorem popCount_eq (n v : Nat) : popCount n v = countBits n v.testBit := by
  induction n generalizing v with
  | zero => rfl
  | succ k ih =>
    have hshift : (fun i => v.testBit (i + 1)) = (v / 2).testBit := funext fun i => Nat.testBit_succ v i
    rw [popCount, ih, countBits_succ, hshift, Nat.testBit_zero]
    congr 1
    rcases Nat.mod_two_eq_zero_or_one v with h | h <;> simp [h]

theorem firstBit_succ (n : Nat) (f : Nat → Bool) :
    firstBit (n + 1) f = if f 0 then 0 else 1 + firstBit n fun i => f (i + 1) := by
  unfold firstBit
  rw [List.range_succ_eq_map, List.find?_cons, List.find?_map]
  cases f 0 with
  | true => rfl
  | false =>
    show (((List.range n).find? fun i => f (i + 1)).map Nat.succ).getD (n + 1) = 1 + ((List.range n).find? fun i => f (i + 1)).getD n
    cases (List.range n).find? fun i => f (i + 1) with
    | none => exact Nat.add_comm _ _
    | some i => exact Nat.add_comm i 1

theorem ctzN_eq (n v : Nat) : ctzN n v = firstBit n v.testBit := by
  induction n generalizing v with
  | zero => rfl
  | succ k ih =>
    have hshift : (fun i => v.testBit (i + 1)) = (v / 2).testBit := funext fun i => Nat.testBit_succ v i
    rw [ctzN, ih, firstBit_succ, hshift, Nat.testBit_zero]
    simp

theorem firstBit_eq {n k : Nat} {f : Nat → Bool} (hk : k < n) (hf : f k = true) (hlow : ∀ j < k, f j = false) :
    firstBit n f = k := by
  have hfind : (List.range n).find? f = some k := by
    rw [List.find?_range_eq_some]
    exact ⟨hf, List.mem_range.2 hk, fun j hj => by simp [hlow j hj]⟩
  rw [firstBit, hfind]
  rfl

theorem clz32_eq {v : Nat} (hv : v < 2 ^ 32) : clz32 v = firstBit 32 fun i => v.testBit (31 - i) := by
  unfold clz32
  split
  · next h0 => rw [h0]; rfl
  · next h0 =>
    have hlog : Nat.log2 v < 32 := (Nat.log2_lt h0).2 hv
    refine (firstBit_eq (by omega) ?_ fun j hj => ?_).symm
    · rw [show 31 - (31 - v.log2) = v.log2 by omega, Nat.testBit_log2 h0]
    · exact Nat.testBit_lt_two_pow ((Nat.log2_lt h0).1 (by omega))

/-! ### Reversals -/

theorem testBit_revBits (b v i : Nat) : (revBits b v).testBit i = (decide (i < b) && v.testBit (b - 1 - i)) := by
  induction b generalizing v i with
  | zero => simp [revBits]
  | succ k ih =>
    rw [revBits, Nat.mul_comm, Nat.testBit_two_pow_mul_add _ (revBits_lt k _), ih, ← Nat.testBit_succ]
    by_cases hi : i < k
    · rw [if_pos hi, show (k - 1 - i).succ = k + 1 - 1 - i by omega, decide_eq_true hi, decide_eq_true (Nat.lt_succ_of_lt hi)]
    · rw [if_neg hi, ← pow_one 2, Nat.testBit_mod_two_pow]
      by_cases hk : i = k
      · subst hk; simp
      · rw [decide_eq_false (by omega), decide_eq_false (by omega), Bool.false_and, Bool.false_and]

/-- Each bit of a number that bytes spell is a bit of one of them. -/
theorem testBit_leNat (bs : Bytes) (i : Nat) : (leNat bs).testBit i = (bs.getD (i / 8) 0).getLsbD (i % 8) := by
  induction bs generalizing i with
  | nil => simp [leNat]
  | cons b r ih =>
    rw [leNat, Nat.add_comm, show 256 = 2 ^ 8 from rfl, Nat.testBit_two_pow_mul_add _ b.isLt]
    split
    · next h => rw [Nat.div_eq_of_lt h, Nat.mod_eq_of_lt h]; rfl
    · next h =>
      obtain ⟨k, rfl⟩ : ∃ k, i = k + 8 := ⟨i - 8, by omega⟩
      rw [ih, Nat.add_sub_cancel, Nat.add_div_right _ (by norm_num), Nat.add_mod_right]
      rfl

theorem getLsbD_w32 (n : Nat) {j : Nat} (hj : j < 32) : (w32 n).getLsbD j = n.testBit j := by
  rw [w32, BitVec.getLsbD_ofNat, decide_eq_true hj, Bool.true_and]

/-! ### Fields (R112) -/

/-! ### Carry-less products -/

theorem testBit_clmul (n a b m : Nat) : (clmul n a b).testBit m =
    decide (countBits n (fun i => b.testBit i && decide (i ≤ m) && a.testBit (m - i)) % 2 = 1) := by
  induction n generalizing a b with
  | zero => simp [clmul, countBits]
  | succ k ih =>
    have hfirst : (if b % 2 = 1 then a else 0).testBit m = (b.testBit 0 && a.testBit m) := by
      rw [Nat.testBit_zero]; split <;> simp [*]
    have hrest : (fun i => (b / 2).testBit i && decide (i ≤ m) && (2 * a).testBit (m - i)) =
        fun i => b.testBit (i + 1) && decide (i + 1 ≤ m) && a.testBit (m - (i + 1)) := by
      funext i
      rw [← Nat.testBit_succ, Nat.mul_comm, ← pow_one 2, Nat.testBit_mul_two_pow, Nat.sub_sub]
      by_cases hi : i + 1 ≤ m
      · rw [decide_eq_true hi, decide_eq_true (by omega : i ≤ m), decide_eq_true (by omega : 1 ≤ m - i), Bool.true_and]
      · rw [decide_eq_false hi, decide_eq_false (by omega : ¬ 1 ≤ m - i)]; simp
    rw [clmul, Nat.testBit_xor, hfirst, ih, hrest, countBits_succ]
    simp only [Nat.zero_le, decide_true, Bool.and_true, Nat.sub_zero]
    generalize countBits k _ = n
    rcases Nat.mod_two_eq_zero_or_one n with h | h <;> cases b.testBit 0 && a.testBit m <;> simp [h, Nat.add_mod]

theorem countBits_congr {n : Nat} {f g : Nat → Bool} (h : ∀ i < n, f i = g i) : countBits n f = countBits n g :=
  congrArg List.length (List.filter_congr fun i hi => h i (List.mem_range.1 hi))

theorem countBits_eq_card (n : Nat) (f : Nat → Bool) : countBits n f = ((Finset.range n).filter fun i => f i = true).card := by
  rw [countBits, ← List.toFinset_card_of_nodup ((List.nodup_range).filter _), List.toFinset_filter, List.toFinset_range]

theorem countBits_reflect_le {n m : Nat} {p q : Nat → Bool} (hq : ∀ i, n ≤ i → q i = false) :
    countBits n (fun i => p i && decide (i ≤ m) && q (m - i)) ≤ countBits n fun i => q i && decide (i ≤ m) && p (m - i) := by
  rw [countBits_eq_card, countBits_eq_card]
  simp only [Bool.and_eq_true, decide_eq_true_eq]
  refine Finset.card_le_card_of_injOn (fun i => m - i) (fun i hi => ?_) fun i hi j hj hij => ?_
  · obtain ⟨-, ⟨hpi, him⟩, hqi⟩ := Finset.mem_filter.1 hi
    have hlt : m - i < n := by
      by_contra hn
      rw [hq _ (not_lt.1 hn)] at hqi
      contradiction
    exact Finset.mem_coe.2 (Finset.mem_filter.2 ⟨Finset.mem_range.2 hlt, ⟨hqi, Nat.sub_le m i⟩, by rwa [Nat.sub_sub_self him]⟩)
  · obtain ⟨-, ⟨-, him⟩, -⟩ := Finset.mem_filter.1 hi
    obtain ⟨-, ⟨-, hjm⟩, -⟩ := Finset.mem_filter.1 hj
    dsimp only at hij
    omega

/-- The pairs of bits that a product adds at one place may be counted from either factor. -/
theorem countBits_reflect {n m : Nat} {p q : Nat → Bool} (hp : ∀ i, n ≤ i → p i = false) (hq : ∀ i, n ≤ i → q i = false) :
    countBits n (fun i => p i && decide (i ≤ m) && q (m - i)) = countBits n fun i => q i && decide (i ≤ m) && p (m - i) :=
  le_antisymm (countBits_reflect_le hq) (countBits_reflect_le hp)

/-! ### Results of the C unit (R110) -/

theorem cPopc_eq (a : Word) : cPopc a = w32 (countBits 32 a.getLsbD) := congrArg w32 (popCount_eq 32 a.toNat)

theorem cPar_eq (a : Word) : cPar a = decide (countBits 32 a.getLsbD % 2 = 1) := by
  rw [cPar, popCount_eq]; rfl

theorem cPar_word (a : Word) : (if cPar a then 1 else 0 : Word) = w32 (countBits 32 a.getLsbD % 2) := by
  rw [cPar_eq]
  rcases Nat.mod_two_eq_zero_or_one (countBits 32 a.getLsbD) with h | h <;> rw [h] <;> rfl

theorem cClz_eq (a : Word) : cClz a = w32 (firstBit 32 fun i => a.getLsbD (31 - i)) := congrArg w32 (clz32_eq a.isLt)

theorem cCtz_eq (a : Word) : cCtz a = w32 (firstBit 32 a.getLsbD) := congrArg w32 (ctzN_eq 32 a.toNat)

theorem getLsbD_cBrev (a : Word) {i : Nat} (hi : i < 32) : (cBrev a).getLsbD i = a.getLsbD (31 - i) := by
  rw [cBrev, BitVec.getLsbD_reverse, BitVec.getMsbD, decide_eq_true hi, Bool.true_and]

/-- The four bytes of a word, each reversed, spell the word that BREVB gives. -/
theorem cBrevb_bytes (a : Word) : cBrevb a = w32 (leNat ((leBytes 4 a.toNat).map fun b => BitVec.ofNat 8 (revBits 8 b.toNat))) := by
  have hrev : ∀ v, revBits 8 v % 256 = revBits 8 v := fun v => Nat.mod_eq_of_lt (revBits_lt 8 v)
  have htop : a.toNat / 16777216 % 256 = a.toNat / 16777216 := Nat.mod_eq_of_lt (by have := a.isLt; omega)
  simp only [cBrevb, leBytes, leNat, List.map_cons, List.map_nil, BitVec.toNat_ofNat, Nat.reducePow, Nat.div_div_eq_div_mul, hrev,
    Nat.reduceMul, htop]
  congr 1
  ring

theorem leBytes_getElem (n v k : Nat) (h : k < (leBytes n v).length) : (leBytes n v)[k] = BitVec.ofNat 8 (v / 2 ^ (8 * k)) := by
  induction n generalizing v k with
  | zero => exact absurd h (Nat.not_lt_zero k)
  | succ n ih =>
    cases k with
    | zero => simp [leBytes]
    | succ k =>
      have hk : k < (leBytes n (v / 256)).length := Nat.lt_of_succ_lt_succ h
      have hpow : 256 * 2 ^ (8 * k) = 2 ^ (8 * (k + 1)) := by rw [Nat.mul_succ, pow_add, Nat.mul_comm]; rfl
      simp only [leBytes, List.getElem_cons_succ]
      rw [ih _ _ hk, Nat.div_div_eq_div_mul, hpow]

theorem getLsbD_cBrevb (a : Word) {i : Nat} (hi : i < 32) : (cBrevb a).getLsbD i = a.getLsbD (i / 8 * 8 + (7 - i % 8)) := by
  have hlen : i / 8 < ((leBytes 4 a.toNat).map fun b => BitVec.ofNat 8 (revBits 8 b.toNat)).length := by
    rw [List.length_map, leBytes_length]; omega
  have hbit : i % 8 < 8 := Nat.mod_lt _ (by norm_num)
  rw [cBrevb_bytes, getLsbD_w32 _ hi, testBit_leNat, List.getD_eq_getElem _ _ hlen, List.getElem_map, leBytes_getElem,
    BitVec.getLsbD_ofNat, testBit_revBits, BitVec.toNat_ofNat, Nat.testBit_mod_two_pow, Nat.testBit_div_two_pow, decide_eq_true hbit,
    decide_eq_true (by omega : 8 - 1 - i % 8 < 8), Bool.true_and, Bool.true_and, Bool.true_and, BitVec.getLsbD]
  congr 1
  omega

theorem getLsbD_cBswap (a : Word) {i : Nat} (hi : i < 32) : (cBswap a).getLsbD i = a.getLsbD ((3 - i / 8) * 8 + i % 8) := by
  have hlen : i / 8 < (leBytes 4 a.toNat).reverse.length := by rw [List.length_reverse, leBytes_length]; omega
  have hbit : i % 8 < 8 := Nat.mod_lt _ (by norm_num)
  rw [cBswap, getLsbD_w32 _ hi, testBit_leNat, List.getD_eq_getElem _ _ hlen, List.getElem_reverse, leBytes_getElem,
    BitVec.getLsbD_ofNat, Nat.testBit_div_two_pow, decide_eq_true hbit, Bool.true_and, BitVec.getLsbD, leBytes_length]
  congr 1
  omega

/-! ### Fields (R112) -/

theorem field_fits (b : Word) : fieldPos b + fieldLen b ≤ 32 := by
  have hlen : fieldLen b ≤ 32 - fieldPos b := Nat.min_le_right _ _
  have hpos : fieldPos b < 32 := Nat.mod_lt _ (by norm_num)
  omega

/-- A field whose highest bit is set reads as a negative number. -/
theorem cExts_eq (a b : Word) : cExts a b =
    iw (if fieldLen b ≠ 0 ∧ (a.toNat / 2 ^ fieldPos b % 2 ^ fieldLen b).testBit (fieldLen b - 1) then
      ((a.toNat / 2 ^ fieldPos b % 2 ^ fieldLen b : Nat) : Int) - 2 ^ fieldLen b
      else (a.toNat / 2 ^ fieldPos b % 2 ^ fieldLen b : Nat)) := by
  have hfit := field_fits b
  unfold cExts
  dsimp only
  generalize fieldLen b = e at hfit ⊢
  generalize a.toNat / 2 ^ fieldPos b % 2 ^ e = f
  have hsign : (f.testBit (e - 1) = true) ↔ f / 2 ^ (e - 1) % 2 = 1 := by rw [Nat.testBit_eq_decide_div_mod_eq, decide_eq_true_iff]
  have hpow : 2 ^ e ≤ 2 ^ 32 := Nat.pow_le_pow_right (by norm_num) (by omega)
  simp only [hsign]
  split
  · have hcast : ((f + (2 ^ 32 - 2 ^ e) : Nat) : Int) = ((f : Int) - 2 ^ e) + 2 ^ 32 := by
      rw [Nat.cast_add, Nat.cast_sub hpow]; push_cast; ring
    rw [w32, iw, ← BitVec.ofInt_natCast, hcast]
    apply BitVec.eq_of_toInt_eq
    rw [BitVec.toInt_ofInt, BitVec.toInt_ofInt]
    exact Int.add_bmod_right _ _
  · exact (BitVec.ofInt_natCast _ _).symm

theorem getLsbD_cIns (d a b : Word) {j : Nat} (hj : j < 32) : (cIns d a b).getLsbD j =
    if fieldPos b ≤ j ∧ j < fieldPos b + fieldLen b then a.getLsbD (j - fieldPos b) else d.getLsbD j := by
  have hmask : (w32 ((2 ^ fieldLen b - 1) * 2 ^ fieldPos b)).getLsbD j =
      decide (fieldPos b ≤ j ∧ j < fieldPos b + fieldLen b) := by
    rw [getLsbD_w32 _ hj, Nat.testBit_mul_two_pow, Nat.testBit_two_pow_sub_one, ← Bool.decide_and]
    congr 1
    simp only [eq_iff_iff]
    omega
  rw [cIns]
  simp only [BitVec.getLsbD_or, BitVec.getLsbD_and, BitVec.getLsbD_not, BitVec.getLsbD_shiftLeft, hmask]
  split
  · next h => rw [decide_eq_true h, decide_eq_true hj, decide_eq_false (by omega)]; simp
  · next h => rw [decide_eq_false h, decide_eq_true hj]; simp

/-! ### Single bits -/

theorem getLsbD_cBset (a b : Word) {j : Nat} (hj : j < 32) : (cBset a b).getLsbD j = (a.getLsbD j || decide (j = b.toNat % 32)) := by
  rw [cBset, BitVec.getLsbD_or, getLsbD_w32 _ hj, Nat.testBit_two_pow]
  simp only [eq_comm]

theorem getLsbD_cBclr (a b : Word) {j : Nat} (hj : j < 32) : (cBclr a b).getLsbD j = (a.getLsbD j && decide (j ≠ b.toNat % 32)) := by
  rw [cBclr, BitVec.getLsbD_and, BitVec.getLsbD_not, getLsbD_w32 _ hj, Nat.testBit_two_pow, decide_eq_true hj, Bool.true_and, decide_not]
  simp only [eq_comm]

/-! ### Carry-less products (R110) -/

theorem word_bit_high (a : Word) (i : Nat) (hi : 32 ≤ i) : a.toNat.testBit i = false :=
  Nat.testBit_lt_two_pow (a.isLt.trans_le (Nat.pow_le_pow_right (by norm_num) hi))

/-- Each bit of the product of two words adds the pairs of their bits whose places sum to its own. -/
theorem testBit_clmul_words (a b : Word) (m : Nat) : (clmul 32 a.toNat b.toNat).testBit m =
    decide (countBits 32 (fun t => a.getLsbD t && decide (t ≤ m) && b.getLsbD (m - t)) % 2 = 1) := by
  rw [testBit_clmul, countBits_reflect (word_bit_high b) (word_bit_high a)]
  rfl

theorem getLsbD_cClmull (a b : Word) {j : Nat} (hj : j < 32) : (cClmull a b).getLsbD j =
    decide (countBits 32 (fun t => a.getLsbD t && decide (t ≤ j) && b.getLsbD (j - t)) % 2 = 1) := by
  rw [cClmull, getLsbD_w32 _ hj, testBit_clmul_words]

theorem getLsbD_cClmulh (a b : Word) {j : Nat} (hj : j < 32) : (cClmulh a b).getLsbD j =
    decide (countBits 32 (fun t => a.getLsbD t && b.getLsbD (32 + j - t)) % 2 = 1) := by
  have hall : countBits 32 (fun t => a.getLsbD t && decide (t ≤ j + 32) && b.getLsbD (j + 32 - t)) =
      countBits 32 (fun t => a.getLsbD t && b.getLsbD (32 + j - t)) := countBits_congr fun t ht => by
    rw [decide_eq_true (by omega : t ≤ j + 32), Bool.and_true, Nat.add_comm j 32]
  rw [cClmulh, getLsbD_w32 _ hj, Nat.testBit_div_two_pow, testBit_clmul_words, hall]

end Sys2Proof.Machine
end

section
/-! SUPPORT. Cyclic-check steps as loops over the data bits (R111). -/

namespace Sys2Proof.Machine

/-- A check value fed with n data bits, bit 0 first, in the reflected form. -/
def feedLow (w g n : Nat) (bit : Nat → Bool) (r : Nat) : Nat :=
  (List.range n).foldl (fun r i => if r.testBit 0 != bit i then (r / 2) ^^^ revBits w g else r / 2) r

/-- A check value fed with n data bits, bit n − 1 first. -/
def feedHigh (w g n : Nat) (bit : Nat → Bool) (r : Nat) : Nat :=
  (List.range n).reverse.foldl (fun r i => if r.testBit (w - 1) != bit i then (r * 2 % 2 ^ w) ^^^ g else r * 2 % 2 ^ w) r

theorem feedHigh_succ (w g n : Nat) (bit : Nat → Bool) (r : Nat) : feedHigh w g (n + 1) bit r =
    feedHigh w g n bit (if r.testBit (w - 1) != bit n then (r * 2 % 2 ^ w) ^^^ g else r * 2 % 2 ^ w) := by
  rw [feedHigh, List.range_succ, List.reverse_append]
  rfl

theorem feedLow_add (w g m n : Nat) (bit : Nat → Bool) (r : Nat) :
    feedLow w g (m + n) bit r = feedLow w g n (fun i => bit (m + i)) (feedLow w g m bit r) := by
  rw [feedLow, List.range_add, List.foldl_append, List.foldl_map]
  rfl

theorem feedLow_succ (w g n : Nat) (bit : Nat → Bool) (r : Nat) : feedLow w g (n + 1) bit r =
    feedLow w g n (fun i => bit (i + 1)) (if r.testBit 0 != bit 0 then (r / 2) ^^^ revBits w g else r / 2) := by
  rw [feedLow, List.range_succ_eq_map, List.foldl_cons, List.foldl_map]
  rfl

/-- The sum of two bits is odd where they differ. -/
theorem add_odd_iff (a b : Nat) : (a + b) % 2 = 1 ↔ (decide (a % 2 = 1) != decide (b % 2 = 1)) = true := by
  rcases Nat.mod_two_eq_zero_or_one a with h | h <;> rcases Nat.mod_two_eq_zero_or_one b with k | k <;> simp [Nat.add_mod, h, k]

theorem crcNormal_eq (w g n r data : Nat) : crcNormal w g n r data = feedHigh w g n data.testBit r := by
  induction n generalizing r with
  | zero => rfl
  | succ k ih =>
    rw [crcNormal, ih, feedHigh_succ]
    simp only [add_odd_iff, Nat.testBit_eq_decide_div_mod_eq]

theorem crcReflected_eq (w g n r data : Nat) : crcReflected w g n r data = feedLow w g n data.testBit r := by
  induction n generalizing r data with
  | zero => rfl
  | succ k ih =>
    have hshift : (data / 2).testBit = fun i => data.testBit (i + 1) := funext fun i => (Nat.testBit_succ data i).symm
    rw [crcReflected, ih, feedLow_succ, hshift]
    simp only [add_odd_iff, Nat.testBit_zero]

theorem feedLow_congr (w g n r : Nat) {p q : Nat → Bool} (h : ∀ i < n, p i = q i) : feedLow w g n p r = feedLow w g n q r :=
  List.foldl_ext _ _ _ fun r i hi => by rw [h i (List.mem_range.1 hi)]

theorem feedHigh_congr (w g n r : Nat) {p q : Nat → Bool} (h : ∀ i < n, p i = q i) : feedHigh w g n p r = feedHigh w g n q r :=
  List.foldl_ext _ _ _ fun r i hi => by rw [h i (List.mem_range.1 (List.mem_reverse.1 hi))]

theorem polyOf_eq (p : CrcPoly) : polyOf p = (crcWidth p, crcGen p) := by cases p <;> rfl

theorem crcLoop_eq (p : CrcPoly) (refl : Bool) (t crc data : Nat) : crcLoop p refl t crc data =
    if refl then feedLow (crcWidth p) (crcGen p) t data.testBit (crc % 2 ^ crcWidth p)
    else feedHigh (crcWidth p) (crcGen p) t data.testBit (crc % 2 ^ crcWidth p) := by
  rw [crcLoop, polyOf_eq]
  rfl

theorem crcBits_eq {ww : BitVec 2} (h : ww ≠ 3) : crcBits ww = 8 * 2 ^ ww.toNat := by
  revert h; revert ww; decide

theorem cCrc_eq (p : CrcPoly) (refl : Bool) {ww : BitVec 2} (hww : ww ≠ 3) (a b : Word) :
    cCrc p refl ww a b = w32 (crcLoop p refl (8 * 2 ^ ww.toNat) a.toNat b.toNat) := by
  have hbit : ∀ t, ∀ i < t, (b.toNat % 2 ^ t).testBit i = b.toNat.testBit i := fun t i hi => by
    rw [Nat.testBit_mod_two_pow, decide_eq_true hi, Bool.true_and]
  rw [cCrc, crcLoop_eq, ← crcBits_eq hww]
  cases refl with
  | false => exact congrArg w32 ((crcNormal_eq _ _ _ _ _).trans (feedHigh_congr _ _ _ _ (hbit _)))
  | true => exact congrArg w32 ((crcReflected_eq _ _ _ _ _).trans (feedLow_congr _ _ _ _ (hbit _)))

/-! ### A word at once and byte by byte -/

/-- A check value never outgrows its width. -/
theorem feedLow_lt (w g n : Nat) (bit : Nat → Bool) {r : Nat} (hr : r < 2 ^ w) : feedLow w g n bit r < 2 ^ w := by
  induction n generalizing bit r with
  | zero => exact hr
  | succ k ih =>
    have hhalf : r / 2 < 2 ^ w := (Nat.div_le_self r 2).trans_lt hr
    rw [feedLow_succ]
    apply ih
    split
    · exact Nat.xor_lt_two_pow hhalf (revBits_lt w g)
    · exact hhalf

theorem cCrc_reflected (p : CrcPoly) {ww : BitVec 2} (hww : ww ≠ 3) (a b : Word) : cCrc p true ww a b =
    w32 (feedLow (crcWidth p) (crcGen p) (8 * 2 ^ ww.toNat) b.getLsbD (a.toNat % 2 ^ crcWidth p)) := by
  rw [cCrc_eq p true hww, crcLoop_eq]
  rfl

/-- A byte fed to a check value that a step before has given. -/
theorem cCrc_byte (p : CrcPoly) (b : Word) {r : Nat} (hr : r < 2 ^ crcWidth p) :
    cCrc p true 0 (w32 r) b = w32 (feedLow (crcWidth p) (crcGen p) 8 b.getLsbD r) := by
  have hwidth : 2 ^ crcWidth p ≤ 2 ^ 32 := by cases p <;> decide
  have hword : (w32 r).toNat = r := Nat.mod_eq_of_lt (hr.trans_le hwidth)
  rw [cCrc_reflected p (by decide), hword, Nat.mod_eq_of_lt hr]
  rfl

theorem getLsbD_byte (b : Word) (n : Nat) {i : Nat} (hi : i < 8) : (b >>> n &&& 0xFF).getLsbD i = b.getLsbD (n + i) := by
  have hmask : (0xFF : Word).getLsbD i = true := by
    revert hi; revert i; decide
  rw [BitVec.getLsbD_and, BitVec.getLsbD_ushiftRight, hmask, Bool.and_true]

/-- The reflected form takes the low bit first, and with it the low byte: a word is its four bytes in address order. -/
theorem cCrc_word_bytes (p : CrcPoly) (a b : Word) : cCrc p true 2 a b =
    cCrc p true 0 (cCrc p true 0 (cCrc p true 0 (cCrc p true 0 a (b &&& 0xFF)) (b >>> 8 &&& 0xFF)) (b >>> 16 &&& 0xFF)) (b >>> 24) := by
  have hr : a.toNat % 2 ^ crcWidth p < 2 ^ crcWidth p := Nat.mod_lt _ (Nat.two_pow_pos _)
  have hlow : ∀ i < 8, (b &&& 0xFF).getLsbD i = b.getLsbD i := fun i hi => by
    have h := getLsbD_byte b 0 hi
    rwa [BitVec.ushiftRight_zero, Nat.zero_add] at h
  have htop : ∀ i < 8, (b >>> 24).getLsbD i = b.getLsbD (24 + i) := fun i _ => BitVec.getLsbD_ushiftRight ..
  rw [cCrc_reflected p (by decide) a b, cCrc_reflected p (by decide) a (b &&& 0xFF)]
  have hsplit : ∀ r, feedLow (crcWidth p) (crcGen p) (8 * 2 ^ (2 : BitVec 2).toNat) b.getLsbD r =
      feedLow (crcWidth p) (crcGen p) 8 (b >>> 24).getLsbD (feedLow (crcWidth p) (crcGen p) 8 (b >>> 16 &&& 0xFF).getLsbD
        (feedLow (crcWidth p) (crcGen p) 8 (b >>> 8 &&& 0xFF).getLsbD (feedLow (crcWidth p) (crcGen p) 8 (b &&& 0xFF).getLsbD r))) :=
    fun r => by
    rw [show 8 * 2 ^ (2 : BitVec 2).toNat = 8 + 8 + 8 + 8 from rfl, feedLow_add, feedLow_add, feedLow_add, feedLow_congr _ _ _ _ hlow,
      feedLow_congr _ _ _ _ fun i hi => getLsbD_byte b 8 hi, feedLow_congr _ _ _ _ fun i hi => getLsbD_byte b 16 hi,
      feedLow_congr _ _ _ _ htop]
  rw [hsplit, cCrc_byte p _ (feedLow_lt _ _ _ _ hr), cCrc_byte p _ (feedLow_lt _ _ _ _ (feedLow_lt _ _ _ _ hr)),
    cCrc_byte p _ (feedLow_lt _ _ _ _ (feedLow_lt _ _ _ _ (feedLow_lt _ _ _ _ hr)))]
  rfl

end Sys2Proof.Machine
end

section
/-! The obligation on the C syllables, group by group (R77, R110 to R112). -/

namespace Sys2Proof.Machine

section
variable {c : Fin 4} {o : Op} {d s1 s2 : BitVec 6} {g : Guard} {s : State} {ws : List (Nat × Wr)}

/-- A C syllable on one register. -/
theorem cUnary_issued (hr : ready c 1 g [s1.toNat] s = true) (hd : fieldOk (dClass o) d = true)
    (ho : evalC (seen c s) ⟨.c, o, .off, d, s1, .reg 0, g⟩ = { res := ws }) (hop : wordOp o = true := by rfl)
    (hs2 : s2Class o = .unused := by rfl) (hcrc : crcOk o = true := by rfl)
    (ha : addrRes (seen c s) ⟨.c, o, .off, d, s1, .reg 0, g⟩ = [] := by rfl) :
    issueOne c ⟨.c, o, .off, d, s1, .reg 0, g⟩ s = issued c 1 ws {} s := by
  have hrun := unary_issued (u := .c) (s2 := .reg 0) hr hd rfl ho (by decide) hop hs2 hcrc
  rwa [ha, List.append_nil] at hrun

/-- A C syllable on two registers. -/
theorem cBinary_issued (hr : ready c 1 g [s1.toNat, s2.toNat] s = true) (hd : fieldOk (dClass o) d = true)
    (ho : evalC (seen c s) ⟨.c, o, .off, d, s1, .reg s2, g⟩ = { res := ws }) (hcrc : crcOk o = true := by rfl)
    (hop : wordOp o = true := by rfl) (hs2 : s2Class o = .wreg := by rfl)
    (ha : addrRes (seen c s) ⟨.c, o, .off, d, s1, .reg s2, g⟩ = [] := by rfl) :
    issueOne c ⟨.c, o, .off, d, s1, .reg s2, g⟩ s = issued c 1 ws {} s := by
  have hrun := binary_issued (u := .c) (s2 := .reg s2) hr hd rfl ho (by decide) hop hs2 hcrc
  rwa [ha, List.append_nil] at hrun

/-- A C syllable on a register and an immediate. -/
theorem cImm_issued {im : Imm} (hr : ready c (src2Len (.imm im)) g [s1.toNat] s = true) (hd : fieldOk (dClass o) d = true)
    (h2 : src2Ok (zeroExt o) (.imm im) = true) (ho : evalC (seen c s) ⟨.c, o, .off, d, s1, .imm im, g⟩ = { res := ws })
    (hop : wordOp o = true := by rfl) (hs2 : s2Class o = .unused := by rfl) (hcrc : crcOk o = true := by rfl)
    (ha : addrRes (seen c s) ⟨.c, o, .off, d, s1, .imm im, g⟩ = [] := by rfl) :
    issueOne c ⟨.c, o, .off, d, s1, .imm im, g⟩ s = issued c (src2Len (.imm im)) ws {} s := by
  have hrun := unary_issued (u := .c) (s2 := .imm im) hr hd h2 ho (by decide) hop hs2 hcrc
  rwa [ha, List.append_nil] at hrun
end

/-- Settles O8: each syllable is issued as the C unit computes it (`cUnary_issued`, `cBinary_issued`, `cImm_issued`), and the unit's result
has the bits named (`getLsbD_cIns`, `getLsbD_cClmull`, `cCrc_eq`, `cCrc_word_bytes` and their kin). -/
theorem checkAndBitSyllablesCompute : Obligations.CheckAndBitSyllablesCompute := by
  refine ⟨?bits, ?tstp, ?fields, ?crc, cCrc_word_bytes⟩
  case bits =>
    intro c d s1 g s x a ones hr
    refine ⟨?_, fun hd => ?_, ?_, ?_, ?_, ⟨cBrev a, fun i hi => getLsbD_cBrev a hi, ?_⟩, ⟨cBrevb a, fun i hi => getLsbD_cBrevb a hi, ?_⟩,
      ⟨cBswap a, fun i hi => getLsbD_cBswap a hi, ?_⟩⟩
    · exact exec_next rfl (cUnary_issued hr rfl (congrArg (outW 1 d) (cPar_word _)))
    · exact exec_next rfl (cUnary_issued hr (preg_ok hd) (congrArg (outP d) (cPar_eq _)))
    · exact exec_next rfl (cUnary_issued hr rfl (congrArg (outW 1 d) (cPopc_eq _)))
    · exact exec_next rfl (cUnary_issued hr rfl (congrArg (outW 1 d) (cClz_eq _)))
    · exact exec_next rfl (cUnary_issued hr rfl (congrArg (outW 1 d) (cCtz_eq _)))
    · exact exec_next rfl (cUnary_issued hr rfl rfl)
    · exact exec_next rfl (cUnary_issued hr rfl rfl)
    · exact exec_next rfl (cUnary_issued hr rfl rfl)
  case tstp =>
    intro c d s1 g s hr hd
    exact exec_next rfl (unit_issued (u := .c) (o := .tstp) (s2 := .reg 0) hr (preg_ok hd) rfl rfl rfl (by decide))
  case fields =>
    intro c d s1 s2 im g s x a b k e f m i
    refine ⟨fun hr => ⟨?_, ?_, fun hd => ?_, ⟨cClmull a b, fun j hj => getLsbD_cClmull a b hj, ?_⟩,
      ⟨cClmulh a b, fun j hj => getLsbD_cClmulh a b hj, ?_⟩⟩, fun hr => ⟨cIns (x.rw d.toNat) a b, fun j hj => getLsbD_cIns _ a b hj, ?_⟩,
      fun hr h2 => ⟨fun hd => ?_, ⟨cBset a _, fun j hj => getLsbD_cBset a _ hj, ?_⟩, ⟨cBclr a _, fun j hj => getLsbD_cBclr a _ hj, ?_⟩⟩⟩
    · exact exec_next rfl (cBinary_issued hr rfl rfl)
    · exact exec_next rfl (cBinary_issued hr rfl (congrArg (outW 1 d) (cExts_eq _ _)))
    · exact exec_next rfl (cBinary_issued hr (preg_ok hd) rfl)
    · exact exec_next rfl (cBinary_issued hr rfl rfl)
    · exact exec_next rfl (cBinary_issued hr rfl rfl)
    · exact exec_next rfl (unit_issued (u := .c) (o := .ins) (s2 := .reg s2) hr rfl rfl rfl rfl (by decide))
    · exact exec_next rfl (cImm_issued hr (preg_ok hd) h2 rfl)
    · exact exec_next rfl (cImm_issued hr rfl h2 rfl)
    · exact exec_next rfl (cImm_issued hr rfl h2 rfl)
  case crc =>
    intro c p refl ww d s1 s2 g s x t hr hww
    exact exec_next rfl (cBinary_issued hr rfl
      (congrArg (outW (if ww = 2 then 2 else 1) d) (cCrc_eq p refl hww _ _)) (bne_iff_ne.2 hww))

end Sys2Proof.Machine
end
section
/-! SUPPORT. What the chain, the survey, the card slots, the flash registers and the calls leave as it was, by the blocks that each of
them reaches (R119, R304, R372, R383, R425, R442). -/

namespace Sys2Proof.Machine

/-! ### Apart from the steward's own blocks -/

/-- A part of the state apart from the steward's record, the gates, the window, the sentinel, the CIC and the ports, and from the arrival
number and the wake mark of NAP. -/
structure ApartFromSteward {β : Type} (g : State → β) : Prop where
  stw : ∀ v t, g { t with stw := v } = g t
  gates : ∀ v t, g { t with gates := v } = g t
  win : ∀ v t, g { t with win := v } = g t
  snt : ∀ v t, g { t with snt := v } = g t
  cic : ∀ v t, g { t with cic := v } = g t
  port : ∀ v t, g { t with port := v } = g t
  stir : ∀ n w t, g { t with isl := { t.isl with arrival := n, napWake := w } } = g t

section
variable {β : Type} {g : State → β} (hg : ApartFromSteward g)
include hg

theorem ApartFromSteward.tamper : ApartFromTamper g where
  latched _ t := hg.snt _ t
  gfH _ t := hg.gates _ t
  seqs _ t := hg.win _ t
  shown _ t := hg.win _ t
  events _ _ t := hg.stw _ t
  tlog _ _ _ _ t := hg.snt _ t

theorem ApartFromSteward.reports : ApartFromReports g := hg.tamper.toApartFromReports

theorem ApartFromSteward.levels : ApartFromLevels g where
  src _ _ t := hg.cic _ t
  sent v _ t := (hg.gates _ { t with cic := { t.cic with sent := v } }).trans (hg.cic _ t)
  stir := hg.stir

theorem setSnt_keeps (f : Snt → Snt) (s : State) : g (setSnt f s) = g s := hg.snt _ s

theorem setWin_keeps (f : Win → Win) (s : State) : g (setWin f s) = g s := hg.win _ s

theorem setFeed_keeps (n : Nat) (f : Feed → Feed) (s : State) : g (setFeed n f s) = g s := hg.port _ s

theorem setSlot_keeps (n : Nat) (f : Slot → Slot) (s : State) : g (setSlot n f s) = g s := hg.port _ s

theorem toHost_keeps (t : HTxn) (s : State) : g (toHost t s) = g s := hg.gates _ s

theorem pulse_keeps (n : Nat) (s : State) : g (cicPulse n s) = g s := by
  unfold cicPulse
  split
  · rfl
  · refine (srcEdge_keeps hg.levels n _).trans ?_
    unfold stampSource
    split
    · exact stampArrival_keeps hg.levels s
    · rfl

theorem cardLevels_keeps (n : Nat) (s : State) : g (cardLevels n s) = g s :=
  (cicLevel_keeps hg.levels _ _ _).trans (cicLevel_keeps hg.levels _ _ s)

theorem cellLevels_keeps (s : State) : g (cellLevels s) = g s := forNat_keeps g 8 _ s fun _ t => cicLevel_keeps hg.levels _ _ t

theorem chainShown_keeps (s : State) : g (chainShown s) = g s :=
  (pubSlot_keeps hg.reports 7 _).trans ((pubSlot_keeps hg.reports 5 _).trans (chainLevels_keeps hg.levels s))

theorem cellResult_keeps (n st code val : Nat) (s : State) : g (cellResult n st code val s) = g s := by
  unfold cellResult setCell
  split
  · rfl
  · simp only [setLeaf_keeps hg.reports, toHost_keeps hg, setWin_keeps hg]

end

/-! ### Apart from the replies and the ports of the chain -/

/-- A part of the state that no line, no reply and no frame of the chain is in either. -/
structure ApartFromReplies {β : Type} (g : State → β) : Prop extends ApartFromSteward g where
  oru : ∀ v t, g { t with oru := v } = g t
  chn : ∀ v t, g { t with chn := v } = g t

section
variable {β : Type} {g : State → β} (hg : ApartFromReplies g)
include hg

theorem ApartFromReplies.lines : ApartFromLines g where
  toApartFromLevels := hg.levels
  latched _ t := hg.snt _ t
  gfH _ t := hg.gates _ t
  mbox _ t := hg.oru _ t
  queued _ _ t := hg.win _ t
  chn := hg.chn

theorem ApartFromReplies.setCar (c : Carrier) (f : CarSt → CarSt) (s : State) : g (setCar c f s) = g s :=
  setCar_keeps (fun _ t => hg.oru _ t) c f s

theorem closeTag_keeps (c : Carrier) (tag : Option Nat) (s : State) : g (closeTag c tag s) = g s := hg.setCar c _ s

theorem ApartFromReplies.replyText (ln : Ln) (final : Bool) (mark : Char) (t : Text) (s : State) :
    g (replyText ln final mark t s) = g s :=
  replyText_keeps hg.lines (fun _ t => hg.oru _ t) ln final mark t s

theorem finalReply_keeps (ln : Ln) (mark : Char) (t : Text) (s : State) : g (finalReply ln mark t s) = g s := by
  unfold finalReply
  split
  · exact (hg.replyText ln true mark t _).trans (closeTag_keeps hg _ _ s)
  · rfl

theorem replyErr_keeps (ln : Ln) (e : Err) (s : State) : g (replyErr ln e s) = g s := by
  refine (finalReply_keeps hg ln '-' e.text _).trans ?_
  split
  · exact logEvent_keeps hg.reports _ _ _ _ s
  · rfl

theorem unsolicited_keeps (c : Carrier) (t : Text) (s : State) : g (unsolicited c t s) = g s := by
  unfold unsolicited
  split
  · rfl
  · exact toMailbox_keeps hg.lines _ _ _ _ s
  · exact sendLine_keeps hg.lines _ _ _ _ s fun _ _ => hg.setCar _ _ s

theorem remoteFail_keeps (c : Carrier) (q : OutTag) (s : State) : g (remoteFail c q s) = g s :=
  (hg.replyText _ true '-' _ _).trans (closeTag_keeps hg c q.tag s)

theorem sessionOpen_keeps (c : Carrier) (q : Sess) (s : State) : g (sessionOpen c q s) = g s :=
  (logEvent_keeps hg.reports _ _ _ _ _).trans ((setLeaf_keeps hg.reports 12 0 _).trans (hg.setCar c _ s))

theorem proofFailed_keeps (c : Carrier) (s : State) : g (proofFailed c s) = g s := by
  have hcounted : g (setLeaf 12 2 (logEvent (carSrc c) (partyOf s c) "ORUNE.PROOF_FAIL" [w32 (carCode c)] s)) = g s :=
    (setLeaf_keeps hg.reports 12 2 _).trans (logEvent_keeps hg.reports _ _ _ _ s)
  unfold proofFailed
  dsimp only
  split
  · exact (hg.setCar c _ _).trans hcounted
  · exact (logEvent_keeps hg.reports _ _ _ _ _).trans ((setLeaf_keeps hg.reports 12 3 _).trans ((hg.setCar c _ _).trans hcounted))

/-! ### Ports and frames of the chain (R425, R437) -/

theorem setChn_keeps (f : Chn → Chn) (s : State) : g (setChn f s) = g s := hg.chn _ s

theorem setCport_keeps (d : Nat) (f : ChPort → ChPort) (s : State) : g (setCport d f s) = g s := hg.chn _ s

theorem putFrame_keeps (d : Nat) (f : Frame) (s : State) : g (putFrame d f s) = g s := hg.chn _ s

theorem sendPlain_keeps (d : Nat) (ty : BitVec 4) (pl : Bytes) (s : State) : g (sendPlain d ty pl s) = g s := putFrame_keeps hg d _ s

theorem sendKeyed_keeps (d : Nat) (ty : BitVec 4) (dst : Nat) (pl : Bytes) (s : State) : g (sendKeyed d ty dst pl s) = g s := by
  unfold sendKeyed
  split
  · rfl
  · exact putFrame_keeps hg d _ s

theorem countReplay_keeps (s : State) : g (countReplay s) = g s := hg.chn _ s

theorem countFrame_keeps (s : State) : g (countFrame s) = g s := hg.chn _ s

theorem frameTaken_keeps (d : Nat) (f : Frame) (s : State) : g (frameTaken d f s) = g s :=
  (countFrame_keeps hg _).trans (setCport_keeps hg d _ s)

theorem passOn_keeps (o : Nat) (f : Frame) (pl : Bytes) (free : Bool) (s : State) : g (passOn o f pl free s) = g s := by
  unfold passOn relay countDrop
  split_ifs
  · rfl
  · exact putFrame_keeps hg o _ s
  · exact setCport_keeps hg o _ s
  · exact setChn_keeps hg _ s

theorem cutShort_keeps (d o : Nat) (f : Frame) (k : Bytes) (s : State) : g (cutShort d o f k s) = g s := by
  refine (putFrame_keeps hg o _ _).trans ?_
  split
  · rfl
  · exact setChn_keeps hg _ s

theorem noIdentity_keeps (d : Nat) (s : State) : g (noIdentity d s) = g s :=
  (chainShown_keeps hg.toApartFromSteward _).trans (setCport_keeps hg d _ s)

theorem broadcastTopo_keeps (s : State) : g (broadcastTopo s) = g s :=
  (sendKeyed_keeps hg 0 4 0xFF _ _).trans (sendKeyed_keeps hg 1 4 0xFF _ s)

end

/-! ### Apart from the sessions, their cards and the paths of the chain -/

/-- A part of the state that no session that ends is in either: what a card was sent, cut short, takes a free choice. -/
structure ApartFromSessions {β : Type} (g : State → β) : Prop extends ApartFromReplies g where
  free : ∀ v t, g { t with free := v } = g t

section
variable {β : Type} {g : State → β} (hg : ApartFromSessions g)
include hg

theorem cutSent_keeps (n : Nat) (s : State) : g (cutSent n s) = g s := by
  unfold cutSent
  split
  · exact (setSlot_keeps hg.toApartFromSteward n _ _).trans (hg.free _ s)
  · rfl

theorem cardEnd_keeps (n status : Nat) (s : State) : g (cardEnd n status s) = g s :=
  (cardLevels_keeps hg.toApartFromSteward n _).trans ((setSlot_keeps hg.toApartFromSteward n _ _).trans (cutSent_keeps hg n s))

theorem cardOff_keeps (n status : Nat) (s : State) : g (cardOff n status s) = g s :=
  (pulse_keeps hg.toApartFromSteward _ _).trans ((setSlot_keeps hg.toApartFromSteward n _ _).trans (cardEnd_keeps hg n status s))

theorem cardLeave_keeps (n : Nat) (s : State) : g (cardLeave n s) = g s := by
  have hleft := setSlot_keeps hg.toApartFromSteward n (fun q => { q with steward := false, wait := none }) s
  unfold cardLeave
  dsimp only
  split_ifs
  · rfl
  · exact (cardOff_keeps hg n 0 _).trans hleft
  · exact hleft

theorem sessionEnd_keeps (c : Carrier) (why : Option Text) (s : State) : g (sessionEnd c why s) = g s := by
  unfold sessionEnd
  split
  · rfl
  · dsimp only
    split <;> simp only [unsolicited_keeps hg.toApartFromReplies, logEvent_keeps hg.reports, setLeaf_keeps hg.reports] <;> split <;>
      simp only [cardLeave_keeps hg, hg.setCar]

theorem proofPassed_keeps (c : Carrier) (q : Sess) (s : State) : g (proofPassed c q s) = g s :=
  (sessionOpen_keeps hg.toApartFromReplies c q _).trans ((logEvent_keeps hg.reports _ _ _ _ _).trans (sessionEnd_keeps hg c none s))

theorem cardDone_keeps (n : Nat) (ln : Ln) (a : Option CardAnswer) (s : State) : g (cardDone n ln a s) = g s := by
  have hslot := fun f u => setSlot_keeps hg.toApartFromSteward n f u
  unfold cardDone
  dsimp only
  split
  · rw [replyErr_keeps hg.toApartFromReplies, cardLeave_keeps hg, proofFailed_keeps hg.toApartFromReplies, hslot]
  · refine (finalReply_keeps hg.toApartFromReplies ln '+' _ _).trans ?_
    split
    · rw [logEvent_keeps hg.reports, hslot, proofPassed_keeps hg, hslot]
    · rw [hslot, proofPassed_keeps hg, hslot]

theorem pathsLost_keeps (old : Chn) (s : State) : g (pathsLost old s) = g s := by
  refine forAll_keeps g _ _ s fun q t => ?_
  have hfailed : ∀ l, g (forAll l (fun k u => remoteFail q.car k u) t) = g t := fun l =>
    forAll_keeps g l _ t fun k u => remoteFail_keeps hg.toApartFromReplies q.car k u
  have hgone : ∀ (b : Bool) (f : CarSt → CarSt) (u : State),
      g (if b then u else unsolicited q.car (tx "SESSION END CHAIN") (setCar q.car f u)) = g u := fun b f u => by
    split
    · rfl
    · exact (unsolicited_keeps hg.toApartFromReplies _ _ _).trans (hg.setCar _ _ u)
  dsimp only
  split
  · split
    · rw [sessionEnd_keeps hg, hgone, hfailed]
    · rw [hgone, hfailed]
  · rw [hgone, hfailed]

theorem chainChange_keeps (f : Chn → Chn) (s : State) : g (chainChange f s) = g s := by
  have hleaves : ∀ l k u, g (forAll l (fun n t => setLeafD 2 k [(0, n)] t) u) = g u := fun l k u =>
    forAll_keeps g l _ u fun _ t => setLeafD_keeps hg.reports _ _ _ t
  unfold chainChange
  dsimp only
  rw [chainShown_keeps hg.toApartFromSteward, pathsLost_keeps hg]
  split
  · rw [setLeaf_keeps hg.reports, hleaves, hleaves, setChn_keeps hg.toApartFromReplies]
  · rw [hleaves, hleaves, setChn_keeps hg.toApartFromReplies]

theorem unnumber_keeps (s : State) : g (unnumber s) = g s :=
  (chainShown_keeps hg.toApartFromSteward _).trans ((pathsLost_keeps hg _ _).trans (setChn_keeps hg.toApartFromReplies _ s))

theorem headChange_keeps (f : Chn → Chn) (s : State) : g (headChange f s) = g s :=
  (broadcastTopo_keeps hg.toApartFromReplies _).trans (chainChange_keeps hg _ s)

theorem headLoss_keeps (p port : Nat) (s : State) : g (headLoss p port s) = g s := by
  have hlooped := setChn_keeps hg.toApartFromReplies (fun c => { c with looped := false }) s
  unfold headLoss
  dsimp only
  split_ifs <;> simp only [headChange_keeps hg, hlooped]

theorem sendAssign_keeps (d pos : Nat) (id : Bytes) (s : State) : g (sendAssign d pos id s) = g s :=
  sendKeyed_keeps hg.toApartFromReplies d 6 pos _ s

theorem joinIn_keeps (f : Frame) (d : Nat) (pl : Bytes) (s : State) : g (joinIn f d pl s) = g s := by
  unfold joinIn
  dsimp only
  split
  · rfl
  · split
    · split_ifs <;> simp only [sendAssign_keeps hg, headChange_keeps hg]
    · split
      · rw [logEvent_keeps hg.reports, setLeafD_keeps hg.reports, sendKeyed_keeps hg.toApartFromReplies]
      · split <;> simp only [headChange_keeps hg, sendAssign_keeps hg]

theorem claimIn_keeps (f : Frame) (d : Nat) (k : Bytes) (s : State) : g (claimIn f d k s) = g s := by
  have hset := setChn_keeps hg.toApartFromReplies
  have hsend := sendKeyed_keeps hg.toApartFromReplies
  unfold claimIn
  dsimp only
  split
  · rfl
  · split_ifs <;> simp only [hsend, hset]
  · split <;> simp only [hsend, hset, unnumber_keeps hg]

theorem topoIn_keeps (d : Nat) (pl : Bytes) (s : State) : g (topoIn d pl s) = g s := by
  have hjoin : ∀ e u, g (sendJoin e u) = g u := fun e u => sendKeyed_keeps hg.toApartFromReplies e 5 1 _ u
  unfold topoIn
  dsimp only
  split
  · rfl
  · rfl
  · exact hjoin _ s
  · split
    · exact chainChange_keeps hg _ s
    · exact (hjoin _ _).trans (unnumber_keeps hg s)

theorem assignIn_keeps (pl : Bytes) (s : State) : g (assignIn pl s) = g s := by
  unfold assignIn
  dsimp only
  split
  · rfl
  · exact (chainShown_keeps hg.toApartFromSteward _).trans (setChn_keeps hg.toApartFromReplies _ s)

theorem linkUp_keeps (d : Nat) (s : State) : g (linkUp d s) = g s := by
  have hshown := chainShown_keeps hg.toApartFromSteward
  have hset := setChn_keeps hg.toApartFromReplies
  have hsend := sendKeyed_keeps hg.toApartFromReplies
  have hleaf := setLeaf_keeps hg.reports
  unfold linkUp offerHead sendReport
  dsimp only
  split <;> split_ifs <;> simp only [headChange_keeps hg, hsend, hshown, hset, hleaf]

end

end Sys2Proof.Machine
end

section
/-! SUPPORT. What the survey, the links of the chain and the flash registers leave as it was, and the calls (R119, R364, R383, R425,
R431). -/

namespace Sys2Proof.Machine

/-! ### A card's channel (R374, R442) -/

theorem setCh_keeps {β : Type} {g : State → β} (hsrv : ∀ v t, g { t with srv := v } = g t) (n : Nat) (f : SrvChan → SrvChan)
    (s : State) : g (setCh n f s) = g s := hsrv _ s

theorem cardGone_keeps {β : Type} {g : State → β} (hg : ApartFromSessions g) (hsrv : ∀ v t, g { t with srv := v } = g t) (n : Nat)
    (s : State) : g (cardGone n s) = g s := by
  have hslot := fun f u => setSlot_keeps hg.toApartFromSteward n f u
  unfold cardGone
  dsimp only
  rw [setLeaf_keeps hg.reports, cardLevels_keeps hg.toApartFromSteward]
  split
  · rw [cardOff_keeps hg, setCh_keeps hsrv, hslot]
  · rw [hslot, setCh_keeps hsrv, hslot]

/-! ### Apart from the survey, the records and the keys -/

/-- A part of the state that neither the chain nor the survey is in: nor the records and the flash commands they make, nor the key slots. -/
structure ApartFromChain {β : Type} (g : State → β) : Prop extends ApartFromSessions g where
  srv : ∀ v t, g { t with srv := v } = g t
  flc : ∀ v t, g { t with flc := v } = g t
  store : ∀ v t, g { t with store := v } = g t
  seals : ∀ v t, g { t with seals := v } = g t

section
variable {β : Type} {g : State → β} (hg : ApartFromChain g)
include hg

theorem ApartFromChain.verdicts : ApartFromVerdicts g where
  toApartFromTamper := hg.tamper
  store := hg.store
  flc := hg.flc
  lifeShown _ t := hg.stw _ t
  toApartFromLevels := hg.levels
  hold _ t := hg.snt _ t
  aside _ _ _ := rfl
  noted _ _ t _ := hg.srv _ t

theorem ApartFromChain.records : ApartFromRecords g := hg.verdicts.toApartFromRecords

theorem randomBytes_keeps (n : Nat) (s : State) : g (randomBytes n s).2 = g s := hg.seals _ s

theorem freeNat_keeps (s : State) : g (freeNat s).2 = g s := hg.free _ s

theorem rtcInvalid_keeps (s : State) : g (rtcInvalid s) = g s := by
  refine (lifeCheck_keeps hg.records _).trans ?_
  split
  · exact (setLeaf_keeps hg.reports 13 0 _).trans (hg.snt _ s)
  · exact hg.snt _ s

/-! ### The feeds (R372, R376) -/

theorem feedEdge_keeps (n : Nat) (s : State) : g (feedEdge n s) = g s :=
  (feedJudge_keeps hg.verdicts n _).trans ((hg.port _ { setFeed n _ s with srv := _ }).trans ((hg.srv _ (setFeed n _ s)).trans (hg.port _ s)))

theorem burstEnd_keeps (s : State) : g (burstEnd s) = g s := by
  unfold burstEnd
  dsimp only
  split
  · exact hg.port _ s
  · exact (feedEdge_keeps hg _ _).trans (hg.port _ s)

theorem feedTurnOff_keeps (n : Nat) (s : State) : g (feedTurnOff n s) = g s := by
  have hoff : ∀ f h, g { setFeed n f s with port := { (setFeed n f s).port with heldOn := h } } = g s := fun _ _ => hg.port _ s
  unfold feedTurnOff
  dsimp only
  rw [feedJudge_keeps hg.verdicts]
  split
  · exact (burstEnd_keeps hg _).trans (hoff _ _)
  · exact hoff _ _

theorem feedTrip_keeps (n code : Nat) (s : State) : g (feedTrip n code s) = g s := by
  unfold feedTrip
  split
  · exact (feedTurnOff_keeps hg n _).trans (hg.port _ s)
  · rfl

/-! ### Channels, cables and partners (R364, R374, R377) -/

theorem peerIs_keeps (d : Nat) (q : Option (Bytes × Nat)) (s : State) : g (peerIs d q s) = g s := by
  refine (pubSlot_keeps hg.reports 4 _).trans ((deviationClass_keeps hg.verdicts _ _).trans ((judge_keeps hg.verdicts _ _ _).trans ?_))
  exact (setCh_keeps hg.srv _ _ _).trans (hg.srv _ s)

theorem canPresent_keeps (k : Nat) (b : Bool) (s : State) : g (canPresent k b s) = g s := by
  have hport : ∀ p, g { s with port := p } = g s := fun p => hg.port p s
  unfold canPresent
  dsimp only
  split <;> split_ifs <;>
    simp only [judge_keeps hg.verdicts, pubSlot_keeps hg.reports, setLeaf_keeps hg.reports, setCh_keeps hg.srv, hport]

theorem cableJudge_keeps (k : Nat) (r : Tdr) (s : State) : g (cableJudge k r s) = g s := by
  unfold cableJudge
  dsimp only
  split
  · rfl
  · split_ifs <;> simp only [judge_keeps hg.verdicts, setCh_keeps hg.srv]

theorem tdrDone_keeps (k : Nat) (r : Tdr) (s : State) : g (tdrDone k r s) = g s :=
  (pubSlot_keeps hg.reports 4 _).trans ((cableJudge_keeps hg k _ _).trans ((setCh_keeps hg.srv _ _ _).trans (hg.srv _ s)))

theorem baseRecord_keeps (n : Nat) (tol : Option Nat) (meas : List Tdr) (s : State) : g (baseRecord n tol meas s) = g s := by
  unfold baseRecord
  dsimp only
  split
  · exact setCh_keeps hg.srv n _ s
  · exact setCh_keeps hg.srv n _ s
  · split
    · exact (chainLevels_keeps hg.levels _).trans (hg.srv _ s)
    · exact setCh_keeps hg.srv n _ s
  · exact setCh_keeps hg.srv n _ s

theorem baseDone_keeps (j : BaseJob) (s : State) : g (baseDone j s) = g s := by
  refine (pubSlot_keeps hg.reports 4 _).trans ((tamperN_keeps hg.tamper _ _ _ _).trans ((setLeaf_keeps hg.reports 1 5 _).trans ?_))
  exact forAll_keeps g _ _ s fun n t => (logEvent_keeps hg.reports _ _ _ _ _).trans (baseRecord_keeps hg n _ _ t)

/-- The reply of a SET BASELINE goes to lines only. -/
theorem baseAnswer_keeps (j : BaseJob) (s : State) : g (applyAct.baseAnswer j s) = g s := by
  unfold applyAct.baseAnswer answerAll forAll
  rw [List.foldl_map]
  exact forAll_keeps g j.dests _ s fun ln t => finalReply_keeps hg.toApartFromReplies ln '+' _ t

theorem baseJobs_keeps (n : Nat) (r : Tdr) (s : State) : g (baseJobs n r s) = g s :=
  (forAll_keeps g _ _ _ fun j t => (baseAnswer_keeps hg j _).trans (baseDone_keeps hg j t)).trans (hg.srv _ s)

/-! ### Segments and links (R425 to R431) -/

theorem sendHello_keeps (d : Nat) (s : State) : g (sendHello d s) = g s := by
  have hr := hg.toApartFromReplies
  unfold sendHello
  split
  · exact noIdentity_keeps hr d s
  · exact (sendPlain_keeps hr d 1 _ _).trans ((setCport_keeps hr d _ _).trans (randomBytes_keeps hg 16 s))

theorem sendCap_keeps (d : Nat) (peerNonce : Bytes) (s : State) : g (sendCap d peerNonce s) = g s :=
  (sendPlain_keeps hg.toApartFromReplies d 2 _ _).trans ((setCport_keeps hg.toApartFromReplies d _ _).trans (randomBytes_keeps hg 32 s))

theorem hail_keeps (d : Nat) (s : State) : g (hail d s) = g s :=
  (chainShown_keeps hg.toApartFromSteward _).trans ((setCport_keeps hg.toApartFromReplies d _ _).trans (sendHello_keeps hg d s))

theorem helloTimer_keeps (d : Nat) (s : State) : g (helloTimer d s) = g s := by
  unfold helloTimer
  dsimp only
  split_ifs <;> simp only [hail_keeps hg]

theorem deafTo_keeps (d : Nat) (s : State) : g (deafTo d s) = g s := by
  unfold deafTo
  split
  · exact hail_keeps hg d s
  · rfl

theorem segFault_keeps (d cause : Nat) (s : State) : g (segFault d cause s) = g s := by
  unfold segFault
  dsimp only
  split
  · exact (peerIs_keeps hg d none _).trans (setCport_keeps hg.toApartFromReplies d _ s)
  · exact setCport_keeps hg.toApartFromReplies d _ s

theorem keyFault_keeps (d : Nat) (s : State) : g (keyFault d s) = g s :=
  (chainShown_keeps hg.toApartFromSteward _).trans ((logEvent_keeps hg.reports _ _ _ _ _).trans ((setLeaf_keeps hg.reports 2 6 _).trans
    ((setChn_keeps hg.toApartFromReplies _ _).trans (segFault_keeps hg d 2 s))))

theorem linkDown_keeps (d : Nat) (s : State) : g (linkDown d s) = g s := by
  have hdown : ∀ f h, g (chainShown (peerIs d none (setLeaf 2 0 (setCport d f (setChn h s))))) = g s := fun f h =>
    (chainShown_keeps hg.toApartFromSteward _).trans ((peerIs_keeps hg d none _).trans ((setLeaf_keeps hg.reports 2 0 _).trans
      ((setCport_keeps hg.toApartFromReplies d f _).trans (setChn_keeps hg.toApartFromReplies h s))))
  unfold linkDown
  dsimp only
  split
  · exact (headLoss_keeps hg.toApartFromSessions 1 d _).trans (hdown _ _)
  · exact (sendKeyed_keeps hg.toApartFromReplies _ 8 1 _ _).trans (hdown _ _)
  · exact hdown _ _

theorem portFull_keeps (d : Nat) (s : State) : g (portFull d s) = g s := by
  refine (setCport_keeps hg.toApartFromReplies d _ _).trans ?_
  split
  · exact (peerIs_keeps hg d none _).trans (setLeaf_keeps hg.reports 2 0 s)
  · rfl

theorem tagFail_keeps (d : Nat) (s : State) : g (tagFail d s) = g s := by
  unfold tagFail
  dsimp only
  split
  · exact setCport_keeps hg.toApartFromReplies d _ s
  · exact (setCport_keeps hg.toApartFromReplies d _ _).trans ((hail_keeps hg d _).trans (linkDown_keeps hg d s))

theorem exchangeDone_keeps (d : Nat) (s : State) : g (exchangeDone d s) = g s := by
  have hkeys := fun f => setCport_keeps hg.toApartFromReplies d f s
  unfold exchangeDone
  dsimp only
  split
  · rfl
  · split
    · exact keyFault_keeps hg d s
    · split
      · exact (chainShown_keeps hg.toApartFromSteward _).trans (hkeys _)
      · exact (linkUp_keeps hg.toApartFromSessions d _).trans (hkeys _)

theorem helloIn_keeps (d : Nat) (f : Frame) (s : State) : g (helloIn d f s) = g s := by
  have hshown := chainShown_keeps hg.toApartFromSteward
  have hcount := countFrame_keeps hg.toApartFromReplies
  unfold helloIn
  dsimp only
  split <;> split_ifs <;> simp only [hshown, exchangeDone_keeps hg, sendCap_keeps hg, hcount, hail_keeps hg]

theorem capIn_keeps (d : Nat) (f : Frame) (s : State) : g (capIn d f s) = g s := by
  have hdown : ∀ p : Prop, ∀ [Decidable p], g (if p then linkDown d s else s) = g s := fun p _ => by
    split
    · exact linkDown_keeps hg d s
    · rfl
  unfold capIn
  dsimp only
  split
  · rfl
  · split
    · exact (chainShown_keeps hg.toApartFromSteward _).trans ((segFault_keeps hg d 1 _).trans (hdown _))
    · exact (keyFault_keeps hg d _).trans (hdown _)
    · rw [exchangeDone_keeps hg, peerIs_keeps hg, countFrame_keeps hg.toApartFromReplies, setCport_keeps hg.toApartFromReplies]

theorem linkTimeout_keeps (d : Nat) (s : State) : g (linkTimeout d s) = g s := by
  have hshown := chainShown_keeps hg.toApartFromSteward
  have hport := setCport_keeps hg.toApartFromReplies
  unfold linkTimeout
  dsimp only
  split
  · exact linkDown_keeps hg d s
  · split <;> simp only [hshown, hport]
  · rfl
  · split <;> simp only [hshown, hport, segFault_keeps hg]

theorem refuseIn_keeps (d : Nat) (pl : Bytes) (s : State) : g (refuseIn d pl s) = g s := by
  unfold refuseIn
  split_ifs
  · rw [chainShown_keeps hg.toApartFromSteward, setChn_keeps hg.toApartFromReplies, portFull_keeps hg, portFull_keeps hg,
      unnumber_keeps hg.toApartFromSessions]
  · rfl
  · rfl
  · exact sendKeyed_keeps hg.toApartFromReplies _ 7 0 pl s

/-! ### Frames that come to a port (R432 to R437) -/

/-- A command of a port leaves what its own work leaves. -/
theorem portRow_keeps (d : Nat) (f : State → State) (s : State) (hf : g (f s) = g s) : g (portRow d f s) = g s := by
  unfold portRow
  split
  · rfl
  · split
    · split
      · rfl
      · refine (noIdentity_keeps hg.toApartFromReplies d _).trans ?_
        split
        · exact linkDown_keeps hg d s
        · rfl
    · exact hf

theorem keyedRow_keeps (pt : Port) (f : Frame) (ty : BitVec 4) (use : Nat → Bytes → State → State) (s : State)
    (huse : ∀ pl u, g (use (portNo pt) pl u) = g u) : g (keyedRow pt f ty use s) = g s := by
  refine portRow_keeps hg _ _ s ?_
  unfold keyed
  split
  · rfl
  · split
    · exact deafTo_keeps hg _ s
    · exact countReplay_keeps hg.toApartFromReplies s
    · exact tagFail_keeps hg _ s
    · exact (huse _ _).trans (frameTaken_keeps hg.toApartFromReplies _ f s)

theorem forward_keeps (d : Nat) (f : Frame) (free : Bool) (use : Bytes → State → State) (s : State)
    (huse : ∀ pl u, g (use pl u) = g u) : g (forward d f free use s) = g s := by
  have hr := hg.toApartFromReplies
  unfold forward
  dsimp only
  split
  · exact deafTo_keeps hg d s
  · split
    · exact countReplay_keeps hr s
    · split
      · split
        · exact cutShort_keeps hr _ _ f _ s
        · rfl
      · split
        · refine (huse _ _).trans ?_
          split
          · exact (passOn_keeps hr _ f _ free _).trans (frameTaken_keeps hr d f s)
          · exact frameTaken_keeps hr d f s
        · refine (tagFail_keeps hg d _).trans ?_
          split
          · exact cutShort_keeps hr _ _ f _ s
          · rfl

/-! ### The flash registers (R364) -/

theorem setBank_keeps (b : Nat) (f : Bank → Bank) (s : State) : g (setBank b f s) = g s := hg.flc _ s

theorem flashCmd_keeps (b code : Nat) (s : State) : g (flashCmd b code s) = g s := by
  unfold flashCmd cmdErr
  dsimp only
  split_ifs <;> simp only [setBank_keeps hg]

end

end Sys2Proof.Machine
end

section
/-! SUPPORT. What a service call leaves as it was: its answer, its order, the operating point it asks for (R77, R119, R320, R324). -/

namespace Sys2Proof.Machine

/-! ### Answers (R119, R320) -/

/-- A part of the state that no service call is in: it answers in the caller's frame and in its twin's. -/
structure ApartFromCalls {β : Type} (g : State → β) : Prop extends ApartFromReplies g where
  cores : ∀ v t, g { t with cores := v } = g t

section
variable {β : Type} {g : State → β} (hg : ApartFromCalls g)
include hg

theorem ApartFromCalls.frames : ApartFromCores g := ⟨hg.cores, hg.cic, hg.gates⟩

theorem ApartFromCalls.callResult (c p svc : Nat) (arg : Word) (code : Nat) (s : State) : g (callResult c p svc arg code s) = g s :=
  (callResult_keeps hg.frames c p svc arg code s).trans (hg.oru _ s)

theorem answerOk_keeps (d : ReplyTo) (t : Text) (s : State) : g (answerOk d t s) = g s := by
  unfold answerOk
  split
  · exact finalReply_keeps hg.toApartFromReplies _ '+' t s
  · exact hg.callResult _ _ _ _ 0 s
  · exact cellResult_keeps hg.toApartFromSteward _ 3 0 0 s
  · exact setFeed_keeps hg.toApartFromSteward _ _ s

theorem answerErr_keeps (d : ReplyTo) (e : Err) (s : State) : g (answerErr d e s) = g s := by
  have hlogged : ∀ src party data, g (if e.code = 201 then logEvent src party "NO_RIGHT" data s else s) = g s := fun _ _ _ => by
    split
    · exact logEvent_keeps hg.reports _ _ _ _ s
    · rfl
  unfold answerErr
  split
  · exact replyErr_keeps hg.toApartFromReplies _ e s
  · exact (hg.callResult _ _ _ _ _ _).trans (hlogged _ _ _)
  · exact (cellResult_keeps hg.toApartFromSteward _ 4 _ _ _).trans (hlogged _ _ _)
  · exact (setFeed_keeps hg.toApartFromSteward _ _ _).trans (hlogged _ _ _)

/-- A call leaves what its own work leaves. -/
theorem serve_keeps (core : Fin 4) (svc : Nat) (arg : Word) (f : Nat → ReplyTo → State → State) (s : State)
    (hf : ∀ p d u, g (f p d u) = g u) : g (serve core svc arg f s) = g s := by
  unfold serve
  split
  · rfl
  · exact (hf _ _ _).trans ((takeCall_keeps hg.frames _ _ _).trans (stampArrival_keeps hg.levels s))

theorem serveNow_keeps (core : Fin 4) (svc : Nat) (arg : Word) (f : Nat → State → Nat × State) (s : State)
    (hf : ∀ p u, g (f p u).2 = g u) : g (serveNow core svc arg f s) = g s := by
  refine serve_keeps hg core svc arg _ s fun p d u => ?_
  dsimp only
  split
  · exact (answerOk_keeps hg d [] _).trans (hf p u)
  · exact (answerErr_keeps hg d _ _).trans (hf p u)

theorem cellBind_keeps (p : Nat) (arg : Word) (s : State) : g (cellBind p arg s).2 = g s := by
  have hbound : ∀ b n f, g (toHost (.cell n b 0 0) (setCell n f s)) = g s := fun _ n _ =>
    (toHost_keeps hg.toApartFromSteward _ _).trans (setWin_keeps hg.toApartFromSteward _ s)
  unfold cellBind
  dsimp only
  split
  · rfl
  · split
    · rfl
    · split_ifs <;> simp only [hbound]

theorem cellAnswer_keeps (p : Nat) (arg : Word) (s : State) : g (cellAnswer p arg s).2 = g s := by
  have hlevels := cellLevels_keeps hg.toApartFromSteward
  have hresult := cellResult_keeps hg.toApartFromSteward
  unfold cellAnswer
  dsimp only
  split_ifs <;> simp only [hlevels, hresult]

end

section
variable {β : Type} {g : State → β} (hisl : ∀ v t, g { t with isl := v } = g t)
include hisl

theorem opEval_keeps (pr : Nat) (s : State) : g (opEval pr s) = g s := hisl _ s

theorem railIs_keeps (pr mv : Nat) (s : State) : g (railIs pr mv s) = g s := (opEval_keeps hisl pr _).trans (hisl _ s)

theorem opRequest_keeps (core p : Nat) (arg : Word) (s : State) : g (opRequest core p arg s).2 = g s := by
  unfold opRequest
  dsimp only
  split
  · rfl
  · exact (opEval_keeps hisl _ _).trans (hisl _ s)

end

/-! ### Orders (R324, R336 to R343) -/

/-- A part of the state that no order given is in: a bundle refused leaves its result and a record. -/
structure ApartFromOrders {β : Type} (g : State → β) : Prop extends ApartFromCalls g where
  bun : ∀ v t, g { t with bun := v } = g t
  store : ∀ v t, g { t with store := v } = g t
  flc : ∀ v t, g { t with flc := v } = g t

section
variable {β : Type} {g : State → β} (hg : ApartFromOrders g)
include hg

theorem ApartFromOrders.records : ApartFromRecords g where
  toApartFromReports := hg.reports
  store := hg.store
  flc := hg.flc
  lifeShown _ t := hg.stw _ t

theorem noteResult_keeps (t code : Nat) (s : State) : g (noteResult t code s) = g s :=
  (pubSlot_keeps hg.reports 6 _).trans ((recordDue_keeps hg.records _ _).trans ((setLeafD_keeps hg.reports 4 _ _ _).trans
    ((logEvent_keeps hg.reports _ _ _ _ _).trans (hg.bun _ s))))

theorem flashSeen_keeps (b a n : Nat) (s : State) : g (flashSeen b a n s) = g s := by
  unfold flashSeen
  split
  · exact setLeaf_keeps hg.reports 3 3 s
  · rfl

theorem refusedSide_keeps (party : Nat) (a : Act) (e : Err) (s : State) : g (refusedSide party a e s) = g s := by
  have hgone : ∀ v, g (setLeaf 4 5 { s with bun := v }) = g s := fun v => (setLeaf_keeps hg.reports 4 5 _).trans (hg.bun v s)
  have hspoiled : ∀ v n, g (flashSeen 1 stageBase n { s with bun := v }) = g s := fun v n => (flashSeen_keeps hg 1 _ n _).trans (hg.bun v s)
  unfold refusedSide
  dsimp only
  split
  · split
    · exact hgone _
    · rfl
  · split_ifs
    · exact hgone _
    · rfl
    · split
      · exact (noteResult_keeps hg _ _ _).trans (hspoiled _ _)
      · exact hspoiled _ _
  · split
    · split
      · exact noteResult_keeps hg _ 4 s
      · rfl
    · rfl
  · rfl

theorem ApartFromOrders.cancelRetire (src party : Nat) (s : State) : g (cancelRetire src party s) = g s := by
  unfold Machine.cancelRetire
  split
  · rfl
  · exact (pubSlot_keeps hg.reports 1 _).trans (hg.stw _ s)

theorem submit_keeps (src party : Nat) (a : Act) (d : ReplyTo) (s : State) : g (submit src party a d s) = g s := by
  unfold submit
  split
  · exact (answerErr_keeps hg.toApartFromCalls d _ _).trans (refusedSide_keeps hg party a _ s)
  · refine (hg.oru _ _).trans ?_
    split
    · exact hg.cancelRetire src party s
    · rfl

theorem outCtrl_keeps (p n : Nat) (v : Word) (s : State) : g (outCtrl p n v s) = g s := by
  unfold outCtrl
  split
  · exact submit_keeps hg 5 p _ _ s
  · exact submit_keeps hg 5 p _ _ s
  · rfl

theorem witnessCall_keeps (core : Fin 4) (action : Nat) (arg : Word) (act : State → Nat → Act) (s : State) :
    g (witnessCall core action arg act s) = g s := by
  unfold witnessCall
  split
  · rfl
  · exact serve_keeps hg.toApartFromCalls core 0x18 arg _ s fun p d u => submit_keeps hg 5 p _ d u

end

end Sys2Proof.Machine
end

section
/-! The obligation on what calls, chain, survey and flash registers leave, command by command (R119, R372, R425). -/

namespace Sys2Proof.Machine

/-! ### The blocks each kind of command reaches -/

def stewardBlks : List Blk := [.stw, .gates, .win, .snt, .cic, .port, .stamp, .nap]

def replyBlks : List Blk := [.oru, .chn] ++ stewardBlks

def sessionBlks : List Blk := [.free] ++ replyBlks

def chainBlks : List Blk := [.srv, .flc, .store, .seals] ++ sessionBlks

def callBlks : List Blk := [.cores] ++ replyBlks

def orderBlks : List Blk := [.bun, .store, .flc] ++ callBlks

/-- A part of the state that the islands' record is not in. -/
def apartFromIslands (g : State → Prop) : Prop := ∀ k t, g { t with isl := k } = g t

/-- A part of the state that the survey is not in. -/
def apartFromSurvey (g : State → Prop) : Prop := ∀ v t, g { t with srv := v } = g t

section
variable (s : State)

/-- The islands' record but for its arrival number and its wake mark does not see these two change. -/
theorem sameBlk_isl_stir (n : Nat) (w : Bool) (t : State) :
    sameBlk .isl s { t with isl := { t.isl with arrival := n, napWake := w } } = sameBlk .isl s t := by
  show ({ t.isl with arrival := n, napWake := w } = { s.isl with arrival := n, napWake := w }) =
    (t.isl = { s.isl with arrival := t.isl.arrival, napWake := t.isl.napWake })
  obtain ⟨⟩ := t.isl
  simp only [Isl.mk.injEq, true_and]

variable {b : Blk}

theorem apartFromIslands_sameBlk (h : b ∉ [Blk.isl, .stamp, .nap]) : apartFromIslands (sameBlk b s) := by
  cases b with
  | isl | stamp | nap => exact absurd (by decide) h
  | _ => exact fun _ _ => rfl

theorem apartFromSurvey_sameBlk (h : b ≠ .srv) : apartFromSurvey (sameBlk b s) := by
  cases b with
  | srv => exact absurd rfl h
  | _ => exact fun _ _ => rfl

theorem apartFromSteward_sameBlk (h : b ∉ stewardBlks) : ApartFromSteward (sameBlk b s) := by
  cases b with
  | stw | gates | win | snt | cic | port | stamp | nap => exact absurd (by decide) h
  | isl =>
    exact ⟨fun _ _ => rfl, fun _ _ => rfl, fun _ _ => rfl, fun _ _ => rfl, fun _ _ => rfl, fun _ _ => rfl, sameBlk_isl_stir s⟩
  | _ => exact ⟨fun _ _ => rfl, fun _ _ => rfl, fun _ _ => rfl, fun _ _ => rfl, fun _ _ => rfl, fun _ _ => rfl, fun _ _ _ => rfl⟩

theorem apartFromReplies_sameBlk (h : b ∉ replyBlks) : ApartFromReplies (sameBlk b s) := by
  have hs := apartFromSteward_sameBlk s fun hb => h (List.mem_append_right _ hb)
  cases b with
  | oru | chn => exact absurd (by decide) h
  | _ => exact { hs with oru := fun _ _ => rfl, chn := fun _ _ => rfl }

theorem apartFromSessions_sameBlk (h : b ∉ sessionBlks) : ApartFromSessions (sameBlk b s) := by
  have hs := apartFromReplies_sameBlk s fun hb => h (List.mem_append_right _ hb)
  cases b with
  | free => exact absurd (by decide) h
  | _ => exact { hs with free := fun _ _ => rfl }

theorem apartFromChain_sameBlk (h : b ∉ chainBlks) : ApartFromChain (sameBlk b s) := by
  have hs := apartFromSessions_sameBlk s fun hb => h (List.mem_append_right _ hb)
  cases b with
  | srv | flc | store | seals => exact absurd (by decide) h
  | _ => exact { hs with srv := fun _ _ => rfl, flc := fun _ _ => rfl, store := fun _ _ => rfl, seals := fun _ _ => rfl }

theorem apartFromCalls_sameBlk (h : b ∉ callBlks) : ApartFromCalls (sameBlk b s) := by
  have hs := apartFromReplies_sameBlk s fun hb => h (List.mem_append_right _ hb)
  cases b with
  | cores => exact absurd (by decide) h
  | _ => exact { hs with cores := fun _ _ => rfl }

theorem apartFromOrders_sameBlk (h : b ∉ orderBlks) : ApartFromOrders (sameBlk b s) := by
  have hs := apartFromCalls_sameBlk s fun hb => h (List.mem_append_right _ hb)
  cases b with
  | bun | store | flc => exact absurd (by decide) h
  | _ => exact { hs with bun := fun _ _ => rfl, store := fun _ _ => rfl, flc := fun _ _ => rfl }

end

theorem islands_sameBlk {A : (State → Prop) → Prop} {r : List Blk} {s : State} (hA : ∀ {b}, b ∉ r → A (sameBlk b s)) {b : Blk}
    (hb : b ∉ [Blk.isl, .stamp, .nap] ++ r) : A (sameBlk b s) ∧ apartFromIslands (sameBlk b s) :=
  ⟨hA fun h => hb (List.mem_append_right _ h), apartFromIslands_sameBlk s fun h => hb (List.mem_append_left _ h)⟩

theorem survey_sameBlk {A : (State → Prop) → Prop} {r : List Blk} {s : State} (hA : ∀ {b}, b ∉ r → A (sameBlk b s)) {b : Blk}
    (hb : b ∉ Blk.srv :: r) : A (sameBlk b s) ∧ apartFromSurvey (sameBlk b s) :=
  ⟨hA (List.not_mem_of_not_mem_cons hb), apartFromSurvey_sameBlk s (List.ne_of_not_mem_cons hb)⟩

/-! ### Commands that leave every part of a kind -/

/-- A command leaves every part of the state of this kind as it was. -/
def leaves (A : (State → Prop) → Prop) (i : Instr) (s : State) : Prop := ∃ t, exec i s = .next t ∧ ∀ g, A g → g t = g s

theorem sameBlk_refl (b : Blk) (s : State) : sameBlk b s s := by cases b <;> rfl

/-- Commands that leave the parts outside the blocks they reach keep every list of other blocks. -/
theorem keeps_of_leaves {A : (State → Prop) → Prop} {l : List Blk} {cmds : List Instr} {s : State} (r : List Blk)
    (hA : ∀ {b}, b ∉ r → A (sameBlk b s)) (hl : ∀ b ∈ l, b ∉ r) (h : ∀ i ∈ cmds, leaves A i s) : keeps l cmds s := by
  intro i hi t ht b hb
  obtain ⟨u, hu, hkept⟩ := h i hi
  obtain rfl := Host.Outcome.next.inj (hu.symm.trans ht)
  exact (hkept _ (hA (hl b hb))).mpr (sameBlk_refl b s)

section
variable (c : Fin 4) (v : Word) (fl : Bool) (n : Fin 8) (pt : Port) (f : Frame) (ns : List Nat) (k : Fin 10) (td : Tdr) (h : Fin 2)
  (vc : VstbyCause) (car : Carrier) (s : State)

/-! ### Service calls and orders (08, 11, 13) -/

theorem serve_submit_leaves (svc : Nat) (act : Act) {g : State → Prop} (hg : ApartFromOrders g) :
    g (serve c svc v (fun p d s => submit 5 p act d s) s) = g s :=
  serve_keeps hg.toApartFromCalls c svc v _ s fun p d u => submit_keeps hg 5 p act d u

theorem fenceService_leaves : leaves ApartFromOrders (.fenceService c v) s := by
  refine ⟨_, rfl, fun g hg => ?_⟩
  split
  · rfl
  · exact serve_submit_leaves c v s 0x19 _ hg

theorem liftService_leaves : leaves ApartFromOrders (.liftService c v fl) s := by
  refine ⟨_, rfl, fun g hg => ?_⟩
  split
  · rfl
  · exact serve_submit_leaves c v s 0x19 _ hg

theorem feedOn_leaves : leaves ApartFromOrders (.feedOn c n) s := by
  refine ⟨_, rfl, fun g hg => ?_⟩
  split
  · exact (outCtrl_keeps hg _ _ _ _).trans (stampArrival_keeps hg.levels s)
  · rfl

theorem feedOff_leaves : leaves ApartFromOrders (.feedOff c n) s := by
  refine ⟨_, rfl, fun g hg => ?_⟩
  split
  · exact (outCtrl_keeps hg _ _ _ _).trans (stampArrival_keeps hg.levels s)
  · rfl

theorem orderCalls_leave : ∀ i ∈ [Instr.witnessPromote c v, .witnessDemote c v, .witnessMigrate c v, .witnessResume c v,
    .fenceService c v, .liftService c v fl, .stageClose c v, .activate c v, .stageDiscard c v, .feedOn c n, .feedOff c n],
    leaves ApartFromOrders i s := by
  simp only [List.forall_mem_cons]
  exact ⟨⟨_, rfl, fun _ hg => witnessCall_keeps hg c 0 v _ s⟩, ⟨_, rfl, fun _ hg => witnessCall_keeps hg c 1 v _ s⟩,
    ⟨_, rfl, fun _ hg => witnessCall_keeps hg c 2 v _ s⟩, ⟨_, rfl, fun _ hg => witnessCall_keeps hg c 3 v _ s⟩,
    fenceService_leaves c v s, liftService_leaves c v fl s, ⟨_, rfl, fun _ hg => serve_submit_leaves c v s 0x2A _ hg⟩,
    ⟨_, rfl, fun _ hg => serve_submit_leaves c v s 0x2B _ hg⟩, ⟨_, rfl, fun _ hg => serve_submit_leaves c v s 0x2C _ hg⟩,
    feedOn_leaves c n s, feedOff_leaves c n s, List.forall_mem_nil _⟩

theorem standbyConsent_leaves : leaves (fun g => ApartFromCalls g ∧ apartFromIslands g) (.standbyConsent c v) s := by
  refine ⟨_, rfl, fun g hg => serveNow_keeps hg.1 c 0x02 v _ s fun p u => ?_⟩
  split
  · rfl
  · exact hg.1.stw _ u

theorem wakeCfg_leaves : leaves (fun g => ApartFromCalls g ∧ apartFromIslands g) (.wakeCfg c v) s := by
  refine ⟨_, rfl, fun g hg => serveNow_keeps hg.1 c 0x03 v _ s fun p u => ?_⟩
  split
  · rfl
  · exact hg.2 _ u

theorem rtcAlarm_leaves : leaves (fun g => ApartFromCalls g ∧ apartFromIslands g) (.rtcAlarm c v) s := by
  refine ⟨_, rfl, fun g hg => serveNow_keeps hg.1 c 0x10 v _ s fun p u => ?_⟩
  split
  · rfl
  · exact hg.1.snt _ u

theorem calls_leave : ∀ i ∈ [Instr.opRequest c v, .standbyConsent c v, .wakeCfg c v, .treeSignal c v, .cellBind c v, .cellAnswer c v,
    .rtcAlarm c v], leaves (fun g => ApartFromCalls g ∧ apartFromIslands g) i s := by
  simp only [List.forall_mem_cons]
  exact ⟨⟨_, rfl, fun _ hg => serveNow_keeps hg.1 c 0x01 v _ s fun p u => opRequest_keeps hg.2 c.val p v u⟩,
    standbyConsent_leaves c v s, wakeCfg_leaves c v s,
    ⟨_, rfl, fun _ hg => serveNow_keeps hg.1 c 0x38 v _ s fun p u => setLeaf_keeps hg.1.reports 5 (p - 1) u⟩,
    ⟨_, rfl, fun _ hg => serveNow_keeps hg.1 c 0x39 v _ s fun p u => cellBind_keeps hg.1 p v u⟩,
    ⟨_, rfl, fun _ hg => serveNow_keeps hg.1 c 0x3B v _ s fun p u => cellAnswer_keeps hg.1 p v u⟩,
    rtcAlarm_leaves c v s, List.forall_mem_nil _⟩

/-! ### Frames and timers of the chain (16 to 18) -/

theorem topo_leaves : leaves ApartFromChain (.topo pt f) s := by
  refine ⟨_, rfl, fun g hg => portRow_keeps hg _ _ s ?_⟩
  split
  · exact forward_keeps hg _ f true _ s fun pl u => topoIn_keeps hg.toApartFromSessions _ pl u
  · rfl

theorem frameForward_leaves : leaves ApartFromChain (.frameForward pt f fl) s := by
  refine ⟨_, rfl, fun g hg => portRow_keeps hg _ _ s ?_⟩
  split
  · exact forward_keeps hg _ f fl _ s fun pl u => topoIn_keeps hg.toApartFromSessions _ pl u
  · split
    · exact forward_keeps hg _ f fl _ s fun _ _ => rfl
    · rfl

theorem loss_leaves : leaves ApartFromChain (.loss pt f) s := by
  refine ⟨_, rfl, fun g hg => keyedRow_keeps hg pt f 8 _ s fun pl u => ?_⟩
  split
  · exact headLoss_keeps hg.toApartFromSessions _ _ u
  · rfl

theorem storedFrameSend_leaves : leaves ApartFromChain (.storedFrameSend pt) s := by
  refine ⟨_, rfl, fun g hg => portRow_keeps hg _ _ s ?_⟩
  split
  · rfl
  · split
    · rfl
    · exact (putFrame_keeps hg.toApartFromReplies _ _ _).trans (setCport_keeps hg.toApartFromReplies _ _ s)

theorem gapTimer_leaves : leaves ApartFromChain .gapTimer s := by
  refine ⟨_, rfl, fun g hg => portRow_keeps hg _ _ s ?_⟩
  have hport := fun q => setCport_keeps hg.toApartFromReplies 1 q s
  dsimp only
  split_ifs <;> simp only [sendHello_keeps hg, hport]

theorem gapReceived_leaves : leaves ApartFromChain (.gapReceived pt) s := by
  refine ⟨_, rfl, fun g hg => portRow_keeps hg _ _ s ?_⟩
  have hport := fun d q => setCport_keeps hg.toApartFromReplies d q s
  split_ifs <;> simp only [hail_keeps hg, hport]

theorem rekeyTimer_leaves : leaves ApartFromChain .rekeyTimer s := by
  refine ⟨_, rfl, fun g hg => portRow_keeps hg _ _ s ?_⟩
  split
  · exact sendHello_keeps hg 1 s
  · rfl

theorem keyRetryTimer_leaves : leaves ApartFromChain (.keyRetryTimer pt) s := by
  refine ⟨_, rfl, fun g hg => portRow_keeps hg _ _ s ?_⟩
  split
  · exact (hail_keeps hg _ _).trans (setCport_keeps hg.toApartFromReplies _ _ s)
  · rfl

theorem topoTimeout_leaves : leaves ApartFromSessions .topoTimeout s := by
  refine ⟨_, rfl, fun g hg => ?_⟩
  split
  · exact unnumber_keeps hg s
  · rfl

theorem headElectionTimeout_leaves : leaves ApartFromSessions .headElectionTimeout s := by
  refine ⟨_, rfl, fun g hg => ?_⟩
  split
  · exact headChange_keeps hg _ s
  · rfl

/-! ### The survey and the sentinel (R364 to R391) -/

theorem surveyAverage_leaves : leaves ApartFromChain (.surveyAverage ns) s := by
  refine ⟨_, rfl, fun g hg => ?_⟩
  have hmeasured : ∀ p (fn : Nat → Nat) (q : Nat → SrvChan → SrvChan) t, g (forNat p (fun j u => setCh (fn j) (q j) u) t) = g t :=
    fun p fn q t => forNat_keeps g p _ t fun j u => setCh_keeps hg.srv _ _ u
  have hsupply : ∀ t, g (forNat 14 (fun j u => judge j (supplyVerdict j (u.sch j)) u) t) = g t := fun t =>
    forNat_keeps g 14 _ t fun j u => judge_keeps hg.verdicts j _ u
  have hfeeds : ∀ t, g (forNat 8 (fun j u => feedJudge j u) t) = g t := fun t =>
    forNat_keeps g 8 _ t fun j u => feedJudge_keeps hg.verdicts j u
  have hbad : ∀ b, g { s with srv := { s.srv with refBad := b } } = g s := fun _ => hg.srv _ s
  dsimp only
  split
  · rfl
  · rw [pubSlot_keeps hg.reports]
    split <;> simp only [hfeeds, hsupply, hmeasured, hbad]

theorem feedOpen_leaves : leaves ApartFromChain (.feedOpen n) s := by
  refine ⟨_, rfl, fun g hg => ?_⟩
  split
  · exact (feedJudge_keeps hg.verdicts _ _).trans (hg.port _ s)
  · rfl

theorem signatureDone_leaves : leaves ApartFromChain (.signatureDone n ns) s := by
  refine ⟨_, rfl, fun g hg => ?_⟩
  dsimp only
  split
  · rfl
  · rw [burstEnd_keeps hg, feedJudge_keeps hg.verdicts]
    split
    · exact hg.srv _ s
    · refine (hg.srv _ _).trans ?_
      split
      · exact hg.srv _ s
      · exact (freeNat_keeps hg _).trans (hg.srv _ s)

theorem starvedTimeout_leaves : leaves ApartFromChain (.starvedTimeout k) s := by
  refine ⟨_, rfl, fun g hg => ?_⟩
  split
  · exact judge_keeps hg.verdicts _ _ s
  · rfl

theorem canPartnerTimeout_leaves : leaves ApartFromChain (.canPartnerTimeout h) s := by
  refine ⟨_, rfl, fun g hg => ?_⟩
  split
  · split
    · exact judge_keeps hg.verdicts _ _ s
    · rfl
  · rfl

theorem x32Fault_leaves : leaves ApartFromChain .x32Fault s := by
  refine ⟨_, rfl, fun g hg => ?_⟩
  unfold sentinelSees
  split
  · split
    · rfl
    · rw [rtcInvalid_keeps hg, pubSlot_keeps hg.reports, setLeaf_keeps hg.reports, tamper_keeps hg.tamper,
        setSnt_keeps hg.toApartFromSteward]
  · rfl

theorem tamperCopy_leaves : leaves ApartFromChain .tamperCopy s := by
  refine ⟨_, rfl, fun g hg => ?_⟩
  split
  · rfl
  · exact recordDue_keeps hg.records _ s

theorem canPresenceLapse_leaves : leaves ApartFromChain (.canPresenceLapse h) s := by
  refine ⟨_, rfl, fun g hg => ?_⟩
  split
  · rfl
  · exact canPresent_keeps hg _ false s

theorem lockoutExpiry_leaves : leaves ApartFromChain (.lockoutExpiry car) s := by
  refine ⟨_, rfl, fun g hg => ?_⟩
  split
  · exact hg.setCar car _ s
  · rfl

theorem tdrMeasurementDone_leaves : leaves ApartFromChain (.tdrMeasurementDone k td) s := by
  refine ⟨_, rfl, fun g hg => ?_⟩
  split
  · exact (baseJobs_keeps hg _ td _).trans (tdrDone_keeps hg k.val td s)
  · rfl

theorem vstbyLoss_leaves : leaves (fun g => ApartFromChain g ∧ apartFromIslands g) (.vstbyLoss vc) s := by
  refine ⟨_, rfl, fun g hg => ?_⟩
  obtain ⟨hg, hisl⟩ := hg
  have hlost : ∀ a b d e h, g { s with snt := a, isl := b, store := d, srv := e, seals := h } = g s := fun a b d e h =>
    (hg.snt a { s with isl := b, store := d, srv := e, seals := h }).trans ((hisl b { s with store := d, srv := e, seals := h }).trans
      ((hg.store d { s with srv := e, seals := h }).trans ((hg.srv e { s with seals := h }).trans (hg.seals h s))))
  exact (lifeCheck_keeps hg.records _).trans ((chainLevels_keeps hg.levels _).trans (hlost _ _ _ _ _))

theorem oneMsAverage_leaves : leaves (fun g => ApartFromChain g ∧ apartFromIslands g) (.oneMsAverage ns) s := by
  refine ⟨_, rfl, fun g hg => ?_⟩
  obtain ⟨hg, hisl⟩ := hg
  dsimp only
  split
  · rfl
  · refine (forNat_keeps g 8 _ _ fun j t => ?_).trans ?_
    · split
      · rw [feedJudge_keeps hg.verdicts, setFeed_keeps hg.toApartFromSteward, setFeed_keeps hg.toApartFromSteward]
      · exact setFeed_keeps hg.toApartFromSteward _ _ t
    · rw [pubSlot_keeps hg.reports, setSnt_keeps hg.toApartFromSteward]
      split <;> simp only [railIs_keeps hisl]

theorem chain_leaves : ∀ i ∈ [Instr.helloTimer pt, .hello pt f, .cap pt f, .chainClaim pt f, .topo pt f, .join pt f, .assign pt f,
    .refuse pt f, .loss pt f, .frameForward pt f fl, .storedFrameSend pt, .gapTimer, .gapReceived pt, .linkTimeout pt, .rekeyTimer,
    .keyRetryTimer pt, .flcKey c v, .program c, .eraseSector c, .blankCheck c, .eraseBank c, .surveyAverage ns, .feedOpen n, .feedOver n,
    .feedShort n, .signatureDone n ns, .starvedTimeout k, .canPartnerTimeout h, .x32Fault, .tamperCopy, .canPresenceLapse h,
    .lockoutExpiry car], leaves ApartFromChain i s := by
  simp only [List.forall_mem_cons]
  exact ⟨⟨_, rfl, fun _ hg => portRow_keeps hg _ _ s (helloTimer_keeps hg _ s)⟩,
    ⟨_, rfl, fun _ hg => portRow_keeps hg _ _ s (helloIn_keeps hg _ f s)⟩,
    ⟨_, rfl, fun _ hg => portRow_keeps hg _ _ s (capIn_keeps hg _ f s)⟩,
    ⟨_, rfl, fun _ hg => keyedRow_keeps hg pt f 3 _ s fun pl u => claimIn_keeps hg.toApartFromSessions f _ pl u⟩,
    topo_leaves pt f s,
    ⟨_, rfl, fun _ hg => keyedRow_keeps hg pt f 5 _ s fun pl u => joinIn_keeps hg.toApartFromSessions f _ pl u⟩,
    ⟨_, rfl, fun _ hg => keyedRow_keeps hg pt f 6 _ s fun pl u => assignIn_keeps hg.toApartFromSessions pl u⟩,
    ⟨_, rfl, fun _ hg => keyedRow_keeps hg pt f 7 _ s fun pl u => refuseIn_keeps hg _ pl u⟩,
    loss_leaves pt f s, frameForward_leaves fl pt f s, storedFrameSend_leaves pt s, gapTimer_leaves s, gapReceived_leaves pt s,
    ⟨_, rfl, fun _ hg => portRow_keeps hg _ _ s (linkTimeout_keeps hg _ s)⟩, rekeyTimer_leaves s, keyRetryTimer_leaves pt s,
    ⟨_, rfl, fun _ hg => setBank_keeps hg c.val _ s⟩, ⟨_, rfl, fun _ hg => flashCmd_keeps hg c.val 1 s⟩,
    ⟨_, rfl, fun _ hg => flashCmd_keeps hg c.val 2 s⟩, ⟨_, rfl, fun _ hg => flashCmd_keeps hg c.val 8 s⟩,
    ⟨_, rfl, fun _ hg => flashCmd_keeps hg c.val 4 s⟩, surveyAverage_leaves ns s, feedOpen_leaves n s,
    ⟨_, rfl, fun _ hg => feedTrip_keeps hg n.val 2 s⟩, ⟨_, rfl, fun _ hg => feedTrip_keeps hg n.val 3 s⟩, signatureDone_leaves n ns s,
    starvedTimeout_leaves k s, canPartnerTimeout_leaves h s, x32Fault_leaves s, tamperCopy_leaves s, canPresenceLapse_leaves h s,
    lockoutExpiry_leaves car s, List.forall_mem_nil _⟩

/-! ### The card slots (19) -/

theorem cardInsert_leaves : leaves (fun g => ApartFromSteward g ∧ apartFromSurvey g) (.cardInsert h) s := by
  refine ⟨_, rfl, fun g hg => ?_⟩
  obtain ⟨hg, hsrv⟩ := hg
  dsimp only
  split
  · rfl
  · rw [setLeaf_keeps hg.reports, setCh_keeps hsrv, cardLevels_keeps hg, setSlot_keeps hg]

theorem cardRemove_leaves : leaves (fun g => ApartFromSessions g ∧ apartFromSurvey g) (.cardRemove h) s := by
  refine ⟨_, rfl, fun g hg => ?_⟩
  obtain ⟨hg, hsrv⟩ := hg
  dsimp only
  split
  · rfl
  · refine (forAll_keeps g _ _ _ fun car t => sessionEnd_keeps hg car _ t).trans ?_
    split
    · exact (cardDone_keeps hg _ _ none _).trans (cardGone_keeps hg hsrv _ s)
    · exact cardGone_keeps hg hsrv _ s

end

/-! ### The clauses together -/

/-- Settles O60: a command leaves every part outside the blocks it reaches, and the listed parts lie outside. -/
theorem callsChainAndSurveyKeepMemory : Obligations.CallsChainAndSurveyKeepMemory := by
  unfold Obligations.CallsChainAndSurveyKeepMemory
  intro c v fl n pt f ns k td h vc car s
  refine ⟨?_, ?_, ?_, ?_, ?_, ?_, ?_, ?_⟩
  · exact keeps_of_leaves orderBlks (apartFromOrders_sameBlk s) (by decide) (orderCalls_leave c v fl n s)
  · exact keeps_of_leaves _ (islands_sameBlk (apartFromCalls_sameBlk s)) (by decide) (calls_leave c v s)
  · exact keeps_of_leaves chainBlks (apartFromChain_sameBlk s) (by decide) (chain_leaves c v fl n pt f ns k h car s)
  · exact keeps_of_leaves chainBlks (apartFromChain_sameBlk s) (by decide) (List.forall_mem_singleton.2 (tdrMeasurementDone_leaves k td s))
  · exact keeps_of_leaves _ (islands_sameBlk (apartFromChain_sameBlk s)) (by decide)
      (List.forall_mem_cons.2 ⟨vstbyLoss_leaves vc s, List.forall_mem_singleton.2 (oneMsAverage_leaves ns s)⟩)
  · exact keeps_of_leaves sessionBlks (apartFromSessions_sameBlk s) (by decide)
      (List.forall_mem_cons.2 ⟨topoTimeout_leaves s, List.forall_mem_singleton.2 (headElectionTimeout_leaves s)⟩)
  · exact keeps_of_leaves _ (survey_sameBlk (apartFromSteward_sameBlk s)) (by decide) (List.forall_mem_singleton.2 (cardInsert_leaves h s))
  · exact keeps_of_leaves _ (survey_sameBlk (apartFromSessions_sameBlk s)) (by decide) (List.forall_mem_singleton.2 (cardRemove_leaves h s))

end Sys2Proof.Machine
end

section
/-! SUPPORT. The M units: a syllable that one of them computes, what it gives of words and accumulators (R122 to R125), and a divide on its
way (R126, R128). -/

namespace Sys2Proof.Machine

/-! ### A syllable of an M unit (R122) -/

section
variable {c : Fin 4} {u : MUnit} {o : Op} {d s1 s2 : BitVec 6} {q : Src2} {g : Guard} {s : State} {ws : List (Nat × Wr)} {fl : Sticky}

theorem mUnit_ne (u : MUnit) : mUnit u ≠ .b := by cases u <;> exact nofun

theorem evalUnit_mUnit (x : Ctx) (ct : Bool) (u : MUnit) (o : Op) (d s1 : BitVec 6) (q : Src2) (g : Guard) :
    evalUnit x ct ⟨mUnit u, o, .off, d, s1, q, g⟩ = evalM x ct ⟨mUnit u, o, .off, d, s1, q, g⟩ := by cases u <;> rfl

/-- An M syllable, from what each of its fields must meet. -/
theorem mUnit_issued (hr : ready c (src2Len q) g (faultRegs ⟨mUnit u, o, .off, d, s1, q, g⟩) s = true)
    (hd : fieldOk (dClass o) d = true) (h1 : fieldOk (s1Class o) s1 = true) (h2 : src2Fits o q = true)
    (ho : evalM (seen c s) (s.row (curOf c s)).constTime ⟨mUnit u, o, .off, d, s1, q, g⟩ = { res := ws, fl := fl })
    (hop : plainOp o = true := by rfl) (hcrc : crcOk o = true := by rfl)
    (ha : addrRes (seen c s) ⟨mUnit u, o, .off, d, s1, q, g⟩ = [] := by rfl) (ht : fl.trap = false := by rfl) :
    issueOne c ⟨mUnit u, o, .off, d, s1, q, g⟩ s = issued c (src2Len q) ws fl s := by
  rw [unit_issued hr hd h1 h2 ((evalUnit_mUnit ..).trans ho) (mUnit_ne u) hop hcrc ht, ha, List.append_nil]

/-- An accumulator field names one of the eight accumulators (R60). -/
theorem accu_ok {f : BitVec 6} (h : f.toNat ≤ 7) : fieldOk .accu f = true := decide_eq_true h

end

/-! ### Products (R123) -/

theorem mMul_eq (a b : Word) : mMul a b = iw (a.toInt * b.toInt) := by
  rw [mMul, iw, BitVec.ofInt_mul, BitVec.ofInt_toInt, BitVec.ofInt_toInt]

/-- Two halfwords side by side are the word of the high one's weight and the low one's bits. -/
theorem halfwords_append (h l : Int) : (BitVec.ofInt 16 h ++ BitVec.ofInt 16 l : BitVec 32) = iw (h * 65536 + l % 65536) := by
  apply BitVec.eq_of_toNat_eq
  have hl : (BitVec.ofInt 16 l).toNat < 2 ^ 16 := (BitVec.ofInt 16 l).isLt
  rw [BitVec.toNat_append, ← Nat.shiftLeft_add_eq_or_of_lt hl, Nat.shiftLeft_eq, iw]
  simp only [BitVec.toNat_ofInt]
  omega

theorem mMul2hq_eq (a b : Word) :
    let l := (2 * half false a * half false b + 2 ^ 15) / 2 ^ 16
    let h := (2 * half true a * half true b + 2 ^ 15) / 2 ^ 16
    mMul2hq a b = (iw (limit 16 h * 65536 + limit 16 l % 65536), { sat := outside 16 l || outside 16 h }) := by
  intro l h
  have hl : q15 (loH a) (loH b) = (limit 16 l, outside 16 l) := Prod.ext (sat_limit 16 l) (sat_outside 16 l)
  have hh : q15 (hiH a) (hiH b) = (limit 16 h, outside 16 h) := Prod.ext (sat_limit 16 h) (sat_outside 16 h)
  rw [mMul2hq, hl, hh, ← halfwords_append]

/-! ### Accumulators (R124, R125) -/

theorem wrap72_eq (v : Int) : wrap72 v = (BitVec.ofInt 72 v, { ovf := outside 72 v }) := by
  rw [wrap72, sat_outside]

theorem mMacs_eq (acc : Acc) (a b : Word) :
    let v := acc.toInt + a.toInt * b.toInt
    mMacs acc a b = (BitVec.ofInt 72 (limit 64 v), { sat := outside 64 v }) := by
  intro v
  rw [mMacs, sat_limit, sat_outside]

theorem mMac2hq_eq (acc : Acc) (a b : Word) :
    let l := 2 * (half false a * half false b)
    let h := 2 * (half true a * half true b)
    let v := acc.toInt + limit 32 l + limit 32 h
    mMac2hq acc a b = (BitVec.ofInt 72 v, { ovf := outside 72 v, sat := outside 32 l || outside 32 h }) := by
  intro l h v
  rw [mMac2hq, wrap72_eq, sat_limit, sat_limit, sat_outside, sat_outside]
  rfl

/-- A pair of words holds the 64-bit number they spell, the low word first (R102). -/
theorem pair_append (lo hi : Word) : (hi ++ lo : BitVec 64) = BitVec.ofNat 64 (lo.toNat + 2 ^ 32 * hi.toNat) := by
  apply BitVec.eq_of_toNat_eq
  rw [BitVec.toNat_append, ← Nat.shiftLeft_add_eq_or_of_lt lo.isLt, Nat.shiftLeft_eq, BitVec.toNat_ofNat]
  omega

theorem mAccp_eq (x : Ctx) (f : BitVec 6) :
    mAccp (x.rw (pairLow f)) (x.rw (pairLow f + 1)) = BitVec.ofInt 72 (BitVec.ofNat 64 (x.rpair f)).toInt := by
  rw [mAccp, pair_append]
  rfl

/-- The registers that a pair field makes a syllable read are the two of its pair (R102). -/
theorem pairRegs_eq (f : BitVec 6) : [(f &&& 0x3E).toNat, (f ||| 1).toNat] = pairRegs f := by
  revert f; decide

theorem mExth_eq (acc : Acc) : mExth acc = w32 (acc.toNat / 2 ^ 32) := by
  rw [mExth, w32, BitVec.extractLsb', Nat.shiftRight_eq_div_pow]

/-- The guard bits are the accumulator's value above its 64-bit range. -/
theorem mExtg_eq (acc : Acc) : mExtg acc = iw (acc.toInt / 2 ^ 64) := by
  have hguard : (acc.extractLsb' 64 8).toInt = acc.toInt / 2 ^ 64 := by
    have hlt := acc.isLt
    rw [BitVec.toInt_eq_toNat_cond, BitVec.toInt_eq_toNat_cond, BitVec.extractLsb'_toNat, Nat.shiftRight_eq_div_pow]
    omega
  rw [mExtg, iw, ← hguard, BitVec.signExtend]

/-- The shift count of EXTR is its field's value (R122). -/
theorem extr_count (x : Ctx) (u : FUnit) (d s1 sh : BitVec 6) (g : Guard) :
    (val2 x ⟨u, .extr, .off, d, s1, .imm (.short sh), g⟩).toNat = sh.toNat := by
  show (sh.setWidth 32).toNat = sh.toNat
  exact BitVec.toNat_setWidth_of_le (by norm_num)

/-! ### Divides on their way (R126, R128) -/

theorem divide_facts {o : Op} (h : isDivide o = true) :
    computes o = true ∧ crcOk o = true ∧ readsThird o = false ∧ o ≠ .loop ∧ s1Class o = .wreg ∧ s2Class o = .wreg ∧
      (dClass o = .wreg ∨ dClass o = .pairs) := by
  unfold isDivide at h
  split at h
  case h_5 | h_6 => exact ⟨rfl, rfl, rfl, nofun, rfl, rfl, .inr rfl⟩
  case h_7 => contradiction
  all_goals exact ⟨rfl, rfl, rfl, nofun, rfl, rfl, .inl rfl⟩

theorem pair_nodup (f : BitVec 6) : (regsOf .pairs f).Nodup := by
  revert f; decide

section
variable {c : Fin 4} {o : Op} {d s1 s2 : BitVec 6} {g : Guard} {s : State} {ws : List (Nat × Word)} {t : Nat} {fl : Sticky}

theorem divide_legal (ho : isDivide o = true) : (oneSyllable ⟨.m1, o, .off, d, s1, .reg s2, g⟩).bad = none := by
  obtain ⟨hcomp, hcrc, -, hloop, h1, h2, hd⟩ := divide_facts ho
  obtain ⟨hload, hstore, -⟩ := computes_facts hcomp
  have hfield : fieldOk (dClass o) d = true := by rcases hd with h | h <;> rw [h] <;> rfl
  have hnodup : (regsOf (dClass o) d).Nodup := by
    rcases hd with h | h
    · rw [h]; exact regsOf_nodup d (by decide)
    · rw [h]; exact pair_nodup d
  have hok : sylOk ⟨.m1, o, .off, d, s1, .reg s2, g⟩ = true :=
    sylOk_of_fields _ hcrc hfield (by rw [h1]; rfl) (by rw [src2Fits, h2]; rfl) hloop
  have hdests : destsOf ⟨.m1, o, .off, d, s1, .reg s2, g⟩ = regsOf (dClass o) d := by simp [destsOf, updatesX, hload, hstore]
  simp [oneSyllable, hok, hdests, hnodup]

/-- A divide on a core ready for it: its flags are entered, and its result is on its way. -/
theorem divide_issued (hr : ready c 1 g [s1.toNat, s2.toNat] s = true)
    (hz : (seen c s).flags.getLsbD 19 = false ∨ (seen c s).rw s2.toNat ≠ 0)
    (he : evalM (seen c s) (s.row (curOf c s)).constTime ⟨.m1, o, .off, d, s1, .reg s2, g⟩ = { fl := fl, div := some (ws, t) })
    (ho : isDivide o = true := by rfl)
    (ha : addrRes (seen c s) ⟨.m1, o, .off, d, s1, .reg s2, g⟩ = [] := by rfl) (ht : fl.trap = false := by rfl) :
    issueOne c ⟨.m1, o, .off, d, s1, .reg s2, g⟩ s = divided c ws t fl s := by
  obtain ⟨hcomp, -, h3, -, h1, h2, -⟩ := divide_facts ho
  have hunit : evalUnit (seen c s) (s.row (curOf c s)).constTime ⟨.m1, o, .off, d, s1, .reg s2, g⟩ =
      { fl := fl, div := some (ws, t) } := he
  have hread : sourceRegs ⟨.m1, o, .off, d, s1, .reg s2, g⟩ = [s1.toNat, s2.toNat] := by
    rw [sourceRegs, sourcesOf_two h3 (computes_facts hcomp).2.1, h1, h2]
    rfl
  rw [ready_run c ⟨.m1, o, .off, d, s1, .reg s2, g⟩ [s1.toNat, s2.toNat] s hr (divide_legal ho) hcomp nofun
    (fun _ k hk => hread ▸ mem_sourceRegs hk) (fun _ => hz) (.inr (by rw [hunit]; exact ht)), hunit, ha]
  rfl
end

theorem magnitude_lt (signed : Bool) (a : Word) : magnitude signed a < 2 ^ 32 := by
  cases signed with
  | false => exact a.isLt
  | true =>
    have hlow := BitVec.le_toInt a
    have hhigh := BitVec.toInt_lt (x := a)
    show a.toInt.natAbs < 2 ^ 32
    omega

theorem divTime_eq (ct signed : Bool) (a b : Word) : divTime ct signed a b = divideTime ct (magnitude signed a) (magnitude signed b) := by
  rw [divTime, divCycles, clz32_eq (magnitude_lt signed a), clz32_eq (magnitude_lt signed b)]
  rfl

/-- What a divide puts on its way: its choice of the quotient and remainder of R126, after the time of R128. -/
theorem outDiv_eq (x : Ctx) (ct signed : Bool) (y : Syl) (pick : DivOut → List (Nat × Word)) {r : DivOut}
    (hr : (if signed then divSigned (x.rw y.s1.toNat) (val2 x y) else divUnsigned (x.rw y.s1.toNat) (val2 x y)) = r) :
    outDiv x ct signed y pick =
      { fl := r.fl, div := some (pick r, divideTime ct (magnitude signed (x.rw y.s1.toNat)) (magnitude signed (val2 x y))) } := by
  rw [outDiv, hr, divTime_eq]

theorem divUnsigned_eq (a b : Word) : divUnsigned a b =
    { q := if b = 0 then 0xFFFFFFFF else w32 (a.toNat / b.toNat), r := if b = 0 then a else w32 (a.toNat % b.toNat),
      fl := { divz := decide (b = 0) } } := by
  unfold divUnsigned
  by_cases hb : b = 0
  · simp only [if_pos hb, decide_eq_true hb]
  · simp only [if_neg hb, decide_eq_false hb]

/-- The one quotient that no word holds, 2^31, wraps to its dividend; its remainder is 0 (R126). -/
theorem divSigned_eq (a b : Word) : divSigned a b =
    { q := if b = 0 then (if a.toInt < 0 then 0x80000000 else 0x7FFFFFFF) else iw (a.toInt.tdiv b.toInt),
      r := if b = 0 then a else iw (a.toInt.tmod b.toInt),
      fl := { divz := decide (b = 0), ovf := decide (a = 0x80000000) && decide (b = 0xFFFFFFFF) } } := by
  have hsign : a.getLsbD 31 = decide (a.toInt < 0) := by rw [← BitVec.msb_eq_toInt, BitVec.msb_eq_getLsbD_last]
  unfold divSigned
  by_cases hb : b = 0
  · subst hb
    simp only [if_true, hsign, decide_eq_true_eq, decide_true]
    rw [show decide ((0 : Word) = 0xFFFFFFFF) = false from rfl, Bool.and_false]
  by_cases hedge : a = 0x80000000 ∧ b = 0xFFFFFFFF
  · obtain ⟨rfl, rfl⟩ := hedge
    rfl
  · simp only [if_neg hb, if_neg hedge, decide_eq_false hb, ← Bool.decide_and, decide_eq_false hedge]
    rfl

end Sys2Proof.Machine
end

section
/-! The obligations on products and accumulators, and on divides (R122 to R128). -/

namespace Sys2Proof.Machine

/-- Settles O9: each syllable is issued as its unit computes it (`mUnit_issued`), and the unit's result is the one named (`mMul_eq`,
`mMul2hq_eq`, `wrap72_eq`, `mExtg_eq` and their kin). -/
theorem productsAndAccumulatorsCompute : Obligations.ProductsAndAccumulatorsCompute := by
  refine ⟨?products, ?sums, ?moves⟩
  case products =>
    intro c u d s1 s2 im g s x a b q l h
    refine ⟨fun hr => ⟨?_, ?_, ?_, ?_, ?_⟩, fun hr h2 => ?_⟩
    · exact exec_next rfl (mUnit_issued hr rfl rfl rfl (congrArg (outW 3 d) (mMul_eq _ _)))
    · exact exec_next rfl (mUnit_issued hr rfl rfl rfl rfl)
    · exact exec_next rfl (mUnit_issued hr rfl rfl rfl rfl)
    · exact exec_next rfl (mUnit_issued hr rfl rfl rfl (congrArg (outF 3 d) (sat32_eq _)))
    · exact exec_next rfl (mUnit_issued hr rfl rfl rfl (congrArg (outF 3 d) (mMul2hq_eq _ _)))
    · exact exec_next rfl (mUnit_issued hr rfl rfl h2 (congrArg (outW 3 d) (mMul_eq _ _)))
  case sums =>
    intro c u d s1 s2 g s x acc a b put wrap ll hh hr hd
    refine ⟨?_, ?_, ?_, ?_, ?_, ?_, ?_⟩
    · exact exec_next rfl (mUnit_issued hr (accu_ok hd) rfl rfl (congrArg (outA d) (wrap72_eq _)))
    · exact exec_next rfl (mUnit_issued hr (accu_ok hd) rfl rfl (congrArg (outA d) (wrap72_eq _)))
    · exact exec_next rfl (mUnit_issued hr (accu_ok hd) rfl rfl (congrArg (outA d) (wrap72_eq _)))
    · exact exec_next rfl (mUnit_issued hr (accu_ok hd) rfl rfl (congrArg (outA d) (mMacs_eq _ _ _)))
    · exact exec_next rfl (mUnit_issued hr (accu_ok hd) rfl rfl (congrArg (outA d) (wrap72_eq _)))
    · exact exec_next rfl (mUnit_issued hr (accu_ok hd) rfl rfl (congrArg (outA d) (wrap72_eq _)))
    · exact exec_next rfl (mUnit_issued hr (accu_ok hd) rfl rfl (congrArg (outA d) (mMac2hq_eq _ _ _)))
  case moves =>
    intro c u d s1 sh g s x acc n e
    refine ⟨fun hr hd => ?_, fun hr hd => ?_, fun hr hd => ?_, fun hr h1 => ⟨?_, ?_, ?_, ?_⟩⟩
    · exact exec_next rfl (mUnit_issued hr (accu_ok hd) rfl rfl rfl)
    · exact exec_next rfl (mUnit_issued hr (accu_ok hd) rfl rfl rfl)
    · rw [← pairRegs_eq] at hr
      exact exec_next rfl (mUnit_issued hr (accu_ok hd) rfl rfl (congrArg (fun v => outA d (v, {})) (mAccp_eq _ _)))
    · refine exec_next rfl (mUnit_issued (q := .imm (.short sh)) hr rfl (accu_ok h1) rfl ?_)
      exact congrArg (outF 3 d) ((congrArg (mExtr acc) (extr_count ..)).trans (sat32_eq _))
    · exact exec_next rfl (mUnit_issued hr rfl (accu_ok h1) rfl rfl)
    · exact exec_next rfl (mUnit_issued hr rfl (accu_ok h1) rfl (congrArg (outW 3 d) (mExth_eq _)))
    · exact exec_next rfl (mUnit_issued hr rfl (accu_ok h1) rfl (congrArg (outW 3 d) (mExtg_eq _)))

/-- Settles O10: a divide is issued as M1 starts it (`divide_issued`), with the quotient, remainder and flags of R126 (`divSigned_eq`,
`divUnsigned_eq`) and the time of R128 (`divTime_eq`). -/
theorem dividesRunForTheirCycles : Obligations.DividesRunForTheirCycles := by
  intro c d s1 s2 g s x a b ct q r qu ru fs fu ts tu hr hz
  refine ⟨?_, ?_, ?_, ?_, ?_, ?_⟩
  · exact exec_next rfl (divide_issued hr hz (outDiv_eq _ _ true _ (pickQ d) (divSigned_eq _ _)))
  · exact exec_next rfl (divide_issued hr hz (outDiv_eq _ _ true _ (pickR d) (divSigned_eq _ _)))
  · exact exec_next rfl (divide_issued hr hz (outDiv_eq _ _ true _ (pickQR d) (divSigned_eq _ _)))
  · exact exec_next rfl (divide_issued hr hz (outDiv_eq _ _ false _ (pickQ d) (divUnsigned_eq _ _)))
  · exact exec_next rfl (divide_issued hr hz (outDiv_eq _ _ false _ (pickR d) (divUnsigned_eq _ _)))
  · exact exec_next rfl (divide_issued hr hz (outDiv_eq _ _ false _ (pickQR d) (divUnsigned_eq _ _)))

end Sys2Proof.Machine
end

section
/-! The device at reset (05 R144 to R146, 17 R391, 18 R425). -/

namespace Sys2Proof.Machine

theorem vget_replicate {α : Type} [Inhabited α] (n : Nat) (a : α) (i : Nat) (h : i < n) : vget (Vector.replicate n a) i = a := by
  simp [vget, h]

/-- Settles O3: an array at reset holds one value throughout (`vget_replicate`), and the rest is read off the values themselves. -/
theorem resetLeavesTheTableValues : Obligations.ResetLeavesTheTableValues := by
  unfold Obligations.ResetLeavesTheTableValues
  refine ⟨rfl, vget_replicate _ _, fun c hc b hb => ?_, vget_replicate _ _, rfl, rfl, rfl, rfl, ?_, ?_, ?_, ?_, ?_, ?_, rfl, rfl, rfl, rfl⟩
  · exact (congrArg (vget · b) (vget_replicate _ _ c hc)).trans (vget_replicate _ _ b hb)
  · intro n hn
    rw [show vget State.reset.mov n = {} from vget_replicate _ _ n hn]
    decide
  · decide
  · decide
  · decide
  · decide
  · decide

/-- Settles O4: no byte is listed in any memory. -/
theorem resetMemoriesAreCanonical : Obligations.ResetMemoriesAreCanonical := by
  unfold Obligations.ResetMemoriesAreCanonical memoriesCanonical
  refine ⟨reset_memories_wf.1, reset_memories_wf.2, fun c hc => ?_⟩
  rw [show State.reset.core c = {} from vget_replicate _ _ c hc]
  exact ⟨rfl, rfl⟩

end Sys2Proof.Machine
end

section
/-! SUPPORT. The canonical form of the memories (`memoriesCanonical`, 05 R141): what a change has to leave for it, how the combinators
of the model keep it, and the rules for the steps that many commands share. -/

namespace Sys2Proof.Machine

/-- A core's two memories stand in canonical form. -/
def coreCanonical (k : Core) : Prop := Memory.wf 0 k.imem = true ∧ Memory.wf 0 k.dmem = true

/-- What is asked of the cores of the device holds of a number that no core has, for there it reads a core as at reset. -/
theorem coreCanonical_beyond {v : Vector Core 4} {c : Nat} (h : ¬ c < 4) : coreCanonical (vget v c) := by
  rw [vget_default v c (Nat.le_of_not_lt h)]
  exact ⟨rfl, rfl⟩

theorem coreCanonical_blank (c : Nat) : coreCanonical (vget (Vector.replicate 4 ({} : Core)) c) := by
  by_cases hc : c < 4
  · rw [vget_replicate 4 _ c hc]
    exact ⟨rfl, rfl⟩
  · exact coreCanonical_beyond hc

/-- The state an outcome gives, if it gives one, has its memories in canonical form. -/
def yieldsCanonical (o : Host.Outcome State Fault Refusal) : Prop := ∀ t, o = .next t → memoriesCanonical t

section
variable {s t : State} (h : memoriesCanonical s)
include h

theorem memoriesCanonical.sram : Memory.wf 0 s.mem.sram = true := h.1

theorem memoriesCanonical.flash : Memory.wf 0xFF s.mem.flash = true := h.2.1

theorem memoriesCanonical.core (c : Nat) : coreCanonical (s.core c) := by
  by_cases hc : c < 4
  · exact h.2.2 c hc
  · exact coreCanonical_beyond hc

theorem yieldsCanonical.next : yieldsCanonical (.next s) := by
  rintro t ⟨⟩
  exact h

end

section
variable {s : State} {pending free secs isl gates fuses stw wit full ecc cus win snt cic mov movTurn port srv flc store seals bun oru chn}

/-- A change of anything but the memories. It speaks of the whole record, so that it meets every `{ s with … }` that leaves `cores` and
`mem`, and every function of the model that unfolds to one. -/
theorem memoriesCanonical.outside (h : memoriesCanonical s) : memoriesCanonical
    ⟨pending, free, secs, isl, gates, fuses, stw, wit, s.cores, s.mem, cus, win, snt, cic, mov, movTurn, port, srv, flc, store, seals,
      bun, oru, chn⟩ := h

/-- A change of the errors that stand in memory words too. -/
theorem memoriesCanonical.errors (h : memoriesCanonical s) : memoriesCanonical
    ⟨pending, free, secs, isl, gates, fuses, stw, wit, s.cores, ⟨s.mem.sram, s.mem.flash, full, ecc⟩, cus, win, snt, cic, mov, movTurn,
      port, srv, flc, store, seals, bun, oru, chn⟩ := h

end

theorem memoriesCanonical_iff {s : State} : memoriesCanonical s ↔
    Memory.wf 0 s.mem.sram = true ∧ Memory.wf 0xFF s.mem.flash = true ∧ ∀ c, coreCanonical (s.core c) :=
  ⟨fun h => ⟨h.sram, h.flash, h.core⟩, fun h => ⟨h.1, h.2.1, fun c _ => h.2.2 c⟩⟩

/-! What the earlier lemmas (`…_keeps`) say of predicates on the other parts of the state serves this one, which looks at none of them. -/

theorem canonical_chain : ApartFromChain memoriesCanonical where
  stw _ _ := rfl
  gates _ _ := rfl
  win _ _ := rfl
  snt _ _ := rfl
  cic _ _ := rfl
  port _ _ := rfl
  stir _ _ _ := rfl
  oru _ _ := rfl
  chn _ _ := rfl
  free _ _ := rfl
  srv _ _ := rfl
  flc _ _ := rfl
  store _ _ := rfl
  seals _ _ := rfl

theorem canonical_steward : ApartFromSteward memoriesCanonical := canonical_chain.toApartFromSteward
theorem canonical_replies : ApartFromReplies memoriesCanonical := canonical_chain.toApartFromReplies
theorem canonical_sessions : ApartFromSessions memoriesCanonical := canonical_chain.toApartFromSessions
theorem canonical_verdicts : ApartFromVerdicts memoriesCanonical := canonical_chain.verdicts
theorem canonical_records : ApartFromRecords memoriesCanonical := canonical_chain.records
theorem canonical_tamper : ApartFromTamper memoriesCanonical := canonical_chain.tamper
theorem canonical_reports : ApartFromReports memoriesCanonical := canonical_chain.reports
theorem canonical_levels : ApartFromLevels memoriesCanonical := canonical_chain.levels
theorem canonical_sending : ApartFromSending memoriesCanonical := canonical_chain.levels.toApartFromSending
theorem canonical_lines : ApartFromLines memoriesCanonical := canonical_replies.lines
theorem canonical_isl : ∀ v (t : State), memoriesCanonical { t with isl := v } = memoriesCanonical t := fun _ _ => rfl
theorem canonical_srv : ∀ v (t : State), memoriesCanonical { t with srv := v } = memoriesCanonical t := fun _ _ => rfl
theorem canonical_cars : ∀ v (t : State), memoriesCanonical { t with oru := { t.oru with cars := v } } = memoriesCanonical t :=
  fun _ _ => rfl

section
variable {s : State} {α : Type}

theorem ite_canonical {c : Prop} [Decidable c] {a b : State} (ha : memoriesCanonical a) (hb : memoriesCanonical b) :
    memoriesCanonical (if c then a else b) := by
  split
  · exact ha
  · exact hb

theorem ite_snd_canonical {c : Prop} [Decidable c] {a b : α × State} (ha : memoriesCanonical a.2) (hb : memoriesCanonical b.2) :
    memoriesCanonical (if c then a else b).2 := by
  split
  · exact ha
  · exact hb

theorem snd_canonical {p : α × State} {a : α} {t : State} (e : p = (a, t)) (h : memoriesCanonical p.2) : memoriesCanonical t := by
  subst e
  exact h

theorem forAll_canonical {l : List α} {f : α → State → State} (h : memoriesCanonical s)
    (hf : ∀ a t, memoriesCanonical t → memoriesCanonical (f a t)) : memoriesCanonical (forAll l f s) := by
  induction l generalizing s with
  | nil => exact h
  | cons a r ih => exact ih (hf a s h)

theorem forNat_canonical {n : Nat} {f : Nat → State → State} (h : memoriesCanonical s)
    (hf : ∀ i t, memoriesCanonical t → memoriesCanonical (f i t)) : memoriesCanonical (forNat n f s) := forAll_canonical h hf

theorem setCore_canonical {c : Nat} {f : Core → Core} (h : memoriesCanonical s)
    (hf : coreCanonical (s.core c) → coreCanonical (f (s.core c))) : memoriesCanonical (setCore c f s) := by
  refine memoriesCanonical_iff.mpr ⟨h.sram, h.flash, fun d => ?_⟩
  by_cases hd : d = c
  · subst hd
    by_cases h4 : d < 4
    · rw [show (setCore d f s).core d = f (s.core d) from vget_vset_same _ _ _ h4]
      exact hf (h.core d)
    · exact coreCanonical_beyond h4
  · rw [show (setCore c f s).core d = s.core d from vget_vset_other _ _ _ _ hd]
    exact h.core d

theorem setCtx_canonical {c p : Nat} {f : Ctx → Ctx} (h : memoriesCanonical s) : memoriesCanonical (setCtx c p f s) :=
  setCore_canonical h id

theorem toCore_canonical {c : Nat} {r : Word × State} (h : memoriesCanonical r.2) : memoriesCanonical (toCore c r) :=
  setCore_canonical h id

theorem mapCores_canonical {f : Nat → Core → Core} (h : memoriesCanonical s) (hf : ∀ c k, coreCanonical k → coreCanonical (f c k)) :
    memoriesCanonical (mapCores f s) := by
  refine memoriesCanonical_iff.mpr ⟨h.sram, h.flash, fun d => ?_⟩
  by_cases h4 : d < 4
  · have : (mapCores f s).core d = f d (s.core d) := by simp [State.core, mapCores, vget, h4]
    rw [this]
    exact hf d _ (h.core d)
  · exact coreCanonical_beyond h4

end

/-! The steps that many commands share. -/

section
variable {s : State} {b l n c cause detail st code val d dst status : Nat} {ds : List (Nat × Nat)} {raised : Bool} {ln : Ln} {t : Text}
  {e : Err} {ty : BitVec 4} {pl : Bytes} {car : Carrier} {why : Option Text} {a : Option CardAnswer} {f : State → State}
  (h : memoriesCanonical s)
include h

theorem setLeaf_canonical : memoriesCanonical (setLeaf b l s) := (setLeaf_keeps canonical_reports b l s).mpr h

theorem setLeafD_canonical : memoriesCanonical (setLeafD b l ds s) := (setLeafD_keeps canonical_reports b l ds s).mpr h

theorem pubSlot_canonical : memoriesCanonical (pubSlot n s) := (pubSlot_keeps canonical_reports n s).mpr h

theorem tamper_canonical : memoriesCanonical (tamper cause detail s) := (tamper_keeps canonical_tamper cause detail s).mpr h

theorem lifeCheck_canonical : memoriesCanonical (lifeCheck s) := (lifeCheck_keeps canonical_records s).mpr h

theorem openHold_canonical : memoriesCanonical (openHold c s) := (openHold_keeps canonical_verdicts c s).mpr h

theorem cicUpdate_canonical : memoriesCanonical (cicUpdate s) := (cicUpdate_keeps canonical_sending s).mpr h

theorem cicLevel_canonical : memoriesCanonical (cicLevel n raised s) := (cicLevel_keeps canonical_levels n raised s).mpr h

theorem cicPulse_canonical : memoriesCanonical (cicPulse n s) := (pulse_keeps canonical_steward n s).mpr h

theorem cellLevels_canonical : memoriesCanonical (cellLevels s) := (cellLevels_keeps canonical_steward s).mpr h

theorem cellResult_canonical : memoriesCanonical (cellResult n st code val s) :=
  (cellResult_keeps canonical_steward n st code val s).mpr h

theorem replyOk_canonical : memoriesCanonical (replyOk ln t s) := (replyOk_keeps canonical_lines canonical_cars ln t s).mpr h

theorem replyErr_canonical : memoriesCanonical (replyErr ln e s) := (replyErr_keeps canonical_replies ln e s).mpr h

theorem sendKeyed_canonical : memoriesCanonical (sendKeyed d ty dst pl s) := (sendKeyed_keeps canonical_replies d ty dst pl s).mpr h

theorem sessionEnd_canonical : memoriesCanonical (sessionEnd car why s) := (sessionEnd_keeps canonical_sessions car why s).mpr h

theorem cardEnd_canonical : memoriesCanonical (cardEnd n status s) := (cardEnd_keeps canonical_sessions n status s).mpr h

theorem cardDone_canonical : memoriesCanonical (cardDone n ln a s) := (cardDone_keeps canonical_sessions n ln a s).mpr h

theorem portRow_canonical (hf : ∀ t, memoriesCanonical t → memoriesCanonical (f t)) :
    memoriesCanonical (portRow d f s) := by
  unfold portRow
  split
  · exact h
  · split
    · split
      · exact h
      · refine (noIdentity_keeps canonical_replies _ _).mpr ?_
        split
        · exact (linkDown_keeps canonical_chain _ _).mpr h
        · exact h
    · exact hf s h

end

end Sys2Proof.Machine
end

section
/-! SUPPORT. Memories stay in canonical form: stores, pages and banks (05), interrupts (07). -/

namespace Sys2Proof.Machine

section
variable {s : State} {a addr b c core dst kind n off p person pr q space src w : Nat} {clear zero : Bool} {code : BitVec 4}
  {y : Byte} {bs : Bytes} {t : CandTxn} {x : CusAns} {k : CusKind} {o : CusObj} {z : Fin 4} {cs : List Host.Cell}
  {lines : List Nat} {writer : Option Nat} {e : SrcEdge} {v : Word} (h : memoriesCanonical s)
include h

theorem candLands_canonical : memoriesCanonical (candLands t s) := by
  unfold candLands
  extract_lets +onlyGivenNames s0 _ s1
  have hs0 : memoriesCanonical s0 := setCore_canonical h id
  have hs1 : memoriesCanonical s1 := ite_canonical (setCtx_canonical hs0) hs0
  exact ite_canonical (ite_canonical (setCtx_canonical hs1) hs1) hs1

theorem gateFlush_canonical : memoriesCanonical (gateFlush pr s) :=
  ite_canonical (forAll_canonical (.outside h) fun _ _ ht => .outside ht)
    (forAll_canonical (.outside h) fun _ _ hu => candLands_canonical hu)

theorem gateLines_canonical : memoriesCanonical (gateLines writer lines s) :=
  forAll_canonical h fun _ _ ht => ite_canonical (gateFlush_canonical ht) ht

theorem foreignFree_canonical : memoriesCanonical (foreignFree kind core person addr s) :=
  .outside (setLeaf_canonical (.outside (.outside h)))

theorem doubleFree_canonical : memoriesCanonical (doubleFree core person addr s) :=
  .outside (setLeaf_canonical (.outside (.outside h)))

theorem eccFound_canonical : memoriesCanonical (eccFound space c w s) :=
  setLeaf_canonical (ite_canonical (mapCores_canonical (gateLines_canonical (.outside h)) fun _ _ => id) (.outside h))

theorem eccRead_canonical : memoriesCanonical (eccRead space c a n s) :=
  forAll_canonical (.errors h) fun _ _ ht => eccFound_canonical ht

theorem dmemWrite_canonical : memoriesCanonical (dmemWrite c a bs s) :=
  setCore_canonical h fun hk => ⟨hk.1, cellsPut_wf 0 bs _ a hk.2⟩

theorem napEnd_canonical : memoriesCanonical (napEnd s) := ite_canonical (.outside h) h

theorem commitWord_canonical : memoriesCanonical (commitWord w cs s) := by
  unfold commitWord
  extract_lets +onlyGivenNames _ whole s1
  split
  · exact eccRead_canonical h
  · have h1 : memoriesCanonical s1 := ite_canonical (.errors h) (eccRead_canonical h)
    exact memoriesCanonical_iff.mpr ⟨cellsOver_wf 0 _ _ h1.sram, h1.flash, h1.core⟩

theorem commitCells_canonical : memoriesCanonical (commitCells writer cs s) := by
  have hdrop : ∀ (ls : List Nat) (k : Core), coreCanonical k → coreCanonical (forAll ls dropLine k) := fun ls k hk =>
    (forAll_keeps coreCanonical ls dropLine k fun _ _ => rfl).mpr hk
  refine forAll_canonical (mapCores_canonical (gateLines_canonical h) fun c k hk => ?_) fun _ _ ht => commitWord_canonical ht
  split
  · exact hk
  · exact hdrop _ k hk

theorem sramPut_canonical : memoriesCanonical (sramPut a bs s) := commitCells_canonical h

theorem bufRead_canonical : memoriesCanonical (bufRead a n s).2 := ite_snd_canonical (eccRead_canonical h) (eccRead_canonical h)

theorem cusMove_canonical : memoriesCanonical (cusMove o lines code zero s) := by
  unfold cusMove
  cases o with
  | page _ => exact mapCores_canonical (gateLines_canonical (ite_canonical (.outside (.outside h)) (.outside h))) fun _ _ => id
  | bank _ =>
    refine forAll_canonical h fun _ _ ht => ?_
    split
    · exact .outside ht
    · exact .outside ht

theorem cusDo_canonical : memoriesCanonical (cusDo k c p addr q s) := by
  unfold cusDo
  cases cusObj addr with
  | none => exact h
  | some _ =>
    dsimp only
    cases k with
    | claim | give | free => exact cusMove_canonical h

theorem cusEffect_canonical : memoriesCanonical (cusEffect x k c p addr q s) := by
  unfold cusEffect
  split
  · exact foreignFree_canonical h
  · exact doubleFree_canonical h
  · exact h
  · exact cusDo_canonical h

theorem pageZeroed_canonical : memoriesCanonical (pageZeroed n s) := by
  unfold pageZeroed
  extract_lets +onlyGivenNames _ _ s0 s1
  have hs0 : memoriesCanonical s0 := memoriesCanonical_iff.mpr ⟨cellsClear_wf 0 _ _ _ h.sram, h.flash, h.core⟩
  exact ite_canonical (.outside (.errors hs0)) (.errors hs0)

theorem bankZeroed_canonical : memoriesCanonical (bankZeroed c b s) := by
  unfold bankZeroed
  extract_lets +onlyGivenNames s1
  have hs1 : memoriesCanonical s1 := setCore_canonical h fun hk => ⟨hk.1, cellsClear_wf 0 _ _ _ hk.2⟩
  exact ite_canonical (.outside (.errors (.outside hs1))) (.errors (.outside hs1))

theorem reclaim_canonical : memoriesCanonical (reclaim p s) :=
  forNat_canonical (forNat_canonical h fun _ _ ht => ite_canonical (cusMove_canonical ht) ht) fun _ _ hu => forNat_canonical hu
    fun _ _ hv => ite_canonical (cusMove_canonical hv) hv

theorem reclaimCore_canonical : memoriesCanonical (reclaimCore c s) :=
  forNat_canonical h fun _ _ ht => ite_canonical ht (cusMove_canonical ht)

theorem filterChange_canonical : memoriesCanonical (filterChange n zero s) :=
  ite_canonical h (cicUpdate_canonical ((napStir_keeps canonical_levels _).mpr (.outside h)))

theorem execSourceEvent_canonical : yieldsCanonical (execSourceEvent y e s) := by
  unfold execSourceEvent
  refine .next ?_
  cases e with
  | pulse => exact cicPulse_canonical h
  | rise | fall => exact cicLevel_canonical h

theorem claim_canonical : memoriesCanonical (claim c p s).2 := by
  unfold claim
  extract_lets +onlyGivenNames _
  split
  · exact h
  · with_reducible refine cicUpdate_canonical ?_
    exact .outside h

theorem stray_canonical : memoriesCanonical (stray c p n s) := .outside (.outside h)

theorem complete_canonical : memoriesCanonical (complete c p v s) :=
  ite_canonical h (ite_canonical (stray_canonical h) (cicUpdate_canonical (.outside h)))

theorem setClear_canonical : memoriesCanonical (setClear p clear n s) :=
  ite_canonical h (ite_canonical (cicUpdate_canonical (.outside h)) (ite_canonical ((srcEdge_keeps canonical_levels _ _).mpr h) h))

theorem execCicClaim_canonical : yieldsCanonical (execCicClaim z s) := by
  unfold execCicClaim
  extract_lets +onlyGivenNames _ _
  refine .next (ite_canonical h ?_)
  extract_lets +onlyGivenNames _ put1
  have hput1 : memoriesCanonical put1 := setCore_canonical (claim_canonical h) id
  exact ite_canonical (setCore_canonical hput1 id) hput1

theorem cicReset_canonical : memoriesCanonical (cicReset p s) :=
  cicUpdate_canonical (.outside (forNat_canonical h fun _ _ ht => ite_canonical (.outside ht) ht))

theorem cicMove_canonical : memoriesCanonical (cicMove p src dst s) :=
  cicUpdate_canonical (forNat_canonical h fun _ _ ht => ite_canonical (.outside ht) ht)

theorem cicRead_canonical : memoriesCanonical (cicRead c p off s).2 :=
  ite_snd_canonical h (ite_snd_canonical (claim_canonical h)
    (ite_snd_canonical h (ite_snd_canonical h (ite_snd_canonical h (ite_snd_canonical h (ite_snd_canonical h (ite_snd_canonical
    (ite_snd_canonical h (ite_snd_canonical h h)) h)))))))

theorem cicWrite_canonical : memoriesCanonical (cicWrite c p off v s) :=
  ite_canonical h (ite_canonical (complete_canonical h) (ite_canonical (cicUpdate_canonical (.outside h)) (ite_canonical
    (setClear_canonical h) (ite_canonical (ite_canonical h (ite_canonical (cicUpdate_canonical (.outside h)) (cicUpdate_canonical
    (.outside h)))) h))))

end

end Sys2Proof.Machine
end

section
/-! SUPPORT. Memories stay in canonical form: flash, records, lifecycle, power (10, 12, 01, 02). -/

namespace Sys2Proof.Machine

section
variable {s : State} {a b bit f kind n off party : Nat} {bs d payload : Bytes} {u : AppRun} {own : Bool} {x : Causes → Causes}
  {e : FlashEnd} {o : FlashOp} {pr : Pair} {pw : Power} {rail : Rail} {p : RecPos} {w : WakeSrc} {v : Word}
  (h : memoriesCanonical s)
include h

theorem flashPut_canonical : memoriesCanonical (flashPut b a bs s) :=
  memoriesCanonical_iff.mpr ⟨h.sram, cellsPut_wf 0xFF bs _ _ h.flash, h.core⟩

theorem flashUnit_canonical : memoriesCanonical (flashUnit b a d s) := by
  unfold flashUnit
  extract_lets +onlyGivenNames s1
  have hs1 : memoriesCanonical s1 := .errors (flashPut_canonical h)
  exact ite_canonical (.errors hs1) hs1

theorem flashErase_canonical : memoriesCanonical (flashErase b a n s) :=
  memoriesCanonical_iff.mpr ⟨h.sram, cellsClear_wf 0xFF _ _ _ h.flash, h.core⟩

theorem flashSeen_canonical : memoriesCanonical (flashSeen b a n s) := ite_canonical (setLeaf_canonical h) h

theorem flashShown_canonical : memoriesCanonical (flashShown b a n s).2 := ite_snd_canonical (.outside (flashSeen_canonical h)) h

theorem flashEffect_canonical : memoriesCanonical (flashEffect b o s) := by
  unfold flashEffect
  cases o with
  | program _ _ => exact flashUnit_canonical h
  | erase _ => exact flashErase_canonical h
  | blank _ => exact .outside h
  | eraseAll => exact flashErase_canonical h

theorem flashUndefined_canonical : memoriesCanonical (flashUndefined b o s) := by
  dsimp only [flashUndefined]
  cases o with
  | program _ _ | erase _ => exact flashPut_canonical (.outside h)
  | blank _ => exact h
  | eraseAll => exact flashPut_canonical (.outside h)

theorem bankEnd_canonical : memoriesCanonical (bankEnd b e s) := by
  unfold bankEnd
  cases (s.bank b).busy with
  | none => exact h
  | some _ =>
    dsimp only
    refine cicPulse_canonical (.outside ?_)
    cases e with
    | ok => exact flashEffect_canonical h
    | verify => exact flashUndefined_canonical h

theorem flashCut_canonical : memoriesCanonical (flashCut s) := by
  unfold flashCut
  refine forNat_canonical h fun _ _ ht => ?_
  dsimp only
  refine .outside ?_
  split
  · exact flashUndefined_canonical ht
  · exact ht

theorem flcWrite_canonical : memoriesCanonical (flcWrite f off v s) :=
  ite_canonical h (ite_canonical (.outside h) (ite_canonical ((flashCmd_keeps canonical_chain _ _ _).mpr h) (.outside h)))

theorem kickBoth_canonical : memoriesCanonical (kickBoth s) :=
  (bankKick_keeps canonical_records _ _ _).mpr ((bankKick_keeps canonical_records _ _ _).mpr h)

theorem recordMake_canonical : memoriesCanonical (recordMake kind payload s) := (recordDue_keeps canonical_records _ _).mpr h

theorem recAck_canonical : memoriesCanonical (recAck u s) := ite_canonical (.outside (.outside h)) (.outside h)

theorem recFail_canonical : memoriesCanonical (recFail u s).1 := by
  unfold recFail
  extract_lets +onlyGivenNames _ _ _
  split
  · exact .outside h
  · extract_lets +onlyGivenNames s1 s2
    have hs2 : memoriesCanonical s2 := .outside (setLeaf_canonical (.outside h))
    split
    · split
      · exact hs2
      · exact .outside hs2
    · exact hs2

theorem recAdvance_canonical : memoriesCanonical (recAdvance s).1 := by
  have hpump : ∀ t, memoriesCanonical t → memoriesCanonical (recPump t) := fun t => (recPump_keeps canonical_records t).mpr
  have hplan : ∀ l t, memoriesCanonical t → memoriesCanonical (planSame l t) := fun l t =>
      (planSame_keeps canonical_records l t).mpr
  unfold recAdvance
  split
  · exact hpump _ h
  · split
    · exact kickBoth_canonical h
    · split
      · exact hpump _ (recFail_canonical h)
      · split
        · exact kickBoth_canonical (hplan _ _ (.outside (.outside h)))
        · exact kickBoth_canonical (hplan _ _ (.outside h))
        · split
          · exact kickBoth_canonical (hplan _ _ (.outside (recAck_canonical h)))
          · exact hpump _ (recAck_canonical h)
        · exact hpump _ (.outside h)

theorem recBankDone_canonical : memoriesCanonical (recBankDone b e own s) := ite_canonical (.outside h) h

theorem recNoteRead_canonical : memoriesCanonical (recNoteRead p s) := by
  unfold recNoteRead
  extract_lets +onlyGivenNames _ s1
  have hs1 : memoriesCanonical s1 := flashSeen_canonical (flashSeen_canonical h)
  exact ite_canonical (.outside (setLeaf_canonical hs1)) hs1

theorem recoverStore_canonical : memoriesCanonical (recoverStore s) := by
  dsimp only [recoverStore]
  split
  · exact .outside h
  · split
    · exact .outside h
    · exact ite_canonical (.outside h) (setLeaf_canonical (.outside h))

theorem recPerson1_canonical : memoriesCanonical (recPerson1 s) := (recPump_keeps canonical_records _).mpr (.outside h)

theorem releaseHolds_canonical : memoriesCanonical (releaseHolds party s) :=
  lifeCheck_canonical (recordMake_canonical (setLeaf_canonical (tamper_canonical (.outside h))))

theorem stepCounter_canonical : memoriesCanonical (stepCounter n b s) := h

theorem powerLost_canonical : memoriesCanonical (powerLost pw s) := by
  have hf : Memory.wf 0xFF (flashCut s).mem.flash = true := (flashCut_canonical h).flash
  refine memoriesCanonical_iff.mpr ⟨rfl, ?_, coreCanonical_blank⟩
  dsimp only [powerLost]
  exact hf

theorem beginStart_canonical : memoriesCanonical (beginStart x s) := .outside (powerLost_canonical h)

theorem restartDevice_canonical : memoriesCanonical (restartDevice s) := beginStart_canonical (.outside h)

theorem enterOff_canonical : memoriesCanonical (enterOff s) := powerLost_canonical h

theorem execRailFail_canonical : yieldsCanonical (execRailFail rail s) := by
  unfold execRailFail
  refine .next ?_
  cases rail with
  | vddF | vddFl | vana | vioP => exact enterOff_canonical (.outside h)

theorem refLost_canonical : memoriesCanonical (refLost s) :=
  ite_canonical h (pubSlot_canonical (setLeaf_canonical (tamper_canonical (.outside (.outside h)))))

theorem refBack_canonical : memoriesCanonical (refBack s) :=
  ite_canonical (pubSlot_canonical (tamper_canonical (.outside h))) (.outside h)

theorem execOpChangeDone_canonical : yieldsCanonical (execOpChangeDone pr s) := by
  dsimp only [execOpChangeDone]
  refine .next ?_
  cases vget s.isl.opTarget (pairNo pr) with
  | none => exact h
  | some _ => exact .outside h

theorem wakeBy_canonical : memoriesCanonical (wakeBy bit s) :=
  ite_canonical h (ite_canonical (beginStart_canonical (.outside h)) (.outside h))

theorem execWakeEvent_canonical : yieldsCanonical (execWakeEvent w s) := by
  dsimp only [execWakeEvent]
  refine .next ?_
  cases w with
  | rtc => exact wakeBy_canonical h
  | sns0 _ | sns1 _ => exact ite_canonical (wakeBy_canonical h) h
  | can | svc | hst | tamper => exact wakeBy_canonical h

end

end Sys2Proof.Machine
end

section
/-! SUPPORT. Memories stay in canonical form: persons, movers, sentinel, survey (06, 08, 17, 16). -/

namespace Sys2Proof.Machine

section
variable {s : State} {a c ch frac fuel n off p party sec sel src : Nat} {cs da : List Nat} {v w : Word} {data : Bytes} {x : MovEvt}
  {hit : Nat → Nat → Bool} {owner : Option Nat} {r : PRun} {y : ReqSrc} {e : SbEntry} (h : memoriesCanonical s)
include h

theorem pickPerson_canonical : memoriesCanonical (pickPerson c s) := ite_canonical h (setCore_canonical h id)

theorem setRun_canonical : memoriesCanonical (setRun p r s) :=
  lifeCheck_canonical (pubSlot_canonical (ite_canonical (.outside h) (setLeaf_canonical (.outside h))))

theorem dropCus_canonical : memoriesCanonical (dropCus c p s) := by
  unfold dropCus
  extract_lets +onlyGivenNames s1
  have hs1 : memoriesCanonical s1 := setCtx_canonical h
  exact ite_canonical (.outside hs1) hs1

theorem leaveCores_canonical : memoriesCanonical (leaveCores p s) :=
  .outside (.outside (cicUpdate_canonical (forNat_canonical (.outside h) fun _ _ ht => ite_canonical (pickPerson_canonical
    (dropCus_canonical ht)) ht)))

theorem stopPerson_canonical : memoriesCanonical (stopPerson p r s) := leaveCores_canonical (setRun_canonical h)

theorem dropTwin_canonical : memoriesCanonical (dropTwin c e s) := ite_canonical (setCore_canonical h id) h

theorem handOver_canonical : memoriesCanonical (handOver fuel c s) := by
  induction fuel generalizing s with
  | zero => exact h
  | succ f ih =>
    unfold handOver
    dsimp only
    split
    · exact h
    · exact ite_canonical (ih (.outside (dropTwin_canonical (setCore_canonical h id)))) h

theorem drain_canonical : memoriesCanonical (drain c s) := handOver_canonical h

theorem drainAll_canonical : memoriesCanonical (drainAll c s) := drain_canonical (setCore_canonical h id)

theorem mirrorTrail_canonical : memoriesCanonical (mirrorTrail c p s) := by
  have hbanks : ∀ (k : Core) (bs : List Nat) (m : List Host.Cell), Memory.wf 0 m = true →
      Memory.wf 0 (bs.foldl (fun m b => cellsOver 0 (cellsClear m (bankBase b) 0x8000)
        (k.dmem.filter fun q => decide (bankBase b ≤ q.1) && decide (q.1 < bankBase b + 0x8000))) m) = true := by
    intro k bs
    induction bs with
    | nil => exact fun _ hm => hm
    | cons b r ih => exact fun m hm => ih _ (cellsOver_wf 0 _ _ (cellsClear_wf 0 _ _ _ hm))
  unfold mirrorTrail
  split
  · exact drain_canonical (setCore_canonical h fun hk => ⟨hk.1, hbanks _ _ _ hk.2⟩)
  · exact h

theorem raiseEvent_canonical : memoriesCanonical (raiseEvent ch x s) :=
  (matrixEvent_keeps canonical_sending (fun _ _ => rfl) (fun _ _ => rfl) _ _ _ _).mpr h

theorem requestAll_canonical : memoriesCanonical (requestAll sel owner s) :=
  forNat_canonical h fun _ _ ht => ite_canonical (ite_canonical (raiseEvent_canonical (.outside ht)) (.outside ht)) ht

theorem execMovRequest_canonical : yieldsCanonical (execMovRequest y s) := by
  unfold execMovRequest
  refine .next ?_
  cases y with
  | line _ => exact (raiseLine_keeps canonical_sending (fun _ _ => rfl) (fun _ _ => rfl) _ _).mpr h
  | output _ => exact requestAll_canonical h

theorem settleChan_canonical : memoriesCanonical (settleChan ch s) :=
  ite_canonical h (ite_canonical (.outside h) (ite_canonical (raiseEvent_canonical (.outside h)) h))

theorem movStart_canonical : memoriesCanonical (movStart ch s) :=
  ite_canonical h (ite_canonical (raiseEvent_canonical (.outside h))
    (ite_canonical (raiseEvent_canonical (.outside h)) (.outside h)))

theorem movStop_canonical : memoriesCanonical (movStop ch s) := ite_canonical (settleChan_canonical (.outside h)) h

theorem movCmd_canonical : memoriesCanonical (movCmd ch v s) :=
  ite_canonical (movStop_canonical h) (ite_canonical (movStart_canonical h) h)

theorem putWord_canonical : memoriesCanonical (putWord cs a w s) := by
  dsimp only [putWord]
  split
  · exact sramPut_canonical h
  · exact forAll_canonical (gateFlush_canonical h) fun _ _ ht => dmemWrite_canonical (.errors ht)
  · exact forAll_canonical (gateFlush_canonical h) fun _ _ ht =>
      setCore_canonical (.errors ht) fun hk => ⟨cellsPut_wf 0 _ _ _ hk.1, hk.2⟩
  · exact h

theorem putMem_canonical : memoriesCanonical (putMem cs da data s) :=
  ite_canonical (sramPut_canonical h) (forAll_canonical h fun _ _ ht => putWord_canonical ht)

theorem putEarly_canonical : memoriesCanonical (putEarly hit ch s) := by
  unfold putEarly
  refine forNat_canonical h fun _ _ ht => ?_
  dsimp only
  split
  · exact ht
  · exact ite_canonical ht (.outside (putMem_canonical ht))

theorem movReset_canonical : memoriesCanonical (movReset p s) :=
  forNat_canonical h fun _ _ ht => ite_canonical (.outside (putEarly_canonical ht)) ht

theorem movLost_canonical : memoriesCanonical (movLost p s) := forNat_canonical h fun _ _ ht => ite_canonical (.outside ht) ht

theorem movWrite_canonical : memoriesCanonical (movWrite n off v s) :=
  ite_canonical (movCmd_canonical h) (ite_canonical (ite_canonical h (.outside h))
    (ite_canonical (ite_canonical h (.outside h)) (ite_canonical h (ite_canonical (.outside h) (ite_canonical (.outside h)
    (ite_canonical (.outside h) (ite_canonical (.outside h) (ite_canonical (.outside h) (ite_canonical (.outside h) (ite_canonical
    (.outside h) (ite_canonical (.outside h) (ite_canonical (.outside h) h))))))))))))

theorem alarmFire_canonical : memoriesCanonical (alarmFire s) :=
  ite_canonical (wakeBy_canonical (cicPulse_canonical (setLeaf_canonical (.outside h)))) h

theorem markLatch_canonical : memoriesCanonical (markLatch s) := ite_canonical (.outside (.outside h)) h

theorem setTime_canonical : memoriesCanonical (setTime sec frac src party s) :=
  lifeCheck_canonical (pubSlot_canonical (setLeaf_canonical (.outside (recordMake_canonical (.outside h)))))

end

theorem sentinelSees_canonical {s t : State} (ht : memoriesCanonical t) (h : memoriesCanonical s) : memoriesCanonical
    (sentinelSees t s) :=
  ite_canonical ht h

section
variable {s : State} {c detail f g n off : Nat} {avgs samples slots vals : List Nat} {on opened : Bool} {payload : Bytes}
  {k : Fin 2} {z : Fin 4} {m : Fin 8} {t : Int} {v : Word} (h : memoriesCanonical s)
include h

theorem tempSample_canonical : memoriesCanonical (tempSample t s) :=
  ite_canonical (pubSlot_canonical (setLeaf_canonical (tamper_canonical (.outside (.outside h))))) (pubSlot_canonical (.outside h))

theorem execCaseChange_canonical : yieldsCanonical (execCaseChange z opened s) := by
  unfold execCaseChange
  refine .next (ite_canonical h ?_)
  extract_lets +onlyGivenNames _ _ s1
  have hs1 : memoriesCanonical s1 := pubSlot_canonical (setLeaf_canonical (tamper_canonical (.outside h)))
  exact ite_canonical (wakeBy_canonical (openHold_canonical hs1)) hs1

theorem vstbyLoss_canonical : memoriesCanonical (vstbyLoss detail s) := (chainLevels_keeps canonical_levels _).mpr (.outside h)

theorem sentinelUp_canonical : memoriesCanonical (sentinelUp s) :=
  openHold_canonical ((rtcInvalid_keeps canonical_chain _).mpr (tamper_canonical (.outside h)))

theorem execSentinelPowerUp_canonical : yieldsCanonical (execSentinelPowerUp s) := by
  unfold execSentinelPowerUp
  refine .next (ite_canonical h ?_)
  extract_lets +onlyGivenNames s1
  have hs1 : memoriesCanonical s1 := sentinelUp_canonical h
  exact ite_canonical (beginStart_canonical hs1) hs1

theorem markCopied_canonical : memoriesCanonical (markCopied slots payload s) :=
  pubSlot_canonical (forAll_canonical h fun _ _ ht => .outside ht)

theorem sntRead_canonical : memoriesCanonical (sntRead c f off s).2 :=
  ite_snd_canonical h (ite_snd_canonical (.outside h) (ite_snd_canonical (.outside h) (ite_snd_canonical h (ite_snd_canonical h
    (ite_snd_canonical h (ite_snd_canonical h (ite_snd_canonical h h)))))))

theorem sntLoad_canonical : memoriesCanonical (sntLoad c off s) := setCore_canonical (sntRead_canonical h) id

theorem feedTurnOn_canonical : memoriesCanonical (feedTurnOn n s) :=
  ite_canonical h (ite_canonical (.outside h) ((feedEdge_keeps canonical_chain _ _).mpr h))

theorem feedOrder_canonical : memoriesCanonical (feedOrder n on s) :=
  ite_canonical (feedTurnOn_canonical h) ((feedTurnOff_keeps canonical_chain _ _).mpr (.outside h))

theorem feedSafe_canonical : memoriesCanonical (feedSafe n s) :=
  ite_canonical (feedTurnOn_canonical h) ((feedTurnOff_keeps canonical_chain _ _).mpr h)

theorem execSignatureDone_canonical : yieldsCanonical (execSignatureDone m samples s) := by
  unfold execSignatureDone
  refine .next (ite_canonical h ?_)
  dsimp only
  refine (burstEnd_keeps canonical_chain _).mpr ((feedJudge_keeps canonical_verdicts _ _).mpr ?_)
  split
  · exact .outside h
  · refine .outside ?_
    split
    · exact .outside h
    · exact .outside (.outside h)

theorem execSurveyAverage_canonical : yieldsCanonical (execSurveyAverage avgs s) := by
  unfold execSurveyAverage
  refine .next (ite_canonical h ?_)
  extract_lets +onlyGivenNames _ _ _ _ _ _ s1
  have hs1 : memoriesCanonical s1 := forNat_canonical (forNat_canonical (.outside h) fun _ _ ht => .outside ht) fun _ _ hu =>
      .outside hu
  exact pubSlot_canonical (ite_canonical hs1 (forNat_canonical (forNat_canonical hs1 fun _ _ hv =>
      (judge_keeps canonical_verdicts _ _ _).mpr hv) fun _ _ hw => (feedJudge_keeps canonical_verdicts _ _).mpr hw))

theorem execCanPartnerTimeout_canonical : yieldsCanonical (execCanPartnerTimeout k s) := by
  dsimp only [execCanPartnerTimeout]
  refine .next ?_
  split
  · exact ite_canonical ((judge_keeps canonical_verdicts _ _ _).mpr h) h
  · exact h

theorem streamGroup_canonical : memoriesCanonical (streamGroup g vals s) := by
  unfold streamGroup
  refine ite_canonical h ?_
  extract_lets +onlyGivenNames _ s1
  have hs1 : memoriesCanonical s1 := forNat_canonical h fun _ _ ht => ite_canonical (.outside ht) (.outside ht)
  exact ite_canonical ((surveyLevels_keeps canonical_levels _).mpr hs1) hs1

theorem scanStore_canonical : memoriesCanonical (scanStore vals s) :=
  ite_canonical h (ite_canonical (forNat_canonical (.outside h) fun _ _ ht => streamGroup_canonical ht) (.outside h))

theorem fifoTake_canonical : memoriesCanonical (fifoTake g s).2 := by
  unfold fifoTake
  split
  · exact h
  · with_reducible exact (surveyLevels_keeps canonical_levels _).mpr (.outside h)

theorem srvRead_canonical : memoriesCanonical (srvRead f off s).2 :=
  ite_snd_canonical h (ite_snd_canonical (ite_snd_canonical h (ite_snd_canonical (fifoTake_canonical h) h)) h)

theorem srvWrite_canonical : memoriesCanonical (srvWrite f off v s) := ite_canonical (.outside h) h

end

end Sys2Proof.Machine
end

section
/-! SUPPORT. Memories stay in canonical form: ports (19). -/

namespace Sys2Proof.Machine

section
variable {s : State} {b c count f g k len m n off p : Nat} {cap : BitVec 31} {level : Bool} {z : Byte} {x : Can → Can}
  {y : CanFrame} {e : CanTxEnd} {j : CardEnd} {sl : Fin 2} {u : Fin 8} {w : State → State} {f' : Uart → Uart} {v : Word}
  (h : memoriesCanonical s)
include h

theorem canLevels_canonical : memoriesCanonical (canLevels k s) :=
  cicLevel_canonical (cicLevel_canonical (cicLevel_canonical (cicLevel_canonical h)))

theorem canErrors_canonical : memoriesCanonical (canErrors k x s) :=
  canLevels_canonical (ite_canonical (setLeaf_canonical (.outside h)) (.outside h))

theorem canUnsent_canonical : memoriesCanonical (canUnsent k s) := by
  unfold canUnsent
  cases (s.can k).onBus with
  | none => exact h
  | some _ => exact .outside (.outside h)

theorem canOff_canonical : memoriesCanonical (canOff k s) :=
  ite_canonical h (setLeaf_canonical (canErrors_canonical (canUnsent_canonical h)))

theorem canOn_canonical : memoriesCanonical (canOn k s) := ite_canonical (.outside (canErrors_canonical h)) h

theorem canMode_canonical : memoriesCanonical (canMode k v s) := by
  unfold canMode
  extract_lets +onlyGivenNames _ s1
  have hs1 : memoriesCanonical s1 := ite_canonical (canUnsent_canonical h) h
  exact ite_canonical (canOn_canonical (.outside hs1)) (.outside (.outside hs1))

theorem canCtrl_canonical : memoriesCanonical (canCtrl k b v s) := .outside (canLevels_canonical (.outside h))

theorem canStore_canonical : memoriesCanonical (canStore k g y s) := by
  dsimp only [canStore]
  split
  · exact (raiseLine_keeps canonical_sending (fun _ _ => rfl) (fun _ _ => rfl) _ _).mpr (cicPulse_canonical (.outside h))
  · split
    · exact h
    · exact .outside h

theorem canRxGood_canonical : memoriesCanonical (canRxGood k s) :=
  ite_canonical h (ite_canonical (canErrors_canonical (.outside h)) (canErrors_canonical h))

theorem execCanTxDone_canonical : yieldsCanonical (execCanTxDone sl e s) := by
  dsimp only [execCanTxDone]
  refine .next ?_
  split
  · exact h
  · cases e with
    | success =>
      exact .outside ((raiseLine_keeps canonical_sending (fun _ _ => rfl) (fun _ _ => rfl) _ _).mpr
          (cicPulse_canonical ((canPresent_keeps canonical_chain _ _ _).mpr (canErrors_canonical (.outside h)))))
    | lostArbitration | error => exact .outside (canUnsent_canonical h)

theorem canWrite_canonical : memoriesCanonical (canWrite f off v s) :=
  ite_canonical (ite_canonical (canMode_canonical h) (ite_canonical h (ite_canonical (.outside h) (ite_canonical (.outside h)
    (ite_canonical (.outside h) h))))) (ite_canonical (ite_canonical (canCtrl_canonical h) (.outside h)) h)

theorem cardStart_canonical : memoriesCanonical (cardStart n level s) := (cardLevels_keeps canonical_steward _ _).mpr (.outside h)

theorem cardActivate_canonical : memoriesCanonical (cardActivate n s) :=
  ite_canonical (.outside h) (ite_canonical h (cardStart_canonical h))

theorem cardDeactivate_canonical : memoriesCanonical (cardDeactivate n s) :=
  ite_canonical h (ite_canonical (.outside h) ((cardOff_keeps canonical_sessions _ _ _).mpr h))

theorem cardSend_canonical : memoriesCanonical (cardSend n len s) := by
  unfold cardSend
  extract_lets +onlyGivenNames _
  refine ite_canonical h ?_
  extract_lets +onlyGivenNames s1
  have hs1 : memoriesCanonical s1 := (cardLevels_keeps canonical_steward _ _).mpr (.outside h)
  exact ite_canonical ((raiseLine_keeps canonical_sending (fun _ _ => rfl) (fun _ _ => rfl) _ _).mpr hs1) hs1

theorem cardCancel_canonical : memoriesCanonical (cardCancel n s) := ite_canonical h (cardEnd_canonical h)

theorem cardTx_canonical : memoriesCanonical (cardTx n z s) := ite_canonical (.outside h) h

theorem cardRx_canonical : memoriesCanonical (cardRx n s).2 := by
  unfold cardRx
  cases (s.slot n).rx with
  | nil => exact h
  | cons _ _ => exact .outside h

theorem cardCmd_canonical (hf : ∀ t, memoriesCanonical t → memoriesCanonical (w t)) : memoriesCanonical (cardCmd c n w s) :=
  ite_canonical (hf _ h) h

theorem cardSent_canonical : memoriesCanonical (cardSent n s) := by
  unfold cardSent
  split
  · exact forNat_canonical (.outside h) fun _ _ ht => (raiseLine_keeps canonical_sending (fun _ _ => rfl) (fun _ _ => rfl) _ _).mpr
        ht
  · exact h

theorem cardReceive_canonical : memoriesCanonical (cardReceive n z s) := by
  unfold cardReceive
  refine ite_canonical h ?_
  extract_lets +onlyGivenNames s0 _ s1
  have hs0 : memoriesCanonical s0 := cardSent_canonical h
  have hs1 : memoriesCanonical s1 := ite_canonical (.outside hs0) hs0
  exact ite_canonical (cardEnd_canonical hs1) ((raiseLine_keeps canonical_sending (fun _ _ => rfl) (fun _ _ => rfl) _ _).mpr
      (.outside hs1))

theorem execCardTransferDone_canonical : yieldsCanonical (execCardTransferDone sl j s) := by
  dsimp only [execCardTransferDone]
  refine .next (ite_canonical h ?_)
  cases j with
  | ok => exact ite_canonical (ite_canonical (.outside h) h) (cicPulse_canonical (cardEnd_canonical (cardSent_canonical h)))
  | parity => exact cardEnd_canonical h

theorem crdRead_canonical : memoriesCanonical (crdRead f off s).2 :=
  ite_snd_canonical h (ite_snd_canonical h (ite_snd_canonical h (ite_snd_canonical h (ite_snd_canonical (cardRx_canonical h) h))))

theorem crdWrite_canonical : memoriesCanonical (crdWrite f off v s) := by
  unfold crdWrite
  refine ite_canonical h ?_
  dsimp only
  refine ite_canonical ?_ (ite_canonical (.outside h) (ite_canonical (.outside h) (ite_canonical (cardTx_canonical h) h)))
  split
  · exact cardActivate_canonical h
  · exact cardDeactivate_canonical h
  · exact cardSend_canonical h
  · exact cardCancel_canonical h
  · exact h

theorem execSenseEdge_canonical : yieldsCanonical (execSenseEdge u level cap s) := by
  unfold execSenseEdge
  extract_lets +onlyGivenNames u _ _ s1 q
  have hs1 : memoriesCanonical s1 := .outside h
  refine .next ?_
  with_reducible refine ite_canonical h (ite_canonical hs1 ?_)
  extract_lets +onlyGivenNames _ _ s2 s3
  have hs2 : memoriesCanonical s2 := .outside hs1
  have hs3 : memoriesCanonical s3 := ite_canonical (cicPulse_canonical hs2) hs2
  exact ite_canonical ((raiseLine_keeps canonical_sending (fun _ _ => rfl) (fun _ _ => rfl) _ _).mpr hs3) hs3

theorem senseTake_canonical : memoriesCanonical (senseTake n s).2 := by
  unfold senseTake
  cases (s.sense n).fifo with
  | nil => exact h
  | cons _ _ => exact .outside h

theorem snsRead_canonical : memoriesCanonical (snsRead c f off s).2 :=
  ite_snd_canonical (ite_snd_canonical (.outside h) (ite_snd_canonical (.outside h) (ite_snd_canonical (.outside h)
    (ite_snd_canonical h h)))) (ite_snd_canonical (ite_snd_canonical h (ite_snd_canonical (senseTake_canonical h)
    (ite_snd_canonical h (ite_snd_canonical h h)))) h)

theorem snsWrite_canonical : memoriesCanonical (snsWrite f off v s) := ite_canonical (.outside h) h

theorem setUart_canonical : memoriesCanonical (setUart n f' s) := by
  unfold setUart
  extract_lets +onlyGivenNames _ _ _ _ s1 s2
  have hs1 : memoriesCanonical s1 := cicLevel_canonical (cicLevel_canonical (.outside h))
  have hs2 : memoriesCanonical s2 := ite_canonical ((raiseLine_keeps canonical_sending (fun _ _ => rfl)
      (fun _ _ => rfl) _ _).mpr hs1) hs1
  exact ite_canonical ((raiseLine_keeps canonical_sending (fun _ _ => rfl) (fun _ _ => rfl) _ _).mpr hs2) hs2

theorem uartPut_canonical : memoriesCanonical (uartPut n z s) := ite_canonical (setUart_canonical h) h

theorem uartTake_canonical : memoriesCanonical (uartTake n s).2 := by
  unfold uartTake
  cases (s.uart n).rx with
  | nil => exact h
  | cons _ _ => exact setUart_canonical h

theorem spiGo_canonical : memoriesCanonical (spiGo m count s) :=
  ite_canonical h (ite_canonical ((raiseLine_keeps canonical_sending (fun _ _ => rfl) (fun _ _ => rfl) _ _).mpr (.outside h))
    (.outside h))

theorem spiPut_canonical : memoriesCanonical (spiPut m v s) := ite_canonical (.outside h) h

theorem spiTake_canonical : memoriesCanonical (spiTake m s).2 := by
  unfold spiTake
  cases (s.spi m).rx with
  | nil | cons _ _ => exact .outside h

theorem serRead_canonical : memoriesCanonical (serRead f off s).2 :=
  ite_snd_canonical h (ite_snd_canonical (ite_snd_canonical h
    (ite_snd_canonical h (ite_snd_canonical (uartTake_canonical h) (ite_snd_canonical h h))))
    (ite_snd_canonical (ite_snd_canonical h (ite_snd_canonical (spiTake_canonical h) (ite_snd_canonical h h))) h))

theorem serWrite_canonical : memoriesCanonical (serWrite f off v s) :=
  ite_canonical (ite_canonical (setUart_canonical h) (ite_canonical (setUart_canonical h) (ite_canonical (uartPut_canonical h)
    (ite_canonical (setUart_canonical h) h)))) (ite_canonical (ite_canonical (.outside h) (ite_canonical (ite_canonical
    (.outside h) (ite_canonical (spiGo_canonical h) h)) (ite_canonical (spiPut_canonical h) (ite_canonical (.outside h) h)))) h)

theorem canReset_canonical : memoriesCanonical (canReset p k s) := by
  unfold canReset
  extract_lets +onlyGivenNames s1
  have hs1 : memoriesCanonical s1 := forNat_canonical h fun _ _ ht => ite_canonical
      (.outside (forNat_canonical ht fun _ _ hu => .outside hu)) ht
  exact canLevels_canonical (ite_canonical (.outside hs1) hs1)

theorem cardReset_canonical : memoriesCanonical (cardReset p n s) :=
  ite_canonical h ((cardLevels_keeps canonical_steward _ _).mpr (.outside (ite_canonical h (cardDeactivate_canonical h))))

theorem portReset_canonical : memoriesCanonical (portReset p s) :=
  forNat_canonical (forNat_canonical (cardReset_canonical (cardReset_canonical (forNat_canonical (forNat_canonical
    (canReset_canonical (canReset_canonical h)) fun _ _ ht => ite_canonical (setUart_canonical ht) ht) fun _ _ hu => ite_canonical
    (.outside hu) hu))) fun _ _ hv => ite_canonical (.outside hv) hv) fun _ _ hw => ite_canonical
    (.outside (feedSafe_canonical hw)) hw

end

end Sys2Proof.Machine
end

section
/-! SUPPORT. Memories stay in canonical form: window, replies, bundles (15, 14, 12). -/

namespace Sys2Proof.Machine

section
variable {s : State} {a b code kind l n node p svc : Nat} {fail final : Bool} {v : BitVec 16} {cs : Bytes} {c : Carrier}
  {mark : Char} {y : DirEnt} {e : Err} {x : HTxn} {ds : List (Nat × Nat)} {steps : List FlashStep} {ln : Ln} {q : Part1}
  {to_ : ReplyTo} {st : Staging} {t : Text} {arg : Word} (h : memoriesCanonical s)
include h

theorem hostStir_canonical : memoriesCanonical (hostStir s) := ite_canonical ((napStir_keeps canonical_levels _).mpr h) h

theorem leafArrives_canonical : memoriesCanonical (leafArrives b l ds s) := ite_canonical h (.outside h)

theorem hostArrives_canonical : memoriesCanonical (hostArrives x s) := by
  unfold hostArrives
  cases x with
  | slot _ _ _ => exact .outside h
  | leaf _ _ _ => exact leafArrives_canonical h
  | cell _ _ _ _ | line _ => exact .outside h

theorem gfHCross_canonical : memoriesCanonical (gfHCross s) := by
  unfold gfHCross
  cases s.gates.gfH with
  | nil => exact h
  | cons _ _ => exact hostArrives_canonical (.outside h)

theorem execMirrorUpdate_canonical : yieldsCanonical (execMirrorUpdate s) := by
  unfold execMirrorUpdate
  refine .next ?_
  cases List.findIdx? HTxn.isSlot s.gates.gfH with
  | none => exact h
  | some _ => exact forNat_canonical h fun _ _ ht => gfHCross_canonical ht

theorem freezeOn_canonical : memoriesCanonical (freezeOn s) := ite_canonical (.outside h) h

theorem freezeOff_canonical : memoriesCanonical (freezeOff s) := ite_canonical (.outside h) h

theorem cellWritten_canonical : memoriesCanonical (cellWritten n v s) :=
  ite_canonical h (ite_canonical (setLeaf_canonical h) (.outside (.outside h)))

theorem cellsUnbind_canonical : memoriesCanonical (cellsUnbind p s) :=
  cellLevels_canonical (forNat_canonical h fun _ _ ht => ite_canonical (.outside ht) ht)

theorem presentLine_canonical : memoriesCanonical (presentLine t s) := setLeaf_canonical (.outside h)

theorem rxRelease_canonical : memoriesCanonical (rxRelease s) := by
  unfold rxRelease
  refine ite_canonical h ?_
  dsimp only
  split
  · exact .outside h
  · exact presentLine_canonical (.outside (.outside h))

theorem txChars_canonical : memoriesCanonical (txChars cs s) := by
  unfold txChars
  extract_lets +onlyGivenNames _ _ _ _ s1
  have hs1 : memoriesCanonical s1 := ite_canonical h (.outside (.outside h))
  exact ite_canonical (setLeaf_canonical (.outside (.outside hs1))) hs1

theorem leafClear_canonical : memoriesCanonical (leafClear b v s) := .outside (.outside h)

theorem hostWrite_canonical : memoriesCanonical (hostWrite a v s) := by
  unfold hostWrite
  extract_lets +onlyGivenNames s1
  have hs1 : memoriesCanonical s1 := hostStir_canonical h
  exact ite_canonical (ite_canonical (freezeOn_canonical hs1) (ite_canonical (freezeOff_canonical hs1) hs1))
      (ite_canonical hs1 (ite_canonical (leafClear_canonical hs1)
      (ite_canonical (.outside hs1) (ite_canonical (cellWritten_canonical hs1)
      (ite_canonical (ite_canonical (rxRelease_canonical (.outside hs1)) (.outside hs1))
      (ite_canonical (txChars_canonical hs1) hs1))))))

theorem mboxLevel_canonical : memoriesCanonical (mboxLevel p s) := cicLevel_canonical h

theorem emit_canonical : memoriesCanonical (emit c t s) := (setCar_keeps canonical_cars _ _ _).mpr h

theorem sendLine_canonical : memoriesCanonical (sendLine c final kind t s) := by
  unfold sendLine
  cases c with
  | svc => exact ite_canonical (emit_canonical h) (emit_canonical h)
  | hst => exact emit_canonical h
  | win => exact (winSend_keeps canonical_lines _ _ _).mpr h
  | core _ => exact (toMailbox_keeps canonical_lines _ _ _ _ _).mpr h
  | chain _ _ => exact (sendOrune_keeps canonical_lines _ _ _ _ _ _).mpr h

theorem replyOne_canonical : memoriesCanonical (replyOne ln final mark t s) := sendLine_canonical h

theorem openTag_canonical : memoriesCanonical (openTag ln node s) := (setCar_keeps canonical_cars _ _ _).mpr h

theorem replyPart_canonical : memoriesCanonical (replyPart ln t s) :=
  ite_canonical ((replyText_keeps canonical_lines canonical_cars _ _ _ _ _).mpr h) h

theorem replyEarly_canonical : memoriesCanonical (replyEarly ln e s) := by
  unfold replyEarly
  cases ln.car with
  | core _ => exact h
  | _ => exact replyOne_canonical h

theorem callResult_canonical : memoriesCanonical (callResult b p svc arg code s) :=
  mirrorTrail_canonical (setCtx_canonical (.outside h))

theorem answerOk_canonical : memoriesCanonical (answerOk to_ t s) := by
  unfold answerOk
  cases to_ with
  | line _ => exact replyOk_canonical h
  | call _ _ _ _ => exact callResult_canonical h
  | cell _ => exact cellResult_canonical h
  | out _ => exact .outside h

theorem answerErr_canonical : memoriesCanonical (answerErr to_ e s) := by
  unfold answerErr
  cases to_ with
  | line _ => exact replyErr_canonical h
  | call _ _ _ _ => exact callResult_canonical (ite_canonical (.outside h) h)
  | cell _ => exact cellResult_canonical (ite_canonical (.outside h) h)
  | out _ => exact .outside (ite_canonical (.outside h) h)

theorem charterTake_canonical : memoriesCanonical (charterTake s) := by
  unfold charterTake
  extract_lets +onlyGivenNames _ s0
  have hs0 : memoriesCanonical s0 := flashSeen_canonical (.outside h)
  refine ite_canonical hs0 ?_
  extract_lets +onlyGivenNames _ _ s1
  have hs1 : memoriesCanonical s1 := flashSeen_canonical (.outside hs0)
  split
  · exact hs1
  · exact ite_canonical (.outside hs1) (.outside (.outside hs1))

theorem fbRun_canonical : memoriesCanonical (fbRun b steps s) := by
  unfold fbRun
  refine ite_canonical ?_ ?_
  · refine forAll_canonical h fun _ _ ht => ?_
    split
    · exact flashEffect_canonical ht
    · exact ht
  · extract_lets +onlyGivenNames s1
    have hs1 : memoriesCanonical s1 := (bankKick_keeps canonical_records _ _ _).mpr (.outside h)
    exact ite_canonical ((bankKick_keeps canonical_records _ _ _).mpr hs1) hs1

theorem dirAdd_canonical : memoriesCanonical (dirAdd y s) :=
  ite_canonical (fbRun_canonical (.outside (.outside h))) (fbRun_canonical (.outside (.outside h)))

theorem noteResult_canonical : memoriesCanonical (noteResult b code s) :=
  pubSlot_canonical (recordMake_canonical (setLeafD_canonical (.outside (.outside h))))

theorem partResult_canonical : memoriesCanonical (partResult b code s) := noteResult_canonical (dirAdd_canonical h)

theorem setStage_canonical : memoriesCanonical (setStage st s) := pubSlot_canonical (.outside h)

theorem setBunDone_canonical : memoriesCanonical (setBunDone s) := setStage_canonical h

theorem copyPart_canonical : memoriesCanonical (copyPart q fail s).2 := by
  unfold copyPart
  extract_lets +onlyGivenNames _ s1
  have hs1 : memoriesCanonical s1 := fbRun_canonical (.outside (dirAdd_canonical h))
  exact ite_snd_canonical (.outside hs1) (.outside (dirAdd_canonical (fbRun_canonical (.outside hs1))))

theorem copyBegin_canonical : memoriesCanonical (copyBegin q s) := fbRun_canonical (.outside (dirAdd_canonical (.outside h)))

end

end Sys2Proof.Machine
end

section
/-! SUPPORT. Memories stay in canonical form: the SEAL engine and the starts of persons (18, 06). -/

namespace Sys2Proof.Machine

theorem sealLoad_canonical {p a : Nat} {r : Option Bytes × State} (h : memoriesCanonical r.2) : memoriesCanonical (sealLoad p a r)
    := by
  unfold sealLoad
  split
  · exact .outside h
  · extract_lets +onlyGivenNames _ _
    split
    · exact .outside h
    · split
      · exact .outside ((foreignAccess_keeps canonical_reports (fun _ _ => rfl) _ _ _ _ _).mpr h)
      · exact .outside h

section
variable {s : State} {a b c code detail dst len mask n off p pr src status : Nat} {byOrder test wit : Bool} {bs : Bytes}
  {y : Bytes → SealIn → SealOut} {r : DivReg} {hd : ImgHead} {groups : List (List Nat)} {z : PRun} {f : ReplyTo → State → State}
  {x : SealIn → SealOut} {o : SealOut} {j : SealRun} {t : State} {v : Word} (h : memoriesCanonical s)
include h

theorem sealJob_canonical : memoriesCanonical (sealJob p v s) := by
  unfold sealJob
  refine ite_canonical (.outside h) (ite_canonical (.outside h) (ite_canonical (.outside h) ?_))
  cases bufCheck s p (BitVec.toNat v) 64 with
  | outside | foreign _ => exact .outside ((foreignAccess_keeps canonical_reports (fun _ _ => rfl) _ _ _ _ _).mpr h)
  | ok => exact sealLoad_canonical (ite_snd_canonical h (bufRead_canonical h))

theorem sealFinish_canonical : memoriesCanonical (sealFinish p status len s) := by
  unfold sealFinish
  cases (s.sealOf p).job with
  | none => exact h
  | some _ => exact cicPulse_canonical (.outside (ite_canonical (sramPut_canonical h) h))

theorem execSealJobDone_canonical : yieldsCanonical (execSealJobDone p s) := by
  unfold execSealJobDone
  refine .next ?_
  split
  · exact h
  · split
    · exact h
    · exact ite_canonical h (sealFinish_canonical h)

theorem sealAbort_canonical : memoriesCanonical (sealAbort p s) := sealFinish_canonical h

theorem sealWrite_canonical : memoriesCanonical (sealWrite p a bs s).2 := by
  unfold sealWrite
  refine ite_snd_canonical h ?_
  cases bufCheck s p a (List.length bs) with
  | outside | foreign _ => exact (foreignAccess_keeps canonical_reports (fun _ _ => rfl) _ _ _ _ _).mpr h
  | ok => exact sramPut_canonical h

theorem sealApply_canonical : memoriesCanonical (sealApply p j o s) := by
  unfold sealApply
  extract_lets +onlyGivenNames fin
  have hfin : ∀ r ok len, memoriesCanonical r.2 → memoriesCanonical (fin r ok len) := by
    intro r ok len hr
    dsimp only [fin]
    split
    · exact .outside hr
    · exact .outside hr
  split
  · exact .outside h
  · exact .outside h
  · exact hfin _ _ _ (sealWrite_canonical h)
  · exact hfin _ _ _ (sealWrite_canonical h)
  · extract_lets +onlyGivenNames r
    have hr : memoriesCanonical r.2 := sealWrite_canonical h
    split
    · exact .outside hr
    · exact hfin _ _ _ (sealWrite_canonical hr)
  · exact .outside (.outside h)

theorem sealServe_canonical : memoriesCanonical (sealServe p code x s) := by
  unfold sealServe
  cases (s.sealOf p).job with
  | none => exact h
  | some j =>
    refine ite_canonical h (ite_canonical h ?_)
    cases bufFails s p j with
    | some _ => exact .outside ((foreignAccess_keeps canonical_reports (fun _ _ => rfl) _ _ _ _ _).mpr h)
    | none =>
      dsimp -zeta only
      extract_lets +onlyGivenNames _ b1
      have hb1 : memoriesCanonical b1.2 := bufRead_canonical (bufRead_canonical h)
      split
      · exact sealApply_canonical hb1
      · exact .outside hb1

theorem sealServeRnd_canonical : memoriesCanonical (sealServeRnd p code n y s) := sealServe_canonical (.outside h)

theorem zeroizeEnd_canonical : memoriesCanonical (zeroizeEnd s) := lifeCheck_canonical (.outside (.outside h))

theorem zeroize_canonical : memoriesCanonical (zeroize detail s) :=
  pubSlot_canonical (zeroizeEnd_canonical (.outside (tamper_canonical (forNat_canonical
    (.outside h) fun _ _ ht => sealFinish_canonical ht))))

theorem newChallenge_canonical : memoriesCanonical (newChallenge s) := .outside (.outside h)

theorem sealRegWrite_canonical : memoriesCanonical (sealRegWrite p off v s) :=
  ite_canonical h (ite_canonical (sealJob_canonical h) (ite_canonical (.outside h) h))

theorem placeCode_canonical (e : placeCode p hd s = some t) : memoriesCanonical t := by
  unfold placeCode at e
  dsimp only at e
  split at e
  · cases e
  · obtain rfl := Option.some.inj e
    exact .outside (forAll_canonical h fun _ _ ht => .errors (setCore_canonical ht fun hk =>
      ⟨cellsPut_wf 0 _ _ _ (cellsClear_wf 0 _ _ _ hk.1), hk.2⟩))

theorem homeBanks_canonical : memoriesCanonical (homeBanks p groups s) := by
  unfold homeBanks
  refine forAll_canonical h fun _ _ ht => ?_
  refine ite_canonical ht ?_
  split
  · exact ht
  · exact ite_canonical ht (forAll_canonical ht fun _ _ hu => .outside hu)

theorem zeroNow_canonical : memoriesCanonical (zeroNow c s) :=
  forAll_canonical h fun _ _ ht => bankZeroed_canonical (forNat_canonical ht fun _ _ hu => putEarly_canonical hu)

theorem haltPerson_canonical : memoriesCanonical (haltPerson p z s) :=
  stopPerson_canonical (forAll_canonical h fun _ _ ht => drainAll_canonical ht)

theorem zeroSlots_canonical : memoriesCanonical (zeroSlots p s) := forNat_canonical h fun _ _ ht => .outside ht

theorem personReset_canonical : memoriesCanonical (personReset p s) :=
  reclaim_canonical (zeroSlots_canonical (cellsUnbind_canonical
    (cicReset_canonical (portReset_canonical (movReset_canonical (sealAbort_canonical h))))))

theorem answerMove_canonical (hf : ∀ a t, memoriesCanonical t → memoriesCanonical (f a t)) : memoriesCanonical (answerMove p f s) :=
  forAll_canonical (.outside h) fun _ _ ht => hf _ _ ht

theorem becomeDead_canonical : memoriesCanonical (becomeDead p s) := by
  unfold becomeDead
  exact answerMove_canonical (personReset_canonical (haltPerson_canonical (.outside h))) fun _ _ ht => answerErr_canonical ht

theorem suspend_canonical : memoriesCanonical (suspend p s) := by
  unfold suspend
  extract_lets +onlyGivenNames _ s1
  have hs1 : memoriesCanonical s1 := .outside (stopPerson_canonical h)
  refine answerMove_canonical (setLeaf_canonical (.outside ?_)) fun _ _ ht => answerErr_canonical ht
  split
  · exact .outside hs1
  · exact hs1

theorem enterCores_canonical : memoriesCanonical (enterCores p mask wit s) := by
  unfold enterCores
  extract_lets +onlyGivenNames _ _ _ _ s1
  have hs1 : memoriesCanonical s1 := .outside (.outside (cicUpdate_canonical (forAll_canonical (setRun_canonical
      (.outside h)) fun _ _ ht => pickPerson_canonical ht)))
  exact ite_canonical (recPerson1_canonical hs1) hs1

theorem checkFailed_canonical : memoriesCanonical (checkFailed p s) :=
  pubSlot_canonical (.outside (.outside (partResult_canonical
    (forNat_canonical (.outside (becomeDead_canonical h)) fun _ _ ht => pickPerson_canonical ht))))

theorem startFails_canonical : memoriesCanonical (startFails p test s) :=
  ite_canonical (checkFailed_canonical h) (becomeDead_canonical h)

theorem startRaw_canonical : memoriesCanonical (startRaw p mask test s) := by
  unfold startRaw
  split
  · exact becomeDead_canonical h
  · extract_lets +onlyGivenNames s1
    have hs1 : memoriesCanonical s1 := by
      dsimp only [s1]
      split
      · exact flashSeen_canonical h
      · exact h
    split
    · exact startFails_canonical hs1
    · split
      · exact startFails_canonical hs1
      · next t e =>
        have ht : memoriesCanonical t := placeCode_canonical (forAll_canonical hs1 fun _ _ hu => zeroNow_canonical hu) e
        extract_lets +onlyGivenNames _ s2
        have hs2 : memoriesCanonical s2 := homeBanks_canonical ht
        split
        · exact startFails_canonical hs2
        · extract_lets +onlyGivenNames _ load s3 _ s4 s5 s6 s7
          have hload : ∀ cs t, memoriesCanonical t → memoriesCanonical (load cs t) := by
            intro cs t ht
            dsimp only [load]
            split
            · exact forAll_canonical ht fun _ _ hu => dmemWrite_canonical (.errors hu)
            · exact ht
          have hs3 : memoriesCanonical s3 := zeroSlots_canonical (cellsUnbind_canonical (forAll_canonical hs2 hload))
          have hs4 : memoriesCanonical s4 := forNat_canonical hs3 fun _ _ hu => setCtx_canonical hu
          have hs7 : memoriesCanonical s7 := enterCores_canonical (.outside (.outside hs4))
          exact ite_canonical hs7 (answerMove_canonical hs7 fun _ _ hu => answerOk_canonical hu)

theorem checkBegin_canonical : memoriesCanonical (checkBegin p s) := by
  unfold checkBegin
  split
  · exact checkFailed_canonical h
  · exact startRaw_canonical (.outside h)

theorem startOn_canonical : memoriesCanonical (startOn p mask s) := by
  unfold startOn
  refine ite_canonical ?_ (startRaw_canonical h)
  split
  · exact startRaw_canonical h
  · split
    · exact startRaw_canonical (setBunDone_canonical (partResult_canonical h))
    · exact copyBegin_canonical (setRun_canonical (personReset_canonical (setStage_canonical h)))

theorem beginMove_canonical : memoriesCanonical (beginMove p mask s) :=
  cicUpdate_canonical (forAll_canonical (.outside (setRun_canonical (.outside
    (forAll_canonical h fun _ _ ht => drainAll_canonical ht)))) fun _ _ hu => pickPerson_canonical hu)

theorem displace_canonical : memoriesCanonical (displace p pr s) := by
  unfold displace
  refine forAll_canonical h fun _ _ ht => ?_
  split
  · exact beginMove_canonical ht
  · exact .outside (haltPerson_canonical ht)

theorem startAt_canonical : memoriesCanonical (startAt p mask s) := by
  unfold startAt
  cases maskPair mask with
  | none => exact startOn_canonical h
  | some _ =>
    dsimp -zeta only
    extract_lets +onlyGivenNames s1
    have hs1 : memoriesCanonical s1 := displace_canonical h
    exact ite_canonical (startOn_canonical hs1) (setRun_canonical (.outside hs1))

theorem placeAgain_canonical : memoriesCanonical (placeAgain p s) := by
  dsimp only [placeAgain]
  split
  · exact startAt_canonical (.outside h)
  · exact ite_canonical (suspend_canonical (.outside h)) (.outside (setRun_canonical (.outside h)))

theorem startWaiting_canonical : memoriesCanonical (startWaiting s) :=
  forAll_canonical h fun _ _ ht => ite_canonical ht (ite_canonical (placeAgain_canonical ht) (ite_canonical
    (startOn_canonical ht) ht))

theorem copyBank_canonical : memoriesCanonical (copyBank p src dst b s) :=
  .outside (setCore_canonical (.errors (eccRead_canonical (.errors h))) fun hk =>
    ⟨hk.1, cellsOver_wf 0 _ _ (cellsClear_wf 0 _ _ _ hk.2)⟩)

theorem cancelMove_canonical : memoriesCanonical (cancelMove p s) := by
  unfold cancelMove
  exact answerMove_canonical (.outside (cicUpdate_canonical (forAll_canonical (setRun_canonical
      (.outside h)) fun _ _ ht => pickPerson_canonical ht))) fun _ _ hu => answerErr_canonical hu

theorem completeMove_canonical : memoriesCanonical (completeMove p s) := by
  unfold completeMove
  extract_lets +onlyGivenNames _
  split
  · extract_lets +onlyGivenNames _ _ _ _ _ _ _ _ s1
    have hs1 : memoriesCanonical s1 := forAll_canonical (forAll_canonical (forAll_canonical
        (forAll_canonical h fun _ _ h0 => setCtx_canonical h0) fun _ _ h2 => ite_canonical h2
        (forAll_canonical (setCtx_canonical h2) fun _ _ h3 => copyBank_canonical h3)) fun _ _ h5 => ite_canonical h5
        (setCtx_canonical (forNat_canonical h5 fun _ _ h6 => ite_canonical (cusMove_canonical h6) h6))) fun _ _ h8 =>
        forNat_canonical h8 fun _ _ h9 => ite_canonical h9 (ite_canonical (cusMove_canonical h9) h9)
    exact startWaiting_canonical (answerMove_canonical (setLeaf_canonical (.outside (.outside (.outside (cicUpdate_canonical
        (forAll_canonical (setRun_canonical (movLost_canonical (.outside (ite_canonical hs1 (cicMove_canonical hs1)))))
        fun _ _ h14 => pickPerson_canonical h14)))))) fun _ _ h18 => answerOk_canonical h18)
  · exact h

theorem takeDown_canonical : memoriesCanonical (takeDown p s) :=
  personReset_canonical (stopPerson_canonical (.outside (forAll_canonical h fun _ _ ht => setCore_canonical ht id)))

theorem autoRestart_canonical : memoriesCanonical (autoRestart p s) := by
  unfold autoRestart
  refine ite_canonical (suspend_canonical h) ?_
  cases choosePlace s p with
  | none => exact suspend_canonical h
  | some _ => exact startAt_canonical (.outside h)

theorem orderedStart_canonical : memoriesCanonical (orderedStart p s) := by
  unfold orderedStart
  cases choosePlace s p with
  | none => exact .outside (setRun_canonical h)
  | some _ => exact startAt_canonical h

theorem checkPassed_canonical : memoriesCanonical (checkPassed p s) := by
  unfold checkPassed
  extract_lets +onlyGivenNames _ s1
  have hs1 : memoriesCanonical s1 := .outside (takeDown_canonical h)
  with_reducible refine orderedStart_canonical (partResult_canonical (forNat_canonical (setBunDone_canonical
      (stepCounter_canonical ?_)) ?_))
  · exact .outside hs1
  · exact fun _ _ ht => pickPerson_canonical ht

theorem fenceNow_canonical : memoriesCanonical (fenceNow c byOrder s) :=
  setLeaf_canonical (.outside (cicUpdate_canonical (.outside (setCore_canonical (zeroNow_canonical (reclaimCore_canonical h)) id))))

theorem unfence_canonical : memoriesCanonical (unfence c s) :=
  setLeaf_canonical (.outside (cicUpdate_canonical (.outside (setCore_canonical h id))))

theorem answerCore_canonical (hf : ∀ a t, memoriesCanonical t → memoriesCanonical (f a t)) : memoriesCanonical (answerCore c f s) :=
  forAll_canonical (.outside h) fun _ _ ht => hf _ _ ht

theorem tryFence_canonical : memoriesCanonical (tryFence c s) :=
  ite_canonical (answerCore_canonical (fenceNow_canonical h) fun _ _ ht => answerOk_canonical ht) h

theorem placesOn_canonical : memoriesCanonical (placesOn s) := by
  unfold placesOn
  extract_lets +onlyGivenNames s1
  have hs1 : memoriesCanonical s1 := forNat_canonical h fun _ _ ht => tryFence_canonical ht
  exact ite_canonical (startWaiting_canonical hs1) hs1

theorem clearCore_canonical : memoriesCanonical (clearCore c s) := by
  dsimp only [clearCore]
  refine placesOn_canonical (forAll_canonical h fun _ _ ht => ?_)
  split
  · refine beginMove_canonical ?_
    split
    · exact displace_canonical ht
    · exact ht
  · exact .outside (haltPerson_canonical ht)

theorem beginFence_canonical : memoriesCanonical (beginFence c s) := clearCore_canonical (.outside h)

theorem noteDivergence_canonical : memoriesCanonical (noteDivergence pr p r s) :=
  setLeafD_canonical (.outside (.outside (.outside h)))

theorem diverge_canonical : memoriesCanonical (diverge pr p r s) :=
  .outside (setCore_canonical (.outside (setCore_canonical (.outside (takeDown_canonical (noteDivergence_canonical h))) id)) id)

end

end Sys2Proof.Machine
end

section
/-! SUPPORT. Memories stay in canonical form: sentences (03 to 05). -/

namespace Sys2Proof.Machine

section
variable {s : State} {c code mode n p q : Nat} {x x0 : Ctx} {a : Acc1} {fenced : Bool} {late : Ctx → Ctx} {r : CusRun} {w : Fin 4}
  {f : Flt} {ex : List (Nat × Syl)} {b : Option (Nat × Syl)} {z : Option Sentence} {sn : Sentence} {s0 : State} {y : Syl}
  {next : Word} (h : memoriesCanonical s)
include h

theorem fetchEcc_canonical : memoriesCanonical (fetchEcc c p n s) := eccRead_canonical h

theorem stallOne_canonical : memoriesCanonical (stallOne c p s) := setCtx_canonical h

theorem doubleFault_canonical : memoriesCanonical (doubleFault c p code s) :=
  setLeaf_canonical (ite_canonical (checkFailed_canonical (.outside h)) (haltPerson_canonical (.outside h)))

theorem dropHeld_canonical : memoriesCanonical (dropHeld c s) := ite_canonical (.outside h) h

theorem takeFault_canonical : memoriesCanonical (takeFault c p f s) := by
  unfold takeFault
  extract_lets +onlyGivenNames _
  refine ite_canonical (setCtx_canonical h) ?_
  extract_lets +onlyGivenNames _ s1
  have hs1 : memoriesCanonical s1 := dropHeld_canonical h
  exact ite_canonical (doubleFault_canonical hs1) (setCtx_canonical hs1)

theorem takeStoreFault_canonical : memoriesCanonical (takeStoreFault c p s) := by
  dsimp only [takeStoreFault]
  cases (s.ctx c p).storeFaults with
  | nil => exact h
  | cons _ _ =>
    exact ite_canonical (setCtx_canonical h) (ite_canonical (takeFault_canonical h) (takeFault_canonical (setCtx_canonical h)))

theorem takeIrq_canonical : memoriesCanonical (takeIrq c p s) :=
  ite_canonical (setCtx_canonical h) (ite_canonical (takeFault_canonical h) (setCtx_canonical h))

theorem goTo_canonical : memoriesCanonical (goTo c q s) := cicUpdate_canonical (setCore_canonical (setCtx_canonical h) id)

theorem trySwitch_canonical : memoriesCanonical (trySwitch c s) := by
  unfold trySwitch
  extract_lets +onlyGivenNames _ _ _
  cases nextRunnable s c with
  | none => exact ite_canonical (setCore_canonical h id) h
  | some _ =>
    dsimp -zeta only
    extract_lets +onlyGivenNames _
    refine ite_canonical h (ite_canonical (takeFault_canonical h) ?_)
    extract_lets +onlyGivenNames s1
    have hs1 : memoriesCanonical s1 := goTo_canonical h
    exact ite_canonical (goTo_canonical hs1) hs1

theorem joinTrail_canonical : memoriesCanonical (joinTrail c s) :=
  ite_canonical h (ite_canonical (drainAll_canonical h) (ite_canonical (takeFault_canonical h) (goTo_canonical h)))

theorem issueLoad_canonical : memoriesCanonical (issueLoad s0 c p x0 fenced a s) := by
  unfold issueLoad
  extract_lets +onlyGivenNames _ _
  split
  · exact setCtx_canonical h
  · refine ite_canonical (ite_canonical (setCtx_canonical (eccRead_canonical h))
        (setCtx_canonical (forAll_canonical h fun _ _ ht => eccRead_canonical ht))) ?_
    extract_lets +onlyGivenNames _ _ _ s1
    have hs1 : memoriesCanonical s1 := setCtx_canonical (setCore_canonical h id)
    exact ite_canonical (drainAll_canonical hs1) hs1

theorem issueStore_canonical : memoriesCanonical (issueStore c x0 a s) := by
  unfold issueStore
  extract_lets +onlyGivenNames _
  refine ite_canonical ?_ (setCore_canonical h id)
  extract_lets +onlyGivenNames _ _ _ s1
  have hs1 : memoriesCanonical s1 := forAll_canonical h fun _ _ ht => ite_canonical (eccRead_canonical ht) (.errors ht)
  exact ite_canonical hs1 (dmemWrite_canonical hs1)

theorem rsPush_canonical : memoriesCanonical (rsPush c p mode next s) :=
  setCtx_canonical (ite_canonical (setCtx_canonical (dmemWrite_canonical (forAll_canonical h fun _ _ ht => .errors ht))) h)

theorem rsPop_canonical : memoriesCanonical (rsPop c p mode s).2 :=
  ite_snd_canonical (setCtx_canonical (forAll_canonical (ite_canonical (.outside h) h) fun _ _ ht => eccRead_canonical ht))
    (setCtx_canonical h)

theorem bFlow_canonical : memoriesCanonical (bFlow c p mode late x0 next b s) := by
  unfold bFlow
  cases b with
  | none => exact setCtx_canonical h
  | some q =>
    dsimp only
    cases q.2.op with
    | call | callr => exact setCtx_canonical (rsPush_canonical (setCtx_canonical h))
    | ret => exact setCtx_canonical (rsPop_canonical (setCtx_canonical h))
    | loop => exact ite_canonical (setCtx_canonical (setCtx_canonical h)) (setCtx_canonical (setCtx_canonical h))
    | br | brr | reti | lpop | mtc | mfc => exact setCtx_canonical (setCtx_canonical h)
    | fenceSl | publish => exact setCtx_canonical (drainAll_canonical (setCore_canonical h id))
    | scall => exact setCtx_canonical (drainAll_canonical (setCtx_canonical h))
    | wait =>
      exact ite_canonical (drainAll_canonical (setCtx_canonical h))
        (cicUpdate_canonical (setCtx_canonical (drainAll_canonical (setCtx_canonical h))))
    | _ => exact setCtx_canonical h

theorem cusServe_canonical : memoriesCanonical (cusServe c p r s) := by
  unfold cusServe
  extract_lets +onlyGivenNames s0 _
  have hs0 : memoriesCanonical s0 := ite_canonical h (.outside h)
  split
  · exact .outside hs0
  · extract_lets +onlyGivenNames s1
    have hs1 : memoriesCanonical s1 := setCtx_canonical (dropHeld_canonical hs0)
    exact ite_canonical (takeFault_canonical (ite_canonical hs1 (cusEffect_canonical hs1)))
        (setCtx_canonical (cusEffect_canonical hs1))

theorem cusTry_canonical : memoriesCanonical (cusTry c p s) := by
  dsimp only [cusTry]
  cases (s.ctx c p).cus with
  | none => exact h
  | some _ => exact ite_canonical h (cusServe_canonical h)

theorem issueGo_canonical : memoriesCanonical (issueGo c p x0 sn ex s) := by
  unfold issueGo
  extract_lets +onlyGivenNames _ _ s1 s2 _ _ _ s3 s4 s5 s6 _
  have hs2 : memoriesCanonical s2 := forAll_canonical (setCtx_canonical h) fun _ _ ht => setCtx_canonical ht
  have hs4 : memoriesCanonical s4 := forAll_canonical hs2 fun _ _ ht => issueLoad_canonical ht
  have hs5 : memoriesCanonical s5 := forAll_canonical hs4 fun _ _ ht => issueStore_canonical ht
  have hs6 : memoriesCanonical s6 := forAll_canonical hs5 fun _ _ ht => issueLoad_canonical ht
  split
  · exact bFlow_canonical hs6
  · exact cusTry_canonical (drainAll_canonical (setCtx_canonical hs6))

theorem issuePair_canonical : memoriesCanonical (issuePair c p x sn ex s) := by
  unfold issuePair
  split
  · exact diverge_canonical h
  · exact issueGo_canonical h

theorem issueFault_canonical : memoriesCanonical (issueFault c p x sn ex f s) := by
  unfold issueFault
  refine ite_canonical (drainAll_canonical (stallOne_canonical h)) (takeFault_canonical ?_)
  split
  · exact ite_canonical (cusEffect_canonical (.outside h)) h
  · exact h

theorem issueLegal_canonical : memoriesCanonical (issueLegal c p x sn s) := by
  dsimp only [issueLegal]
  split
  · exact issueFault_canonical h
  · split
    · exact takeFault_canonical h
    · exact ite_canonical (stallOne_canonical h) (ite_canonical (drainAll_canonical (stallOne_canonical (ite_canonical (.outside
          (.outside h)) h))) (issuePair_canonical h))

theorem attempt_canonical : memoriesCanonical (attempt c p x z s) := by
  unfold attempt
  refine ite_canonical (cusTry_canonical (drainAll_canonical (stallOne_canonical h))) ?_
  refine ite_canonical (takeStoreFault_canonical h) (ite_canonical (takeIrq_canonical h) ?_)
  cases z with
  | none => exact takeFault_canonical h
  | some z =>
    refine ite_canonical (takeFault_canonical h) ?_
    cases illegalOf x z with
    | some _ => exact takeFault_canonical h
    | none => exact ite_canonical (stallOne_canonical h) (issueLegal_canonical h)

theorem issue_canonical : memoriesCanonical (issue c z s) := by
  unfold issue
  extract_lets +onlyGivenNames _ s1
  have hs1 : memoriesCanonical s1 := joinTrail_canonical h
  refine ite_canonical hs1 (ite_canonical (trySwitch_canonical hs1) ?_)
  extract_lets +onlyGivenNames _ u2
  have hu2 : memoriesCanonical u2 := trySwitch_canonical (mirrorTrail_canonical (attempt_canonical (setCtx_canonical hs1)))
  exact ite_canonical (pickPerson_canonical hu2) hu2

theorem issueOne_canonical : memoriesCanonical (issueOne w y s) := issue_canonical h

end

end Sys2Proof.Machine
end

section
/-! SUPPORT. Memories stay in canonical form: service calls, witness pairs, orders (06, 07, 14). -/

namespace Sys2Proof.Machine

section
variable {s : State} {a action at_ c fuel i n p party pr seq src svc v wseq : Nat} {clock fb3 ok pass : Bool} {o q u : Order}
  {bank core : Fin 4} {z : Act} {data : Bytes} {e : Err} {m : FbDone} {e' : FlashEnd} {isl : Island} {steps : List FlashStep}
  {w : List Nat} {len : List Nat → Nat} {l : List Order} {dests : List ReplyTo} {ln : Ln}
  {f : Nat → ReplyTo → List Nat → State → State} {x : Nat → ReplyTo → State → State} {y : Nat → State → Nat × State} {j : Obj}
  {saved : Option Saved} {r : RecDone} {d : ReplyTo} {act : State → Nat → Act} {t : Text} {arg : Word} (h : memoriesCanonical s)
include h

theorem takeCall_canonical : memoriesCanonical (takeCall c p s) := mirrorTrail_canonical (setCtx_canonical h)

theorem serve_canonical (hf : ∀ a b t, memoriesCanonical t → memoriesCanonical (x a b t)) :
    memoriesCanonical (serve core svc arg x s) := by
  unfold serve
  split
  · exact h
  · exact hf _ _ _ (takeCall_canonical (.outside h))

theorem serveNow_canonical (hf : ∀ a t, memoriesCanonical t → memoriesCanonical (y a t).2) :
    memoriesCanonical (serveNow core svc arg y s) := by
  unfold serveNow
  refine serve_canonical h fun _ _ _ ht => ?_
  dsimp only
  split
  · exact answerOk_canonical (hf _ _ ht)
  · exact answerErr_canonical (hf _ _ ht)

theorem bufOk_canonical : memoriesCanonical (bufOk p c a n s).2 := by
  unfold bufOk
  cases bufCheck s p a n with
  | ok | outside => exact h
  | foreign _ => exact (foreignAccess_keeps canonical_reports (fun _ _ => rfl) _ _ _ _ _).mpr h

theorem bufGet_canonical : memoriesCanonical (bufGet p c a n s).2 := by
  unfold bufGet
  extract_lets +onlyGivenNames r0
  have hr0 : memoriesCanonical r0.2 := bufOk_canonical h
  exact ite_snd_canonical (bufRead_canonical hr0) hr0

theorem serveDesc_canonical (hf : ∀ a b c t, memoriesCanonical t → memoriesCanonical (f a b c t)) :
    memoriesCanonical (serveDesc core svc arg f s) := by
  unfold serveDesc
  refine ite_canonical h (serve_canonical h fun _ _ _ ht => ?_)
  split
  · next t e => exact answerErr_canonical (snd_canonical e (bufGet_canonical ht))
  · next t e => exact hf _ _ _ _ (snd_canonical e (bufGet_canonical ht))

theorem serveBuf_canonical (hf : ∀ a b c t, memoriesCanonical t → memoriesCanonical (f a b c t)) :
    memoriesCanonical (serveBuf core svc arg len f s) :=
  ite_canonical h (serveDesc_canonical h fun _ _ _ _ ht => hf _ _ _ _ ht)

theorem descPut_canonical : memoriesCanonical (descPut a i v s) := sramPut_canonical h

theorem cellBind_canonical : memoriesCanonical (cellBind p arg s).2 := by
  dsimp only [cellBind]
  refine ite_snd_canonical h ?_
  cases bindOf s arg with
  | none => exact h
  | some _ => exact ite_snd_canonical h (ite_snd_canonical h (.outside h))

theorem cellTake_canonical : memoriesCanonical (cellTake p d a s) := by
  unfold cellTake
  split
  · exact answerErr_canonical h
  · exact answerOk_canonical (cellLevels_canonical (.outside (.outside (descPut_canonical h))))

theorem cellAnswer_canonical : memoriesCanonical (cellAnswer p arg s).2 := by
  unfold cellAnswer
  extract_lets +onlyGivenNames _ _ _ _
  split
  · exact h
  · split
    · exact h
    · with_reducible exact cellLevels_canonical (cellResult_canonical h)

theorem selftestFails_canonical : memoriesCanonical (selftestFails c s) := by
  unfold selftestFails
  extract_lets +onlyGivenNames _ s1
  have hs1 : memoriesCanonical s1 := forAll_canonical (setLeaf_canonical (setCore_canonical h id)) fun _ _ ht => takeDown_canonical
      ht
  exact forAll_canonical (ite_canonical hs1 (fenceNow_canonical hs1)) fun _ _ hu => autoRestart_canonical hu

theorem pairTested_canonical : memoriesCanonical (pairTested pr s) := ite_canonical h (autoRestart_canonical (.outside h))

theorem selftestDone_canonical : memoriesCanonical (selftestDone c pass s) := by
  unfold selftestDone
  extract_lets +onlyGivenNames why _ s0 s1
  have hs0 : memoriesCanonical s0 := setCore_canonical (.outside h) id
  have hs1 : memoriesCanonical s1 := ite_canonical (setCore_canonical hs0 id) (selftestFails_canonical hs0)
  clear_value why s1
  split
  · exact ite_canonical
      (startWaiting_canonical (answerCore_canonical (unfence_canonical hs1) fun _ _ ht => answerOk_canonical ht))
      (answerCore_canonical hs1 fun _ _ ht => answerErr_canonical ht)
  · exact pairTested_canonical hs1

theorem beginLift_canonical : memoriesCanonical (beginLift c s) := setCore_canonical (.outside h) id

theorem handoverGoes_canonical : memoriesCanonical (handoverGoes p s) := by
  unfold handoverGoes
  extract_lets +onlyGivenNames _ _
  refine ite_canonical h (ite_canonical (placesOn_canonical (cancelMove_canonical h)) (ite_canonical h ?_))
  extract_lets +onlyGivenNames _ s1
  have hs1 : memoriesCanonical s1 := ite_canonical (mirrorTrail_canonical (takeFault_canonical h)) h
  exact ite_canonical hs1 (placesOn_canonical (forAll_canonical (completeMove_canonical hs1) fun _ _ ht => clearCore_canonical ht))

theorem execPersonDeferredStart_canonical : yieldsCanonical (execPersonDeferredStart p s) := by
  dsimp only [execPersonDeferredStart]
  refine .next ?_
  refine ite_canonical ?_ h
  cases choosePlace s p with
  | none => exact h
  | some _ => exact startAt_canonical (takeDown_canonical h)

theorem islandOff_canonical : memoriesCanonical (islandOff pr s) :=
  .outside (.errors (setCore_canonical (reclaimCore_canonical
    (.errors (setCore_canonical (reclaimCore_canonical h) fun _ => ⟨rfl, rfl⟩))) fun _ => ⟨rfl, rfl⟩))

theorem islandClose_canonical : memoriesCanonical (islandClose pr s) :=
  ite_canonical (.outside h) (islandOff_canonical (.outside h))

theorem pairGlitch_canonical : memoriesCanonical (pairGlitch pr clock s) := by
  unfold pairGlitch
  exact placesOn_canonical (forAll_canonical (islandClose_canonical (.outside (forAll_canonical (forAll_canonical
      (setLeaf_canonical (setLeaf_canonical (tamper_canonical h))) fun _ _ ht => setCore_canonical ht id) fun _ _ hu =>
      takeDown_canonical (noteDivergence_canonical hu)))) fun _ _ hv => ite_canonical (checkFailed_canonical hv)
      (autoRestart_canonical hv))

theorem execIslandGlitch_canonical : yieldsCanonical (execIslandGlitch isl clock s) := by
  dsimp only [execIslandGlitch]
  refine .next ?_
  cases isl with
  | pairA | pairB => exact ite_canonical (pairGlitch_canonical h) h
  | fabric | port | host => exact ite_canonical (setLeaf_canonical (tamper_canonical (beginStart_canonical h))) h
  | sentinel => exact lifeCheck_canonical (vstbyLoss_canonical h)

theorem placeOne_canonical : memoriesCanonical (placeOne saved p s) := by
  dsimp only [placeOne]
  refine ite_canonical h (ite_canonical (becomeDead_canonical h) ?_)
  refine ite_canonical ?_ ?_
  · split
    · exact startOn_canonical h
    · exact suspend_canonical h
  · split
    · exact startOn_canonical h
    · split
      · exact startOn_canonical h
      · exact suspend_canonical h

theorem placeAll_canonical : memoriesCanonical (placeAll saved s) := forAll_canonical h fun _ _ ht => placeOne_canonical ht

theorem refusedSide_canonical : memoriesCanonical (refusedSide party z e s) := by
  unfold refusedSide
  extract_lets +onlyGivenNames target
  split
  · exact ite_canonical (setLeaf_canonical (.outside h)) h
  · split
    · exact setLeaf_canonical (.outside h)
    · split
      · exact h
      · extract_lets +onlyGivenNames _ s1
        have hs1 : memoriesCanonical s1 := flashSeen_canonical (.outside h)
        split
        · exact noteResult_canonical hs1
        · exact hs1
  · split
    · cases target with
      | none => exact h
      | some t => exact noteResult_canonical h
    · exact h
  · exact h

theorem answerAll_canonical : memoriesCanonical (answerAll dests t s) := forAll_canonical h fun _ _ ht => answerOk_canonical ht

theorem awaitPerson_canonical : memoriesCanonical (awaitPerson p dests s) := .outside (answerAll_canonical h)

theorem cancelRetire_canonical : memoriesCanonical (cancelRetire src party s) := by
  unfold cancelRetire
  cases s.stw.retire with
  | none => exact h
  | some _ => exact pubSlot_canonical (.outside h)

theorem stopAll_canonical : memoriesCanonical (stopAll s) :=
  forAll_canonical h fun _ _ ht => ite_canonical ht (.outside (haltPerson_canonical ht))

theorem retireNow_canonical : memoriesCanonical (retireNow s) :=
  pubSlot_canonical (stopAll_canonical (zeroize_canonical (.outside h)))

theorem enrolNow_canonical : memoriesCanonical (enrolNow s) := placeAll_canonical (lifeCheck_canonical (.outside (.outside h)))

theorem execRetireLapse_canonical : yieldsCanonical (execRetireLapse s) := by
  unfold execRetireLapse
  refine .next ?_
  cases s.stw.retire with
  | none => exact h
  | some _ => exact pubSlot_canonical (.outside h)

theorem stageOpen_canonical : memoriesCanonical (stageOpen party c s) := pubSlot_canonical (.outside (dirAdd_canonical h))

theorem stageWrite_canonical : memoriesCanonical (stageWrite at_ data s) :=
  ite_canonical (pubSlot_canonical (.outside (.outside h))) (.outside h)

theorem stageClose_canonical : memoriesCanonical (stageClose s) :=
  setStage_canonical (setLeaf_canonical (dirAdd_canonical (flashSeen_canonical h)))

theorem stageDiscard_canonical : memoriesCanonical (stageDiscard party s) := pubSlot_canonical (.outside (dirAdd_canonical h))

theorem activateAccept_canonical : memoriesCanonical (activateAccept s) :=
  setStage_canonical (setLeaf_canonical (dirAdd_canonical (forAll_canonical h fun _ _ ht => .outside ht)))

theorem restartPerson_canonical : memoriesCanonical (restartPerson p s) :=
  ite_canonical h (orderedStart_canonical (takeDown_canonical h))

theorem fbDone_canonical : memoriesCanonical (fbDone m ok s) := by
  dsimp only [fbDone]
  cases m with
  | entry => exact .outside h
  | answer _ _ => exact ite_canonical (answerAll_canonical h) (forAll_canonical h fun _ _ ht => answerErr_canonical ht)
  | write _ _ _ =>
    exact ite_canonical (answerAll_canonical (ite_canonical h (.outside h)))
        (forAll_canonical (ite_canonical h (.outside h)) fun _ _ hu => answerErr_canonical hu)
  | charter _ _ =>
    exact ite_canonical (answerAll_canonical (.outside h)) (forAll_canonical (.outside h) fun _ _ hv => answerErr_canonical hv)
  | restart => exact restartDevice_canonical h

theorem fbThen_canonical : memoriesCanonical (fbThen steps m s) :=
  ite_canonical (fbDone_canonical (fbRun_canonical h)) (fbRun_canonical (.outside h))

theorem copyDone_canonical : memoriesCanonical (copyDone ok s) := by
  unfold copyDone
  split
  · exact h
  · split
    · exact .outside h
    · exact ite_canonical (becomeDead_canonical (setBunDone_canonical (partResult_canonical (.outside h))))
          (ite_canonical (fbRun_canonical (.outside h)) (checkBegin_canonical (pubSlot_canonical (.outside (dirAdd_canonical
          (.outside h))))))

theorem copyShown_canonical : memoriesCanonical (copyShown s) := by
  unfold copyShown
  cases s.bun.copying with
  | none => exact h
  | some _ => exact ite_canonical h (pubSlot_canonical (.outside h))

theorem fbPump_canonical : memoriesCanonical (fbPump fuel s) := by
  induction fuel generalizing s with
  | zero => exact h
  | succ f ih =>
    unfold fbPump
    dsimp only
    split
    · exact h
    · split
      · refine ih ?_
        split
        · exact fbDone_canonical (.outside h)
        · exact .outside h
      · exact ih ((bankKick_keeps canonical_records _ _ _).mpr h)
      · split
        · exact h
        · split
          · exact ih (copyDone_canonical (.outside h))
          · exact ih ((bankKick_keeps canonical_records _ _ _).mpr h)
          · exact h

theorem applyAct_canonical : memoriesCanonical (applyAct z o dests s) := by
  unfold applyAct
  cases z with
  | hold => exact answerAll_canonical (openHold_canonical (tamper_canonical (cancelRetire_canonical h)))
  | release => exact answerAll_canonical (releaseHolds_canonical (cancelRetire_canonical h))
  | commission => exact answerAll_canonical (lifeCheck_canonical (.outside (cancelRetire_canonical h)))
  | enrol => exact answerAll_canonical (enrolNow_canonical (cancelRetire_canonical h))
  | retire =>
    dsimp -zeta only
    cases o.dest with
    | line _ => exact answerAll_canonical (pubSlot_canonical (setLeaf_canonical (.outside h)))
    | _ => exact h
  | confirm => exact answerAll_canonical (retireNow_canonical h)
  | start _ =>
    dsimp -zeta only
    extract_lets +onlyGivenNames s1
    have hs1 : memoriesCanonical s1 := awaitPerson_canonical h
    split
    · exact hs1
    · exact startAt_canonical hs1
  | stop _ => exact answerAll_canonical (haltPerson_canonical h)
  | restart _ | resume _ => exact restartPerson_canonical (awaitPerson_canonical h)
  | promote _ _ => exact beginMove_canonical (displace_canonical (awaitPerson_canonical h))
  | demote _ _ => exact beginMove_canonical (awaitPerson_canonical h)
  | fence _ => exact beginFence_canonical (.outside (answerAll_canonical h))
  | lift _ pass =>
    dsimp -zeta only
    extract_lets +onlyGivenNames s2
    have hs2 : memoriesCanonical s2 := beginLift_canonical (.outside h)
    cases pass with
    | some _ => exact selftestDone_canonical hs2
    | none => exact hs2
  | feed _ _ => exact answerAll_canonical (feedOrder_canonical h)
  | discard => exact fbThen_canonical (stageDiscard_canonical h)
  | openB _ => exact fbThen_canonical (stageOpen_canonical h)
  | writeB _ _ => exact fbThen_canonical (stageWrite_canonical h)
  | closeB => exact fbThen_canonical (stageClose_canonical h)
  | activate _ _ =>
    dsimp -zeta only
    extract_lets +onlyGivenNames _ _ s3
    have hs3 : memoriesCanonical s3 := fbThen_canonical (activateAccept_canonical h)
    exact ite_canonical (fbThen_canonical hs3) (ite_canonical (forAll_canonical hs3 fun _ _ ht => restartPerson_canonical ht) hs3)
  | setTime _ _ => exact answerAll_canonical (setTime_canonical h)
  | installCharter _ => exact fbThen_canonical (.outside h)
  | baseline _ _ _ =>
    exact ite_canonical ((baseAnswer_keeps canonical_chain _ _).mpr ((baseDone_keeps canonical_chain _ _).mpr h)) (.outside h)

theorem submit_canonical : memoriesCanonical (submit src party z d s) := by
  unfold submit
  split
  · exact answerErr_canonical (refusedSide_canonical h)
  · exact .outside (ite_canonical (cancelRetire_canonical h) h)

theorem loseOrder_canonical : memoriesCanonical (loseOrder q j u s) := by
  have hlog : ∀ q won (t : State), memoriesCanonical t → memoriesCanonical (logConflict q won j t) := fun _ _ _ =>
    (logEvent_keeps canonical_reports _ _ _ _ _).mpr
  unfold loseOrder
  extract_lets +onlyGivenNames s1 s2
  have hs1 : memoriesCanonical s1 := hlog q false _ (hlog u true s h)
  exact answerErr_canonical (setLeafD_canonical hs1)

theorem applyOrder_canonical : memoriesCanonical (applyOrder l q s) := by
  dsimp only [applyOrder]
  refine ite_canonical h ?_
  split
  · exact forAll_canonical (refusedSide_canonical h) fun _ _ ht => answerErr_canonical ht
  · exact applyAct_canonical h

theorem applyAll_canonical : memoriesCanonical (applyAll fuel l s) := by
  induction fuel generalizing l s with
  | zero => exact h
  | succ f ih =>
    cases l with
    | nil => exact h
    | cons q r => exact ih (applyOrder_canonical h)

theorem retireCut_canonical : memoriesCanonical (retireCut l s) := by
  unfold retireCut
  split
  · exact h
  · split
    · exact ite_canonical (cancelRetire_canonical h) h
    · exact h

theorem slotEnd_canonical : memoriesCanonical (slotEnd s) :=
  retireCut_canonical (applyAll_canonical (forAll_canonical (.outside h) fun _ _ ht => loseOrder_canonical ht))

theorem execDecisionSlotEnd_canonical : yieldsCanonical (execDecisionSlotEnd s) := by
  unfold execDecisionSlotEnd
  refine .next ?_
  cases s.isl.power with
  | run | starting => exact slotEnd_canonical h
  | nap => exact .outside h
  | _ => exact h

theorem cellOrder_canonical : memoriesCanonical (cellOrder n v wseq s) := by
  dsimp only [cellOrder]
  split
  · exact h
  · exact ite_canonical (cellResult_canonical h) (cellLevels_canonical (.outside h))
  · split
    · exact cellResult_canonical h
    · exact submit_canonical h

theorem outCtrl_canonical : memoriesCanonical (outCtrl p n arg s) := by
  unfold outCtrl
  split
  · exact submit_canonical h
  · exact submit_canonical h
  · exact h

theorem witnessCall_canonical : memoriesCanonical (witnessCall core action arg act s) :=
  ite_canonical h (serve_canonical h fun _ _ _ ht => submit_canonical ht)

theorem execStageWrite_canonical : yieldsCanonical (execStageWrite core arg s) := by
  unfold execStageWrite
  refine .next (serveBuf_canonical h fun _ _ _ _ ht => ?_)
  dsimp only
  split
  · exact answerErr_canonical ht
  · refine ite_canonical (answerErr_canonical ht) ?_
    split
    · next t e => exact answerErr_canonical (snd_canonical e (bufGet_canonical ht))
    · next t e => exact submit_canonical (snd_canonical e (bufGet_canonical ht))

theorem execSelftestBudgetExpiry_canonical : yieldsCanonical (execSelftestBudgetExpiry s) := by
  unfold execSelftestBudgetExpiry
  refine .next ?_
  cases s.bun.check with
  | some _ => exact checkFailed_canonical h
  | none => exact h

theorem recordAppend_canonical : memoriesCanonical (recordAppend c p arg d w s) := by
  unfold recordAppend
  extract_lets +onlyGivenNames n
  have hget : memoriesCanonical (if n = 0 then (some [], s) else bufGet p c (w.getD 0 0) n s).2 :=
    ite_snd_canonical h (bufGet_canonical h)
  split
  · exact answerErr_canonical h
  · split
    · exact answerErr_canonical h
    · split
      · exact answerErr_canonical h
      · dsimp only
        split
        · next t e => exact answerErr_canonical (snd_canonical e hget)
        · next bs t e => exact (recordDue_keeps canonical_records _ _).mpr (snd_canonical e hget)

theorem recordRead_canonical : memoriesCanonical (recordRead c p arg d w s) := by
  unfold recordRead
  split
  · exact answerErr_canonical h
  · have hb : memoriesCanonical (bufOk p c (w.getD 0 0) 560 s).2 := bufOk_canonical h
    generalize bufOk p c (w.getD 0 0) 560 s = q at hb
    obtain ⟨ok, t⟩ := q
    extract_lets +onlyGivenNames b s1
    have hs1 : memoriesCanonical s1 := hb
    split
    · exact answerErr_canonical hs1
    · split
      · exact answerErr_canonical hs1
      · extract_lets +onlyGivenNames b2 _
        have hb2 : memoriesCanonical b2.2 := flashShown_canonical hs1
        exact answerOk_canonical (descPut_canonical (sramPut_canonical (recNoteRead_canonical hb2)))

theorem recordInfo_canonical : memoriesCanonical (recordInfo p arg d s) :=
  ite_canonical (answerErr_canonical h) (answerOk_canonical (descPut_canonical (descPut_canonical (descPut_canonical
    (descPut_canonical h)))))

theorem readRecordSeq_canonical : memoriesCanonical (readRecordSeq ln seq fb3 s) := by
  unfold readRecordSeq
  cases recFind s seq with
  | none => exact replyErr_canonical h
  | some _ =>
    refine ite_canonical (.outside h) ?_
    extract_lets +onlyGivenNames _ _ _ _ _ t1
    have ht1 : memoriesCanonical t1 := forNat_canonical (recNoteRead_canonical h) fun _ _ ht => replyPart_canonical ht
    exact ite_canonical (replyErr_canonical ht1) (replyOk_canonical ht1)

theorem recReport_canonical : memoriesCanonical (recReport r s) := by
  unfold recReport
  split
  · exact answerOk_canonical (descPut_canonical h)
  · exact answerErr_canonical h
  · exact markCopied_canonical h
  · exact h

theorem readsWaiting_canonical : memoriesCanonical (readsWaiting s) :=
  ite_canonical h (forAll_canonical (.outside h) fun _ _ ht => readRecordSeq_canonical ht)

theorem flashNext_canonical : memoriesCanonical (flashNext s) := by
  unfold flashNext
  extract_lets +onlyGivenNames r s1
  have hs1 : memoriesCanonical s1 := forAll_canonical (recAdvance_canonical (copyShown_canonical h)) fun _ _ ht =>
      recReport_canonical ht
  exact readsWaiting_canonical (fbPump_canonical hs1)

theorem execFlashOpDone_canonical : yieldsCanonical (execFlashOpDone bank e' s) := by
  unfold execFlashOpDone
  extract_lets +onlyGivenNames _ _
  refine .next ?_
  split
  · exact flashNext_canonical h
  · extract_lets +onlyGivenNames s1
    have hs1 : memoriesCanonical s1 := recBankDone_canonical (bankEnd_canonical h)
    exact flashNext_canonical (ite_canonical (.outside hs1) hs1)

theorem tamperRead_canonical : memoriesCanonical (tamperRead c p arg d w s) := by
  unfold tamperRead
  refine ite_canonical (answerErr_canonical h) ?_
  extract_lets +onlyGivenNames _ _ _
  refine ite_canonical (answerOk_canonical (descPut_canonical h)) ?_
  extract_lets +onlyGivenNames b0
  have hb0 : memoriesCanonical b0.2 := bufOk_canonical h
  exact ite_canonical (answerErr_canonical hb0) (answerOk_canonical (descPut_canonical (sramPut_canonical hb0)))

end

end Sys2Proof.Machine
end

section
/-! SUPPORT. Memories stay in canonical form: sessions and the pairs of the vocabulary (14). -/

namespace Sys2Proof.Machine

section
variable {s : State} {q : Err × Bool} {ln : Ln} (h : memoriesCanonical s)
include h

theorem refuseTag_canonical : memoriesCanonical (refuseTag ln q s) := replyEarly_canonical h

end

/-- What the pair of a line does, if it is one, keeps the memories in canonical form. -/
def pairCanonical (d : Except Err PairDo) : Prop := ∀ p, d = .ok p → ∀ t, memoriesCanonical t → memoriesCanonical (p.act t)

theorem lineHere_canonical {ln : Ln} {d : Except Err PairDo} {s : State} (hd : pairCanonical d) (h : memoriesCanonical s) :
    memoriesCanonical (lineHere ln d s) := by
  unfold lineHere
  split
  · exact replyErr_canonical h
  · exact ite_canonical (replyErr_canonical h) (hd _ rfl _ h)

theorem takeLine_canonical {ln : Ln} {d : Except Err PairDo} {s : State} (hd : pairCanonical d) (h : memoriesCanonical s) :
    memoriesCanonical (takeLine ln d s) := by
  unfold takeLine
  split
  · exact h
  · extract_lets +onlyGivenNames _ s1
    have hs1 : memoriesCanonical s1 := (setCar_keeps canonical_cars _ _ _).mpr (.outside (napEnd_canonical h))
    split
    · exact refuseTag_canonical hs1
    · exact lineHere_canonical hd (openTag_canonical hs1)

section
variable {s : State} {at_ i n p pr : Nat} {cert data proof : Bytes} {name reason : Text} {x : Act} {v : Byte} {y : CardAnswer}
  {w : CardWait} {c : Carrier} {ch : ChanArg} {sl : Fin 2} {ln : Ln} {a : Option CardAnswer} {tol : Option Nat} {k : SessArg}
  (h : memoriesCanonical s)
include h

theorem lineOrder_canonical : memoriesCanonical (lineOrder ln x s) := submit_canonical h

theorem closeSession_canonical : memoriesCanonical (closeSession ln s) := replyOk_canonical (sessionEnd_canonical h)

theorem challenge_canonical : memoriesCanonical (challenge c k s).2 := (setCar_keeps canonical_cars _ _ _).mpr (.outside h)

theorem proveSession_canonical : memoriesCanonical (proveSession ln proof s) := by
  dsimp only [proveSession]
  split
  · exact replyErr_canonical h
  · exact ite_canonical (replyOk_canonical ((proofPassed_keeps canonical_sessions _ _ _).mpr h))
        (replyErr_canonical ((proofFailed_keeps canonical_replies _ _).mpr h))
  · exact replyErr_canonical ((proofFailed_keeps canonical_replies _ _).mpr h)

theorem cardTake_canonical : memoriesCanonical (cardTake n s) :=
  ite_canonical (.outside (.outside h)) (cardStart_canonical (.outside h))

theorem cardAsk_canonical : memoriesCanonical (cardAsk n w cert s) := by
  unfold cardAsk
  split
  · exact .outside h
  · exact cardDone_canonical h

theorem cardShown_canonical : memoriesCanonical (cardShown n w cert s) := ite_canonical (cardAsk_canonical h) (cardDone_canonical h)

theorem cardAtOnce_canonical : memoriesCanonical (cardAtOnce n ln y s) := by
  unfold cardAtOnce
  extract_lets +onlyGivenNames s1
  have hs1 : memoriesCanonical s1 := cardShown_canonical (.outside h)
  split
  · exact cardDone_canonical (.outside hs1)
  · exact hs1

theorem openCard_canonical : memoriesCanonical (openCard ln n a s) := by
  unfold openCard
  extract_lets +onlyGivenNames _
  refine ite_canonical (replyErr_canonical h) (ite_canonical (replyErr_canonical h) ?_)
  extract_lets +onlyGivenNames s1
  have hs1 : memoriesCanonical s1 := cardTake_canonical (challenge_canonical h)
  cases a with
  | some _ => exact cardAtOnce_canonical hs1
  | none => exact .outside hs1

theorem openSession_canonical : memoriesCanonical (openSession ln k a s) := by
  dsimp only [openSession]
  split
  · exact replyErr_canonical h
  · refine ite_canonical (replyErr_canonical h) ?_
    split
    · exact ite_canonical (replyOk_canonical (challenge_canonical h)) (replyErr_canonical h)
    · exact replyOk_canonical (challenge_canonical h)
    · exact ite_canonical (replyOk_canonical (challenge_canonical h)) (replyErr_canonical h)
    · exact openCard_canonical h

theorem cardByte_canonical : memoriesCanonical (cardByte n w v s) := by
  dsimp only [cardByte]
  split
  · exact h
  · exact .outside h
  · cases w.asked with
    | none => exact ite_canonical (.outside h) (cardShown_canonical (.outside h))
    | some _ => exact ite_canonical (.outside h) (cardDone_canonical (.outside h))

theorem execCardByteRx_canonical : yieldsCanonical (execCardByteRx sl v s) := by
  unfold execCardByteRx
  refine .next ?_
  split
  · exact ite_canonical (cardByte_canonical h) h
  · exact cardReceive_canonical h

theorem execCardSessionTimeout_canonical : yieldsCanonical (execCardSessionTimeout sl s) := by
  unfold execCardSessionTimeout
  refine .next ?_
  split
  · exact cardDone_canonical h
  · exact h

theorem execCardRemove_canonical : yieldsCanonical (execCardRemove sl s) := by
  unfold execCardRemove
  extract_lets +onlyGivenNames n
  refine .next ?_
  split
  · exact h
  · extract_lets +onlyGivenNames w _ s1 s2
    have hs1 : memoriesCanonical s1 := (cardGone_keeps canonical_sessions canonical_srv _ _).mpr h
    have hs2 : memoriesCanonical s2 := by
      dsimp only [s2]
      cases w with
      | some w => exact cardDone_canonical hs1
      | none => exact hs1
    exact forAll_canonical hs2 fun _ _ ht => sessionEnd_canonical ht

theorem readIdentity_canonical : memoriesCanonical (readIdentity ln s) := replyOk_canonical (replyPart_canonical h)

theorem readChain_canonical : memoriesCanonical (readChain ln s) := replyOk_canonical h

theorem readTime_canonical : memoriesCanonical (readTime ln s) := replyOk_canonical h

theorem readLifecycle_canonical : memoriesCanonical (readLifecycle ln s) := replyOk_canonical h

theorem holdLifecycle_canonical : memoriesCanonical (holdLifecycle ln reason s) :=
  lineOrder_canonical (ite_canonical h (.outside h))

theorem restartDeviceBy_canonical : memoriesCanonical (restartDeviceBy ln s) := by
  dsimp only [restartDeviceBy]
  split
  · exact replyErr_canonical h
  · exact restartDevice_canonical (replyOk_canonical h)

theorem readPerson_canonical : memoriesCanonical (readPerson ln p s) := replyOk_canonical h

theorem readCore_canonical : memoriesCanonical (readCore ln n s) := replyOk_canonical h

theorem setOppoint_canonical : memoriesCanonical (setOppoint ln pr n s) := by
  unfold setOppoint
  cases needRight s (partyOf s ln.car) 10 with
  | some _ => exact replyErr_canonical h
  | none => exact ite_canonical (replyErr_canonical h) (replyOk_canonical (.outside h))

theorem readFeed_canonical : memoriesCanonical (readFeed ln n s) := replyOk_canonical h

theorem measureSurvey_canonical : memoriesCanonical (measureSurvey ln name s) := by
  unfold measureSurvey
  cases chanOf s name with
  | none => exact replyErr_canonical h
  | some _ => exact replyOk_canonical h

theorem setBaseline_canonical : memoriesCanonical (setBaseline ln ch tol s) := by
  unfold setBaseline
  cases baseChans s ch with
  | some _ => exact lineOrder_canonical h
  | none =>
    dsimp -zeta only
    split
    · exact replyErr_canonical h
    · exact replyErr_canonical h

theorem writeCharter_canonical : memoriesCanonical (writeCharter ln at_ data s) := by
  dsimp only [writeCharter]
  cases charterRight s (partyOf s ln.car) with
  | some _ => exact replyErr_canonical h
  | none => exact ite_canonical (replyErr_canonical h) (replyOk_canonical ((setCar_keeps canonical_cars _ _ _).mpr h))

theorem installCharter_canonical : memoriesCanonical (installCharter ln s) :=
  lineOrder_canonical ((setCar_keeps canonical_cars _ _ _).mpr h)

theorem readCharter_canonical : memoriesCanonical (readCharter ln s) := by
  unfold readCharter
  cases s.stw.charter with
  | none => exact replyErr_canonical h
  | some _ => exact replyOk_canonical h

theorem readBundle_canonical : memoriesCanonical (readBundle ln s) := replyOk_canonical h

theorem readRecord_canonical : memoriesCanonical (readRecord ln s) := replyOk_canonical h

theorem readTamper_canonical : memoriesCanonical (readTamper ln i s) :=
  replyOk_canonical (forAll_canonical h fun _ _ ht => replyPart_canonical ht)

theorem readEvent_canonical : memoriesCanonical (readEvent ln tol s) :=
  replyOk_canonical (forAll_canonical h fun _ _ ht => replyPart_canonical ht)

end

end Sys2Proof.Machine
end

section
/-! SUPPORT. Memories stay in canonical form: lines, and the chain (14, 18). -/

namespace Sys2Proof.Machine

section
variable {s : State} {n p r ref : Nat} {body t : Text} {car : Carrier} {mark : Char} {x : Fields} {ln : Ln} {tag : Option Nat}
  (h : memoriesCanonical s)
include h

theorem deliverOrder_canonical : memoriesCanonical (deliverOrder ln p t s) := by
  dsimp only [deliverOrder]
  refine ite_canonical (replyErr_canonical h) (ite_canonical (replyErr_canonical h) (ite_canonical (replyErr_canonical h) ?_))
  cases freeRef (s.mbox p) with
  | none => exact replyErr_canonical h
  | some _ => exact mboxLevel_canonical (.outside h)

theorem answerOrder_canonical : memoriesCanonical (answerOrder p r mark t s) := by
  unfold answerOrder
  split
  · exact h
  · exact ite_canonical (replyPart_canonical h) ((finalReply_keeps canonical_replies _ _ _ _).mpr (.outside h))

theorem execMailboxReplyTimeout_canonical : yieldsCanonical (execMailboxReplyTimeout p ref s) := by
  unfold execMailboxReplyTimeout
  refine .next ?_
  split
  · exact h
  · exact replyErr_canonical (.outside h)

theorem forwardLine_canonical : memoriesCanonical (forwardLine ln n x body s) :=
  ite_canonical (replyErr_canonical (openTag_canonical h)) (ite_canonical (replyErr_canonical (openTag_canonical h))
    (ite_canonical (replyErr_canonical (openTag_canonical h))
    ((sendOrune_keeps canonical_lines _ _ _ _ _ _).mpr ((setCar_keeps canonical_cars _ _ _).mpr h))))

theorem execRemoteLineTimeout_canonical : yieldsCanonical (execRemoteLineTimeout car tag s) := by
  unfold execRemoteLineTimeout
  refine .next ?_
  split
  · exact (remoteFail_keeps canonical_replies _ _ _).mpr h
  · exact h

theorem execRemoteKeepTimer_canonical : yieldsCanonical (execRemoteKeepTimer s) := by
  unfold execRemoteKeepTimer
  refine .next (forAll_canonical h fun _ _ ht => ?_)
  split
  · exact forAll_canonical ht fun _ _ hu => (sendOrune_keeps canonical_lines _ _ _ _ _ _).mpr hu
  · exact ht

end

section
variable {ln : Ln} {a : Args} {f : State → State} {d : Except Err PairDo}

theorem needs_canonical (hf : ∀ t, memoriesCanonical t → memoriesCanonical (f t)) : pairCanonical (needs f) := by
  rintro _ ⟨⟩
  exact hf

theorem openTo_canonical (hf : ∀ t, memoriesCanonical t → memoriesCanonical (f t)) : pairCanonical (openTo f) := by
  rintro _ ⟨⟩
  exact hf

theorem error_canonical {e : Err} : pairCanonical (.error e) := nofun

theorem whenValid_canonical {ok : Bool} {field : String} (hd : pairCanonical d) : pairCanonical (whenValid ok field d) := by
  unfold whenValid
  split
  · exact hd
  · exact error_canonical

theorem personNo_canonical {p : Nat} (hd : pairCanonical d) : pairCanonical (personNo p d) := whenValid_canonical hd

theorem dataOk_canonical {data : Bytes} (hd : pairCanonical d) : pairCanonical (dataOk data d) := whenValid_canonical hd

theorem thenDo_canonical {α : Type} {x : Except Err α} {g : α → Except Err PairDo} (hg : ∀ v, pairCanonical (g v)) :
    pairCanonical (thenDo x g) := by
  unfold thenDo
  split
  · exact error_canonical
  · exact hg _

theorem shape_canonical {n : Nat} {mods : List String} {g : Unit → Except Err PairDo} (hg : pairCanonical (g ())) :
    pairCanonical (shape a n mods g) := by
  unfold shape
  split
  · exact error_canonical
  · split
    · exact error_canonical
    · exact hg

theorem noArgs_canonical (hd : pairCanonical d) : pairCanonical (noArgs a d) := shape_canonical hd

theorem onPerson_canonical {mods : List String} {g : Nat → Except Err PairDo} (hg : ∀ p, pairCanonical (g p)) :
    pairCanonical (onPerson a mods g) := shape_canonical (thenDo_canonical fun _ => thenDo_canonical hg)

theorem onCore_canonical {g : Nat → Except Err PairDo} (hg : ∀ c, pairCanonical (g c)) : pairCanonical (onCore a g) :=
  shape_canonical (thenDo_canonical fun _ => thenDo_canonical hg)

theorem withRight_canonical {bit : Nat} (hf : ∀ t, memoriesCanonical t → memoriesCanonical (f t)) :
    pairCanonical (withRight ln bit f) :=
  needs_canonical fun t ht => by
    split
    · exact replyErr_canonical ht
    · exact hf t ht

theorem orderPair_canonical {act : Act} : pairCanonical (needs (lineOrder ln act)) := needs_canonical fun _ => lineOrder_canonical

theorem personOrder_canonical {p : Nat} {act : Act} : pairCanonical (personOrder ln p act) := personNo_canonical orderPair_canonical

theorem moveOrder_canonical {p : Nat} {valid : Bool} {act : State → Option Act} : pairCanonical (moveOrder ln p valid act) :=
  personNo_canonical (whenValid_canonical (needs_canonical fun t ht => by
    split
    · exact lineOrder_canonical ht
    · exact ht))

theorem setTimePair_canonical {sec : Int} {digits : List (Fin 10)} : pairCanonical (setTimePair ln sec digits) :=
  whenValid_canonical orderPair_canonical

theorem rows_canonical {name : String} {row : PairFn} {rows : List (String × PairFn)} (hr : pairCanonical (row ()))
    (hs : ∀ q ∈ rows, pairCanonical (q.2 ())) : ∀ q ∈ pairRow name row :: rows, pairCanonical (q.2 ()) :=
  List.forall_mem_cons.mpr ⟨hr, hs⟩

theorem pairTable_canonical {s : State} : ∀ q ∈ pairTable s ln a, pairCanonical (q.2 ()) := by
  refine rows_canonical (shape_canonical (thenDo_canonical fun _ => openTo_canonical fun _ => openSession_canonical)) ?_
  refine rows_canonical (shape_canonical (thenDo_canonical fun _ => thenDo_canonical fun _ => openTo_canonical fun _ =>
      proveSession_canonical)) ?_
  refine rows_canonical (noArgs_canonical (openTo_canonical fun _ => closeSession_canonical)) ?_
  refine rows_canonical (noArgs_canonical (openTo_canonical fun _ => readIdentity_canonical)) ?_
  refine rows_canonical (noArgs_canonical (needs_canonical fun _ => readChain_canonical)) ?_
  refine rows_canonical (noArgs_canonical (openTo_canonical fun _ => readTime_canonical)) ?_
  refine rows_canonical (shape_canonical (thenDo_canonical fun t => ?_)) ?_
  · cases timeOf t with
    | some _ => exact setTimePair_canonical
    | none => exact error_canonical
  refine rows_canonical (noArgs_canonical (openTo_canonical fun _ => readLifecycle_canonical)) ?_
  refine rows_canonical (shape_canonical (thenDo_canonical fun _ => needs_canonical fun _ => holdLifecycle_canonical)) ?_
  refine rows_canonical (noArgs_canonical orderPair_canonical) (rows_canonical (noArgs_canonical orderPair_canonical) ?_)
  refine rows_canonical (noArgs_canonical orderPair_canonical) (rows_canonical (noArgs_canonical orderPair_canonical) ?_)
  refine rows_canonical (noArgs_canonical orderPair_canonical) ?_
  refine rows_canonical (noArgs_canonical (needs_canonical fun _ => restartDeviceBy_canonical)) ?_
  refine rows_canonical (onPerson_canonical fun _ => needs_canonical fun _ => readPerson_canonical) ?_
  refine rows_canonical (onPerson_canonical fun _ => personOrder_canonical) ?_
  refine rows_canonical (onPerson_canonical fun _ => personOrder_canonical) ?_
  refine rows_canonical (onPerson_canonical fun _ => personOrder_canonical) ?_
  refine rows_canonical (onPerson_canonical fun _ => personOrder_canonical) ?_
  refine rows_canonical (onPerson_canonical fun _ => thenDo_canonical fun _ => moveOrder_canonical) ?_
  refine rows_canonical (onPerson_canonical fun _ => thenDo_canonical fun _ => moveOrder_canonical) ?_
  refine rows_canonical (onPerson_canonical fun _ => thenDo_canonical fun _ => moveOrder_canonical) ?_
  refine rows_canonical (onCore_canonical fun _ => needs_canonical fun _ => readCore_canonical) ?_
  refine rows_canonical (onCore_canonical fun _ => orderPair_canonical) ?_
  refine rows_canonical (onCore_canonical fun _ => orderPair_canonical) ?_
  refine rows_canonical (shape_canonical (thenDo_canonical fun _ => needs_canonical fun _ => replyOk_canonical)) ?_
  refine rows_canonical (shape_canonical (thenDo_canonical fun _ => thenDo_canonical fun _ => needs_canonical fun _ =>
      setOppoint_canonical)) ?_
  refine rows_canonical (shape_canonical (thenDo_canonical fun _ => thenDo_canonical fun _ => needs_canonical fun _ =>
      readFeed_canonical)) ?_
  refine rows_canonical (shape_canonical (thenDo_canonical fun _ => thenDo_canonical fun _ => thenDo_canonical fun _ =>
      thenDo_canonical fun _ => orderPair_canonical)) ?_
  refine rows_canonical (shape_canonical (thenDo_canonical fun _ => needs_canonical fun _ => measureSurvey_canonical)) ?_
  refine rows_canonical (shape_canonical (thenDo_canonical fun _ => thenDo_canonical fun _ => whenValid_canonical
      (needs_canonical fun _ => setBaseline_canonical))) ?_
  refine rows_canonical (shape_canonical (thenDo_canonical fun _ => thenDo_canonical fun _ => thenDo_canonical fun _ =>
      dataOk_canonical (needs_canonical fun _ => writeCharter_canonical))) ?_
  refine rows_canonical (noArgs_canonical (needs_canonical fun _ => installCharter_canonical)) ?_
  refine rows_canonical (noArgs_canonical (needs_canonical fun _ => readCharter_canonical)) ?_
  refine rows_canonical (shape_canonical (thenDo_canonical fun _ => orderPair_canonical)) ?_
  refine rows_canonical (shape_canonical (thenDo_canonical fun _ => thenDo_canonical fun _ => thenDo_canonical fun _ =>
      dataOk_canonical orderPair_canonical)) ?_
  refine rows_canonical (noArgs_canonical orderPair_canonical) ?_
  refine rows_canonical (shape_canonical (thenDo_canonical fun _ => thenDo_canonical fun _ => orderPair_canonical)) ?_
  refine rows_canonical (noArgs_canonical orderPair_canonical) ?_
  refine rows_canonical (noArgs_canonical (needs_canonical fun _ => readBundle_canonical)) ?_
  refine rows_canonical (shape_canonical ?_) ?_
  · split
    · exact withRight_canonical fun _ => readRecord_canonical
    · exact thenDo_canonical fun _ => thenDo_canonical fun _ => withRight_canonical fun _ => readRecordSeq_canonical
  refine rows_canonical (shape_canonical (thenDo_canonical fun _ => withRight_canonical fun _ => readTamper_canonical)) ?_
  refine rows_canonical (shape_canonical (thenDo_canonical fun _ => withRight_canonical fun _ => readEvent_canonical)) ?_
  exact nofun

theorem pairOfLine_canonical {s : State} {x : Fields} : pairCanonical (pairOfLine s ln x) := by
  unfold pairOfLine
  split
  · exact error_canonical
  · split
    · exact error_canonical
    · split
      · exact error_canonical
      · split
        · next e => exact pairTable_canonical _ (List.mem_of_find?_eq_some e)
        · exact error_canonical

theorem deliverPair_canonical {α : Type} {x : Except Err α} {p : Nat} {t : Text} :
    pairCanonical (x.map fun _ => { need := true, act := deliverOrder ln p t }) := by
  cases x with
  | error e => exact error_canonical
  | ok v => exact needs_canonical fun _ => deliverOrder_canonical

end

theorem lineFields_canonical {ln : Ln} {f : Fields} {body : Text} {s : State} (h : memoriesCanonical s) :
    memoriesCanonical (lineFields ln f body s) := by
  unfold lineFields
  extract_lets +onlyGivenNames _
  split
  · exact replyErr_canonical (openTag_canonical h)
  · exact forwardLine_canonical h
  · extract_lets +onlyGivenNames s1
    have hs1 : memoriesCanonical s1 := openTag_canonical h
    split
    · exact lineHere_canonical deliverPair_canonical hs1
    · exact lineHere_canonical pairOfLine_canonical hs1

theorem lineExam_canonical {x : Exam} {s : State} (h : memoriesCanonical s) : memoriesCanonical (lineExam x s).2 := by
  unfold lineExam
  split
  · exact h
  · exact replyEarly_canonical (ite_canonical (setLeaf_canonical h) h)
  · split
    · exact refuseTag_canonical h
    · exact lineFields_canonical h

/-- The state that an early answer keeps. -/
theorem lineExam_early_canonical {x : Exam} {e : Err} {s t u : State} (h : memoriesCanonical s)
    (hx : lineExam x s = (some (e, t), u)) :
    memoriesCanonical t := by
  unfold lineExam at hx
  split at hx
  · cases hx
  · cases hx
    exact ite_canonical (setLeaf_canonical h) h
  · split at hx
    · cases hx
      exact h
    · cases hx

section
variable {s : State} {cr final foul free long lost : Bool} {core div16 node p : Nat} {c car : Carrier} {ty : BitVec 4} {y : Byte}
  {pl : Bytes} {use : Bytes → State → State} {ch : Char} {f : Frame} {w : List Nat} {z : Nat → Bytes → State → State} {pt : Port}
  {d : ReplyTo} {t : Text} {arg : Word} (h : memoriesCanonical s)
include h

theorem lineIn_canonical : memoriesCanonical (lineIn c long foul lost t s) :=
  ite_canonical h (lineExam_canonical ((setCar_keeps canonical_cars _ _ _).mpr (.outside (napEnd_canonical h))))

theorem echo_canonical : memoriesCanonical (echo c t s) := ite_canonical (emit_canonical h) h

theorem clearInput_canonical : memoriesCanonical (clearInput c s) := (setCar_keeps canonical_cars _ _ _).mpr h

theorem lineEnd_canonical : memoriesCanonical (lineEnd c cr s) :=
  lineIn_canonical ((setCar_keeps canonical_cars _ _ _).mpr (clearInput_canonical (echo_canonical h)))

theorem lineChar_canonical : memoriesCanonical (lineChar c ch s) := (setCar_keeps canonical_cars _ _ _).mpr (echo_canonical h)

theorem lineEdit_canonical : memoriesCanonical (lineEdit p s) :=
  ite_canonical (ite_canonical h ((setCar_keeps canonical_cars _ _ _).mpr (emit_canonical h)))
    (ite_canonical (clearInput_canonical (emit_canonical h)) (ite_canonical (lineChar_canonical h) h))

theorem charIn_canonical : memoriesCanonical (charIn c y s) := by
  unfold charIn
  extract_lets +onlyGivenNames _ _
  refine ite_canonical h (ite_canonical ((setCar_keeps canonical_cars _ _ _).mpr h) ?_)
  extract_lets +onlyGivenNames s1
  have hs1 : memoriesCanonical s1 := (setCar_keeps canonical_cars _ _ _).mpr h
  exact ite_canonical (lineEnd_canonical hs1) (ite_canonical (lineChar_canonical hs1) (ite_canonical (lineEdit_canonical hs1)
      ((setCar_keeps canonical_cars _ _ _).mpr hs1)))

theorem execBaudCr_canonical : yieldsCanonical (execBaudCr car div16 s) := by
  unfold execBaudCr
  refine .next (ite_canonical h ?_)
  extract_lets +onlyGivenNames s1
  have hs1 : memoriesCanonical s1 := (setCar_keeps canonical_cars _ _ _).mpr (echo_canonical h)
  exact ite_canonical hs1 (ite_canonical (.outside hs1) (.outside hs1))

theorem oruneSend_canonical : memoriesCanonical (oruneSend core p d w s) := by
  unfold oruneSend
  extract_lets +onlyGivenNames _
  split
  · exact answerErr_canonical h
  · split
    · next t e => exact answerErr_canonical (snd_canonical e (bufGet_canonical h))
    · next bs t e =>
      have ht : memoriesCanonical t := snd_canonical e (bufGet_canonical h)
      split
      · next er u w e1 => exact answerErr_canonical (lineExam_early_canonical ht e1)
      · next u e1 => exact answerOk_canonical (snd_canonical e1 (lineExam_canonical ht))

theorem oruneTake_canonical : memoriesCanonical (oruneTake core p arg d w s) := by
  unfold oruneTake
  generalize (s.mbox p).mail = l
  cases l with
  | nil => exact answerErr_canonical h
  | cons m r =>
    have hb : memoriesCanonical (bufOk p core (w.getD 0 0) 256 s).2 := bufOk_canonical h
    generalize bufOk p core (w.getD 0 0) 256 s = q at hb
    obtain ⟨ok, t⟩ := q
    cases ok with
    | false => exact answerErr_canonical hb
    | true =>
      with_reducible refine answerOk_canonical (descPut_canonical (descPut_canonical (sramPut_canonical (mboxLevel_canonical ?_))))
      exact .outside hb

theorem oruneReply_canonical : memoriesCanonical (oruneReply core p d w s) := by
  dsimp only [oruneReply]
  refine ite_canonical (answerErr_canonical h) (ite_canonical (answerErr_canonical h) ?_)
  split
  · next t e => exact answerErr_canonical (snd_canonical e (bufGet_canonical h))
  · next t1 e1 =>
      have h1 := snd_canonical e1 (bufGet_canonical h)
      split
      · exact ite_canonical (answerOk_canonical (answerOrder_canonical h1)) (answerErr_canonical h1)
      · exact answerErr_canonical h1

theorem keyed_canonical (hf : ∀ a t, memoriesCanonical t → memoriesCanonical (use a t)) :
    memoriesCanonical (keyed p f ty use s) := by
  unfold keyed
  refine ite_canonical h ?_
  cases frameIs s p f with
  | deaf => exact (deafTo_keeps canonical_chain _ _).mpr h
  | replayed => exact .outside h
  | badTag => exact (tagFail_keeps canonical_chain _ _).mpr h
  | good _ => exact hf _ _ (.outside h)

theorem keyedRow_canonical (hf : ∀ a b t, memoriesCanonical t → memoriesCanonical (z a b t)) :
    memoriesCanonical (keyedRow pt f ty z s) :=
  portRow_canonical h fun _ ht => keyed_canonical ht fun _ _ hu => hf _ _ _ hu

theorem remoteReply_canonical : memoriesCanonical (remoteReply c node final t s) := by
  unfold remoteReply
  split
  · exact h
  · split
    · exact .outside h
    · extract_lets +onlyGivenNames s1
      have hs1 : memoriesCanonical s1 := ite_canonical ((closeTag_keeps canonical_replies _ _ _).mpr h) h
      exact sendLine_canonical (ite_canonical ((setCar_keeps canonical_cars _ _ _).mpr hs1)
          (ite_canonical ((setCar_keeps canonical_cars _ _ _).mpr hs1) hs1))

theorem oruneIn_canonical : memoriesCanonical (oruneIn f pl s) :=
  ite_canonical h (ite_canonical (lineIn_canonical h) (ite_canonical (remoteReply_canonical h) h))

theorem forward_canonical (hf : ∀ a t, memoriesCanonical t → memoriesCanonical (use a t)) :
    memoriesCanonical (forward p f free use s) := by
  dsimp only [forward]
  split
  · exact (deafTo_keeps canonical_chain _ _).mpr h
  · refine ite_canonical (.outside h) (ite_canonical (ite_canonical ((cutShort_keeps canonical_replies _ _ _ _ _).mpr h) h) ?_)
    cases frameIs s p f with
    | good _ => exact hf _ _ (ite_canonical ((passOn_keeps canonical_replies _ _ _ _ _).mpr (.outside h)) (.outside h))
    | _ => exact (tagFail_keeps canonical_chain _ _).mpr (ite_canonical ((cutShort_keeps canonical_replies _ _ _ _ _).mpr h) h)

theorem execStoredFrameSend_canonical : yieldsCanonical (execStoredFrameSend pt s) := by
  dsimp only [execStoredFrameSend]
  refine .next (portRow_canonical h fun _ ht => ?_)
  split
  · exact ht
  · exact ite_canonical ht (.outside (.outside ht))

end

end Sys2Proof.Machine
end

section
/-! SUPPORT. Memories stay in canonical form: registers, and stores that leave the core (05). -/

namespace Sys2Proof.Machine

section
variable {s : State} {a addr c f fuel n off p pr : Nat} {x : CandTxn} {core : Fin 4} {y : GTxn} {g : GateId} {up : List Upset}
  {w : RegWriter} {l : ShLoad} {t : StTxn} {v : Word} (h : memoriesCanonical s)
include h

theorem devRead_canonical : memoriesCanonical (devRead c p a s).2 := by
  unfold devRead
  extract_lets +onlyGivenNames _ _
  split
  case h_2 => with_reducible exact cicRead_canonical h
  case h_6 => with_reducible exact srvRead_canonical h
  case h_9 => with_reducible exact crdRead_canonical h
  case h_10 => with_reducible exact serRead_canonical h
  case h_11 => with_reducible exact snsRead_canonical h
  case h_13 => with_reducible exact sntRead_canonical h
  all_goals exact h

theorem islWrite_canonical : memoriesCanonical (islWrite f off v s) :=
  ite_canonical h (ite_canonical (.outside h) (ite_canonical (.outside h) h))

theorem devWrite_canonical : memoriesCanonical (devWrite c p a v s) := by
  dsimp only [devWrite]
  split
  · exact cicWrite_canonical (.outside h)
  · exact movWrite_canonical (.outside h)
  · exact flcWrite_canonical (.outside h)
  · exact sealRegWrite_canonical (.outside h)
  · exact srvWrite_canonical (.outside h)
  · exact canWrite_canonical (.outside h)
  · exact crdWrite_canonical (.outside h)
  · exact serWrite_canonical (.outside h)
  · exact snsWrite_canonical (.outside h)
  · exact ite_canonical (outCtrl_canonical (.outside h)) (.outside h)
  · exact ite_canonical (islWrite_canonical (.outside h)) (.outside h)
  · exact .outside h

theorem coreRegWrite_canonical : memoriesCanonical (coreRegWrite c a v s) := by
  dsimp only [coreRegWrite]
  cases regionOf a with
  | device _ => exact ite_canonical (devWrite_canonical h) h
  | _ => exact h

theorem stewardRegWrite_canonical : memoriesCanonical (stewardRegWrite a v s) := by
  unfold stewardRegWrite
  cases regionOf a with
  | device _ => exact ite_canonical (devWrite_canonical h) h
  | _ => exact h

theorem execRegisterWrite_canonical : yieldsCanonical (execRegisterWrite w addr v s) := by
  unfold execRegisterWrite
  refine .next ?_
  cases w with
  | core _ => exact coreRegWrite_canonical h
  | steward => exact stewardRegWrite_canonical h
  | host => exact hostWrite_canonical h

theorem forwardSlots_canonical : memoriesCanonical (forwardSlots fuel pr s) := by
  induction fuel generalizing s with
  | zero => exact h
  | succ f ih =>
    unfold forwardSlots
    generalize vget s.gates.commitQ pr = l
    cases l with
    | nil => exact h
    | cons t r =>
      dsimp only
      split
      · with_reducible refine ih ?_
        exact .outside h
      · exact h

theorem custodyGoes_canonical : memoriesCanonical (custodyGoes c s) := ite_canonical (mirrorTrail_canonical (cusTry_canonical h)) h

theorem pairOn_canonical : memoriesCanonical (pairOn pr s) := by
  unfold pairOn
  exact placesOn_canonical (forAll_canonical (forwardSlots_canonical h) fun _ _ ht => trySwitch_canonical
      (custodyGoes_canonical (drain_canonical ht)))

theorem pairCross_canonical : memoriesCanonical (pairCross pr s) := by
  unfold pairCross
  cases vget s.gates.pairF pr with
  | nil => exact h
  | cons t _ =>
    dsimp only
    refine pairOn_canonical ?_
    cases t.what with
    | dev _ _ => exact .outside h
    | _ => exact .outside (.outside h)

theorem candArrives_canonical : memoriesCanonical (candArrives x s) :=
  ite_canonical (candLands_canonical h) (trySwitch_canonical (candLands_canonical h))

theorem candCross_canonical : memoriesCanonical (candCross pr s) := by
  unfold candCross
  cases vget s.gates.fPair pr with
  | nil => exact h
  | cons _ _ => exact ite_canonical (.outside h) (ite_canonical h (candArrives_canonical (.outside h)))

theorem hostSends_canonical : memoriesCanonical (hostSends y s) := by
  unfold hostSends
  cases y with
  | cellOrder _ _ _ => exact cellOrder_canonical h
  | chars _ => exact forAll_canonical (.outside h) fun _ _ ht => ite_canonical (charIn_canonical ht) ht
  | lost => exact (setCar_keeps canonical_cars _ _ _).mpr h
  | leafClear _ _ => exact h

theorem takeHeld_canonical : memoriesCanonical (takeHeld s) :=
  forAll_canonical (.outside h) fun _ _ ht => .outside (hostSends_canonical (.outside ht))

theorem hostCross_canonical : memoriesCanonical (hostCross s) := by
  unfold hostCross
  cases s.gates.ghF with
  | nil => exact h
  | cons _ _ => exact ite_canonical (.outside (.outside h)) (hostSends_canonical (takeHeld_canonical (.outside h)))

theorem execGateTransfer_canonical : yieldsCanonical (execGateTransfer g s) := by
  unfold execGateTransfer
  refine .next ?_
  cases g with
  | gaF | gbF => exact pairCross_canonical h
  | gfA | gfB => exact candCross_canonical h
  | gfH => exact gfHCross_canonical h
  | ghF => exact hostCross_canonical h
  | gfP | gpF | gfS | gsF => exact h

theorem discardStore_canonical : memoriesCanonical (discardStore t s) := by
  unfold discardStore
  extract_lets +onlyGivenNames _ s1
  have hs1 : memoriesCanonical s1 := (foreignAccess_keeps canonical_reports (fun _ _ => rfl) _ _ _ _ _).mpr h
  exact ite_canonical (mirrorTrail_canonical (setCtx_canonical hs1)) hs1

theorem perform_canonical : memoriesCanonical (perform t s) := by
  unfold perform
  refine ite_canonical (discardStore_canonical h) ?_
  cases t.what with
  | gran _ _ => exact commitCells_canonical h
  | dev _ _ => exact devWrite_canonical h
  | slot _ _ => exact .outside h

theorem storeCommit_canonical : memoriesCanonical (storeCommit pr s) := by
  unfold storeCommit
  cases vget s.gates.commitQ pr with
  | nil => exact h
  | cons _ _ => exact ite_canonical h (pairOn_canonical (perform_canonical (.outside h)))

theorem sramLoad_canonical : memoriesCanonical (sramLoad c p a n s).2 := by
  unfold sramLoad
  extract_lets +onlyGivenNames _
  refine ite_snd_canonical (setCore_canonical h id) ?_
  extract_lets +onlyGivenNames _ _ _ s1
  have hs1 : memoriesCanonical s1 := eccRead_canonical (setCtx_canonical h)
  exact ite_snd_canonical hs1 (ite_canonical hs1 (setCore_canonical hs1 id))

theorem loadValue_canonical : memoriesCanonical (loadValue c p l s).2 := by
  unfold loadValue
  cases forwarded s c l with
  | some _ => exact h
  | none =>
    dsimp -zeta only
    extract_lets +onlyGivenNames s1
    have hs1 : memoriesCanonical s1 := ite_canonical (gateFlush_canonical (.outside h)) h
    refine ite_snd_canonical ((foreignAccess_keeps canonical_reports (fun _ _ => rfl) _ _ _ _ _).mpr hs1) ?_
    cases regionOf l.addr with
    | device _ => exact toCore_canonical (devRead_canonical hs1)
    | calib => exact hs1
    | _ => exact sramLoad_canonical hs1

theorem loadLands_canonical : memoriesCanonical (loadLands c p s) := by
  unfold loadLands
  cases (s.ctx c p).loads with
  | nil => exact h
  | cons _ _ =>
    exact ite_canonical (mirrorTrail_canonical (setCtx_canonical h))
        (trySwitch_canonical (custodyGoes_canonical (drain_canonical (mirrorTrail_canonical (setCtx_canonical
        (loadValue_canonical h))))))

theorem execSharedLoadData_canonical : yieldsCanonical (execSharedLoadData core up s) := by
  dsimp only [execSharedLoadData]
  refine .next ?_
  split
  · exact .errors h
  · exact loadLands_canonical (.errors h)

theorem refuseUnassigned_canonical : memoriesCanonical (refuseUnassigned c p s) := by
  unfold refuseUnassigned
  split
  · exact h
  · exact ite_canonical h (callResult_canonical (takeCall_canonical (.outside h)))

theorem answerLands_canonical : memoriesCanonical (answerLands c p s) := by
  dsimp only [answerLands]
  split
  · exact trySwitch_canonical (mirrorTrail_canonical (gateFlush_canonical (setCtx_canonical h)))
  · exact h

theorem execStewardAnswer_canonical : yieldsCanonical (execStewardAnswer core s) := by
  unfold execStewardAnswer
  extract_lets +onlyGivenNames _ s1
  have hs1 : memoriesCanonical s1 := forAll_canonical h fun _ _ ht => refuseUnassigned_canonical ht
  refine .next ?_
  split
  · exact hs1
  · exact answerLands_canonical hs1

end

end Sys2Proof.Machine
end

section
/-! SUPPORT. Memories stay in canonical form: bursts of the movers (08). -/

namespace Sys2Proof.Machine

section
variable {s : State} {a b c cause ch n p : Nat} {as cs da sa : List Nat} {x : Burst} {data : Bytes} {y : Fin 16} {core : Fin 4}
  {rest : List Burst} {up : List Upset} {got : List Word} {obj : ZeroObj} (h : memoriesCanonical s)
include h

theorem failBurst_canonical : memoriesCanonical (failBurst ch cause a b s) :=
  .outside (ite_canonical ((foreignAccess_keeps canonical_reports (fun _ _ => rfl) _ _ _ _ _).mpr h) h)

theorem accessSeen_canonical : memoriesCanonical (accessSeen c a s) := ite_canonical (eccRead_canonical h) h

theorem readWords_canonical : memoriesCanonical (readWords p cs as got s).2.2 := by
  induction as generalizing got s with
  | nil => exact h
  | cons a r ih =>
    unfold readWords
    split
    · exact ih (devRead_canonical (.outside h))
    · extract_lets +onlyGivenNames _ s1
      have hs1 : memoriesCanonical s1 := forAll_canonical h fun _ _ ht => accessSeen_canonical ht
      split
      · exact hs1
      · exact ih hs1

theorem issueBurst_canonical : memoriesCanonical (issueBurst ch n sa s) := by
  dsimp only [issueBurst]
  split
  · exact .outside h
  · exact diverge_canonical (settleChan_canonical (failBurst_canonical (.outside h)))
  · exact ite_canonical (failBurst_canonical (.outside (readWords_canonical h))) (.outside (readWords_canonical h))

theorem readAhead_canonical : memoriesCanonical (readAhead ch s) := ite_canonical h (.outside h)

theorem issueNext_canonical : memoriesCanonical (issueNext ch s) := by
  dsimp only [issueNext]
  split
  · exact settleChan_canonical (failBurst_canonical (.outside (.outside h)))
  · exact issueBurst_canonical (.outside h)

theorem putBurst_canonical : memoriesCanonical (putBurst p cs da data s) :=
  ite_canonical (forAll_canonical h fun _ _ ht => devWrite_canonical ht) (putMem_canonical h)

theorem burstEvents_canonical : memoriesCanonical (burstEvents ch b n s) := by
  unfold burstEvents
  extract_lets +onlyGivenNames _ _ _ _ _ s1 s2
  have hs1 : memoriesCanonical s1 := ite_canonical (.outside h) (ite_canonical (.outside (.outside h)) (.outside (.outside h)))
  have hs2 : memoriesCanonical s2 := ite_canonical (raiseEvent_canonical hs1) hs1
  exact ite_canonical (raiseEvent_canonical hs2) hs2

theorem finishBurst_canonical : memoriesCanonical (finishBurst ch x rest s) := by
  unfold finishBurst
  extract_lets +onlyGivenNames _ _ _ _ _
  refine ite_canonical (settleChan_canonical (failBurst_canonical (.outside h))) ?_
  refine ite_canonical (settleChan_canonical (failBurst_canonical (.outside h))) ?_
  extract_lets +onlyGivenNames _ s1
  have hs1 : memoriesCanonical s1 := ite_canonical h (putBurst_canonical h)
  exact settleChan_canonical (burstEvents_canonical (.outside (ite_canonical (accessSeen_canonical (failBurst_canonical hs1)) hs1)))

theorem execMovBurstComplete_canonical : yieldsCanonical (execMovBurstComplete y s) := by
  dsimp only [execMovBurstComplete]
  refine .next ?_
  split
  · exact h
  · exact ite_canonical h (finishBurst_canonical h)

theorem execZeroingDone_canonical : yieldsCanonical (execZeroingDone obj s) := by
  unfold execZeroingDone
  refine .next ?_
  cases obj with
  | page _ => exact ite_canonical (pageZeroed_canonical h) h
  | bank _ _ => exact ite_canonical (bankZeroed_canonical h) h

theorem execSentenceIssue_canonical : yieldsCanonical (execSentenceIssue core up s) := by
  unfold execSentenceIssue
  extract_lets +onlyGivenNames _ s1
  have hs1 : memoriesCanonical s1 := joinTrail_canonical (.errors h)
  refine .next (ite_canonical hs1 (ite_canonical (issue_canonical hs1) ?_))
  refine ite_canonical (issue_canonical hs1) ?_
  extract_lets +onlyGivenNames _ t2
  have ht2 : memoriesCanonical t2 := forAll_canonical hs1 fun _ _ ht => fetchEcc_canonical ht
  split
  · exact diverge_canonical ht2
  · exact issue_canonical ht2

theorem execInterruptEntry_canonical : yieldsCanonical (execInterruptEntry core s) := by
  unfold execInterruptEntry
  extract_lets +onlyGivenNames _ s1
  have hs1 : memoriesCanonical s1 := joinTrail_canonical h
  exact .next (ite_canonical hs1 (mirrorTrail_canonical (takeIrq_canonical hs1)))

end

end Sys2Proof.Machine
end

section
/-! SUPPORT. Memories stay in canonical form: the start sequence (02). -/

namespace Sys2Proof.Machine

section
variable {s : State} {code fuel last n t : Nat} {l ps : List Part1} {q : Part1} {v : Saved} {env : StartEnv}
  (h : memoriesCanonical s)
include h

theorem startStep2_canonical : memoriesCanonical (startStep2 env s) := by
  unfold startStep2
  extract_lets +onlyGivenNames s1 _ _ s2
  have hs1 : memoriesCanonical s1 := ite_canonical (sentinelUp_canonical (vstbyLoss_canonical h)) h
  have hs2 : memoriesCanonical s2 := newChallenge_canonical (ite_canonical (zeroizeEnd_canonical (.outside hs1)) (.outside hs1))
  exact ite_canonical (setLeaf_canonical (.outside (.outside hs2))) (.outside (.outside hs2))

theorem startStep5_canonical : memoriesCanonical (startStep5 s) :=
  mapCores_canonical (memoriesCanonical_iff.mpr ⟨rfl, h.flash, h.core⟩) fun _ _ _ => ⟨rfl, rfl⟩

theorem startStep6_canonical : memoriesCanonical (startStep6 s) :=
  forNat_canonical (.outside (.outside (charterTake_canonical h))) fun _ _ ht => .outside ht

theorem cicRestore_canonical : memoriesCanonical (cicRestore v s) := cicUpdate_canonical (.outside h)

theorem startLeaves_canonical : memoriesCanonical (startLeaves s) := by
  unfold startLeaves
  extract_lets +onlyGivenNames s1
  have hs1 : memoriesCanonical s1 := setLeaf_canonical h
  exact .outside (forAll_canonical (ite_canonical hs1 (setLeaf_canonical hs1)) fun _ _ ht => setLeaf_canonical ht)

theorem startStep7_canonical : memoriesCanonical (startStep7 s) := by
  unfold startStep7
  extract_lets +onlyGivenNames s1
  have hs1 : memoriesCanonical s1 := lifeCheck_canonical (startLeaves_canonical (forNat_canonical
      (.outside h) fun _ _ ht => .outside ht))
  refine (unsolicited_keeps canonical_replies _ _ _).mpr ((unsolicited_keeps canonical_replies _ _ _).mpr
      ((chainLevels_keeps canonical_levels _).mpr (.outside (forNat_canonical (forNat_canonical ?_ fun _ _ hu => ite_canonical
      (feedSafe_canonical hu) hu) fun _ _ hv => gfHCross_canonical hv))))
  split
  · exact cicRestore_canonical hs1
  · exact hs1

theorem partDead_canonical : memoriesCanonical (partDead t code s) := by
  unfold partDead
  extract_lets +onlyGivenNames s1
  have hs1 : memoriesCanonical s1 := partResult_canonical h
  exact ite_canonical (.outside hs1) (becomeDead_canonical hs1)

theorem partPassed_canonical : memoriesCanonical (partPassed q s) := by
  unfold partPassed
  extract_lets +onlyGivenNames s0 _ _ s1
  have hs0 : memoriesCanonical s0 := partResult_canonical (.outside h)
  have hs1 : memoriesCanonical s1 := ite_canonical (.outside hs0) hs0
  exact ite_canonical hs1 (setRun_canonical (.outside hs1))

theorem leftover_canonical : memoriesCanonical (leftover q s) :=
  ite_canonical h (ite_canonical (partDead_canonical h) (ite_canonical (partPassed_canonical h) (partDead_canonical h)))

theorem copyOne_canonical : memoriesCanonical (copyOne env ps q s).2 := by
  unfold copyOne
  extract_lets +onlyGivenNames _
  cases refusedCode s ps q with
  | some _ => exact partResult_canonical h
  | none =>
    dsimp -zeta only
    extract_lets +onlyGivenNames s1
    have hs1 : memoriesCanonical s1 := setStage_canonical h
    split
    · next t e => exact partDead_canonical (snd_canonical e (copyPart_canonical hs1))
    · next t2 e2 =>
        have h2 := snd_canonical e2 (copyPart_canonical hs1)
        exact ite_snd_canonical (restartDevice_canonical h2) (ite_canonical (partPassed_canonical h2) (partDead_canonical h2))

theorem copyParts_canonical : memoriesCanonical (copyParts env ps l s).2 := by
  induction l generalizing s with
  | nil => exact setBunDone_canonical h
  | cons q r ih =>
    unfold copyParts
    split
    · exact ih h
    · split
      · next t e => exact snd_canonical e (copyOne_canonical h)
      · next t e => exact ih (snd_canonical e (copyOne_canonical h))

theorem refuseAll_canonical : memoriesCanonical (refuseAll ps code s) :=
  setBunDone_canonical (forAll_canonical h fun _ _ ht => partResult_canonical ht)

theorem activateAll_canonical : memoriesCanonical (activateAll env s).2 := by
  unfold activateAll
  extract_lets +onlyGivenNames _
  split
  · with_reducible exact refuseAll_canonical h
  · split
    · with_reducible exact refuseAll_canonical h
    · with_reducible exact copyParts_canonical h

theorem patchShown_canonical : memoriesCanonical (patchShown s) := ite_canonical (noteResult_canonical h) h

theorem startStep8_canonical : memoriesCanonical (startStep8 env s).2 := by
  unfold startStep8
  extract_lets +onlyGivenNames s1
  have hs1 : memoriesCanonical s1 := patchShown_canonical h
  split
  · exact pubSlot_canonical (.outside (dirAdd_canonical hs1))
  · exact copyParts_canonical (forAll_canonical hs1 fun _ _ ht => leftover_canonical ht)
  · exact activateAll_canonical hs1
  · exact copyParts_canonical hs1
  · exact hs1

theorem startStep9_canonical : memoriesCanonical (startStep9 env s) := by
  unfold startStep9
  extract_lets +onlyGivenNames _ _ s1
  have hs1 : memoriesCanonical s1 := .outside (.outside (forNat_canonical (recoverStore_canonical h) fun _ _ ht => ite_canonical
      (selftestDone_canonical ht) ht))
  exact ite_canonical (placeAll_canonical hs1) (forNat_canonical hs1 fun _ _ hu => ite_canonical (setRun_canonical hu) hu)

theorem startStep10_canonical : memoriesCanonical (startStep10 s) := lifeCheck_canonical (.outside h)

theorem startStep_canonical : memoriesCanonical (startStep env n s).2 := by
  unfold startStep
  split
  · exact .outside h
  · exact startStep2_canonical h
  · exact .outside h
  · exact .outside h
  · exact startStep5_canonical h
  · exact startStep6_canonical h
  · with_reducible exact startStep7_canonical h
  · with_reducible exact startStep8_canonical h
  · with_reducible exact startStep9_canonical h
  · with_reducible exact startStep10_canonical h
  · exact h

theorem startRun_canonical : memoriesCanonical (startRun env last fuel s) := by
  induction fuel generalizing s with
  | zero => exact h
  | succ m ih =>
    unfold startRun
    dsimp only
    split
    · exact h
    · split
      · next t e => exact snd_canonical e (startStep_canonical h)
      · next t e => exact ih (.outside (snd_canonical e (startStep_canonical h)))

end

end Sys2Proof.Machine
end

section
/-! The obligation on every step (05 R141, 03 R58, 09 R248). -/

namespace Sys2Proof.Machine

section
variable {s : State}

theorem issuesOne_canonical {c : Fin 4} {y : Syl} (h : memoriesCanonical s) : yieldsCanonical (.next (issueOne c y s)) :=
  .next (issueOne_canonical h)

/-- The state that a command gives has its memories in canonical form. -/
theorem exec_canonical (h : memoriesCanonical s) (i : Instr) : yieldsCanonical (exec i s) := by
  cases i
  case mainRailsValid => exact .next (ite_canonical (beginStart_canonical (.outside h)) (.outside h))
  case porstRelease => exact .next (ite_canonical (beginStart_canonical (.outside h)) (.outside h))
  case porstAssert => exact .next (enterOff_canonical (.outside h))
  case start => exact .next (ite_canonical (startRun_canonical h) h)
  case watchdogExpiry => exact .next (ite_canonical (beginStart_canonical h) h)
  case railFail => exact execRailFail_canonical h
  case islandGlitch => exact execIslandGlitch_canonical h
  case refFault => exact .next (ite_canonical (refLost_canonical h) h)
  case refCompare => exact .next (ite_canonical (ite_canonical (refLost_canonical h) h) (ite_canonical (refBack_canonical h) h))
  case clockCheckArm => exact .next (ite_canonical (ite_canonical (.outside h) (refBack_canonical (.outside h)))
      (refLost_canonical (.outside h)))
  case islandPowerOff => exact .next (ite_canonical h (ite_canonical (ite_canonical h (islandOff_canonical h)) (ite_canonical h
      (islandClose_canonical h))))
  case islandDrainTimeout => exact .next (ite_canonical (islandOff_canonical h) h)
  case gateTransfer => exact execGateTransfer_canonical h
  case opChangeDone => exact execOpChangeDone_canonical h
  case railBelowPoint => exact .next (ite_canonical (setLeaf_canonical (.outside h)) h)
  case napEntry => exact .next (ite_canonical (.outside h) h)
  case fabricRelock => exact .next (ite_canonical (takeHeld_canonical (napEnd_canonical h)) h)
  case standbyEntry => exact .next (ite_canonical (powerLost_canonical (.outside (.outside h))) h)
  case wakeEvent => exact execWakeEvent_canonical h
  case sentenceIssue => exact execSentenceIssue_canonical h
  case interruptEntry => exact execInterruptEntry_canonical h
  case resultLand => exact .next (mirrorTrail_canonical (setCtx_canonical h))
  case sharedLoadData => exact execSharedLoadData_canonical h
  case divideResult => exact .next (mirrorTrail_canonical (setCtx_canonical h))
  case timesliceExpiry => exact .next (ite_canonical h (trySwitch_canonical (drainAll_canonical (setCore_canonical h id))))
  case stewardAnswer => exact execStewardAnswer_canonical h
  case opRequest => exact .next (serveNow_canonical h fun _ _ ht => (opRequest_keeps canonical_isl _ _ _ _).mpr ht)
  case standbyConsent => exact .next (serveNow_canonical h fun _ _ ht => ite_snd_canonical ht (.outside ht))
  case wakeCfg => exact .next (serveNow_canonical h fun _ _ ht => ite_snd_canonical ht (.outside ht))
  case zeroingDone => exact execZeroingDone_canonical h
  case storeBufferDue => exact .next (trySwitch_canonical (drain_canonical (setCore_canonical h id)))
  case storeCommit => exact .next (storeCommit_canonical (.errors h))
  case storeCustodyFault => exact .next (ite_canonical (mirrorTrail_canonical (takeStoreFault_canonical h)) h)
  case divergence => exact .next (ite_canonical h (diverge_canonical h))
  case coreSelftestDone => exact .next (ite_canonical (selftestDone_canonical h) h)
  case handover => exact .next (handoverGoes_canonical (forAll_canonical h fun _ _ ht => drainAll_canonical ht))
  case personDeferredStart => exact execPersonDeferredStart_canonical h
  case witnessPromote => exact .next (witnessCall_canonical h)
  case witnessDemote => exact .next (witnessCall_canonical h)
  case witnessMigrate => exact .next (witnessCall_canonical h)
  case witnessResume => exact .next (witnessCall_canonical h)
  case fenceService => exact .next (ite_canonical h (serve_canonical h fun _ _ _ ht => submit_canonical ht))
  case liftService => exact .next (ite_canonical h (serve_canonical h fun _ _ _ ht => submit_canonical ht))
  case sourceEvent => exact execSourceEvent_canonical h
  case filterLevelChange => exact .next (filterChange_canonical h)
  case cicClaim => exact execCicClaim_canonical h
  case cicComplete => exact .next (ite_canonical h (complete_canonical h))
  case cicSet => exact .next (ite_canonical h (setClear_canonical h))
  case cicClear => exact .next (ite_canonical h (setClear_canonical h))
  case holdoffExpiry => exact .next (cicUpdate_canonical (.outside h))
  case movStart => exact .next (ite_canonical (movCmd_canonical h) h)
  case movStop => exact .next (ite_canonical (movCmd_canonical h) h)
  case movRequest => exact execMovRequest_canonical h
  case movBurstIssue => exact .next (ite_canonical (ite_canonical (.errors h) (issueNext_canonical (.errors h)))
      (ite_canonical (readAhead_canonical (.errors h)) (.errors h)))
  case movBurstComplete => exact execMovBurstComplete_canonical h
  case flcKey => exact .next (.outside h)
  case program => exact .next ((flashCmd_keeps canonical_chain _ _ _).mpr h)
  case eraseSector => exact .next ((flashCmd_keeps canonical_chain _ _ _).mpr h)
  case blankCheck => exact .next ((flashCmd_keeps canonical_chain _ _ _).mpr h)
  case eraseBank => exact .next ((flashCmd_keeps canonical_chain _ _ _).mpr h)
  case flashOpDone => exact execFlashOpDone_canonical h
  case recordAppend => exact .next (serveBuf_canonical h fun _ _ _ _ ht => recordAppend_canonical ht)
  case recordRead => exact .next (ite_canonical h (serveBuf_canonical h fun _ _ _ _ ht => recordRead_canonical ht))
  case recordInfo => exact .next (serveDesc_canonical h fun _ _ _ _ ht => recordInfo_canonical ht)
  case stageOpen => exact .next (serveDesc_canonical h fun _ _ _ _ ht => submit_canonical ht)
  case stageWrite => exact execStageWrite_canonical h
  case stageClose => exact .next (serve_canonical h fun _ _ _ ht => submit_canonical ht)
  case activate => exact .next (serve_canonical h fun _ _ _ ht => submit_canonical ht)
  case stageDiscard => exact .next (serve_canonical h fun _ _ _ ht => submit_canonical ht)
  case selftestResult => exact .next (serve_canonical h fun _ _ _ ht => ite_canonical (answerErr_canonical ht)
      (ite_canonical (checkPassed_canonical (answerOk_canonical ht)) (checkFailed_canonical (answerOk_canonical ht))))
  case selftestBudgetExpiry => exact execSelftestBudgetExpiry_canonical h
  case lineCharacter => exact .next (ite_canonical (charIn_canonical ((napStir_keeps canonical_levels _).mpr h)) h)
  case lineReceived => exact .next (lineIn_canonical h)
  case lineTimeout => exact .next (ite_canonical (replyEarly_canonical (clearInput_canonical h)) h)
  case lineBreak => exact .next (ite_canonical (sessionEnd_canonical ((setCar_keeps canonical_cars _ _ _).mpr
      (clearInput_canonical h))) h)
  case baudCr => exact execBaudCr_canonical h
  case openSession => exact .next (takeLine_canonical (whenValid_canonical (openTo_canonical fun _ => openSession_canonical)) h)
  case proveSession => exact .next (takeLine_canonical (openTo_canonical fun _ => proveSession_canonical) h)
  case closeSession => exact .next (takeLine_canonical (openTo_canonical fun _ => closeSession_canonical) h)
  case sessionIdleTimeout => exact .next (sessionEnd_canonical h)
  case lockoutExpiry => exact .next (ite_canonical ((setCar_keeps canonical_cars _ _ _).mpr h) h)
  case readIdentity => exact .next (takeLine_canonical (openTo_canonical fun _ => readIdentity_canonical) h)
  case readChain => exact .next (takeLine_canonical (needs_canonical fun _ => readChain_canonical) h)
  case readTime => exact .next (takeLine_canonical (openTo_canonical fun _ => readTime_canonical) h)
  case setTime => exact .next (takeLine_canonical setTimePair_canonical h)
  case readLifecycle => exact .next (takeLine_canonical (openTo_canonical fun _ => readLifecycle_canonical) h)
  case holdLifecycle => exact .next (takeLine_canonical (needs_canonical fun _ => holdLifecycle_canonical) h)
  case releaseLifecycle => exact .next (takeLine_canonical orderPair_canonical h)
  case commissionLifecycle => exact .next (takeLine_canonical orderPair_canonical h)
  case enrolLifecycle => exact .next (takeLine_canonical orderPair_canonical h)
  case retireLifecycle => exact .next (takeLine_canonical orderPair_canonical h)
  case confirmLifecycle => exact .next (takeLine_canonical orderPair_canonical h)
  case retireLapse => exact execRetireLapse_canonical h
  case restartDevice => exact .next (takeLine_canonical (needs_canonical fun _ => restartDeviceBy_canonical) h)
  case readPerson => exact .next (takeLine_canonical (personNo_canonical (needs_canonical fun _ => readPerson_canonical)) h)
  case startPerson => exact .next (takeLine_canonical personOrder_canonical h)
  case stopPerson => exact .next (takeLine_canonical personOrder_canonical h)
  case restartPerson => exact .next (takeLine_canonical personOrder_canonical h)
  case resumePerson => exact .next (takeLine_canonical personOrder_canonical h)
  case promotePerson => exact .next (takeLine_canonical moveOrder_canonical h)
  case demotePerson => exact .next (takeLine_canonical moveOrder_canonical h)
  case migratePerson => exact .next (takeLine_canonical moveOrder_canonical h)
  case readCore => exact .next (takeLine_canonical (needs_canonical fun _ => readCore_canonical) h)
  case fenceCore => exact .next (takeLine_canonical orderPair_canonical h)
  case liftCore => exact .next (takeLine_canonical orderPair_canonical h)
  case readOppoint => exact .next (takeLine_canonical (needs_canonical fun _ => replyOk_canonical) h)
  case setOppoint => exact .next (takeLine_canonical (needs_canonical fun _ => setOppoint_canonical) h)
  case readFeed => exact .next (takeLine_canonical (needs_canonical fun _ => readFeed_canonical) h)
  case setFeed => exact .next (takeLine_canonical orderPair_canonical h)
  case measureSurvey => exact .next (takeLine_canonical (needs_canonical fun _ => measureSurvey_canonical) h)
  case setBaseline => exact .next (takeLine_canonical (whenValid_canonical (needs_canonical fun _ => setBaseline_canonical)) h)
  case writeCharter => exact .next (takeLine_canonical (dataOk_canonical (needs_canonical fun _ => writeCharter_canonical)) h)
  case installCharter => exact .next (takeLine_canonical (needs_canonical fun _ => installCharter_canonical) h)
  case readCharter => exact .next (takeLine_canonical (needs_canonical fun _ => readCharter_canonical) h)
  case openBundle => exact .next (takeLine_canonical orderPair_canonical h)
  case writeBundle => exact .next (takeLine_canonical (dataOk_canonical orderPair_canonical) h)
  case closeBundle => exact .next (takeLine_canonical orderPair_canonical h)
  case activateBundle => exact .next (takeLine_canonical orderPair_canonical h)
  case discardBundle => exact .next (takeLine_canonical orderPair_canonical h)
  case readBundle => exact .next (takeLine_canonical (needs_canonical fun _ => readBundle_canonical) h)
  case readRecord => exact .next (takeLine_canonical (withRight_canonical fun _ => readRecord_canonical) h)
  case readRecordSeq => exact .next (takeLine_canonical (withRight_canonical fun _ => readRecordSeq_canonical) h)
  case readTamper => exact .next (takeLine_canonical (withRight_canonical fun _ => readTamper_canonical) h)
  case readEvent => exact .next (takeLine_canonical (withRight_canonical fun _ => readEvent_canonical) h)
  case personNounLine => exact .next (takeLine_canonical (personNo_canonical (needs_canonical fun _ => deliverOrder_canonical)) h)
  case oruneSend => exact .next (serveBuf_canonical h fun _ _ _ _ ht => oruneSend_canonical ht)
  case oruneTake => exact .next (serveBuf_canonical h fun _ _ _ _ ht => oruneTake_canonical ht)
  case oruneReply => exact .next (serveBuf_canonical h fun _ _ _ _ ht => oruneReply_canonical ht)
  case mailboxReplyTimeout => exact execMailboxReplyTimeout_canonical h
  case decisionSlotEnd => exact execDecisionSlotEnd_canonical h
  case remoteKeepTimer => exact execRemoteKeepTimer_canonical h
  case remoteLineTimeout => exact execRemoteLineTimeout_canonical h
  case mirrorUpdate => exact execMirrorUpdate_canonical h
  case mirrorSnapshot => exact .next (ite_canonical (.outside h) h)
  case freeze => exact .next (freezeOn_canonical (hostStir_canonical h))
  case unfreeze => exact .next (freezeOff_canonical (hostStir_canonical h))
  case freezeTimeout => exact .next (ite_canonical (setLeaf_canonical (.outside h)) h)
  case stewardSlotPeriod => exact .next (ite_canonical (.outside h) h)
  case cellWrite => exact .next (cellWritten_canonical (hostStir_canonical h))
  case cellOrderTimeout => exact .next (ite_canonical (cellLevels_canonical (cellResult_canonical h)) h)
  case treeSignal => exact .next (serveNow_canonical h fun _ _ ht => setLeaf_canonical ht)
  case cellBind => exact .next (serveNow_canonical h fun _ _ ht => cellBind_canonical ht)
  case cellTake => exact .next (serveDesc_canonical h fun _ _ _ _ ht => cellTake_canonical ht)
  case cellAnswer => exact .next (serveNow_canonical h fun _ _ ht => cellAnswer_canonical ht)
  case lbTx => exact .next (ite_canonical (txChars_canonical (hostStir_canonical h)) h)
  case rxRelease => exact .next (ite_canonical (rxRelease_canonical (hostStir_canonical h)) h)
  case lbFlagClear => exact .next (ite_canonical (.outside (hostStir_canonical h)) h)
  case treeLeafClear => exact .next (ite_canonical (leafClear_canonical (hostStir_canonical h)) h)
  case windowIoRise => exact .next (ite_canonical h (.outside h))
  case surveyAverage => exact execSurveyAverage_canonical h
  case feedOpen => exact .next (ite_canonical ((feedJudge_keeps canonical_verdicts _ _).mpr (.outside h)) h)
  case feedOver => exact .next ((feedTrip_keeps canonical_chain _ _ _).mpr h)
  case feedShort => exact .next ((feedTrip_keeps canonical_chain _ _ _).mpr h)
  case signatureDone => exact execSignatureDone_canonical h
  case tdrMeasureStart => exact .next (forNat_canonical h fun _ _ ht => ite_canonical ht (.outside ht))
  case tdrAcquisition => exact .next (ite_canonical (.outside h) h)
  case tdrMeasurementDone => exact .next (ite_canonical ((baseJobs_keeps canonical_chain _ _ _).mpr
      ((tdrDone_keeps canonical_chain _ _ _).mpr h)) h)
  case tdrMeasurementAbandon => exact .next (ite_canonical (pubSlot_canonical (.outside h)) h)
  case starvedTimeout => exact .next (ite_canonical ((judge_keeps canonical_verdicts _ _ _).mpr h) h)
  case canPartnerTimeout => exact execCanPartnerTimeout_canonical h
  case srvFifoRead => exact .next (ite_canonical (toCore_canonical (fifoTake_canonical h)) h)
  case rtcSecond => exact .next (ite_canonical h (alarmFire_canonical (markLatch_canonical (.outside (.outside h)))))
  case sntRtcSecLoad => exact .next (sntLoad_canonical h)
  case sntRtcFracLoad => exact .next (sntLoad_canonical h)
  case rcCheck => exact .next (sentinelSees_canonical (ite_canonical (ite_canonical h (pubSlot_canonical (setLeaf_canonical
      (tamper_canonical (.outside h))))) (pubSlot_canonical (.outside h))) h)
  case x32Fault => exact .next (sentinelSees_canonical (ite_canonical h ((rtcInvalid_keeps canonical_chain _).mpr
      (pubSlot_canonical (setLeaf_canonical (tamper_canonical (.outside h)))))) h)
  case tempSample => exact .next (sentinelSees_canonical (tempSample_canonical h) h)
  case caseChange => exact execCaseChange_canonical h
  case meshEvent => exact .next (ite_canonical h (wakeBy_canonical (openHold_canonical (pubSlot_canonical (setLeaf_canonical
      (tamper_canonical (.outside h)))))))
  case vstbyLoss => exact .next (lifeCheck_canonical (vstbyLoss_canonical h))
  case sentinelPowerUp => exact execSentinelPowerUp_canonical h
  case tamperCopy => exact .next (ite_canonical h ((recordDue_keeps canonical_records _ _).mpr h))
  case rtcAlarm => exact .next (serveNow_canonical h fun _ _ ht => ite_snd_canonical ht (.outside ht))
  case scallSetTime => exact .next (serveDesc_canonical h fun _ _ _ _ ht => submit_canonical ht)
  case tamperRead => exact .next (serveBuf_canonical h fun _ _ _ _ ht => tamperRead_canonical ht)
  case aesEcbEncrypt => exact .next (sealServe_canonical h)
  case aesEcbDecrypt => exact .next (sealServe_canonical h)
  case aesCbcEncrypt => exact .next (sealServe_canonical h)
  case aesCbcDecrypt => exact .next (sealServe_canonical h)
  case aesCtr => exact .next (sealServe_canonical h)
  case aesGcmEncrypt => exact .next (sealServe_canonical h)
  case aesGcmDecrypt => exact .next (sealServe_canonical h)
  case aesCmac => exact .next (sealServe_canonical h)
  case sha256 => exact .next (sealServe_canonical h)
  case sha384 => exact .next (sealServe_canonical h)
  case hmacSha256 => exact .next (sealServe_canonical h)
  case hmacSha384 => exact .next (sealServe_canonical h)
  case ecdsaSign => exact .next (sealServeRnd_canonical h)
  case ecdsaVerify => exact .next (sealServe_canonical h)
  case ecdh => exact .next (sealServe_canonical (.outside h))
  case keyPublic => exact .next (sealServe_canonical h)
  case keyGenerate => exact .next (sealServeRnd_canonical h)
  case keyImport => exact .next (sealServe_canonical h)
  case keyErase => exact .next (sealServe_canonical h)
  case keyDerive => exact .next (sealServe_canonical (.outside h))
  case random => exact .next (sealServeRnd_canonical h)
  case sealJobDone => exact execSealJobDone_canonical h
  case rngHealthFail => exact .next (.outside h)
  case rngHealthRecover => exact .next (.outside h)
  case debugUnlock => exact .next (ite_canonical h (ite_canonical (.outside (stopAll_canonical (zeroize_canonical
      (tamper_canonical h)))) (newChallenge_canonical (.outside h))))
  case helloTimer => exact .next (portRow_canonical h fun _ ht => (helloTimer_keeps canonical_chain _ _).mpr ht)
  case hello => exact .next (portRow_canonical h fun _ ht => (helloIn_keeps canonical_chain _ _ _).mpr ht)
  case cap => exact .next (portRow_canonical h fun _ ht => (capIn_keeps canonical_chain _ _ _).mpr ht)
  case chainClaim => exact .next (keyedRow_canonical h fun _ _ _ ht => (claimIn_keeps canonical_sessions _ _ _ _).mpr ht)
  case claimTimer => exact .next (ite_canonical (sendKeyed_canonical (sendKeyed_canonical h)) h)
  case headElectionTimeout => exact .next (ite_canonical ((headChange_keeps canonical_sessions _ _).mpr h) h)
  case topo => exact .next (portRow_canonical h fun _ ht => ite_canonical
      (forward_canonical ht fun _ _ hu => (topoIn_keeps canonical_sessions _ _ _).mpr hu) ht)
  case topoTimer => exact .next (ite_canonical ((broadcastTopo_keeps canonical_replies _).mpr h) h)
  case topoTimeout => exact .next (ite_canonical ((unnumber_keeps canonical_sessions _).mpr h) h)
  case join => exact .next (keyedRow_canonical h fun _ _ _ ht => (joinIn_keeps canonical_sessions _ _ _ _).mpr ht)
  case assign => exact .next (keyedRow_canonical h fun _ _ _ ht => (assignIn_keeps canonical_sessions _ _).mpr ht)
  case refuse => exact .next (keyedRow_canonical h fun _ _ _ ht => (refuseIn_keeps canonical_chain _ _ _).mpr ht)
  case loss => exact .next (keyedRow_canonical h fun _ _ _ ht => ite_canonical ((headLoss_keeps canonical_sessions _ _ _).mpr ht)
      ht)
  case oruneFrame => exact .next (keyedRow_canonical h fun _ _ _ ht => oruneIn_canonical ht)
  case frameForward => exact .next (portRow_canonical h fun _ ht => ite_canonical
      (forward_canonical ht fun _ _ hu => (topoIn_keeps canonical_sessions _ _ _).mpr hu)
      (ite_canonical (forward_canonical ht fun _ _ hv => hv) ht))
  case storedFrameSend => exact execStoredFrameSend_canonical h
  case gapTimer => exact .next (portRow_canonical h fun _ ht => ite_canonical ht
      (ite_canonical ((sendHello_keeps canonical_chain _ _).mpr (.outside ht)) (.outside ht)))
  case gapReceived => exact .next (portRow_canonical h fun _ ht => ite_canonical ((hail_keeps canonical_chain _ _).mpr ht)
      (ite_canonical (.outside ht) ht))
  case linkTimeout => exact .next (portRow_canonical h fun _ ht => (linkTimeout_keeps canonical_chain _ _).mpr ht)
  case rekeyTimer => exact .next (portRow_canonical h fun _ ht => ite_canonical ((sendHello_keeps canonical_chain _ _).mpr ht) ht)
  case keyRetryTimer => exact .next (portRow_canonical h fun _ ht => ite_canonical
      ((hail_keeps canonical_chain _ _).mpr (.outside ht)) ht)
  case canModeWrite => exact .next (ite_canonical (canMode_canonical h) h)
  case canTxRequest => exact .next (ite_canonical (canCtrl_canonical h) h)
  case canCancel => exact .next (ite_canonical (canCtrl_canonical h) h)
  case canFrameReceived => exact .next (ite_canonical h (canLevels_canonical (canRxGood_canonical
      (forNat_canonical h fun _ _ ht => canStore_canonical ht))))
  case canTxDone => exact execCanTxDone_canonical h
  case canBusOff => exact .next (ite_canonical h (canOff_canonical h))
  case canBusoffRecovery => exact .next (ite_canonical (canOn_canonical h) h)
  case canClockResume => exact .next (ite_canonical (.outside h) h)
  case crdActivate => exact .next (cardCmd_canonical h fun _ ht => cardActivate_canonical ht)
  case crdDeactivate => exact .next (cardCmd_canonical h fun _ ht => cardDeactivate_canonical ht)
  case crdSend => exact .next (cardCmd_canonical h fun _ ht => cardSend_canonical ht)
  case crdCancel => exact .next (cardCmd_canonical h fun _ ht => cardCancel_canonical ht)
  case crdTx => exact .next (cardCmd_canonical h fun _ ht => cardTx_canonical ht)
  case crdRx => exact .next (cardCmd_canonical h fun _ ht => toCore_canonical (cardRx_canonical ht))
  case cardByteRx => exact execCardByteRx_canonical h
  case cardTransferDone => exact execCardTransferDone_canonical h
  case cardTimeout => exact .next (ite_canonical h (cardEnd_canonical h))
  case noAtr => exact .next (ite_canonical h (.outside (setLeaf_canonical ((cardOff_keeps canonical_sessions _ _ _).mpr h))))
  case cardClassRetry => exact .next (ite_canonical (cardStart_canonical h) h)
  case cardOvercurrent => exact .next (ite_canonical (setLeaf_canonical ((cardOff_keeps canonical_sessions _ _ _).mpr h)) h)
  case cardInsert => exact .next (ite_canonical h (setLeaf_canonical (.outside ((cardLevels_keeps canonical_steward _ _).mpr
      (.outside h)))))
  case cardRemove => exact execCardRemove_canonical h
  case senseEdge => exact execSenseEdge_canonical h
  case snsFifo => exact .next (ite_canonical (toCore_canonical (senseTake_canonical h)) h)
  case snsMarkSec => exact .next (toCore_canonical (snsRead_canonical h))
  case feedOn => exact .next (ite_canonical (outCtrl_canonical (.outside h)) h)
  case feedOff => exact .next (ite_canonical (outCtrl_canonical (.outside h)) h)
  case uartRxByte => exact .next (ite_canonical h (ite_canonical (setUart_canonical h) (setUart_canonical h)))
  case uartBreak => exact .next (ite_canonical (setUart_canonical h) h)
  case uartTx => exact .next (ite_canonical (uartPut_canonical h) h)
  case uartRx => exact .next (ite_canonical (toCore_canonical (uartTake_canonical h)) h)
  case spiStart => exact .next (ite_canonical (spiGo_canonical h) h)
  case spiStop => exact .next (ite_canonical (.outside h) h)
  case spiTx => exact .next (ite_canonical (spiPut_canonical h) h)
  case spiRx => exact .next (ite_canonical (toCore_canonical (spiTake_canonical h)) h)
  case spiTransferDone => exact .next (ite_canonical (cicPulse_canonical (.outside h)) h)
  case spiStallTimeout => exact .next (ite_canonical (cicPulse_canonical (.outside h)) h)
  case registerWrite => exact execRegisterWrite_canonical h
  case oneMsAverage => exact .next (ite_canonical h (forNat_canonical (pubSlot_canonical (.outside (ite_canonical (.outside h)
      (.outside (.outside h))))) fun _ _ ht => ite_canonical
      ((feedJudge_keeps canonical_verdicts _ _).mpr (.outside (.outside ht))) (.outside ht)))
  case converterScan => exact .next (ite_canonical h (forAll_canonical (scanStore_canonical h) fun _ _ ht =>
      (raiseLine_keeps canonical_sending (fun _ _ => rfl) (fun _ _ => rfl) _ _).mpr ht))
  case x32Return => exact .next (sentinelSees_canonical (pubSlot_canonical (.outside h)) h)
  case meshRestored => exact .next (sentinelSees_canonical (pubSlot_canonical (.outside h)) h)
  case windowIoFall => exact .next (.outside h)
  case restartWindowExpiry => exact .next (.outside h)
  case cardSessionTimeout => exact execCardSessionTimeout_canonical h
  case canPresenceLapse => exact .next (ite_canonical h ((canPresent_keeps canonical_chain _ _ _).mpr h))
  case canBusError => exact .next (ite_canonical h (ite_canonical (ite_canonical (canOff_canonical h) (canErrors_canonical h))
      (canErrors_canonical h)))
  case uartByteSent => exact .next (ite_canonical (setUart_canonical h) h)
  case spiFrameDone => exact .next (ite_canonical h ((raiseLine_keeps canonical_sending (fun _ _ => rfl) (fun _ _ => rfl) _ _).mpr
      ((raiseLine_keeps canonical_sending (fun _ _ => rfl) (fun _ _ => rfl) _ _).mpr (.outside h))))
  all_goals exact issuesOne_canonical h

end

/-- Settles O5: no command leaves the canonical form (`exec_canonical`), and a step with an empty queue leaves the state. -/
theorem everyStepKeepsMemoriesCanonical : Obligations.EveryStepKeepsMemoriesCanonical := by
  unfold Obligations.EveryStepKeepsMemoriesCanonical
  intro s t hs
  unfold step
  split
  · rintro ⟨⟩
    exact hs
  · exact exec_canonical (.outside hs) _ t

end Sys2Proof.Machine
end
